-- ==== Sys2Proof/Word.lean ====
section
/-! DEFINITION. The machine words of the CS-410: what the manual itself treats as bits. Quantities with a unit (mV, mAh, ms,
seconds, per mille) are `Nat` or `Int`; only bytes on the link, raw converter codes, identifiers, masks and Hall codes are
bit vectors. -/

namespace Sys2Proof

/-- One byte on the host link (R184) or of a vehicle bus frame (R20). -/
abbrev Byte := BitVec 8

/-- A 12-bit raw code of an analog conversion, 0 to 4095 (section 1.1, R9). -/
abbrev RawCode := BitVec 12

/-- A 29-bit identifier or mask of the vehicle bus; a STANDARD identifier uses the low 11 bits (R24). -/
abbrev Ident := BitVec 29

/-- A Hall code, the number formed by the three filtered Hall lines, 0 to 7 (R115). -/
abbrev HallCode := BitVec 3

end Sys2Proof
end

