-- ==== Sys2Proof/Syntax.lean ====
section
/-! DEFINITION. The commands the CS-410 takes, one constructor per row of spec/opcode_table.json, with each row's operands. A
request of the host carries its TAG and its BODY as the bytes that came over the link (R184), so that every length and range
check of its owner's rule has something to check; an event of the cab carries what arrives at the part's pins. -/

namespace Sys2Proof

/-- The direction of a detent: "detent +1" (clockwise) or "detent −1" (R16). -/
inductive DialDir where
  | plus
  | minus
  deriving DecidableEq, Repr

/-- Why a frame in progress on RX is discarded (R184). -/
inductive DiscardReason where
  /-- LEN lies outside 2 to 62. -/
  | lenOutOfRange
  /-- The sum with CHECK is not 0 modulo 256. -/
  | badCheck
  /-- A byte arrived more than 20 ms after the previous one; that byte is itself examined in HUNT. -/
  | lateByte (byte : Byte)
  /-- A byte was received without its stop bit; the byte is dropped. -/
  | noStopBit
  deriving DecidableEq, Repr

/-- A vehicle bus frame's or slot's identifier format (section 2.2). -/
inductive FrameFormat where
  | standard
  | extended
  deriving DecidableEq, Repr

/-- A leg of the compressor bridge (section 6.4). -/
inductive Leg where
  | u
  | v
  | w
  deriving DecidableEq, Repr

/-- The six raw codes one measurement sweep converts, in the order of R1. -/
structure SweepCodes where
  batv : RawCode
  bati : RawCode
  tCab : RawCode
  tExch : RawCode
  tFridge : RawCode
  tBatt : RawCode
  deriving DecidableEq, Repr

/-- The commands, in the order of the operation table. -/
inductive Instr where
  /-- COLD_RESET (R197). Power-up or an active RST line returns every block to its initial state, and the notice table starts with CLOCK_NEEDED and RESTARTED. -/
  | coldReset
  /-- FRAME_RECEIVED (R184). A valid frame completes on RX; it restarts the idle timer, wakes the link and is appended to the receive queue, or dropped if the queue already holds four frames. -/
  | frameReceived (kind tag : Byte) (body : List Byte)
  /-- FRAME_DISCARDED (R184). A frame in progress is discarded for a LEN out of range, a bad CHECK, an inter-byte gap over 20 ms or a missing stop bit, and the receiver returns to HUNT. -/
  | frameDiscarded (why : DiscardReason)
  /-- UNKNOWN_KIND (R186). A request in hand whose KIND is not in the code table is answered UNKNOWN_KIND with reply KIND 0xFF. -/
  | unknownKind (kind tag : Byte) (body : List Byte)
  /-- TRANSMITTER_FREE (R190). The frame being sent ends; the transmitter sends a ready reply first, otherwise the notice at the head of the table while the link is AWAKE, and a reply sent in full releases the next request in hand. -/
  | transmitterFree
  /-- IDLE_TIMER_EXPIRY (R193). The idle timer expires and the link goes DROWSY, raising ATTN if the notice table holds entries. -/
  | idleTimerExpiry
  /-- IDENTIFY (R194). Request kind 0x01. Returns the part code, the hardware revision, the protocol version and the four calibration points. -/
  | identify (tag : Byte) (body : List Byte)
  /-- RESTART (R196). Request kind 0x02. After its OK reply has been sent in full, it empties the queue and the notice table, restores the link defaults, posts RESTARTED and hands the RESTART to every block. -/
  | restart (tag : Byte) (body : List Byte)
  /-- GET_STATUS (R194). Request kind 0x03. Returns a summary of the uptime, clock, link, listener, charge, budget, heater, compressor, activity class, plan and displayed severity. -/
  | getStatus (tag : Byte) (body : List Byte)
  /-- LINK_CONFIG (R195). Request kind 0x04. Replaces the notice enables and the idle time, removes entries of disabled kinds and restarts the idle timer. -/
  | linkConfig (tag : Byte) (body : List Byte)
  /-- SET_CLOCK (R19). Request kind 0x08. Sets the clock offset from a wall time, makes the clock SET and removes any CLOCK_NEEDED entry. -/
  | setClock (tag : Byte) (body : List Byte)
  /-- SET_SENSOR_TABLE (R6). Request kind 0x09. Loads a nine-point linearization table for one temperature channel, which applies from the next sweep. -/
  | setSensorTable (tag : Byte) (body : List Byte)
  /-- READ_SENSORS (R8). Request kind 0x0A. Returns the analog channels, the input line levels and forcing, the uptime and the clock. -/
  | readSensors (tag : Byte) (body : List Byte)
  /-- INPUT_CONFIG (R12). Request kind 0x0B. Sets one input line's polarity, filter length, edge sense and also-report mark. -/
  | inputConfig (tag : Byte) (body : List Byte)
  /-- INPUT_FORCE (R14). Request kind 0x0C. Forces the delivered level of one line, delivering an event and INPUT_CHANGE if the level changes. -/
  | inputForce (tag : Byte) (body : List Byte)
  /-- INPUT_RELEASE (R15). Request kind 0x0D. Ends forcing on a line; the delivered level returns to the real filtered level, with at most one event. -/
  | inputRelease (tag : Byte) (body : List Byte)
  /-- MEASUREMENT_SWEEP (R1). Every 100 ms the six analog channels are converted, averaged and published together, and a current sample is handed to CHG. -/
  | measurementSweep (codes : SweepCodes)
  /-- ACCEPTED_CHANGE (R11). An input line's filter accepts a new level, which changes the delivered level and delivers a rising or falling input event to the line's owners. -/
  | acceptedChange (line : Fin 8) (active : Bool)
  /-- DIN5_RAW_ACTIVE (R13). The overheat trip pin goes active and the FUEL and GLOW gates are held off at once, ending any fuel pulse in progress. -/
  | din5RawActive
  /-- DIN5_RAW_INACTIVE (R13). The overheat trip pin goes inactive and the gate hold lifts. -/
  | din5RawInactive
  /-- DIN6_RAW_ACTIVE (R122). The overcurrent comparator pin goes active, setting the overcurrent latch and holding all six bridge gates off. -/
  | din6RawActive
  /-- DIN6_RAW_INACTIVE (R13). The overcurrent comparator pin goes inactive and the gate hold lifts, while the latch keeps the bridge off. -/
  | din6RawInactive
  /-- DETENT (R137). The dial decoder delivers a detent with its multiplier, which changes the dial target group's targets and retriggers the courtesy timer. -/
  | detent (dir : DialDir)
  /-- UPTIME_SECOND (R18). Uptime advances by one second at each 1,000 ms boundary. -/
  | uptimeSecond
  /-- BUS_CONFIG (R23). Request kind 0x10. Sets the listener enable, bit rate, parking brake source and common mask, and moves the listener state. -/
  | busConfig (tag : Byte) (body : List Byte)
  /-- BUS_SLOT_SET (R27). Request kind 0x11. Writes one acceptance slot and empties it. -/
  | busSlotSet (tag : Byte) (body : List Byte)
  /-- BUS_BIND (R31). Request kind 0x12. Writes or clears one signal binding and sets the signal to NEVER. -/
  | busBind (tag : Byte) (body : List Byte)
  /-- READ_VEHICLE (R34). Request kind 0x13. Returns the listener state and signals (part 0) or one slot's record (parts 1 to 12). -/
  | readVehicle (tag : Byte) (body : List Byte)
  /-- CAN_FRAME (R25). A valid vehicle bus frame ends; it drives the listener state, is matched against the slots, and updates the bound signals together. -/
  | canFrame (format : FrameFormat) (ident : Ident) (dlc : BitVec 4) (data : List Byte)
  /-- SILENCE_TIMER_EXPIRY (R21). No valid frame for 2,000 ms moves the listener from LISTENING to SILENT and posts BUS_STATE. -/
  | silenceTimerExpiry
  /-- FRESHNESS_TIMER_EXPIRY (R26). A FRESH slot's freshness timer expires; the slot and its bound signals become STALE. -/
  | freshnessTimerExpiry (slot : Fin 12)
  /-- BATTERY_CONFIG (R46). Request kind 0x14. Replaces the battery description; a changed Cn makes the charge UNKNOWN, and changed thresholds reset the runs. -/
  | batteryConfig (tag : Byte) (body : List Byte)
  /-- SET_CHARGE (R39). Request kind 0x15. Sets Q from a state of charge, makes the status KNOWN and posts CHARGE_STATE with cause SET. -/
  | setCharge (tag : Byte) (body : List Byte)
  /-- READ_CHARGE (R48). Request kind 0x16. Returns the Charge Counter's published results and the battery description. -/
  | readCharge (tag : Byte) (body : List Byte)
  /-- CHG_ACCOUNTING_TICK (R36). Each second CHG averages the sample history, counts charge, updates the full-charge and grading runs, and works out the derate, Qmin, S and SoC. -/
  | chgAccountingTick
  /-- GRADING_RUN_COMPLETE (R44). A grading run reaches its length and the undervoltage state changes, posting CHARGE_STATE, setting CHG's severity and triggering a pass. -/
  | gradingRunComplete
  /-- FULL_CHARGE_DETECTION (R45). The full-charge run reaches 600 ticks; Q becomes Cn, the status becomes KNOWN and CHARGE_STATE is posted with cause FULL. -/
  | fullChargeDetection
  /-- BUDGET_CONFIG (R71). Request kind 0x18. Replaces the ranks, the step currents and the default horizon, and triggers a pass. -/
  | budgetConfig (tag : Byte) (body : List Byte)
  /-- READ_BUDGET (R72). Request kind 0x19. Returns the Load Table, the pass results, the allowance and the outlet. -/
  | readBudget (tag : Byte) (body : List Byte)
  /-- OUTLET_SET (R70). Request kind 0x1A. Switches the auxiliary outlet on or off. -/
  | outletSet (tag : Byte) (body : List Byte)
  /-- BUDGET_PASS (R57). At each uptime multiple of 10 s, or at another trigger, the budget selects a policy, walks reductions or tries one raise, and publishes the grants. -/
  | budgetPass
  /-- HOLD_TIMER_EXPIRY (R66). The holder's hold limit expires; it is revoked and the allowance goes to SETTLING. -/
  | holdTimerExpiry
  /-- SETTLING_TIMER_EXPIRY (R65). Settling ends; the first waiting load is granted and becomes the holder, or the allowance becomes FREE. -/
  | settlingTimerExpiry
  /-- CLOSING_TIMER_EXPIRY (R69). The outlet's 2,000 ms closing timer expires; the outlet releases the allowance and goes ON. -/
  | closingTimerExpiry
  /-- HEATER_CONFIG_LEVEL_TABLE (R76). Request kind 0x20. HEATER_CONFIG part 0 loads the heat level table and copies its currents into HEATER's step list. -/
  | heaterConfigLevelTable (tag : Byte) (body : List Byte)
  /-- HEATER_CONFIG_SEQUENCE (R77). Request kind 0x20. HEATER_CONFIG part 1 replaces the sequence settings. -/
  | heaterConfigSequence (tag : Byte) (body : List Byte)
  /-- HEATER_CONFIG_LIMITS (R77). Request kind 0x20. HEATER_CONFIG part 2 replaces the level limits, which may lower a running heater's level. -/
  | heaterConfigLimits (tag : Byte) (body : List Byte)
  /-- HEATER_START (R187). Request kind 0x21. A host start with setpoint and run-until; in OFF or PAUSED it is checked and taken as a new start, otherwise it updates a running sequence. -/
  | heaterStart (tag : Byte) (body : List Byte)
  /-- HEATER_STOP (R98). Request kind 0x22. Stops the heater through a cooldown, or to OFF, according to its state. -/
  | heaterStop (tag : Byte) (body : List Byte)
  /-- HEATER_UNLOCK (R101). Request kind 0x23. Releases a lockout or the overheat latch unless the lockout counter is 3 or more. -/
  | heaterUnlock (tag : Byte) (body : List Byte)
  /-- HEATER_SERVICE_CLEAR (R101). Request kind 0x24. Resets the lockout counter and releases a lockout or the overheat latch. -/
  | heaterServiceClear (tag : Byte) (body : List Byte)
  /-- READ_HEATER (R103). Request kind 0x25. Returns the heater status, the settings or the fault records, by part. -/
  | readHeater (tag : Byte) (body : List Byte)
  /-- WAIT_TIMER_EXPIRY (R83). The heater's 120 s wait in WAIT_INRUSH expires; it withdraws and goes OFF with reason INRUSH. -/
  | waitTimerExpiry
  /-- GLOW_TIME_EXPIRY (R84). The glow time elapses in GLOW, and the heater enters IGNITE and starts the fuel pulse train. -/
  | glowTimeExpiry
  /-- GLOW_ONE_SHOT_EXPIRY (R78). The glow output has been on for 90 s; it switches off and the attempt fails as for a revocation. -/
  | glowOneShotExpiry
  /-- FLAME_WINDOW_EXPIRY (R85). The flame window ends without a flame; the attempt is counted and the heater enters PURGE. -/
  | flameWindowExpiry
  /-- PURGE_TIME_EXPIRY (R86). The purge ends in a retry through WAIT_INRUSH or in LOCKOUT. -/
  | purgeTimeExpiry
  /-- FUEL_PULSE_START (R87). The interval in force has elapsed; a fuel pulse begins and any staged interval takes effect. -/
  | fuelPulseStart
  /-- FUEL_PULSE_END (R87). The fuel pulse width has elapsed and the FUEL gate turns off. -/
  | fuelPulseEnd
  /-- RAMP_STEP (R88). Every 20 s in RAMP the level rises by 1, and the heater enters RUN once it reaches the target bound. -/
  | rampStep
  /-- LEVEL_DWELL_EXPIRY (R90). The level dwell runs out; the level moves one step toward the wished level within the grant and the cap. -/
  | levelDwellExpiry
  /-- PAUSE_TIMER_EXPIRY (R93). The cab stays overheated at level 1 for the pause delay; the heater enters COOLDOWN with cause PAUSE. -/
  | pauseTimerExpiry
  /-- TACH_PULSE (R97). A blower tach pulse captures its period and updates the rpm. -/
  | tachPulse (periodUs : Nat)
  /-- TACH_TIMEOUT (R97). No tach pulse arrives for 2,000 ms while the blower is commanded; blower fault and forced purge. -/
  | tachTimeout
  /-- BLOWER_SPEED_TIMEOUT (R97). The rpm stays below the level's minimum for 5 s in RAMP or RUN; blower fault and forced purge. -/
  | blowerSpeedTimeout
  /-- RUN_UNTIL_REACHED (R98). The run-until uptime is reached and acts as a stop. -/
  | runUntilReached
  /-- MINIMUM_COOLDOWN_EXPIRY (R99). The minimum cooldown elapses, after which the end test may be met. -/
  | minimumCooldownExpiry
  /-- MAXIMUM_COOLDOWN_EXPIRY (R99). The maximum cooldown elapses; fault SENSOR or COOLDOWN_LONG is recorded and the heater enters LOCKOUT. -/
  | maximumCooldownExpiry
  /-- FRIDGE_CONFIG (R124). Request kind 0x28. Replaces the compressor settings. -/
  | fridgeConfig (tag : Byte) (body : List Byte)
  /-- FRIDGE_ENABLE (R125). Request kind 0x29. Sets the enable ON, moving DISABLED to IDLE. -/
  | fridgeEnable (tag : Byte) (body : List Byte)
  /-- FRIDGE_DISABLE (R125). Request kind 0x2A. Sets the enable OFF and brings the compressor toward DISABLED. -/
  | fridgeDisable (tag : Byte) (body : List Byte)
  /-- FRIDGE_CLEAR (R125). Request kind 0x2B. Sets the failure counter to 0 and ends BLOCKED. -/
  | fridgeClear (tag : Byte) (body : List Byte)
  /-- READ_FRIDGE (R126). Request kind 0x2C. Returns the compressor state, settings, timers and speed window. -/
  | readFridge (tag : Byte) (body : List Byte)
  /-- TIMED_PHASE_EXPIRY (R107). The TIMED mode phase timer switches between a 600 s demand phase and a 1,200 s rest phase. -/
  | timedPhaseExpiry
  /-- MINIMUM_OFF_PASSED (R110). The off timer reaches 180 s; OFF_HOLD goes on to WAIT_INRUSH or to IDLE. -/
  | minimumOffPassed
  /-- DUTY_RAMP_STEP (R112). Every 200 ms in START the staged duty rises by 50 ‰. -/
  | dutyRampStep
  /-- START_TIMER_EXPIRY (R112). No proved speed within 3,000 ms; the start fails with START_FAIL. -/
  | startTimerExpiry
  /-- HALL_EDGE (R115). The filtered Hall code changes to a valid code, which switches the commutation pattern, retriggers the stall timer and adds an interval to the speed window. -/
  | hallEdge (code : HallCode) (intervalUs : Nat)
  /-- MINIMUM_RUN_EXPIRY (R113). The 120 s minimum run passes, and a deferred cut-out is made. -/
  | minimumRunExpiry
  /-- FAILURE_COUNTER_RESET_TIMER (R113). After 60 s in RUN the failure counter is set to 0. -/
  | failureCounterResetTimer
  /-- RAISE_TIMER_EXPIRY (R109). After 900 s in RUN, W and L rise by one step. -/
  | raiseTimerExpiry
  /-- STOPPING_COAST_END (R114). After 1,000 ms of coasting the compressor goes to DISABLED, OFF_HOLD or IDLE. -/
  | stoppingCoastEnd
  /-- STALL_TIMER_EXPIRY (R121). No Hall edge for 250 ms in START or RUN; failure STALL. -/
  | stallTimerExpiry
  /-- BACKOFF_EXPIRY (R123). 60 s of STALL_BACKOFF end; the compressor goes to OFF_HOLD or DISABLED. -/
  | backoffExpiry
  /-- BLOCKED_TIMER_EXPIRY (R123). 1,800 s in BLOCKED end; the counter becomes 2 and the compressor goes to OFF_HOLD or DISABLED. -/
  | blockedTimerExpiry
  /-- LIGHT_SET (R133). Request kind 0x30. Sets one channel's target with a fade and sets its manual hold. -/
  | lightSet (tag : Byte) (body : List Byte)
  /-- LIGHT_GROUP (R133). Request kind 0x31. Sets the target of every member of group A or B with a fade. -/
  | lightGroup (tag : Byte) (body : List Byte)
  /-- SCENE_SET (R135). Request kind 0x32. Writes one scene record, scene 0 excepted. -/
  | sceneSet (tag : Byte) (body : List Byte)
  /-- SCENE_RECALL (R136). Request kind 0x33. Applies a scene's levels to its channels as one change. -/
  | sceneRecall (tag : Byte) (body : List Byte)
  /-- LIGHT_CONFIG (R145). Request kind 0x34. Replaces the groups, essential flags, dial group and courtesy settings. -/
  | lightConfig (tag : Byte) (body : List Byte)
  /-- READ_LIGHTS (R146). Request kind 0x35. Returns the channel records, cap, courtesy timer, indication sources and buzzer. -/
  | readLights (tag : Byte) (body : List Byte)
  /-- COURTESY_TIMER_EXPIRY (R140). Courtesy-lit channels without manual hold fade to 0 over 5,000 ms. -/
  | courtesyTimerExpiry
  /-- FADE_END (R134). A channel's fade reaches its target; reaching 0 with target 0 clears manual hold and courtesy-lit. -/
  | fadeEnd (channel : Fin 7)
  /-- CH7_PATTERN_PHASE (R142). The blink timer of the CH7 pattern switches between its on and off parts. -/
  | ch7PatternPhase
  /-- BUZZER_BEAT_PHASE (R143). The buzzer beat timer ends the 200 ms on or 300 ms off part, and the end of the last beat's off time ends the burst. -/
  | buzzerBeatPhase
  /-- REST_RULES (R161). Request kind 0x38. Replaces the ten rest rules, first used at the next tick. -/
  | restRules (tag : Byte) (body : List Byte)
  /-- DECLARE_ACTIVITY (R150). Request kind 0x39. Sets the declaration to AUTO, WORK, AVAILABLE or REST. -/
  | declareActivity (tag : Byte) (body : List Byte)
  /-- ACK_WARNING (R164). Request kind 0x3A. Acknowledges one occurrence of a rest warning, or answers STALE_OCCURRENCE. -/
  | ackWarning (tag : Byte) (body : List Byte)
  /-- READ_REST (R167). Request kind 0x3B. Returns the classification, counters, credit, projection, rules and warning records. -/
  | readRest (tag : Byte) (body : List Byte)
  /-- READ_TIMELINE (R168). Request kind 0x3C. Returns up to eight timeline segments from an index. -/
  | readTimeline (tag : Byte) (body : List Byte)
  /-- REST_TICK (R149). Each second RTM classifies the second, counts it, advances the settling run, works out the projection and evaluates the warnings. -/
  | restTick
  /-- CLASS_TAKE (R153). A settling run reaches its settling time; a backdated segment opens and the counters are corrected. -/
  | classTake
  /-- REST_CROSSING (R157). The rest run reaches a break threshold, updating the break credit and clearing drive_since_break. -/
  | restCrossing
  /-- REPEAT_RAISE (R163). The repeat interval elapses on a standing limit warning, which is raised again with a new occurrence. -/
  | repeatRaise
  /-- PLAN_SET (R171). Request kind 0x1C. Sets a new Night Plan with a HOST_TIME or REST_COMPLETE wake and arms it. -/
  | planSet (tag : Byte) (body : List Byte)
  /-- PLAN_CANCEL (R172). Request kind 0x1D. Clears the plan and the host quiet mark. -/
  | planCancel (tag : Byte) (body : List Byte)
  /-- QUIET_SET (R179). Request kind 0x1E. Sets or clears the host quiet mark. -/
  | quietSet (tag : Byte) (body : List Byte)
  /-- READ_PLAN (R181). Request kind 0x1F. Returns the Night Plan record. -/
  | readPlan (tag : Byte) (body : List Byte)
  /-- LEAD_RECOMPUTE (R174). At each uptime multiple of 60 s in ARMED with a known wake, the lead is worked out again from the ambient. -/
  | leadRecompute
  /-- PREWARM_TIME_REACHED (R175). The wake less the lead is reached; the plan enters PREWARM and hands the heater a pre-warm start. -/
  | prewarmTimeReached
  /-- WAKE (R177). The wake uptime is reached; quiet ends, scene 5 is recalled if asked, and the plan becomes NONE. -/
  | wake
  /-- BYTE_RECEIVED (R184). A byte arrives on RX and moves the receiver among HUNT, LENGTH, FRAME and CHECK, or is collected into the frame in progress. -/
  | byteReceived (byte : Byte) (stopBit : Bool)
  /-- INPUT_SAMPLE (R10). Every 5 ms each input line is sampled and its run count is raised or returned to 0 against the real filtered level. -/
  | inputSample (pins : BitVec 8)
  /-- DIAL_COUNT (R16). A filtered quadrature step of the dial raises, lowers or resets the partial count without completing a detent. -/
  | dialCount (a b : Bool)
  /-- COMPRESSOR_CURRENT_SAMPLE (R9). At each peak of the PWM carrier in RUN, the compressor current sense input is converted and added to the revolution's running sum and count. -/
  | compressorCurrentSample (raw : RawCode)
  /-- CARRIER_VALLEY (R117). At each valley of the 20 kHz carrier, the compressor's duty in force is loaded from the staged duty. -/
  | carrierValley
  /-- DEAD_TIME_EXPIRY (R118). The dead time after a bridge gate turns off elapses and the other gate of that leg may turn on. -/
  | deadTimeExpiry (leg : Leg)
  /-- LAMP_PWM_BOUNDARY (R130). At each 2 ms PWM period boundary, each lamp output takes its applied level from the present level and cap, or from the CH7 overlay. -/
  | lampPwmBoundary
  /-- HALL_CODE_INVALID (R115). The filtered Hall code changes to 0 or 7, which is the failure HALL in START or RUN and is ignored otherwise. -/
  | hallCodeInvalid (code : HallCode)
  deriving DecidableEq, Repr

end Sys2Proof
end

