-- ==== Sys2Proof/Decode.lean ====
section
/-! DEFINITION. The operation table gives none of its rows any bits: the CS-410 takes frames on a link and events at its pins, not
instruction words. So no word spells a command (log 31). -/

namespace Sys2Proof

/-- The command a word spells by the table's bits: none, since no row of the table gives bits. -/
def decodeTableWord (_nbits _w : Nat) : Option Instr := none

end Sys2Proof
end

