-- ==== Sys2Proof/Config.lean ====
section
/-! DEFINITION. What the manual leaves open: the FREE VALUES. Each is an opaque constant with no body, so no statement can rest
on what it is. Every one has a row in notes/assumptions. (What is fixed when the part is made, and can differ from part to
part, is the `Factory` record of the state.) -/

namespace Sys2Proof.Config

/-- FREE VALUE (log 9). What a yes-or-no byte other than 0 and 1 means, in the two requests whose rule does not refuse it: the
also-report mark of INPUT_CONFIG (R12) and the enabled flag of BUS_SLOT_SET (R27). -/
opaque flagOfByte : Byte → Bool

/-- FREE VALUE (log 8). The byte by which a HEATER_STATE notice carries no cause (argument 0) and FLAME_RELIGHT (argument 1), which
stand in no list of codes (R103, R188). -/
opaque heaterCauseCode : Nat → Byte

/-- FREE VALUE (log 10). The outcome of start check 6 (R80) when the last pass's policy was CRITICAL, from the demand and S′. -/
opaque budgetCheckUnderCritical : Nat → Nat → Bool

/-- FREE VALUE (log 11). The blower rpm after a tach period of 0 µs (R97); the argument is the time of the pulse. -/
opaque blowerRpmOfZeroPeriod : Nat → Nat

/-- FREE VALUE (log 11). The compressor rpm after a window whose six intervals sum to 0 µs (R119); the argument is the time of
the last edge. -/
opaque compressorRpmOfZeroSum : Nat → Nat

end Sys2Proof.Config
end

