-- ==== Sys2Proof/Machine/Types.lean ====
section
/-! DEFINITION. The records and named codes the blocks of the CS-410 hold, chapter by chapter. Plain data: no record holds a
function. A timer is the millisecond time at which it expires, `none` while it is stopped. -/

namespace Sys2Proof.Machine

/-! ## Sensing Unit (chapter 1) -/

/-- The six analog channels (section 1.1). -/
inductive AnalogChannel where
  | batv | bati | tCab | tExch | tFridge | tBatt
  deriving DecidableEq, Repr

/-- A channel's status: NOT_READY, OK, OPEN or SHORT (section 1.1). -/
inductive ChannelStatus where
  | notReady | ok | openCircuit | shortCircuit
  deriving DecidableEq, Repr

/-- One analog channel: its conversion history (oldest first, at most four codes) and its published result (R1, R4). -/
structure Channel where
  history : List Nat
  status : ChannelStatus
  average : Nat
  value : Int
  lastGood : Int
  deriving DecidableEq, Repr

/-- The six channels. -/
structure Analog where
  batv : Channel
  bati : Channel
  tCab : Channel
  tExch : Channel
  tFridge : Channel
  tBatt : Channel
  deriving DecidableEq, Repr

/-- The four linearization tables, each a list of (raw code, temperature) points (section 1.2). -/
structure SensorTables where
  cab : List (Nat × Int)
  exch : List (Nat × Int)
  fridge : List (Nat × Int)
  batt : List (Nat × Int)
  deriving DecidableEq, Repr

/-- Whether the active level is high or low at the pin (section 1.4). -/
inductive Polarity where
  | high | low
  deriving DecidableEq, Repr

/-- The edge sense of an input line (section 1.4). -/
inductive EdgeSense where
  | rising | falling | both
  deriving DecidableEq, Repr

/-- One digital input line (section 1.4, R10, R14): its setting, its filter and its forcing. Levels are `true` for active.
`startAfresh` says that the next 5 ms sample becomes the real filtered level without an accepted change (R12). -/
structure InputLine where
  polarity : Polarity
  filter : Nat
  edge : EdgeSense
  report : Bool
  run : Nat
  real : Bool
  forced : Option Bool
  startAfresh : Bool
  deriving DecidableEq, Repr

/-- The last detent: direction, millisecond time, and the multiplier and direction-change mark it was delivered with (R17). -/
structure LastDetent where
  dir : DialDir
  time : Nat
  multiplier : Nat
  directionChange : Bool
  deriving DecidableEq, Repr

/-- The dial decoder (section 1.6): the filtered pair state, whether the last 1 ms sample of each line differed from its filtered
level (R16), the partial count and the last detent. -/
structure Dial where
  a : Bool
  b : Bool
  runA : Bool
  runB : Bool
  count : Int
  last : Option LastDetent
  deriving DecidableEq, Repr

/-- The running sum (mA) and count of the compressor current samples of the present electrical revolution (R9). -/
structure CurrentPath where
  sum : Nat
  count : Nat
  deriving DecidableEq, Repr

/-- The Sensing Unit, with the part's two time bases and the cab clock (R18, R19). -/
structure Sensing where
  ms : Nat
  uptime : Nat
  clockSet : Bool
  clockOffset : Nat
  analog : Analog
  tables : SensorTables
  lines : List InputLine
  dial : Dial
  current : CurrentPath
  deriving DecidableEq, Repr

/-- What stands at the part's inputs: the DIN pins (bit n is DINn, set for a high pin), the dial lines, the Hall code
of the filtered Hall lines, and the raw codes the analog inputs convert to. -/
structure Pins where
  din : BitVec 8
  dialA : Bool
  dialB : Bool
  hall : HallCode
  analog : SweepCodes
  deriving DecidableEq, Repr

/-- What is written into the part when it is made: the four calibration points (R2, R3) and the hardware revision (R194). -/
structure Factory where
  raw10 : Nat
  raw30 : Nat
  raw0 : Nat
  raw50 : Nat
  revision : Nat
  deriving DecidableEq, Repr

/-! ## Vehicle Bus Listener (chapter 2) -/

/-- The listener state (R21). -/
inductive ListenerState where
  | off | listening | silent
  deriving DecidableEq, Repr

/-- The parking brake source (section 2.1). -/
inductive BrakeSource where
  | bus | wired
  deriving DecidableEq, Repr

/-- A slot's status (section 2.2). -/
inductive SlotStatus where
  | empty | fresh | stale
  deriving DecidableEq, Repr

/-- An acceptance slot (section 2.2). `ownMask` is used by slots 10 and 11 alone; `timer` is the freshness timer. -/
structure Slot where
  enabled : Bool
  format : FrameFormat
  ident : Nat
  ownMask : Nat
  limit : Nat
  data : List Byte
  arrival : Nat
  status : SlotStatus
  timer : Option Nat
  deriving DecidableEq, Repr

/-- The six vehicle signals (section 2.3). -/
inductive Signal where
  | roadSpeed | engineRunning | ignition | parkingBrake | ambientTemp | fuelLow
  deriving DecidableEq, Repr

/-- A signal's status (section 2.3). -/
inductive SignalStatus where
  | never | fresh | stale | notAvailable | outOfRange
  deriving DecidableEq, Repr

/-- The byte order of a bound field (section 2.3). -/
inductive ByteOrder where
  | firstLsb | firstMsb
  deriving DecidableEq, Repr

/-- A binding record that is set (section 2.3). -/
structure Binding where
  slot : Nat
  start : Nat
  length : Nat
  order : ByteOrder
  num : Nat
  den : Nat
  offset : Int
  vmin : Int
  vmax : Int
  deriving DecidableEq, Repr

/-- A signal: its binding (`none` while cleared) and its record. `updated` tells an update at uptime 0 from none at all, which
READ_VEHICLE must (R34). -/
structure SignalRec where
  binding : Option Binding
  value : Int
  status : SignalStatus
  lastUpdate : Nat
  updated : Bool
  deriving DecidableEq, Repr

/-- The signal table. -/
structure Signals where
  roadSpeed : SignalRec
  engineRunning : SignalRec
  ignition : SignalRec
  parkingBrake : SignalRec
  ambientTemp : SignalRec
  fuelLow : SignalRec
  deriving DecidableEq, Repr

/-- The Vehicle Bus Listener. -/
structure Vehicle where
  enable : Bool
  bitRate : Nat
  source : BrakeSource
  mask : Nat
  listener : ListenerState
  silence : Option Nat
  slots : List Slot
  signals : Signals
  deriving DecidableEq, Repr

/-! ## Charge Counter (chapter 3) -/

/-- The undervoltage state (section 3.4). -/
inductive Undervoltage where
  | normal | low | critical
  deriving DecidableEq, Repr

/-- The causes of CHARGE_STATE (R49). -/
inductive ChargeCause where
  | set | capacity | grade | full
  deriving DecidableEq, Repr

/-- The battery description as stored: a threshold or tail of 0 follows its default (section 3.6). -/
structure Battery where
  system : Nat
  capacity : Nat
  reserve : Nat
  resistance : Nat
  vWarn : Nat
  vCut : Nat
  vFull : Nat
  tail : Nat
  deriving DecidableEq, Repr

/-- The four grading runs (R43). -/
structure GradingRuns where
  fallToLow : Nat
  fallToCritical : Nat
  riseToLow : Nat
  riseToNormal : Nat
  deriving DecidableEq, Repr

/-- The Charge Counter. `history` holds (current, voltage) pairs, oldest first (R36). -/
structure Charge where
  history : List (Int × Nat)
  q : Nat
  acc : Int
  known : Bool
  current : Int
  voltage : Nat
  temp : Int
  tempFallback : Bool
  derate : Nat
  qmin : Nat
  spendable : Nat
  soc : Nat
  vcomp : Int
  uv : Undervoltage
  runs : GradingRuns
  fullRun : Nat
  lastFull : Option Nat
  lastFullTick : Option Nat
  battery : Battery
  causes : List ChargeCause
  deriving DecidableEq, Repr

/-! ## Load Budget (chapter 4) -/

/-- The loads of the Load Table (section 4.1). -/
inductive Load where
  | base | heater | compressor | lights | outlet | warning
  deriving DecidableEq, Repr

/-- An entry of the Load Table (R53). `rank` is `none` for the protected entries. -/
structure Entry where
  rank : Option Nat
  steps : List Nat
  requested : Nat
  floor : Nat
  granted : Nat
  since : Nat
  deriving DecidableEq, Repr

/-- The Load Table. -/
structure LoadTable where
  base : Entry
  heater : Entry
  compressor : Entry
  lights : Entry
  outlet : Entry
  warning : Entry
  deriving DecidableEq, Repr

/-- The policy of a budget pass (R57). -/
inductive Policy where
  | exempt | critical | unknownNormal | unknownLow | knownNormal | knownLow
  deriving DecidableEq, Repr

/-- The published results of the last pass (R62). -/
structure PassResults where
  policy : Policy
  stage : Nat
  short : Bool
  horizon : Nat
  fromWake : Bool
  usable : Nat
  demand : Nat
  uptime : Nat
  deriving DecidableEq, Repr

/-- The inrush allowance's state (R63). -/
inductive AllowanceState where
  | free
  | held (load : Load)
  | settling
  deriving DecidableEq, Repr

/-- The inrush allowance with its timers and waiting list (R63). -/
structure Allowance where
  state : AllowanceState
  hold : Option Nat
  settle : Option Nat
  waiting : List Load
  deriving DecidableEq, Repr

/-- What the allowance answers a request at once (R64). -/
inductive Answer where
  | granted | denied
  deriving DecidableEq, Repr

/-- The outlet state (section 4.5). -/
inductive OutletState where
  | off | waitGrant | waitToken | closing | on | denied
  deriving DecidableEq, Repr

/-- The outlet: its state and closing timer (the relay and the switched-on request follow from the state, R68). -/
structure Outlet where
  state : OutletState
  closing : Option Nat
  deriving DecidableEq, Repr

/-- The Load Budget. `passesDue` counts the triggers of R57 whose pass has not been taken yet (log 17). -/
structure Budget where
  table : LoadTable
  horizonSource : Option Nat
  defaultHorizon : Nat
  last : PassResults
  allowance : Allowance
  outlet : Outlet
  passesDue : Nat
  deriving DecidableEq, Repr

/-! ## Heater Sequencer (chapter 5) -/

/-- The heater state. -/
inductive HeaterState where
  | off | waitInrush | glow | ignite | ramp | run | purge | cooldown | paused | lockout
  deriving DecidableEq, Repr

/-- The refusal reasons (R80, R83, R186). -/
inductive Reason where
  | sensor | overheat | locked | blowerTurning | undervoltage | noBudget | fuelLow | inrush
  deriving DecidableEq, Repr

/-- The cooldown causes (R99). -/
inductive CooldownCause where
  | stop | pause | fuelLow | overheat | sensor | restart
  deriving DecidableEq, Repr

/-- The cause HEATER_STATE reports (R103). -/
inductive HeaterCause where
  | none
  | refusal (reason : Reason)
  | cooling (cause : CooldownCause)
  | flameRelight
  deriving DecidableEq, Repr

/-- The fault kinds (R102). -/
inductive FaultKind where
  | noFlame | flameLoss | overheatSoft | overheatTrip | blower | cooldownLong | sensor
  deriving DecidableEq, Repr

/-- A fault record (R102). -/
structure FaultRec where
  kind : FaultKind
  state : HeaterState
  tExch : Int
  tCab : Int
  voltage : Int
  uptime : Nat
  deriving DecidableEq, Repr

/-- One level of the heat level table (section 5.1). -/
structure HeatLevel where
  interval : Nat
  duty : Nat
  minRpm : Nat
  current : Nat
  deriving DecidableEq, Repr

/-- The sequence settings, in the order of section 5.1. -/
structure SeqSettings where
  pulseWidth : Nat
  glowTime : Nat
  ignInterval : Nat
  ignDuty : Nat
  flameRise : Nat
  flameWindow : Nat
  attempts : Nat
  purgeDuty : Nat
  purgeTime : Nat
  coolDuty : Nat
  coolEnd : Nat
  coolMin : Nat
  coolMax : Nat
  softLimit : Nat
  lossDrop : Nat
  dwell : Nat
  pauseDelay : Nat
  deriving DecidableEq, Repr

/-- The level limits (section 5.1). -/
structure LevelLimits where
  hostMax : Nat
  quietMax : Nat
  fallback : Nat
  deriving DecidableEq, Repr

/-- The fuel pulse train (R87). `gate` is the pulse in progress as the pump receives it. -/
structure FuelTrain where
  running : Bool
  interval : Nat
  staged : Option Nat
  lastStart : Nat
  gate : Bool
  deriving DecidableEq, Repr

/-- The blower output and its tach (R97). `dutySince` is the moment the commanded duty last rose above 0. -/
structure Blower where
  duty : Nat
  dutySince : Nat
  period : Nat
  lastTach : Option Nat
  rpm : Nat
  deriving DecidableEq, Repr

/-- The heater's timers, each running in the states its rule names. -/
structure HeaterTimers where
  wait : Option Nat
  glow : Option Nat
  window : Option Nat
  ramp : Option Nat
  dwell : Option Nat
  pause : Option Nat
  purge : Option Nat
  coolMin : Option Nat
  coolMax : Option Nat
  lowSpeed : Option Nat
  deriving DecidableEq, Repr

/-- The cooldown record: cause and captured settings (R99). -/
structure Cooldown where
  cause : CooldownCause
  duty : Nat
  endTemp : Nat
  minTime : Nat
  maxTime : Nat
  deriving DecidableEq, Repr

/-- The heater's marks. -/
structure HeaterMarks where
  restartPending : Bool
  lockoutPending : Bool
  forcedPurge : Bool
  tableDefault : Bool
  deriving DecidableEq, Repr

/-- The Heater Sequencer. `level` is 0 when no level is in force; `glowSince` is the start of the glow one-shot, `none` while
the glow output is off. -/
structure Heater where
  state : HeaterState
  setpoint : Int
  lastSetpoint : Int
  runUntil : Option Nat
  level : Nat
  wished : Nat
  table : List HeatLevel
  seq : SeqSettings
  limits : LevelLimits
  fuel : FuelTrain
  glowSince : Option Nat
  blower : Blower
  flameBase : Int
  flameRef : Int
  marks : HeaterMarks
  cool : Option Cooldown
  attempts : Nat
  lockouts : Nat
  flameLoss : Option Nat
  timers : HeaterTimers
  lastRestart : Option Reason
  latch : Bool
  faults : List FaultRec
  cause : HeaterCause
  deriving DecidableEq, Repr

/-! ## Compressor Drive (chapter 6) -/

/-- The compressor state. -/
inductive CompState where
  | disabled | idle | offHold | waitInrush | start | run | stopping | stallBackoff | blocked
  deriving DecidableEq, Repr

/-- The thermostat mode (R106, R107). -/
inductive CompMode where
  | thermostat | timed
  deriving DecidableEq, Repr

/-- The timed phase (R107). -/
inductive TimedPhase where
  | demand | rest
  deriving DecidableEq, Repr

/-- The failures (R123). -/
inductive FailKind where
  | startFail | hall | stall | overcurrent
  deriving DecidableEq, Repr

/-- The commutation order (R116). -/
inductive CommOrder where
  | a | b
  deriving DecidableEq, Repr

/-- What a leg is in the present pattern (section 6.4). -/
inductive LegRole where
  | float | pwm | low
  deriving DecidableEq, Repr

/-- One leg of the bridge: its role, its two gates (the high gate `true` while it is chopped by the PWM), and whether the dead
time still keeps each gate from turning on (R118). -/
structure LegState where
  role : LegRole
  high : Bool
  low : Bool
  waitHigh : Bool
  waitLow : Bool
  deriving DecidableEq, Repr

/-- The bridge. -/
structure Bridge where
  u : LegState
  v : LegState
  w : LegState
  deriving DecidableEq, Repr

/-- The compressor settings (section 6.7). -/
structure FridgeSettings where
  setpoint : Int
  differential : Nat
  order : CommOrder
  deadTime : Nat
  polePairs : Nat
  currentLimit : Nat
  quietCap : Nat
  deriving DecidableEq, Repr

/-- The last failure (R123). -/
structure LastFailure where
  kind : FailKind
  uptime : Nat
  deriving DecidableEq, Repr

/-- The compressor's timers. `offSince` is the start of the off timer, `none` once the minimum off has passed or when the timer
has not run since the cold reset (section 6.3). -/
structure CompTimers where
  phase : Option Nat
  raise : Option Nat
  minRun : Option Nat
  failReset : Option Nat
  offSince : Option Nat
  start : Option Nat
  dutyRamp : Option Nat
  coast : Option Nat
  stall : Option Nat
  backoff : Option Nat
  blocked : Option Nat
  deriving DecidableEq, Repr

/-- The speed window (R119). `first` says that the next Hall edge captures no interval. -/
structure SpeedWindow where
  intervals : List Nat
  edges : Nat
  rpm : Nat
  first : Bool
  deriving DecidableEq, Repr

/-- The Compressor Drive. `learning` says that the present run's cut-in was made in THERMOSTAT mode (R109); `hadCutIn` that the
present demand has had a cut-in (R108); `orderNow`, `deadTimeNow` and `polePairsNow` are those of the last START (R124). -/
structure Compressor where
  state : CompState
  enable : Bool
  mode : CompMode
  demand : Bool
  phase : TimedPhase
  learned : Nat
  wished : Nat
  commanded : Nat
  cutIn : Option Nat
  learning : Bool
  hadCutIn : Bool
  deferred : Bool
  grantTime : Option Nat
  bridge : Bridge
  duty : Nat
  staged : Nat
  orderNow : CommOrder
  deadTimeNow : Nat
  polePairsNow : Nat
  window : SpeedWindow
  lastMean : Option Nat
  latch : Bool
  failures : Nat
  lastFailure : Option LastFailure
  timers : CompTimers
  settings : FridgeSettings
  deriving DecidableEq, Repr

/-! ## Light Controller (chapter 7) -/

/-- A channel's group (section 7.1). -/
inductive LightGroup where
  | a | b | none
  deriving DecidableEq, Repr

/-- A channel record of CH0 to CH6 (section 7.1). The present level is worked out from the fade (R129). -/
structure LightChannel where
  target : Nat
  fadeFrom : Nat
  fadeAt : Nat
  fadeMs : Nat
  fading : Bool
  applied : Nat
  saved : Option Nat
  hold : Bool
  courtesy : Bool
  deriving DecidableEq, Repr

/-- A channel's settings (section 7.6). -/
structure ChannelSetting where
  group : LightGroup
  essential : Bool
  deriving DecidableEq, Repr

/-- A scene record: a level or KEEP (`none`) for CH0 to CH6, and a fade (R135). -/
structure Scene where
  levels : List (Option Nat)
  fade : Nat
  deriving DecidableEq, Repr

/-- The sources of indications (section 7.5). -/
inductive Source where
  | rtm | htr | cmp | bgt | chg | sns
  deriving DecidableEq, Repr

/-- An entry of the indication source list (section 7.5). -/
structure SourceEntry where
  severity : Nat
  occurrence : Nat
  sounding : Bool
  deriving DecidableEq, Repr

/-- The indication source list. -/
structure SourceList where
  rtm : SourceEntry
  htr : SourceEntry
  cmp : SourceEntry
  bgt : SourceEntry
  chg : SourceEntry
  sns : SourceEntry
  deriving DecidableEq, Repr

/-- The buzzer (R143). `counted` says whether the beat in progress is one of those remaining; `on` is the BUZZER output. -/
structure Buzzer where
  burst : Bool
  remaining : Nat
  counted : Bool
  on : Bool
  timer : Option Nat
  deriving DecidableEq, Repr

/-- The settings of section 7.6 beside the channels' own. -/
structure LightSettings where
  dialGroup : LightGroup
  courtesyTime : Nat
  courtesyLevel : Nat
  nightLevel : Nat
  deriving DecidableEq, Repr

/-- The Light Controller. `written` is the requested step it last wrote (R132); `ch7Applied` is CH7's applied level;
`ch7On` and `ch7Timer` are the pattern's phase. -/
structure Lights where
  channels : List LightChannel
  chSettings : List ChannelSetting
  capStep : Nat
  written : Nat
  scenes : List Scene
  settings : LightSettings
  courtesyTimer : Option Nat
  sources : SourceList
  ch7Applied : Nat
  ch7On : Bool
  ch7Timer : Option Nat
  buzzer : Buzzer
  deriving DecidableEq, Repr

/-! ## Rest-Time Monitor (chapter 8) -/

/-- The activity classes (section 8.1). -/
inductive ActClass where
  | drive | work | available | rest | unknown
  deriving DecidableEq, Repr

/-- The declaration (R150). -/
inductive Declaration where
  | auto | work | available | rest
  deriving DecidableEq, Repr

/-- A settling run (R151). -/
structure SettlingRun where
  candidate : ActClass
  start : Nat
  length : Nat
  declared : Bool
  stale : Bool
  deriving DecidableEq, Repr

/-- A segment record (section 8.3); `stop` is `none` for the open segment. -/
structure Segment where
  number : Nat
  cls : ActClass
  start : Nat
  stop : Option Nat
  declared : Bool
  stale : Bool
  deriving DecidableEq, Repr

/-- The crossing marks of the open segment (R157). -/
structure CrossingMarks where
  first : Bool
  second : Bool
  full : Bool
  daily : Bool
  deriving DecidableEq, Repr

/-- The rule set, in the order of section 8.5. -/
structure RestRules where
  contLimit : Nat
  fullBreak : Nat
  firstPart : Nat
  secondPart : Nat
  dailyLimit : Nat
  dailyRest : Nat
  preLead : Nat
  repeatInterval : Nat
  unknownAlarm : Nat
  moving : Nat
  deriving DecidableEq, Repr

/-- A warning record's state (section 8.6). -/
inductive WarnState where
  | clear | active | acknowledged
  deriving DecidableEq, Repr

/-- The warning kinds (section 8.6). -/
inductive WarnKind where
  | contPre | contLimit | dayPre | dayLimit | unknown | declConflict | restComplete
  deriving DecidableEq, Repr

/-- A warning record (section 8.6). -/
structure Warning where
  state : WarnState
  occurrence : Nat
  raised : Nat
  deriving DecidableEq, Repr

/-- The seven warning records. -/
structure Warnings where
  contPre : Warning
  contLimit : Warning
  dayPre : Warning
  dayLimit : Warning
  unknown : Warning
  declConflict : Warning
  restComplete : Warning
  deriving DecidableEq, Repr

/-- The causes of REST_STATE (R166). -/
inductive RestCause where
  | cls | brk | day
  deriving DecidableEq, Repr

/-- The Rest-Time Monitor. `closed` holds the closed segments, oldest first, and `current` the open one, so the timeline always
has its one open segment at the end (R155); `credit` is the u of FIRST(u) (R158); `dayClosed` is REST_COMPLETE's condition
(R162); `handed` is the projection last handed to the Night Plan (R160). -/
structure Rest where
  declaration : Declaration
  raw : ActClass
  settling : Option SettlingRun
  closed : List Segment
  current : Segment
  nextNumber : Nat
  driveSinceBreak : Nat
  driveInDay : Nat
  dayCounter : Nat
  marks : CrossingMarks
  credit : Option Nat
  projection : Option Nat
  handed : Option Nat
  rules : RestRules
  warnings : Warnings
  dayClosed : Bool
  lastBunk : Option Nat
  causes : List RestCause
  deriving DecidableEq, Repr

/-! ## Night Plan (chapter 9) -/

/-- The plan state. -/
inductive PlanState where
  | none | armed | prewarm | ended
  deriving DecidableEq, Repr

/-- The wake source. -/
inductive WakeSource where
  | hostTime | restComplete
  deriving DecidableEq, Repr

/-- The last pre-warm result. -/
inductive PrewarmResult where
  | none
  | taken
  | refused (reason : Reason)
  deriving DecidableEq, Repr

/-- The causes of PLAN_STATE (R180). -/
inductive PlanCause where
  | set | cancel | wakeMoved | prewarm | prewarmFailed | wake | quiet
  deriving DecidableEq, Repr

/-- The Night Plan. -/
structure Plan where
  state : PlanState
  source : WakeSource
  wake : Option Nat
  setpoint : Int
  lead : Nat
  wakeLights : Bool
  quiet : Bool
  hostQuiet : Bool
  lastClass : ActClass
  lastProjection : Option Nat
  horizonHanded : Option Nat
  result : PrewarmResult
  prewarmMark : Bool
  causes : List PlanCause
  deriving DecidableEq, Repr

/-! ## Host Link (chapter 10) -/

/-- A frame: KIND, TAG and BODY; SYNC, LEN and CHECK follow from them (section 10.1). -/
structure Frame where
  kind : Byte
  tag : Byte
  body : List Byte
  deriving DecidableEq, Repr

/-- The receiver (R184), with LEN and the bytes collected so far. -/
inductive Receiver where
  | hunt
  | length
  | frame (len : Nat) (got : List Byte)
  | check (len : Nat) (got : List Byte)
  deriving DecidableEq, Repr

/-- The notice kinds (R190). -/
inductive NoticeKind where
  | restarted | clockNeeded | sensorFault | inputChange | busState | chargeState | budgetState | heaterState | heaterFault
  | fridgeState | lightState | restState | restWarning | planState
  deriving DecidableEq, Repr

/-- An entry of the notice table (R191). `lines` is INPUT_CHANGE's set of lines posted, each with its forcing mark. -/
structure Notice where
  kind : NoticeKind
  merge : Nat
  lines : List (Nat × Bool)
  deriving DecidableEq, Repr

/-- The transmitter (R190). -/
inductive Transmitter where
  | idle
  | reply (frame : Frame)
  | notice (frame : Frame)
  deriving DecidableEq, Repr

/-- A reply that has been formed and not yet been sent in full: the frames of its run not yet begun (R189), and whether its end
brings a RESTART (R196). -/
structure ReplyRun where
  rest : List Frame
  restart : Bool
  deriving DecidableEq, Repr

/-- The Host Link. `queue` holds the frames received and unanswered, the request in hand first; `out` is the reply to it once
formed; `sendEnd` is when the frame being sent ends; `lastFrame` and `lastByte` are the times of the last valid frame and of the
last byte; `resetKind` is `true` for REQUEST and `false` for COLD (R190). -/
structure Link where
  receiver : Receiver
  lastByte : Nat
  queue : List Frame
  out : Option ReplyRun
  tx : Transmitter
  sendEnd : Nat
  notices : List Notice
  awake : Bool
  idle : Option Nat
  lastFrame : Nat
  enables : BitVec 16
  idleTime : Nat
  resetKind : Bool
  resetUptime : Nat
  deriving DecidableEq, Repr

/-! ## The whole part -/

/-- The model's own record of the periodic events that are due (log 2): the next sweep, input sample, PWM boundary and uptime second,
and the work and the tests of the present second that have not been taken yet: the accounting tick (R36), the rest tick (R149), the
lead (R174), the run-until (R98), the wake (R177) and the pre-warm time (R175). -/
structure Schedule where
  nextSweep : Nat
  nextSample : Nat
  nextPwm : Nat
  nextSecond : Nat
  chgTick : Bool
  restTick : Bool
  leadTick : Bool
  runUntilTick : Bool
  wakeTick : Bool
  prewarmTick : Bool
  deriving DecidableEq, Repr

/-- Everything the part holds: ten blocks, what stands at its pins, and what is written into it when it is made. -/
structure Device where
  pins : Pins
  factory : Factory
  sns : Sensing
  vbl : Vehicle
  chg : Charge
  bgt : Budget
  htr : Heater
  cmp : Compressor
  lgt : Lights
  rtm : Rest
  npl : Plan
  lnk : Link
  sched : Schedule
  deriving DecidableEq, Repr

end Sys2Proof.Machine
end

