-- ==== Sys2Proof/Machine/Defaults.lean ====
section
/-! DEFINITION. The default settings of every block, and the whole part as a cold reset leaves it (R197 and the "After a reset"
rule of each chapter). -/

namespace Sys2Proof.Machine

/-! ## Sensing (R6, R12) -/

/-- The default table of T_CAB, T_FRIDGE and T_BATT (section 1.2). -/
def defaultThermistorTable : List (Nat × Int) :=
  [(135, 1250), (396, 850), (819, 600), (1418, 400), (2048, 250), (2725, 100), (3134, 0), (3712, -200), (3975, -400)]

/-- The default table of T_EXCH (section 1.2). -/
def defaultExchangerTable : List (Nat × Int) :=
  [(160, 2500), (300, 2000), (520, 1600), (900, 1200), (1450, 900), (2100, 600), (2800, 300), (3400, 0), (3900, -400)]

/-- R6: the four tables after a cold reset and a RESTART. -/
def defaultTables : SensorTables :=
  { cab := defaultThermistorTable, exch := defaultExchangerTable, fridge := defaultThermistorTable, batt := defaultThermistorTable }

/-- The default polarity of each line (section 1.4). -/
def defaultPolarity (line : Nat) : Polarity :=
  if line = 5 ∨ line = 6 then .high else .low

/-- The default filter length of each line (section 1.4). -/
def defaultFilter (line : Nat) : Nat :=
  match line with
  | 1 => 8
  | 5 => 2
  | 6 => 2
  | 7 => 8
  | _ => 4

/-- The default edge sense of each line (section 1.4). -/
def defaultEdge (line : Nat) : EdgeSense :=
  if line = 2 ∨ line = 3 ∨ line = 4 then .rising else .both

/-- A pin read through a polarity: `true` is the active level (section 1.4). -/
def Polarity.active (p : Polarity) (pinHigh : Bool) : Bool :=
  match p with
  | .high => pinHigh
  | .low => !pinHigh

/-- R10: a line after a cold reset, its first sample taken at once. -/
def coldLine (pins : Pins) (line : Nat) : InputLine :=
  { polarity := defaultPolarity line
    filter := defaultFilter line
    edge := defaultEdge line
    report := false
    run := 0
    real := (defaultPolarity line).active (pins.din.getLsbD line)
    forced := none
    startAfresh := false }

/-- R1, R4: a channel after a cold reset. -/
def coldChannel : Channel :=
  { history := [], status := .notReady, average := 0, value := 0, lastGood := 0 }

/-- R16: the dial decoder after a cold reset or a RESTART: the present pair state is the filtered one. -/
def freshDial (pins : Pins) : Dial :=
  { a := pins.dialA, b := pins.dialB, runA := false, runB := false, count := 0, last := none }

/-- R18, R19: the Sensing Unit after a cold reset. -/
def coldSensing (pins : Pins) : Sensing :=
  { ms := 0
    uptime := 0
    clockSet := false
    clockOffset := 0
    analog :=
      { batv := coldChannel, bati := coldChannel, tCab := coldChannel, tExch := coldChannel, tFridge := coldChannel,
        tBatt := coldChannel }
    tables := defaultTables
    lines := (List.range 8).map (coldLine pins)
    dial := freshDial pins
    current := { sum := 0, count := 0 } }

/-! ## Vehicle Bus Listener (R23, R28, R31, R35) -/

/-- R28: a slot after a cold reset. -/
def coldSlot : Slot :=
  { enabled := false, format := .standard, ident := 0, ownMask := 0, limit := 1000, data := [], arrival := 0, status := .empty,
    timer := none }

/-- R31: a signal after a cold reset. -/
def coldSignal : SignalRec :=
  { binding := none, value := 0, status := .never, lastUpdate := 0, updated := false }

/-- R35: the listener after a cold reset. -/
def coldVehicle : Vehicle :=
  { enable := false
    bitRate := 250
    source := .bus
    mask := 0
    listener := .off
    silence := none
    slots := List.replicate 12 coldSlot
    signals :=
      { roadSpeed := coldSignal, engineRunning := coldSignal, ignition := coldSignal, parkingBrake := coldSignal,
        ambientTemp := coldSignal, fuelLow := coldSignal } }

/-! ## Charge Counter (R46, R51) -/

/-- The default battery description (section 3.6). -/
def defaultBattery : Battery :=
  { system := 24, capacity := 200000, reserve := 500, resistance := 10, vWarn := 0, vCut := 0, vFull := 0, tail := 0 }

/-- No grading run in progress (R43). -/
def noRuns : GradingRuns := { fallToLow := 0, fallToCritical := 0, riseToLow := 0, riseToNormal := 0 }

/-- R51: the Charge Counter after a cold reset. -/
def coldCharge : Charge :=
  { history := []
    q := 0
    acc := 0
    known := false
    current := 0
    voltage := 0
    temp := 0
    tempFallback := true
    derate := 840
    qmin := 100000
    spendable := 0
    soc := 0
    vcomp := 0
    uv := .normal
    runs := noRuns
    fullRun := 0
    lastFull := none
    lastFullTick := none
    battery := defaultBattery
    causes := [] }

/-! ## Heater Sequencer (section 5.1, R104) -/

/-- The default heat level table (section 5.1). -/
def defaultHeatTable : List HeatLevel :=
  [ { interval := 1600, duty := 350, minRpm := 1500, current := 900 },
    { interval := 1250, duty := 450, minRpm := 2000, current := 1150 },
    { interval := 1000, duty := 550, minRpm := 2500, current := 1400 },
    { interval := 800, duty := 650, minRpm := 3000, current := 1650 },
    { interval := 650, duty := 800, minRpm := 3500, current := 1900 },
    { interval := 520, duty := 950, minRpm := 4000, current := 2200 } ]

/-- The default sequence settings (section 5.1). -/
def defaultSeq : SeqSettings :=
  { pulseWidth := 40, glowTime := 25, ignInterval := 1250, ignDuty := 250, flameRise := 150, flameWindow := 90, attempts := 2,
    purgeDuty := 1000, purgeTime := 60, coolDuty := 700, coolEnd := 500, coolMin := 120, coolMax := 600, softLimit := 2300,
    lossDrop := 200, dwell := 60, pauseDelay := 300 }

/-- The default level limits (section 5.1). -/
def defaultLimits : LevelLimits := { hostMax := 6, quietMax := 4, fallback := 2 }

/-- No heater timer running. -/
def noHeaterTimers : HeaterTimers :=
  { wait := none, glow := none, window := none, ramp := none, dwell := none, pause := none, purge := none, coolMin := none,
    coolMax := none, lowSpeed := none }

/-- R104: the heater after a cold reset; the latch is set when DIN5's first sample is active. -/
def coldHeater (pins : Pins) : Heater :=
  { state := .off
    setpoint := 200
    lastSetpoint := 200
    runUntil := none
    level := 0
    wished := 0
    table := defaultHeatTable
    seq := defaultSeq
    limits := defaultLimits
    fuel := { running := false, interval := 0, staged := none, lastStart := 0, gate := false }
    glowSince := none
    blower := { duty := 0, dutySince := 0, period := 0, lastTach := none, rpm := 0 }
    flameBase := 0
    flameRef := 0
    marks := { restartPending := false, lockoutPending := false, forcedPurge := false, tableDefault := false }
    cool := none
    attempts := 0
    lockouts := 0
    flameLoss := none
    timers := noHeaterTimers
    lastRestart := none
    latch := (coldLine pins 5).real
    faults := []
    cause := .none }

/-! ## Load Budget (section 4.1, R74) -/

/-- HEATER's step list: step 0 at 0 mA, then the six average currents of the heat level table (R53). -/
def heaterSteps (table : List HeatLevel) : List Nat := 0 :: table.map (·.current)

/-- The default step currents (section 4.1). -/
def defaultSteps : Load → List Nat
  | .base => [150]
  | .heater => heaterSteps defaultHeatTable
  | .compressor => [0, 1600, 2200, 2800, 3400]
  | .lights => [60, 150, 250, 400]
  | .outlet => [0, 1500]
  | .warning => [50]

/-- The default ranks (section 4.1). -/
def defaultRank : Load → Option Nat
  | .base => none
  | .heater => some 1
  | .compressor => some 2
  | .lights => some 3
  | .outlet => some 4
  | .warning => none

/-- R74: an entry after a cold reset. -/
def coldEntry (l : Load) : Entry :=
  { rank := defaultRank l, steps := defaultSteps l, requested := 0, floor := 0, granted := 0, since := 0 }

/-- R74: the Load Budget after a cold reset and the pass taken at it (policy UNKNOWN_NORMAL, every grant 0, H 28,800 s; D is
1,200 + 480 + 400 mAh for BASE, LIGHTS step 0 and WARNING). -/
def coldBudget : Budget :=
  { table :=
      { base := coldEntry .base, heater := coldEntry .heater, compressor := coldEntry .compressor, lights := coldEntry .lights,
        outlet := coldEntry .outlet, warning := coldEntry .warning }
    horizonSource := none
    defaultHorizon := 28800
    last :=
      { policy := .unknownNormal, stage := 0, short := false, horizon := 28800, fromWake := false, usable := 0, demand := 2080,
        uptime := 0 }
    allowance := { state := .free, hold := none, settle := none, waiting := [] }
    outlet := { state := .off, closing := none }
    passesDue := 0 }

/-! ## Compressor Drive (section 6.7, R127) -/

/-- The default compressor settings (section 6.7). -/
def defaultFridge : FridgeSettings :=
  { setpoint := 40, differential := 20, order := .a, deadTime := 1000, polePairs := 2, currentLimit := 12000, quietCap := 2 }

/-- A leg with both gates off and no dead time running. -/
def idleLeg : LegState := { role := .float, high := false, low := false, waitHigh := false, waitLow := false }

/-- All six gates off. -/
def idleBridge : Bridge := { u := idleLeg, v := idleLeg, w := idleLeg }

/-- No compressor timer running, the minimum off counted as passed. -/
def noCompTimers : CompTimers :=
  { phase := none, raise := none, minRun := none, failReset := none, offSince := none, start := none, dutyRamp := none,
    coast := none, stall := none, backoff := none, blocked := none }

/-- R127: the compressor after a cold reset; the latch is set when DIN6's raw level is active. R127 gives no value for the cut-in
uptime, the allowance grant time, the mean current, the duty in force and the deferred cut-out mark: none, none, none, 0 and clear
(log 25, DESIGN CHOICE). -/
def coldCompressor (pins : Pins) : Compressor :=
  { state := .disabled
    enable := false
    mode := .thermostat
    demand := false
    phase := .demand
    learned := 2
    wished := 0
    commanded := 0
    cutIn := none
    learning := false
    hadCutIn := false
    deferred := false
    grantTime := none
    bridge := idleBridge
    duty := 0
    staged := 0
    orderNow := .a
    deadTimeNow := 1000
    polePairsNow := 2
    window := { intervals := [], edges := 0, rpm := 0, first := true }
    lastMean := none
    latch := (coldLine pins 6).real
    failures := 0
    lastFailure := none
    timers := noCompTimers
    settings := defaultFridge }

/-! ## Light Controller (sections 7.1, 7.3, 7.6, R147) -/

/-- The default groups and essential flags of CH0 to CH6 (section 7.1). -/
def defaultChSettings : List ChannelSetting :=
  [ { group := .a, essential := false }, { group := .a, essential := false }, { group := .a, essential := false },
    { group := .b, essential := false }, { group := .b, essential := true }, { group := .b, essential := false },
    { group := .none, essential := true } ]

/-- The default scenes (R135). -/
def defaultScenes : List Scene :=
  [ { levels := [some 0, some 0, some 0, some 0, some 0, some 0, some 0], fade := 1000 },
    { levels := [some 700, some 700, some 150, none, none, none, none], fade := 800 },
    { levels := [some 0, some 0, some 400, some 250, none, none, none], fade := 1500 },
    { levels := [some 0, some 0, some 0, some 0, some 0, some 0, some 80], fade := 3000 },
    { levels := [none, none, none, some 900, some 400, some 500, none], fade := 500 },
    { levels := [none, none, some 350, some 500, none, none, some 0], fade := 8000 } ]

/-- The default light settings (section 7.6). -/
def defaultLightSettings : LightSettings := { dialGroup := .a, courtesyTime := 300, courtesyLevel := 700, nightLevel := 150 }

/-- R147: a channel after a cold reset. -/
def darkChannel : LightChannel :=
  { target := 0, fadeFrom := 0, fadeAt := 0, fadeMs := 0, fading := false, applied := 0, saved := none, hold := false,
    courtesy := false }

/-- A source entry after a cold reset (R147). -/
def quietSource : SourceEntry := { severity := 0, occurrence := 0, sounding := false }

/-- The buzzer IDLE with its output off (R143). -/
def idleBuzzer : Buzzer := { burst := false, remaining := 0, counted := false, on := false, timer := none }

/-- R147: the Light Controller after a cold reset. -/
def coldLights : Lights :=
  { channels := List.replicate 7 darkChannel
    chSettings := defaultChSettings
    capStep := 0
    written := 0
    scenes := defaultScenes
    settings := defaultLightSettings
    courtesyTimer := none
    sources :=
      { rtm := quietSource, htr := quietSource, cmp := quietSource, bgt := quietSource, chg := quietSource, sns := quietSource }
    ch7Applied := 0
    ch7On := true
    ch7Timer := none
    buzzer := idleBuzzer }

/-! ## Rest-Time Monitor (section 8.5, R169) -/

/-- The default rule set (section 8.5). -/
def defaultRules : RestRules :=
  { contLimit := 16200, fullBreak := 2700, firstPart := 900, secondPart := 1800, dailyLimit := 32400, dailyRest := 39600,
    preLead := 900, repeatInterval := 900, unknownAlarm := 300, moving := 50 }

/-- A CLEAR warning record that has not been raised (R169). -/
def clearWarning : Warning := { state := .clear, occurrence := 0, raised := 0 }

/-- No crossing mark set. -/
def noMarks : CrossingMarks := { first := false, second := false, full := false, daily := false }

/-- R169: the Rest-Time Monitor after a cold reset. -/
def coldRest : Rest :=
  { declaration := .auto
    raw := .unknown
    settling := none
    closed := []
    current := { number := 0, cls := .unknown, start := 0, stop := none, declared := false, stale := false }
    nextNumber := 1
    driveSinceBreak := 0
    driveInDay := 0
    dayCounter := 0
    marks := noMarks
    credit := none
    projection := none
    handed := none
    rules := defaultRules
    warnings :=
      { contPre := clearWarning, contLimit := clearWarning, dayPre := clearWarning, dayLimit := clearWarning,
        unknown := clearWarning, declConflict := clearWarning, restComplete := clearWarning }
    dayClosed := false
    lastBunk := none
    causes := [] }

/-! ## Night Plan (R182) -/

/-- R182: the Night Plan after a cold reset. -/
def coldPlan : Plan :=
  { state := .none
    source := .hostTime
    wake := none
    setpoint := 210
    lead := 600
    wakeLights := false
    quiet := false
    hostQuiet := false
    lastClass := .unknown
    lastProjection := none
    horizonHanded := none
    result := .none
    prewarmMark := false
    causes := [] }

/-! ## Host Link (R195, R197) -/

/-- R195: every notice kind enabled, bits 1 to 14. -/
def defaultEnables : BitVec 16 := 0x7FFE

/-- R197: the Host Link after a cold reset. -/
def coldLink : Link :=
  { receiver := .hunt
    lastByte := 0
    queue := []
    out := none
    tx := .idle
    sendEnd := 0
    notices := [{ kind := .clockNeeded, merge := 1, lines := [] }, { kind := .restarted, merge := 1, lines := [] }]
    awake := true
    idle := some 5000
    lastFrame := 0
    enables := defaultEnables
    idleTime := 5000
    resetKind := false
    resetUptime := 0 }

/-! ## The whole part -/

/-- R1, R10, R18, R130: the periodic events are next due one period after the cold reset. -/
def coldSchedule : Schedule :=
  { nextSweep := 100, nextSample := 5, nextPwm := 2, nextSecond := 1000, chgTick := false, restTick := false, leadTick := false
    runUntilTick := false, wakeTick := false, prewarmTick := false }

/-- The part after a cold reset: every block at its initial state; the pins and the factory data are what they were. -/
def coldDevice (pins : Pins) (factory : Factory) : Device :=
  { pins := pins
    factory := factory
    sns := coldSensing pins
    vbl := coldVehicle
    chg := coldCharge
    bgt := coldBudget
    htr := coldHeater pins
    cmp := coldCompressor pins
    lgt := coldLights
    rtm := coldRest
    npl := coldPlan
    lnk := coldLink
    sched := coldSchedule }

end Sys2Proof.Machine
end

