-- ==== Sys2Proof/Machine/State.lean ====
section
/-! DEFINITION. The state of the CS-410: the part's own record and the queue of commands that wait, and the state after reset. -/

namespace Sys2Proof.Machine

/-- The part (every register, queue, timer, mode and pin of the ten blocks, `Device`), and the commands that wait, first in,
first out. Plain data. -/
structure State where
  dev : Device
  pending : List Instr
  deriving DecidableEq, Repr

/-- Why the machine stops. The manual gives every command of the table an effect in every state, so there is no fault: no
constructor, and no command raises one (safe). -/
inductive Fault where
  deriving DecidableEq, Repr

/-- Why a command has no meaning. `notModelled` stands for a command whose meaning is not written yet; no arm of `exec` answers
it, so it is raised by nobody (safe). -/
inductive Refusal where
  | notModelled (mnemonic : String)
  deriving DecidableEq, Repr

/-- What stands at the pins at reset (log 3, DESIGN CHOICE): every input line inactive under its default polarity, the dial at
rest on 00, Hall code 1, and mid-scale analog codes. -/
def State.resetPins : Pins :=
  { din := 0x9F
    dialA := false
    dialB := false
    hall := 1
    analog := { batv := 2048, bati := 2048, tCab := 2048, tExch := 2048, tFridge := 2048, tBatt := 2048 } }

/-- What is written into the part when it is made (log 4, DESIGN CHOICE): the calibration points of the manual's worked
conversion, and revision 1. -/
def State.resetFactory : Factory :=
  { raw10 := 1210, raw30 := 3630, raw0 := 2048, raw50 := 2448, revision := 1 }

/-- The part right after a cold reset (R197), with no command waiting. -/
def State.reset : State :=
  { dev := coldDevice State.resetPins State.resetFactory, pending := [] }

end Sys2Proof.Machine
end

