-- ==== Sys2Proof/Machine/Ops.lean ====
section
/-! DEFINITION. The named operations every block shares: arithmetic with the manual's roundings (00_scope.md), reading records by
name, the time bases, the input lines' levels, posting a notice (R191), writing a Load Table entry (R54), and the load's side of
the inrush allowance (R64, R65). -/

namespace Sys2Proof.Machine

/-! ## Arithmetic -/

/-- Division rounded up (00_scope.md, "Rounded up"); the divisor is never 0 where it is used. -/
def ceilDiv (a b : Nat) : Nat := (a + (b - 1)) / b

/-- `num / den` rounded half away from zero to a whole number (R5). -/
def roundHalfAway (num : Int) (den : Nat) : Int :=
  let q : Nat := (2 * num.natAbs + den) / (2 * den)
  if num < 0 then -(q : Int) else (q : Int)

/-- A value clamped to a range (00_scope.md). -/
def clampInt (lo hi x : Int) : Int := max lo (min hi x)

/-- A value clamped to a range of natural numbers. -/
def clampNat (lo hi x : Nat) : Nat := max lo (min hi x)

/-- One more, saturating at `top` (00_scope.md). -/
def satSucc (top n : Nat) : Nat := min top (n + 1)

/-! ## Records by name -/

/-- The channel of that name. -/
def Analog.get (a : Analog) : AnalogChannel → Channel
  | .batv => a.batv
  | .bati => a.bati
  | .tCab => a.tCab
  | .tExch => a.tExch
  | .tFridge => a.tFridge
  | .tBatt => a.tBatt

/-- All six channels, in order (R1). -/
def allChannels : List AnalogChannel := [.batv, .bati, .tCab, .tExch, .tFridge, .tBatt]

/-- The signal of that name. -/
def Signals.get (t : Signals) : Signal → SignalRec
  | .roadSpeed => t.roadSpeed
  | .engineRunning => t.engineRunning
  | .ignition => t.ignition
  | .parkingBrake => t.parkingBrake
  | .ambientTemp => t.ambientTemp
  | .fuelLow => t.fuelLow

/-- The signal table with one signal replaced. -/
def Signals.put (t : Signals) (g : Signal) (r : SignalRec) : Signals :=
  match g with
  | .roadSpeed => { t with roadSpeed := r }
  | .engineRunning => { t with engineRunning := r }
  | .ignition => { t with ignition := r }
  | .parkingBrake => { t with parkingBrake := r }
  | .ambientTemp => { t with ambientTemp := r }
  | .fuelLow => { t with fuelLow := r }

/-- All six signals, in order (section 2.3). -/
def allSignals : List Signal := [.roadSpeed, .engineRunning, .ignition, .parkingBrake, .ambientTemp, .fuelLow]

/-- A signal that is FRESH and equal to 1, the condition its consumers act on (R57, R80, R140). -/
def SignalRec.isOn (r : SignalRec) : Bool := decide (r.status = .fresh) && decide (r.value = 1)

/-- The Load Table entry of that load. -/
def LoadTable.get (t : LoadTable) : Load → Entry
  | .base => t.base
  | .heater => t.heater
  | .compressor => t.compressor
  | .lights => t.lights
  | .outlet => t.outlet
  | .warning => t.warning

/-- The Load Table with one entry replaced. -/
def LoadTable.put (t : LoadTable) (l : Load) (e : Entry) : LoadTable :=
  match l with
  | .base => { t with base := e }
  | .heater => { t with heater := e }
  | .compressor => { t with compressor := e }
  | .lights => { t with lights := e }
  | .outlet => { t with outlet := e }
  | .warning => { t with warning := e }

/-- All six loads, in table order (section 4.1). -/
def allLoads : List Load := [.base, .heater, .compressor, .lights, .outlet, .warning]

/-- The four sheddable loads (R53). -/
def sheddable : List Load := [.heater, .compressor, .lights, .outlet]

/-- The entry of that source. -/
def SourceList.get (t : SourceList) : Source → SourceEntry
  | .rtm => t.rtm
  | .htr => t.htr
  | .cmp => t.cmp
  | .bgt => t.bgt
  | .chg => t.chg
  | .sns => t.sns

/-- The source list with one entry replaced. -/
def SourceList.put (t : SourceList) (g : Source) (e : SourceEntry) : SourceList :=
  match g with
  | .rtm => { t with rtm := e }
  | .htr => { t with htr := e }
  | .cmp => { t with cmp := e }
  | .bgt => { t with bgt := e }
  | .chg => { t with chg := e }
  | .sns => { t with sns := e }

/-- All six sources, in order (section 7.5). -/
def allSources : List Source := [.rtm, .htr, .cmp, .bgt, .chg, .sns]

/-- The warning record of that kind. -/
def Warnings.get (t : Warnings) : WarnKind → Warning
  | .contPre => t.contPre
  | .contLimit => t.contLimit
  | .dayPre => t.dayPre
  | .dayLimit => t.dayLimit
  | .unknown => t.unknown
  | .declConflict => t.declConflict
  | .restComplete => t.restComplete

/-- The warning records with one replaced. -/
def Warnings.put (t : Warnings) (k : WarnKind) (w : Warning) : Warnings :=
  match k with
  | .contPre => { t with contPre := w }
  | .contLimit => { t with contLimit := w }
  | .dayPre => { t with dayPre := w }
  | .dayLimit => { t with dayLimit := w }
  | .unknown => { t with unknown := w }
  | .declConflict => { t with declConflict := w }
  | .restComplete => { t with restComplete := w }

/-- All seven warning kinds, in order (section 8.6). -/
def allWarnings : List WarnKind := [.contPre, .contLimit, .dayPre, .dayLimit, .unknown, .declConflict, .restComplete]

/-! ## Outcomes and time -/

/-- A command that runs: the part's record becomes `f` of itself, the commands that wait stay as they are. -/
def running (s : State) (f : Device → Device) : Host.Outcome State Fault Refusal :=
  .next { s with dev := f s.dev }

/-- The millisecond time base moved forward to a moment it has not reached yet (log 2). -/
def reach (t : Nat) (d : Device) : Device := { d with sns := { d.sns with ms := max d.sns.ms t } }

/-- The event at the end of a running timer, taken at its time; with the timer stopped the event does not happen. -/
def atTimer (timer : Option Nat) (f : Device → Device) (d : Device) : Device :=
  match timer with
  | none => d
  | some t => f (reach t d)

/-- Whether a timer is stopped or has reached its time. -/
def ranOut (d : Device) (timer : Option Nat) : Bool :=
  match timer with
  | none => true
  | some t => decide (t ≤ d.sns.ms)

/-- The seconds from an earlier uptime to now, uptime being counted modulo 2^32 (R18). -/
def uptimeSince (d : Device) (earlier : Nat) : Nat := (d.sns.uptime + (4294967296 - earlier)) % 4294967296

/-- The wall time of an uptime (R19), modulo 2^32. -/
def wallOf (d : Device) (uptime : Nat) : Nat := (uptime + d.sns.clockOffset) % 4294967296

/-- The uptime of a wall time (R19): the offset subtracted, modulo 2^32. -/
def uptimeOfWall (d : Device) (wall : Nat) : Nat := (wall + (4294967296 - d.sns.clockOffset)) % 4294967296

/-! ## Input lines -/

/-- The settings a line would have if its number named no line (no command can name one). -/
def noLine : InputLine :=
  { polarity := .low, filter := 4, edge := .both, report := false, run := 0, real := false, forced := none, startAfresh := false }

/-- The line of that number. -/
def lineOf (d : Device) (n : Nat) : InputLine := d.sns.lines.getD n noLine

/-- The delivered level (section 1.4): the forced level while forced, else the real filtered level. -/
def InputLine.delivered (l : InputLine) : Bool := l.forced.getD l.real

/-- The delivered level of a line. -/
def deliveredOf (d : Device) (n : Nat) : Bool := (lineOf d n).delivered

/-- The raw level of a line: its pin read through its polarity (section 1.4). -/
def rawOf (d : Device) (n : Nat) : Bool := (lineOf d n).polarity.active (d.pins.din.getLsbD n)

/-- The device with one line replaced. -/
def putLine (n : Nat) (l : InputLine) (d : Device) : Device :=
  { d with sns := { d.sns with lines := d.sns.lines.set n l } }

/-! ## Notices (R191) -/

/-- A notice kind's number (R190). -/
def NoticeKind.number : NoticeKind → Nat
  | .restarted => 1
  | .clockNeeded => 2
  | .sensorFault => 3
  | .inputChange => 4
  | .busState => 5
  | .chargeState => 6
  | .budgetState => 7
  | .heaterState => 8
  | .heaterFault => 9
  | .fridgeState => 10
  | .lightState => 11
  | .restState => 12
  | .restWarning => 13
  | .planState => 14

/-- Whether a kind is enabled by LINK_CONFIG's mask (R195). -/
def noticeEnabled (d : Device) (k : NoticeKind) : Bool := d.lnk.enables.getLsbD k.number

/-- A line's forcing mark put into INPUT_CHANGE's set, replacing the line's former one (R191). -/
def putLineMark (line : Nat) (forcing : Bool) (lines : List (Nat × Bool)) : List (Nat × Bool) :=
  (lines.filter fun p => decide (p.1 < line)) ++ (line, forcing) :: (lines.filter fun p => decide (line < p.1))

/-- R191: a kind merged into its entry, or appended at the end of the table with merge count 1. `mark` is the line and forcing
mark an INPUT_CHANGE carries. -/
def mergeNotice (k : NoticeKind) (mark : Option (Nat × Bool)) : List Notice → List Notice
  | [] => [{ kind := k, merge := 1, lines := mark.toList }]
  | n :: rest =>
    if n.kind = k then
      { n with
        merge := satSucc 255 n.merge
        lines := match mark with
          | none => n.lines
          | some (line, forcing) => putLineMark line forcing n.lines } :: rest
    else n :: mergeNotice k mark rest

/-- R191: a block posts a notice; a disabled kind is not posted. -/
def post (k : NoticeKind) (d : Device) : Device :=
  if noticeEnabled d k then { d with lnk := { d.lnk with notices := mergeNotice k none d.lnk.notices } } else d

/-- R191: SNS posts INPUT_CHANGE for a line, with whether the change came from forcing. -/
def postInputChange (line : Nat) (forcing : Bool) (d : Device) : Device :=
  if noticeEnabled d .inputChange then
    { d with lnk := { d.lnk with notices := mergeNotice .inputChange (some (line, forcing)) d.lnk.notices } }
  else d

/-- ATTN is active (driven low) while the link is DROWSY and the notice table is not empty (R193). -/
def attnActive (d : Device) : Bool := !d.lnk.awake && !d.lnk.notices.isEmpty

/-! ## The Load Table (R53 to R55) -/

/-- The entry of a load. -/
def entryOf (d : Device) (l : Load) : Entry := d.bgt.table.get l

/-- A load's granted step. -/
def grantOf (d : Device) (l : Load) : Nat := (entryOf d l).granted

/-- R56: the demand of an entry at a step over a horizon of `h` seconds, in mAh, rounded up. -/
def stepDemand (e : Entry) (step h : Nat) : Nat := ceilDiv (e.steps.getD step 0 * h) 3600

/-- R56: the demand of the whole table with each load at the step given for it. -/
def tableDemand (t : LoadTable) (stepOf : Load → Nat) (h : Nat) : Nat :=
  (allLoads.map fun l => stepDemand (t.get l) (stepOf l) h).sum

/-- R57: one trigger of a budget pass, whose pass is then due. -/
def triggerPass (d : Device) : Device := { d with bgt := { d.bgt with passesDue := d.bgt.passesDue + 1 } }

/-- R67: a load leaves the waiting list. -/
def leaveWaiting (l : Load) (d : Device) : Device :=
  { d with bgt := { d.bgt with
      allowance := { d.bgt.allowance with waiting := d.bgt.allowance.waiting.filter fun x => decide (x ≠ l) } } }

/-- R54, steps 1 to 4: an entry after its owner's write of a requested step and a floor, at the given uptime. -/
def Entry.written (e : Entry) (requested floor uptime : Nat) : Entry :=
  let last := e.steps.length - 1
  let fl := min floor last
  let rq := max (min requested last) fl
  let g := max fl (min e.granted rq)
  { e with requested := rq, floor := fl, granted := g, since := if g = e.granted then e.since else uptime }

/-- R54: the owner of a load writes its entry. The grant comes into range at once, a changed request or floor triggers a pass,
and a waiting load whose grant becomes 0 leaves the waiting list (R67; its owner has left its waiting state before it
writes, so the "denied" that goes with it finds nothing to act on). The owner itself follows its new grant (R55: in RAMP and RUN the
heater's `followWish`). -/
def writeEntry (l : Load) (requested floor : Nat) (d : Device) : Device :=
  let e := entryOf d l
  let e' := e.written requested floor d.sns.uptime
  let d1 : Device := { d with bgt := { d.bgt with table := d.bgt.table.put l e' } }
  let d2 := if e'.requested = e.requested ∧ e'.floor = e.floor then d1 else triggerPass d1
  if e'.granted = 0 ∧ e.granted ≠ 0 then leaveWaiting l d2 else d2

/-! ## The inrush allowance, seen from a load (R63 to R65) -/

/-- The hold limit of a load in ms (section 4.4). -/
def holdLimit : Load → Nat
  | .heater => 90000
  | .compressor => 5000
  | .outlet => 2000
  | _ => 0

/-- Whether a load holds the allowance. -/
def holds (d : Device) (l : Load) : Bool := decide (d.bgt.allowance.state = .held l)

/-- Whether a load stands in the waiting list. -/
def waits (d : Device) (l : Load) : Bool := decide (l ∈ d.bgt.allowance.waiting)

/-- The device with a new allowance. -/
def putAllowance (a : Allowance) (d : Device) : Device := { d with bgt := { d.bgt with allowance := a } }

/-- The allowance HELD by a load with its hold timer started (R63). -/
def Allowance.give (a : Allowance) (l : Load) (ms : Nat) : Allowance :=
  { a with state := .held l, hold := some (ms + holdLimit l), settle := none }

/-- The allowance SETTLING with the settling timer started (R65, R66). -/
def Allowance.release (a : Allowance) (ms : Nat) : Allowance :=
  { a with state := .settling, hold := none, settle := some (ms + 2000) }

/-- R64: a load requests the allowance; the answer is `none` where the request is ignored or the load is appended to the list. -/
def requestAllowance (l : Load) (d : Device) : Device × Option Answer :=
  if holds d l || waits d l then (d, none)
  else if d.chg.uv = .critical ∨ grantOf d l = 0 then (d, some .denied)
  else if d.bgt.allowance.state = .free then (putAllowance (d.bgt.allowance.give l d.sns.ms) d, some .granted)
  else (putAllowance { d.bgt.allowance with waiting := d.bgt.allowance.waiting ++ [l] } d, none)

/-- R65: a load releases the allowance; a release by a load that does not hold it is ignored. -/
def releaseAllowance (l : Load) (d : Device) : Device :=
  if holds d l then putAllowance (d.bgt.allowance.release d.sns.ms) d else d

/-- R65: a load withdraws: the holder's withdrawal counts as its release, a waiting load leaves the list, any other is ignored. -/
def withdrawAllowance (l : Load) (d : Device) : Device :=
  if holds d l then releaseAllowance l d else leaveWaiting l d

end Sys2Proof.Machine
end

