-- ==== Sys2Proof/Machine/Flags.lean ====
section
/-! DEFINITION. The flags the blocks raise: notice causes (R49, R166, R180), the indication source list (R141), CH7's pattern
(R142) and the buzzer (R143, R144). -/

namespace Sys2Proof.Machine

/-! ## Notice causes -/

/-- A cause added to a set of causes. -/
def addCause {α : Type} [DecidableEq α] (c : α) (l : List α) : List α := if c ∈ l then l else l ++ [c]

/-- R49: CHARGE_STATE with a cause; while the kind is disabled neither is made. -/
def postCharge (c : ChargeCause) (d : Device) : Device :=
  if noticeEnabled d .chargeState then post .chargeState { d with chg := { d.chg with causes := addCause c d.chg.causes } } else d

/-- R166: REST_STATE with a cause. -/
def postRest (c : RestCause) (d : Device) : Device :=
  if noticeEnabled d .restState then post .restState { d with rtm := { d.rtm with causes := addCause c d.rtm.causes } } else d

/-- R180: PLAN_STATE with a cause. -/
def postPlan (c : PlanCause) (d : Device) : Device :=
  if noticeEnabled d .planState then post .planState { d with npl := { d.npl with causes := addCause c d.npl.causes } } else d

/-- R49, R166, R180, R192: the owner of a kind empties its set of causes, when its notice is sent or its entry removed. -/
def emptyCauses (k : NoticeKind) (d : Device) : Device :=
  match k with
  | .chargeState => { d with chg := { d.chg with causes := [] } }
  | .restState => { d with rtm := { d.rtm with causes := [] } }
  | .planState => { d with npl := { d.npl with causes := [] } }
  | _ => d

/-! ## The buzzer (R143) -/

/-- Whether any sounding mark stands in the list. -/
def anySounding (t : SourceList) : Bool := allSources.any fun g => (t.get g).sounding

/-- R143, Start and New mark: a sounding mark has been set at `ms`. -/
def Buzzer.marked (b : Buzzer) (ms : Nat) : Buzzer :=
  if b.burst then { b with remaining := 3, counted := false }
  else { burst := true, remaining := 3, counted := true, on := true, timer := some (ms + 200) }

/-- R143, Stop: with no sounding mark left, a burst stops at once. -/
def stopUnmarked (d : Device) : Device :=
  if d.lgt.buzzer.burst && !anySounding d.lgt.sources then { d with lgt := { d.lgt with buzzer := idleBuzzer } } else d

/-- Every sounding mark cleared (R143, End). -/
def SourceList.silenced (t : SourceList) : SourceList :=
  { rtm := { t.rtm with sounding := false }
    htr := { t.htr with sounding := false }
    cmp := { t.cmp with sounding := false }
    bgt := { t.bgt with sounding := false }
    chg := { t.chg with sounding := false }
    sns := { t.sns with sounding := false } }

/-- R143, End: the end of a beat's off time, at `ms`: the next beat begins, or the burst ends. -/
def endBeat (ms : Nat) (d : Device) : Device :=
  let b := d.lgt.buzzer
  let left := if b.counted then b.remaining - 1 else b.remaining
  if left = 0 then { d with lgt := { d.lgt with buzzer := idleBuzzer, sources := d.lgt.sources.silenced } }
  else { d with lgt := { d.lgt with buzzer := { b with remaining := left, counted := true, on := true, timer := some (ms + 200) } } }

/-- The end of the 200 ms on part or the 300 ms off part of a beat (R143). -/
def beatPhase (d : Device) : Device :=
  match d.lgt.buzzer.timer with
  | none => d
  | some t =>
    let d1 := reach t d
    if d1.lgt.buzzer.on then
      { d1 with lgt := { d1.lgt with buzzer := { d1.lgt.buzzer with on := false, timer := some (t + 300) } } }
    else endBeat t d1

/-! ## CH7 (R142) -/

/-- The displayed severity: the highest of the list. -/
def displayed (t : SourceList) : Nat := (allSources.map fun g => (t.get g).severity).foldl max 0

/-- The length of each part of the pattern for a displayed severity, in ms; severities 0 and 1 do not blink. -/
def blinkPart (severity : Nat) : Option Nat :=
  match severity with
  | 2 => some 500
  | 3 => some 125
  | _ => none

/-- CH7's overlay level. -/
def overlayLevel (d : Device) : Nat :=
  match displayed d.lgt.sources with
  | 0 => 0
  | 1 => 300
  | _ => if d.lgt.ch7On then 1000 else 0

/-- The pattern's phase restarted, its on part first. -/
def restartPattern (d : Device) : Device :=
  { d with lgt := { d.lgt with
      ch7On := true
      ch7Timer := (blinkPart (displayed d.lgt.sources)).map fun n => d.sns.ms + n } }

/-- The blink timer switches between the on and off parts. -/
def patternPhase (d : Device) : Device :=
  match d.lgt.ch7Timer with
  | none => d
  | some t =>
    let d1 := reach t d
    { d1 with lgt := { d1.lgt with
        ch7On := !d1.lgt.ch7On
        ch7Timer := (blinkPart (displayed d1.lgt.sources)).map fun n => t + n } }

/-! ## Postings (R141, R144) -/

/-- Whether a posting sets the sounding mark (R141, step 3). -/
def setsMark (quiet : Bool) (former severity : Nat) (newOccurrence : Bool) : Bool :=
  decide (0 < severity) && (newOccurrence || decide (former < severity)) && (!quiet || decide (severity = 3))

/-- Whether a posting clears the sounding mark (R141, steps 4 and 5). -/
def clearsMark (quiet : Bool) (severity : Nat) : Bool := decide (severity = 0) || (quiet && decide (severity < 3))

/-- R141: an entry after a posting. -/
def SourceEntry.posted (e : SourceEntry) (quiet : Bool) (severity : Nat) (newOccurrence : Bool) : SourceEntry :=
  { severity := severity
    occurrence := if newOccurrence then (e.occurrence + 1) % 65536 else e.occurrence
    sounding := !clearsMark quiet severity && (setsMark quiet e.severity severity newOccurrence || e.sounding) }

/-- R141 to R143: a source posts a severity, perhaps as a new occurrence; CH7's pattern and the buzzer follow at once. -/
def postIndication (g : Source) (severity : Nat) (newOccurrence : Bool) (d : Device) : Device :=
  let e := d.lgt.sources.get g
  let sources := d.lgt.sources.put g (e.posted d.npl.quiet severity newOccurrence)
  let d1 : Device := { d with lgt := { d.lgt with sources := sources } }
  let restarts := decide (displayed sources ≠ displayed d.lgt.sources) || (newOccurrence && decide (severity = displayed sources))
  let d2 := if restarts then restartPattern d1 else d1
  let d3 : Device :=
    if setsMark d.npl.quiet e.severity severity newOccurrence then
      { d2 with lgt := { d2.lgt with buzzer := d2.lgt.buzzer.marked d2.sns.ms } }
    else d2
  stopUnmarked d3

/-- R144: RTM's acknowledgement clears its sounding mark and nothing else of its entry. -/
def ackIndication (d : Device) : Device :=
  stopUnmarked { d with lgt := { d.lgt with
    sources := { d.lgt.sources with rtm := { d.lgt.sources.rtm with sounding := false } } } }

/-- A mark that quiet hours leave standing: only that of an entry at severity 3 (R144). -/
def SourceEntry.muted (e : SourceEntry) : SourceEntry := { e with sounding := e.sounding && decide (e.severity = 3) }

/-- R144: quiet hours begin; every sounding mark below severity 3 is cleared. -/
def muteForQuiet (d : Device) : Device :=
  let t := d.lgt.sources
  stopUnmarked { d with lgt := { d.lgt with
    sources :=
      { rtm := t.rtm.muted, htr := t.htr.muted, cmp := t.cmp.muted, bgt := t.bgt.muted, chg := t.chg.muted, sns := t.sns.muted } } }

end Sys2Proof.Machine
end

