-- ==== Sys2Proof/Machine/Operands.lean ====
section
/-! DEFINITION. How fields travel in bodies (R188): the widths and codes of numbers, named codes, marks, absent values, sets and
lists, both ways; log 7 says where a width or a code is read from the rule by inference. -/

namespace Sys2Proof.Machine

/-! ## Writing fields -/

/-- One byte. -/
def u8 (n : Nat) : List Byte := [BitVec.ofNat 8 n]

/-- Two bytes, least significant first. -/
def u16 (n : Nat) : List Byte := [BitVec.ofNat 8 n, BitVec.ofNat 8 (n / 256)]

/-- Four bytes, least significant first. -/
def u32 (n : Nat) : List Byte :=
  [BitVec.ofNat 8 n, BitVec.ofNat 8 (n / 256), BitVec.ofNat 8 (n / 65536), BitVec.ofNat 8 (n / 16777216)]

/-- A signed number in two bytes, two's complement. -/
def i16 (x : Int) : List Byte := u16 (x % 65536).toNat

/-- A signed number in four bytes, two's complement. -/
def i32 (x : Int) : List Byte := u32 (x % 4294967296).toNat

/-- A yes-or-no, set-or-clear, ON-or-OFF or active-or-inactive field. -/
def mark8 (b : Bool) : List Byte := u8 (if b then 1 else 0)

/-- A number that may be absent, in one byte: all ones for none. -/
def opt8 : Option Nat → List Byte
  | none => u8 0xFF
  | some n => u8 n

/-- A number that may be absent, in two bytes: all ones for none, KEEP or stopped. -/
def opt16 : Option Nat → List Byte
  | none => u16 0xFFFF
  | some n => u16 n

/-- A number that may be absent, in four bytes: all ones for none, unknown, open or stopped. -/
def opt32 : Option Nat → List Byte
  | none => u32 0xFFFFFFFF
  | some n => u32 n

/-- A list of varying length: the number of items, then the items. -/
def counted {α : Type} (item : α → List Byte) (l : List α) : List Byte := u8 l.length ++ l.flatMap item

/-- A set of codes as a two-byte mask. -/
def mask16 (codes : List Nat) : List Byte := u16 (codes.foldl (fun m n => m ||| (1 <<< n)) 0)

/-! ## Reading fields -/

/-- The byte at an offset of a body. -/
def byteAt (b : List Byte) (i : Nat) : Nat := (b.getD i 0).toNat

/-- The unsigned two-byte number at an offset. -/
def wordAt (b : List Byte) (i : Nat) : Nat := byteAt b i + 256 * byteAt b (i + 1)

/-- The unsigned four-byte number at an offset. -/
def longAt (b : List Byte) (i : Nat) : Nat := wordAt b i + 65536 * wordAt b (i + 2)

/-- The signed two-byte number at an offset. -/
def sWordAt (b : List Byte) (i : Nat) : Int :=
  if wordAt b i < 32768 then (wordAt b i : Int) else (wordAt b i : Int) - 65536

/-- The signed four-byte number at an offset. -/
def sLongAt (b : List Byte) (i : Nat) : Int :=
  if longAt b i < 2147483648 then (longAt b i : Int) else (longAt b i : Int) - 4294967296

/-- A yes-or-no byte whose rule refuses no code: what a byte other than 0 and 1 means is free (log 9). -/
def freeFlag (b : Nat) : Bool :=
  match b with
  | 0 => false
  | 1 => true
  | _ => Config.flagOfByte (BitVec.ofNat 8 b)

/-- A value that lies in a range, both ends included. -/
def within (lo hi n : Nat) : Bool := decide (lo ≤ n) && decide (n ≤ hi)

/-- A signed value that lies in a range, both ends included. -/
def withinInt (lo hi x : Int) : Bool := decide (lo ≤ x) && decide (x ≤ hi)

/-! ## Codes: the position in the list where the chapter first names the set (R188) -/

def AnalogChannel.code : AnalogChannel → Nat
  | .batv => 0 | .bati => 1 | .tCab => 2 | .tExch => 3 | .tFridge => 4 | .tBatt => 5

def ChannelStatus.code : ChannelStatus → Nat
  | .notReady => 0 | .ok => 1 | .openCircuit => 2 | .shortCircuit => 3

def ListenerState.code : ListenerState → Nat
  | .off => 0 | .listening => 1 | .silent => 2

def BrakeSource.code : BrakeSource → Nat
  | .bus => 0 | .wired => 1

def FrameFormat.code : FrameFormat → Nat
  | .standard => 0 | .extended => 1

def SlotStatus.code : SlotStatus → Nat
  | .empty => 0 | .fresh => 1 | .stale => 2

def Signal.code : Signal → Nat
  | .roadSpeed => 0 | .engineRunning => 1 | .ignition => 2 | .parkingBrake => 3 | .ambientTemp => 4 | .fuelLow => 5

def SignalStatus.code : SignalStatus → Nat
  | .never => 0 | .fresh => 1 | .stale => 2 | .notAvailable => 3 | .outOfRange => 4

def Undervoltage.code : Undervoltage → Nat
  | .normal => 0 | .low => 1 | .critical => 2

def ChargeCause.code : ChargeCause → Nat
  | .set => 0 | .capacity => 1 | .grade => 2 | .full => 3

def Load.code : Load → Nat
  | .base => 0 | .heater => 1 | .compressor => 2 | .lights => 3 | .outlet => 4 | .warning => 5

def Policy.code : Policy → Nat
  | .exempt => 0 | .critical => 1 | .unknownNormal => 2 | .unknownLow => 3 | .knownNormal => 4 | .knownLow => 5

def AllowanceState.code : AllowanceState → Nat
  | .free => 0 | .held _ => 1 | .settling => 2

/-- The holder of the allowance, or none. -/
def AllowanceState.holder : AllowanceState → Option Load
  | .held l => some l
  | _ => none

def OutletState.code : OutletState → Nat
  | .off => 0 | .waitGrant => 1 | .waitToken => 2 | .closing => 3 | .on => 4 | .denied => 5

def HeaterState.code : HeaterState → Nat
  | .off => 0 | .waitInrush => 1 | .glow => 2 | .ignite => 3 | .ramp => 4 | .run => 5 | .purge => 6 | .cooldown => 7
  | .paused => 8 | .lockout => 9

/-- The refusal reasons keep the codes of R186. -/
def Reason.code : Reason → Nat
  | .sensor => 1 | .overheat => 2 | .locked => 3 | .blowerTurning => 4 | .undervoltage => 5 | .noBudget => 6 | .fuelLow => 7
  | .inrush => 8

def CooldownCause.code : CooldownCause → Nat
  | .stop => 0 | .pause => 1 | .fuelLow => 2 | .overheat => 3 | .sensor => 4 | .restart => 5

/-- HEATER_STATE's cause: a refusal reason keeps its code, a stop or cooldown cause has its place in R99's list (R188), and the bytes
of FLAME_RELIGHT and of no cause, which stand in no list, are free (log 8). -/
def HeaterCause.field : HeaterCause → List Byte
  | .none => [Config.heaterCauseCode 0]
  | .refusal r => u8 r.code
  | .cooling c => u8 c.code
  | .flameRelight => [Config.heaterCauseCode 1]

def FaultKind.code : FaultKind → Nat
  | .noFlame => 0 | .flameLoss => 1 | .overheatSoft => 2 | .overheatTrip => 3 | .blower => 4 | .cooldownLong => 5 | .sensor => 6

def CompState.code : CompState → Nat
  | .disabled => 0 | .idle => 1 | .offHold => 2 | .waitInrush => 3 | .start => 4 | .run => 5 | .stopping => 6
  | .stallBackoff => 7 | .blocked => 8

def CompMode.code : CompMode → Nat
  | .thermostat => 0 | .timed => 1

def TimedPhase.code : TimedPhase → Nat
  | .demand => 0 | .rest => 1

def FailKind.code : FailKind → Nat
  | .startFail => 0 | .hall => 1 | .stall => 2 | .overcurrent => 3

def CommOrder.code : CommOrder → Nat
  | .a => 0 | .b => 1

def LightGroup.code : LightGroup → Nat
  | .a => 0 | .b => 1 | .none => 2

def ActClass.code : ActClass → Nat
  | .drive => 0 | .work => 1 | .available => 2 | .rest => 3 | .unknown => 4

def Declaration.code : Declaration → Nat
  | .auto => 0 | .work => 1 | .available => 2 | .rest => 3

def WarnState.code : WarnState → Nat
  | .clear => 0 | .active => 1 | .acknowledged => 2

def RestCause.code : RestCause → Nat
  | .cls => 0 | .brk => 1 | .day => 2

def PlanState.code : PlanState → Nat
  | .none => 0 | .armed => 1 | .prewarm => 2 | .ended => 3

def WakeSource.code : WakeSource → Nat
  | .hostTime => 0 | .restComplete => 1

/-- The last pre-warm result: none and TAKEN have their places in chapter 9's list, a refusal reason keeps its code (R188, log 8). -/
def PrewarmResult.field : PrewarmResult → List Byte
  | .none => u8 0
  | .taken => u8 1
  | .refused r => u8 r.code

def PlanCause.code : PlanCause → Nat
  | .set => 0 | .cancel => 1 | .wakeMoved => 2 | .prewarm => 3 | .prewarmFailed => 4 | .wake => 5 | .quiet => 6

/-- The heat level, none (all ones) outside RAMP and RUN. -/
def levelField (d : Device) : List Byte := opt8 (if d.htr.level = 0 then none else some d.htr.level)

/-! ## Times in bodies -/

/-- An uptime followed, while the clock is SET, by the wall time it stands for (R167, R168, R181). -/
def timeField (d : Device) (uptime : Nat) : List Byte :=
  u32 uptime ++ if d.sns.clockSet then u32 (wallOf d uptime) else []

/-- An uptime that may be absent, followed while the clock is SET by its wall time, absent alike. -/
def optTimeField (d : Device) (uptime : Option Nat) : List Byte :=
  opt32 uptime ++ if d.sns.clockSet then opt32 (uptime.map (wallOf d)) else []

/-- The milliseconds a running timer still has, or stopped. -/
def remaining (d : Device) (timer : Option Nat) : Option Nat := timer.map fun t => t - d.sns.ms

end Sys2Proof.Machine
end

