-- ==== Sys2Proof/Machine/Link.lean ====
section
/-! DEFINITION. The Host Link (chapter 10): the receiver (R184), the receive queue and the answering of the request in hand (R185,
R186, R189), the transmitter's frames (R190), the notice table's removals (R192), the link state (R193) and LNK's own requests
(R194, R195). Log 5 says how a request command stands to the receive queue. -/

namespace Sys2Proof.Machine

/-! ## Replies (R186, R189) -/

/-- The result codes of R186. -/
inductive Result where
  | ok
  | busy
  | refused (reason : Reason)
  | badLength
  | badValue
  | unknownKind
  | noClock
  | staleOccurrence
  | protectedItem
  | locked
  deriving DecidableEq, Repr

/-- The result byte, and after REFUSED the reason byte (R186). -/
def Result.bytes : Result → List Byte
  | .ok => [0x00]
  | .busy => [0x01]
  | .refused r => 0x02 :: u8 r.code
  | .badLength => [0x03]
  | .badValue => [0x04]
  | .unknownKind => [0x05]
  | .noClock => [0x06]
  | .staleOccurrence => [0x07]
  | .protectedItem => [0x08]
  | .locked => [0x09]

/-- What an owner makes of a request: the device after it, the result and the contents that follow. -/
structure Answered where
  dev : Device
  result : Result
  contents : List Byte
  deriving DecidableEq, Repr

/-- A refused request changes nothing, and its reply ends after the result or the reason (R186). -/
def refuse (r : Result) (d : Device) : Answered := { dev := d, result := r, contents := [] }

/-- A request taken with OK, its reply carrying the given contents. -/
def taken (d : Device) (contents : List Byte) : Answered := { dev := d, result := .ok, contents := contents }

/-- A request whose body must be empty, and which changes nothing (the read requests). -/
def readOnly (contents : Device → List Byte) (body : List Byte) (d : Device) : Answered :=
  if body = [] then taken d (contents d) else refuse .badLength d

/-- R189: the bodies of a run, each the result code and up to 59 further bytes; a body of 60 bytes is followed by another.
`fuel` bounds the recursion and is never reached with `contents.length + 1`. -/
def runBodies (code : Byte) : Nat → List Byte → List (List Byte)
  | 0, _ => []
  | fuel + 1, contents =>
    if contents.length < 59 then [code :: contents]
    else (code :: contents.take 59) :: runBodies code fuel (contents.drop 59)

/-- R186, R189: the frames of a reply. A REFUSED reply's reason byte counts among the bytes after the result code. -/
def replyFrames (kind tag : Byte) (r : Result) (contents : List Byte) : List Frame :=
  let bytes := r.bytes ++ contents
  (runBodies (bytes.headD 0) (bytes.length + 1) bytes.tail).map fun b => { kind := kind, tag := tag, body := b }

/-! ## The transmitter (R190) -/

/-- The milliseconds a frame takes on the link: its body and five more bytes, ten bits each at 115,200 bit/s, rounded up. -/
def frameMs (f : Frame) : Nat := ceilDiv ((f.body.length + 5) * 10000) 115200

/-- R190: the next frame of the reply that is ready begins to be sent, while the transmitter is idle. -/
def sendReply (d : Device) : Device :=
  match d.lnk.tx, d.lnk.out with
  | .idle, some run =>
    match run.rest with
    | [] => d
    | f :: rest =>
      { d with lnk := { d.lnk with
          tx := .reply f
          out := some { run with rest := rest }
          sendEnd := d.sns.ms + frameMs f } }
  | _, _ => d

/-! ## The receive queue (R184, R185, R193) -/

/-- A valid frame restarts the idle timer, wakes the link, and is appended to the queue unless that holds four (R184, R185). -/
def acceptFrame (f : Frame) (d : Device) : Device :=
  { d with lnk := { d.lnk with
      awake := true
      idle := some (d.sns.ms + d.lnk.idleTime)
      lastFrame := d.sns.ms
      queue := if d.lnk.queue.length < 4 then d.lnk.queue ++ [f] else d.lnk.queue } }

/-- Whether a frame is the request in hand and still unanswered. -/
def inHand (f : Frame) (d : Device) : Bool := decide (d.lnk.queue.head? = some f) && decide (d.lnk.out = none)

/-- The reply to the request in hand is formed from its outcome and is ready to be sent (R185, R186). -/
def putReply (kind tag : Byte) (restart : Bool) (a : Answered) : Device :=
  sendReply { a.dev with lnk := { a.dev.lnk with
    out := some { rest := replyFrames kind tag a.result a.contents, restart := restart && decide (a.result = .ok) } } }

/-- A request command (log 5): its frame is received, unless it already is the request in hand; it is handed to its owner, and
answered, when it is the request in hand, and waits in the queue otherwise. -/
def deliver (f : Frame) (replyKind : Byte) (restart : Bool) (owner : List Byte → Device → Answered) (d : Device) : Device :=
  if inHand f d then putReply replyKind f.tag restart (owner f.body d)
  else
    let d1 := acceptFrame f d
    if d.lnk.queue = [] ∧ d.lnk.out = none then putReply replyKind f.tag restart (owner f.body d1) else d1

/-- A request of a known kind: the reply's KIND is the request's + 0x80 (R186). -/
def serve (kind : Byte) (tag : Byte) (body : List Byte) (owner : List Byte → Device → Answered) (d : Device) : Device :=
  deliver { kind := kind, tag := tag, body := body } (kind + 0x80) false owner d

/-- The request kinds of the code table (R186). -/
def requestKinds : List Byte :=
  [0x01, 0x02, 0x03, 0x04, 0x08, 0x09, 0x0A, 0x0B, 0x0C, 0x0D, 0x10, 0x11, 0x12, 0x13, 0x14, 0x15, 0x16, 0x18, 0x19, 0x1A,
   0x1C, 0x1D, 0x1E, 0x1F, 0x20, 0x21, 0x22, 0x23, 0x24, 0x25, 0x28, 0x29, 0x2A, 0x2B, 0x2C, 0x30, 0x31, 0x32, 0x33, 0x34,
   0x35, 0x38, 0x39, 0x3A, 0x3B, 0x3C]

/-- R186, step 1: a request of a KIND outside the code table. With a KIND of the table this event does not happen. -/
def unknownRequest (kind tag : Byte) (body : List Byte) (d : Device) : Device :=
  if kind ∈ requestKinds then d
  else deliver { kind := kind, tag := tag, body := body } 0xFF false (fun _ d1 => refuse .unknownKind d1) d

/-! ## The receiver (R184) -/

/-- The device with the receiver in a state, its last byte now. -/
def putReceiver (r : Receiver) (d : Device) : Device :=
  { d with lnk := { d.lnk with receiver := r, lastByte := d.sns.ms } }

/-- A byte examined in HUNT. -/
def huntByte (b : Byte) (d : Device) : Device := putReceiver (if b = 0xA5 then .length else .hunt) d

/-- The sum of bytes modulo 256. -/
def byteSum (l : List Byte) : Byte := l.foldl (· + ·) 0

/-- The KIND, TAG and BODY collected by the receiver; the fewest collected bytes are two. -/
def frameOf : List Byte → Frame
  | kind :: tag :: body => { kind := kind, tag := tag, body := body }
  | [kind] => { kind := kind, tag := 0, body := [] }
  | [] => { kind := 0, tag := 0, body := [] }

/-- R184: a byte with its stop bit, taken in the present state of the receiver. -/
def takeByte (b : Byte) (d : Device) : Device :=
  match d.lnk.receiver with
  | .hunt => huntByte b d
  | .length => putReceiver (if within 2 62 b.toNat then .frame b.toNat [] else .hunt) d
  | .frame len got =>
    let all := got ++ [b]
    putReceiver (if all.length < len then .frame len all else .check len all) d
  | .check len got =>
    let d1 := putReceiver .hunt d
    if BitVec.ofNat 8 len + byteSum got + b = 0 then acceptFrame (frameOf got) d1 else d1

/-- R184: a byte arrives on RX. -/
def receiveByte (b : Byte) (stopBit : Bool) (d : Device) : Device :=
  if !stopBit then putReceiver .hunt d
  else if d.lnk.receiver ≠ .hunt ∧ d.lnk.lastByte + 20 < d.sns.ms then huntByte b d
  else takeByte b d

/-- R184: a frame in progress is discarded. -/
def discardFrame (why : DiscardReason) (d : Device) : Device :=
  match why with
  | .lateByte b => huntByte b d
  | .lenOutOfRange => putReceiver .hunt d
  | .badCheck => putReceiver .hunt d
  | .noStopBit => putReceiver .hunt d

/-! ## The notice table's removals (R192) -/

/-- An entry of a kind removed from the table, its owner's causes emptied. -/
def removeNotice (k : NoticeKind) (d : Device) : Device :=
  emptyCauses k { d with lnk := { d.lnk with notices := d.lnk.notices.filter fun n => decide (n.kind ≠ k) } }

/-- R192: the entries of disabled kinds removed, their owners' causes emptied. -/
def removeDisabled (d : Device) : Device :=
  (d.lnk.notices.filter fun n => !noticeEnabled d n.kind).foldl (fun acc n => removeNotice n.kind acc) d

/-- R196, stage 2: the table emptied, each owner of a removed entry emptying its causes. -/
def removeAll (d : Device) : Device := d.lnk.notices.foldl (fun acc n => removeNotice n.kind acc) d

/-! ## The idle timer (R193) -/

/-- The idle timer expires: the link goes DROWSY. -/
def goDrowsy (d : Device) : Device := { d with lnk := { d.lnk with awake := false, idle := none } }

/-! ## LNK's own requests (R194, R195) -/

/-- R194: the contents of IDENTIFY. -/
def identifyContents (d : Device) : List Byte :=
  u16 0x0410 ++ u32 d.factory.revision ++ u8 1 ++ u16 d.factory.raw10 ++ u16 d.factory.raw30 ++ u16 d.factory.raw0 ++
    u16 d.factory.raw50

/-- The clock state's code: UNSET 0, SET 1 (R19). -/
def clockField (d : Device) : List Byte := mark8 d.sns.clockSet

/-- The present wall time, while the clock is SET (R19). -/
def wallField (d : Device) : List Byte := if d.sns.clockSet then u32 (wallOf d d.sns.uptime) else []

/-- R194: the contents of GET_STATUS. -/
def statusContents (d : Device) : List Byte :=
  u32 d.sns.uptime ++ clockField d ++ wallField d ++
    u8 (if d.lnk.awake then 0 else 1) ++ counted (fun n : Notice => u8 n.kind.number) d.lnk.notices ++
    u8 d.vbl.listener.code ++
    mark8 d.chg.known ++ u16 d.chg.soc ++ u8 d.chg.uv.code ++
    u8 d.bgt.last.stage ++ mark8 d.bgt.last.short ++ u8 d.bgt.outlet.state.code ++
    u8 d.htr.state.code ++ levelField d ++
    u8 d.cmp.state.code ++ u8 d.cmp.commanded ++
    u8 d.rtm.current.cls.code ++
    u8 d.npl.state.code ++ mark8 d.npl.quiet ++
    u8 (displayed d.lgt.sources)

/-- R195: the settings LINK_CONFIG's reply carries. -/
def linkSettings (d : Device) : List Byte := u16 d.lnk.enables.toNat ++ u16 d.lnk.idleTime

/-- R195: LINK_CONFIG. -/
def linkConfigRequest (body : List Byte) (d : Device) : Answered :=
  if body.length ≠ 4 then refuse .badLength d
  else
    let mask := BitVec.ofNat 16 (wordAt body 0)
    let idle := wordAt body 2
    if mask.getLsbD 0 || mask.getLsbD 15 || !within 1000 60000 idle then refuse .badValue d
    else
      let d1 : Device := { d with lnk := { d.lnk with enables := mask, idleTime := idle, idle := some (d.sns.ms + idle) } }
      let d2 := removeDisabled d1
      taken d2 (linkSettings d2)

/-! ## The commands -/

/-- FRAME_RECEIVED (R184, R185). -/
def execFrameReceived (kind tag : Byte) (body : List Byte) (s : State) : Host.Outcome State Fault Refusal :=
  running s (acceptFrame { kind := kind, tag := tag, body := body })

/-- FRAME_DISCARDED (R184). -/
def execFrameDiscarded (why : DiscardReason) (s : State) : Host.Outcome State Fault Refusal := running s (discardFrame why)

/-- BYTE_RECEIVED (R184). -/
def execByteReceived (byte : Byte) (stopBit : Bool) (s : State) : Host.Outcome State Fault Refusal :=
  running s (receiveByte byte stopBit)

/-- UNKNOWN_KIND (R186). -/
def execUnknownKind (kind tag : Byte) (body : List Byte) (s : State) : Host.Outcome State Fault Refusal :=
  running s (unknownRequest kind tag body)

/-- IDLE_TIMER_EXPIRY (R193). -/
def execIdleTimerExpiry (s : State) : Host.Outcome State Fault Refusal := running s fun d => atTimer d.lnk.idle goDrowsy d

/-- IDENTIFY (R194). -/
def execIdentify (tag : Byte) (body : List Byte) (s : State) : Host.Outcome State Fault Refusal :=
  running s (serve 0x01 tag body (readOnly identifyContents))

/-- RESTART (R196). The reply's end brings the RESTART about. -/
def execRestart (tag : Byte) (body : List Byte) (s : State) : Host.Outcome State Fault Refusal :=
  running s (deliver { kind := 0x02, tag := tag, body := body } 0x82 true (readOnly fun _ => []))

/-- GET_STATUS (R194). -/
def execGetStatus (tag : Byte) (body : List Byte) (s : State) : Host.Outcome State Fault Refusal :=
  running s (serve 0x03 tag body (readOnly statusContents))

/-- LINK_CONFIG (R195). -/
def execLinkConfig (tag : Byte) (body : List Byte) (s : State) : Host.Outcome State Fault Refusal :=
  running s (serve 0x04 tag body linkConfigRequest)

end Sys2Proof.Machine
end

