-- ==== Sys2Proof/Machine/Lights.lean ====
section
/-! DEFINITION. The Light Controller (chapter 7): fades, caps and the LIGHTS entry, the lights' requests, the bunk panel and the
courtesy light, the lamp PWM, and the blink and beat timers. -/

namespace Sys2Proof.Machine

/-! ## Fades (R129, R134) -/

/-- R129: the present level of a channel at `ms`, truncated toward the fade's start level. -/
def LightChannel.present (c : LightChannel) (ms : Nat) : Nat :=
  let elapsed := ms - c.fadeAt
  if !c.fading || decide (c.fadeMs ≤ elapsed) then c.target
  else if c.fadeFrom ≤ c.target then c.fadeFrom + (c.target - c.fadeFrom) * elapsed / c.fadeMs
  else c.fadeFrom - (c.fadeFrom - c.target) * elapsed / c.fadeMs

/-- R134: a channel whose fade has ended; at target 0 both marks are cleared. -/
def LightChannel.ended (c : LightChannel) : LightChannel :=
  if c.target = 0 then { c with fading := false, hold := false, courtesy := false } else { c with fading := false }

/-- A channel with a fade that has run out by `ms` ended. -/
def LightChannel.settled (c : LightChannel) (ms : Nat) : LightChannel :=
  if c.fading && decide (c.fadeAt + c.fadeMs ≤ ms) then c.ended else c

/-- R129: a new fade toward a target, from wherever the channel is at `ms`. -/
def LightChannel.fadeTo (c : LightChannel) (target duration ms : Nat) : LightChannel :=
  let from' := c.present ms
  let c1 := { c with target := target, fadeFrom := from', fadeAt := ms, fadeMs := duration, fading := true }
  if duration = 0 ∨ from' = target then c1.ended else c1

/-- R134: a target set by a request, a scene, a detent or a toggle: the courtesy-lit mark is cleared and manual hold set. -/
def LightChannel.setByHand (c : LightChannel) (target duration ms : Nat) : LightChannel :=
  { c with hold := true, courtesy := false }.fadeTo target duration ms

/-- R140: a courtesy-lit channel without manual hold is put out. -/
def LightChannel.putOut (c : LightChannel) (duration ms : Nat) : LightChannel :=
  if c.courtesy && !c.hold then c.fadeTo 0 duration ms else c

/-- The device with new channel records. -/
def putChannels (l : List LightChannel) (d : Device) : Device := { d with lgt := { d.lgt with channels := l } }

/-- Every fade that has run out is ended. -/
def settleLights (d : Device) : Device := putChannels (d.lgt.channels.map fun c => c.settled d.sns.ms) d

/-- The targets of CH0 to CH6. -/
def targetsOf (d : Device) : List Nat := d.lgt.channels.map (·.target)

/-- The record of a channel; no request reaches a channel that is not there. -/
def channelOf (d : Device) (n : Nat) : LightChannel := d.lgt.channels.getD n darkChannel

/-- The settings of a channel. -/
def settingOf (d : Device) (n : Nat) : ChannelSetting := d.lgt.chSettings.getD n { group := .none, essential := false }

/-! ## The cap and the LIGHTS entry (R131, R132) -/

/-- The table of section 7.2. -/
def capOf (step : Nat) (essential : Bool) : Nat :=
  match essential, step with
  | true, 0 => 200
  | true, _ => 1000
  | false, 0 => 0
  | false, 1 => 300
  | false, 2 => 600
  | false, _ => 1000

/-- R132: the lowest step that admits a target. -/
def neededStep (essential : Bool) (target : Nat) : Nat :=
  if target ≤ capOf 0 essential then 0
  else if target ≤ capOf 1 essential then 1
  else if target ≤ capOf 2 essential then 2
  else 3

/-- R132: the requested step, the highest of the seven channels' steps. -/
def lightsNeeded (d : Device) : Nat :=
  (List.zipWith (fun (c : LightChannel) (t : ChannelSetting) => neededStep t.essential c.target) d.lgt.channels
    d.lgt.chSettings).foldl max 0

/-- R131: a channel under an old and a new cap: one held below its present level by a lower old cap fades from it to its target;
where the old cap is the target, that fade is over at once (R134). -/
def LightChannel.recapped (c : LightChannel) (old new ms : Nat) : LightChannel :=
  if old < new ∧ old < c.present ms then
    let c1 := { c with fadeFrom := old, fadeAt := ms, fadeMs := 1000, fading := true }
    if old = c.target then c1.ended else c1
  else c

/-- R131: the cap step worked out afresh, `was` being the channel settings the old caps came from. A changed essential flag and the
change of the cap step that it brings are one change of the cap, from the first to the last (log 47, DESIGN CHOICE). -/
def recap (was : List ChannelSetting) (d : Device) : Device :=
  let e := entryOf d .lights
  let step := min e.requested e.granted
  let caps := List.zipWith (fun (o n : ChannelSetting) => (capOf d.lgt.capStep o.essential, capOf step n.essential)) was
    d.lgt.chSettings
  let channels := List.zipWith (fun (c : LightChannel) (p : Nat × Nat) => c.recapped p.1 p.2 d.sns.ms) d.lgt.channels caps
  let d1 : Device := { d with lgt := { d.lgt with channels := channels, capStep := step } }
  if step = d.lgt.capStep then d1 else post .lightState d1

/-- R55, R131: LGT takes a grant handed to it. -/
def lightsGrant (d : Device) : Device := recap d.lgt.chSettings (settleLights d)

/-- R132, R131: the requested step worked out afresh and written if it differs; then the caps. -/
def refreshLights (was : List ChannelSetting) (d : Device) : Device :=
  let need := lightsNeeded d
  if need = d.lgt.written then recap was d
  else recap was (writeEntry .lights need 0 { d with lgt := { d.lgt with written := need } })

/-- LIGHT_STATE posted if a target differs from those before (R137, R139, R140, R146), beside the posting of a cap step that has changed
(log 40, DESIGN CHOICE). -/
def postIfMoved (before : List Nat) (d : Device) : Device := if targetsOf d = before then d else post .lightState d

/-! ## Setting the lights (R133 to R136) -/

/-- The indices of a group's members. -/
def membersOf (g : LightGroup) (d : Device) : List Nat :=
  (List.range 7).filter fun n => decide ((settingOf d n).group = g)

/-- A target set by hand on the channels listed, with one requested step for all of them (R133). -/
def setByHand (which : List Nat) (target fade : Nat) (d : Device) : Device :=
  let d1 := settleLights d
  let d2 := which.foldl
    (fun (a : Device) n => putChannels (a.lgt.channels.set n ((channelOf a n).setByHand target fade a.sns.ms)) a) d1
  refreshLights d2.lgt.chSettings d2

/-- R133: the cap step, and the applied level that the cap allows each channel concerned: its new target within the cap, also while the
fade to it has only begun (log 49, DESIGN CHOICE); one level for each, with no count before them (R188; log 7, DEDUCED). -/
def lightReply (which : List Nat) (level : Nat) (d : Device) : List Byte :=
  u8 d.lgt.capStep ++ which.flatMap fun n => u16 (min level (capOf d.lgt.capStep (settingOf d n).essential))

/-- R133: LIGHT_SET. -/
def lightSetRequest (b : List Byte) (d : Device) : Answered :=
  if b.length ≠ 5 then refuse .badLength d
  else
    let channel := byteAt b 0
    let level := wordAt b 1
    let fade := wordAt b 3
    if 7 < channel ∨ 1000 < level ∨ 10000 < fade then refuse .badValue d
    else if channel = 7 then refuse .protectedItem d
    else
      let d1 := setByHand [channel] level fade d
      taken d1 (lightReply [channel] level d1)

/-- R133: LIGHT_GROUP, whose group code is 0 for A and 1 for B. -/
def lightGroupRequest (b : List Byte) (d : Device) : Answered :=
  if b.length ≠ 5 then refuse .badLength d
  else
    let level := wordAt b 1
    let fade := wordAt b 3
    if 1 < byteAt b 0 ∨ 1000 < level ∨ 10000 < fade then refuse .badValue d
    else
      let members := membersOf (if byteAt b 0 = 0 then .a else .b) d
      if members = [] then taken d (lightReply [] level d)
      else
        let d1 := setByHand members level fade d
        taken d1 (lightReply members level d1)

/-- The entry of a scene in a body: a level, or KEEP as all ones. -/
def sceneEntry (w : Nat) : Option Nat := if w = 0xFFFF then none else some w

/-- R135: SCENE_SET. -/
def sceneSetRequest (b : List Byte) (d : Device) : Answered :=
  if b.length ≠ 17 then refuse .badLength d
  else
    let scene := byteAt b 0
    let levels := (List.range 7).map fun n => sceneEntry (wordAt b (1 + 2 * n))
    let fade := wordAt b 15
    if 5 < scene ∨ (levels.any fun l => decide (1000 < l.getD 0)) ∨ 10000 < fade then refuse .badValue d
    else if scene = 0 then refuse .protectedItem d
    else
      let record : Scene := { levels := levels, fade := fade }
      taken { d with lgt := { d.lgt with scenes := d.lgt.scenes.set scene record } } []

/-- R136: every channel whose entry is a level receives it with the given fade. -/
def applyScene (levels : List (Option Nat)) (fade : Nat) (d : Device) : Device :=
  let d1 := settleLights d
  let channels := List.zipWith
    (fun (c : LightChannel) (l : Option Nat) => match l with
      | none => c
      | some level => c.setByHand level fade d1.sns.ms)
    d1.lgt.channels levels
  refreshLights d1.lgt.chSettings (putChannels channels d1)

/-- The scene of that number. -/
def sceneOf (d : Device) (n : Nat) : Scene := d.lgt.scenes.getD n { levels := List.replicate 7 none, fade := 0 }

/-- R136: a scene recalled. -/
def recallScene (n : Nat) (d : Device) : Device := applyScene (sceneOf d n).levels (sceneOf d n).fade d

/-- R136: SCENE_RECALL. -/
def sceneRecallRequest (b : List Byte) (d : Device) : Answered :=
  if b.length ≠ 1 then refuse .badLength d
  else if 5 < byteAt b 0 then refuse .badValue d
  else taken (recallScene (byteAt b 0) d) []

/-- R136, R177: the Night Plan's recall of scene 5, which posts LIGHT_STATE, beside the posting of a cap step that it changes (log 40,
DESIGN CHOICE). -/
def recallWakeScene (d : Device) : Device := post .lightState (recallScene 5 d)

/-! ## The bunk panel and the courtesy light (R137 to R140) -/

/-- R139: the courtesy timer started from its full length. -/
def startCourtesy (d : Device) : Device :=
  { d with lgt := { d.lgt with courtesyTimer := some (d.sns.ms + 1000 * d.lgt.settings.courtesyTime) } }

/-- A change of the dial group's members, worked out from each member's record, with one requested step for all. -/
def changeDialGroup (f : LightChannel → LightChannel) (d : Device) : Device :=
  let d1 := settleLights d
  let channels := List.zipWith
    (fun (c : LightChannel) (t : ChannelSetting) => if t.group = d1.lgt.settings.dialGroup then f c else c)
    d1.lgt.channels d1.lgt.chSettings
  refreshLights d1.lgt.chSettings (putChannels channels d1)

/-- R137: a target moved by a detent. -/
def detentTarget (dir : DialDir) (multiplier target : Nat) : Nat :=
  match dir with
  | .plus => min 1000 (target + 25 * multiplier)
  | .minus => target - 25 * multiplier

/-- R137: a detent with its multiplier reaches LGT. A member that keeps its target starts the 150 ms fade afresh from its present level
(log 41, DESIGN CHOICE). -/
def lightsDetent (dir : DialDir) (multiplier : Nat) (d : Device) : Device :=
  let before := targetsOf d
  startCourtesy (postIfMoved before
    (changeDialGroup (fun c => c.setByHand (detentTarget dir multiplier c.target) 150 d.sns.ms) d))

/-- Whether a member of the dial target group has a target above 0. -/
def dialGroupLit (d : Device) : Bool :=
  (membersOf d.lgt.settings.dialGroup d).any fun n => decide (0 < (channelOf d n).target)

/-- R138: a press of the dial. -/
def dialPress (d : Device) : Device :=
  let toggled :=
    if dialGroupLit d then
      changeDialGroup (fun c => { c with saved := some c.target }.setByHand 0 400 d.sns.ms) d
    else changeDialGroup (fun c => c.setByHand (c.saved.getD 500) 400 d.sns.ms) d
  startCourtesy (post .lightState toggled)

/-- R138, R139: an input event from DIN4. -/
def dialPushEvent (rising : Bool) (d : Device) : Device := if rising then dialPress d else startCourtesy d

/-- R139: the courtesy channel. -/
def courtesyChannel (d : Device) : Nat := if d.npl.quiet then 6 else 3

/-- R139: a door-open event. -/
def doorOpen (d : Device) : Device :=
  let d1 := startCourtesy (settleLights d)
  let n := courtesyChannel d1
  if (channelOf d1 n).hold then d1
  else
    let level := if d1.npl.quiet then d1.lgt.settings.nightLevel else d1.lgt.settings.courtesyLevel
    let c := { (channelOf d1 n).fadeTo level 500 d1.sns.ms with courtesy := true }
    post .lightState (refreshLights d1.lgt.chSettings (putChannels (d1.lgt.channels.set n c) d1))

/-- R139: an input event from DIN0. -/
def doorEvent (rising : Bool) (d : Device) : Device := if rising then doorOpen d else d

/-- R140: every courtesy-lit channel without manual hold is put out, and LIGHT_STATE posted if a target changed. -/
def putOutCourtesy (fade : Nat) (d : Device) : Device :=
  let d1 := settleLights d
  let d2 := putChannels (d1.lgt.channels.map fun c => c.putOut fade d1.sns.ms) d1
  postIfMoved (targetsOf d1) (refreshLights d2.lgt.chSettings d2)

/-- R140: the courtesy timer expires. -/
def courtesyExpiry (d : Device) : Device :=
  putOutCourtesy 5000 { d with lgt := { d.lgt with courtesyTimer := none } }

/-- R140: IGNITION has become FRESH and 1. -/
def lightsIgnitionOn (d : Device) : Device := putOutCourtesy 0 { d with lgt := { d.lgt with courtesyTimer := none } }

/-- R129, R134: the end of a channel's fade, taken at its time. -/
def fadeEndsAt (n : Nat) (d : Device) : Device :=
  let c := channelOf d n
  if c.fading then
    let d1 := reach (c.fadeAt + c.fadeMs) d
    putChannels (d1.lgt.channels.set n c.ended) d1
  else d

/-! ## The lamp outputs (R130) -/

/-- R130: the PWM duty of an applied level, out of 65,535, rounded half up. -/
def pwmDuty (applied : Nat) : Nat := (applied * applied * 65535 + 500000) / 1000000

/-- R130: a PWM period begins. -/
def pwmBoundary (d : Device) : Device :=
  let d1 := reach d.sched.nextPwm d
  let channels := List.zipWith
    (fun (c : LightChannel) (t : ChannelSetting) =>
      { c with applied := min (c.present d1.sns.ms) (capOf d1.lgt.capStep t.essential) })
    d1.lgt.channels d1.lgt.chSettings
  { d1 with
    lgt := { d1.lgt with channels := channels, ch7Applied := overlayLevel d1 }
    sched := { d1.sched with nextPwm := d1.sched.nextPwm + 2 } }

/-! ## Settings and reports (R145, R146) -/

/-- A group by its code. -/
def groupOfCode (n : Nat) : LightGroup :=
  match n with
  | 0 => .a
  | 1 => .b
  | _ => .none

/-- R145: LIGHT_CONFIG. -/
def lightConfigRequest (b : List Byte) (d : Device) : Answered :=
  if b.length ≠ 21 then refuse .badLength d
  else
    let time := wordAt b 15
    let level := wordAt b 17
    let night := wordAt b 19
    if ((List.range 7).any fun n => decide (2 < byteAt b n) || decide (1 < byteAt b (7 + n))) ∨ 1 < byteAt b 14 ∨
        !within 10 3600 time ∨ !within 50 1000 level ∨ !within 10 1000 night then
      refuse .badValue d
    else
      let d1 := settleLights d
      let was := d1.lgt.chSettings
      let now : List ChannelSetting := (List.range 7).map fun n =>
        { group := groupOfCode (byteAt b n), essential := decide (byteAt b (7 + n) = 1) }
      let moved := List.zipWith (fun (o n : ChannelSetting) => decide (o.group ≠ n.group)) was now
      let channels := List.zipWith (fun (c : LightChannel) (m : Bool) => if m then { c with saved := none } else c)
        d1.lgt.channels moved
      let settings : LightSettings :=
        { dialGroup := groupOfCode (byteAt b 14), courtesyTime := time, courtesyLevel := level, nightLevel := night }
      taken (refreshLights was
        { d1 with lgt := { d1.lgt with channels := channels, chSettings := now, settings := settings } }) []

/-- The fade time a channel has left. -/
def fadeRemaining (c : LightChannel) (ms : Nat) : Nat := if c.fading then c.fadeAt + c.fadeMs - ms else 0

/-- R146: a channel of CH0 to CH6 in READ_LIGHTS. -/
def channelFields (ms : Nat) (c : LightChannel) : List Byte :=
  u16 c.target ++ u16 (c.present ms) ++ u16 c.applied ++ u32 (fadeRemaining c ms) ++ opt16 c.saved ++ mark8 c.hold ++
    mark8 c.courtesy

/-- R146: the record of CH7, whose target, fade and saved level stay at 0, 0 and none. -/
def ch7Fields (d : Device) : List Byte :=
  u16 0 ++ u16 0 ++ u16 d.lgt.ch7Applied ++ u32 0 ++ opt16 none ++ mark8 false ++ mark8 false

/-- R146: the contents of READ_LIGHTS. The courtesy timer's time remaining is sent in ms (log 7, DEDUCED). -/
def lightsContents (d0 : Device) : List Byte :=
  let d := settleLights d0
  (d.lgt.channels.flatMap (channelFields d.sns.ms)) ++ ch7Fields d ++
    (d.lgt.chSettings.flatMap fun t => u8 t.group.code) ++ (d.lgt.chSettings.flatMap fun t => mark8 t.essential) ++
    u8 d.lgt.settings.dialGroup.code ++ u16 d.lgt.settings.courtesyTime ++ u16 d.lgt.settings.courtesyLevel ++
    u16 d.lgt.settings.nightLevel ++
    u8 (entryOf d .lights).requested ++ u8 (entryOf d .lights).granted ++ u8 d.lgt.capStep ++
    opt32 (remaining d d.lgt.courtesyTimer) ++ mark8 d.npl.quiet ++
    (allSources.flatMap fun g =>
      u8 (d.lgt.sources.get g).severity ++ u16 (d.lgt.sources.get g).occurrence ++ mark8 (d.lgt.sources.get g).sounding) ++
    u8 (displayed d.lgt.sources) ++ u8 (if d.lgt.buzzer.burst then 1 else 0) ++ u32 d.lgt.buzzer.remaining

/-- R146: the body of LIGHT_STATE after the merge count. -/
def lightStateBody (d0 : Device) : List Byte :=
  let d := settleLights d0
  (d.lgt.channels.flatMap fun c => u16 c.target ++ u16 c.applied ++ mark8 c.hold ++ mark8 c.courtesy) ++
    u16 0 ++ u16 d.lgt.ch7Applied ++ mark8 false ++ mark8 false ++
    u8 d.lgt.capStep ++ u8 (displayed d.lgt.sources)

/-! ## RESTART (R148) -/

/-- R148: the Light Controller through a RESTART. -/
def restartLights (d0 : Device) : Device :=
  let d := settleLights d0
  let was := d.lgt.chSettings
  let before := targetsOf d
  let dark := d.lgt.channels.map fun c =>
    { c with saved := none, courtesy := false, hold := true }.fadeTo 0 0 d.sns.ms
  let d1 : Device := { d with lgt := { d.lgt with
      channels := dark
      chSettings := defaultChSettings
      scenes := defaultScenes
      settings := defaultLightSettings
      courtesyTimer := none } }
  let d2 := refreshLights was d1
  if d2.lgt.capStep = d.lgt.capStep then postIfMoved before d2 else d2

/-! ## The commands -/

/-- LIGHT_SET (R133). -/
def execLightSet (tag : Byte) (body : List Byte) (s : State) : Host.Outcome State Fault Refusal :=
  running s (serve 0x30 tag body lightSetRequest)

/-- LIGHT_GROUP (R133). -/
def execLightGroup (tag : Byte) (body : List Byte) (s : State) : Host.Outcome State Fault Refusal :=
  running s (serve 0x31 tag body lightGroupRequest)

/-- SCENE_SET (R135). -/
def execSceneSet (tag : Byte) (body : List Byte) (s : State) : Host.Outcome State Fault Refusal :=
  running s (serve 0x32 tag body sceneSetRequest)

/-- SCENE_RECALL (R136). -/
def execSceneRecall (tag : Byte) (body : List Byte) (s : State) : Host.Outcome State Fault Refusal :=
  running s (serve 0x33 tag body sceneRecallRequest)

/-- LIGHT_CONFIG (R145). -/
def execLightConfig (tag : Byte) (body : List Byte) (s : State) : Host.Outcome State Fault Refusal :=
  running s (serve 0x34 tag body lightConfigRequest)

/-- READ_LIGHTS (R146). -/
def execReadLights (tag : Byte) (body : List Byte) (s : State) : Host.Outcome State Fault Refusal :=
  running s (serve 0x35 tag body (readOnly lightsContents))

/-- COURTESY_TIMER_EXPIRY (R140). -/
def execCourtesyTimerExpiry (s : State) : Host.Outcome State Fault Refusal :=
  running s fun d => atTimer d.lgt.courtesyTimer courtesyExpiry d

/-- FADE_END (R134). -/
def execFadeEnd (channel : Fin 7) (s : State) : Host.Outcome State Fault Refusal := running s (fadeEndsAt channel)

/-- CH7_PATTERN_PHASE (R142). -/
def execCh7PatternPhase (s : State) : Host.Outcome State Fault Refusal := running s patternPhase

/-- BUZZER_BEAT_PHASE (R143). -/
def execBuzzerBeatPhase (s : State) : Host.Outcome State Fault Refusal := running s beatPhase

/-- LAMP_PWM_BOUNDARY (R130). -/
def execLampPwmBoundary (s : State) : Host.Outcome State Fault Refusal := running s pwmBoundary

end Sys2Proof.Machine
end

