-- ==== Sys2Proof/Machine/Heater.lean ====
section
/-! DEFINITION. The Heater Sequencer (chapter 5): the combustion sequence, regulation and caps, overheat and blower supervision,
stopping and cooldown, lockout, faults and reports. A timer's command acts at the timer's own time (log 2). -/

namespace Sys2Proof.Machine

/-! ## Reading what the heater acts on -/

/-- The device with a new heater record. -/
def putHtr (h : Heater) (d : Device) : Device := { d with htr := h }

/-- The device with new heater timers. -/
def putHtrTimers (t : HeaterTimers) (d : Device) : Device := { d with htr := { d.htr with timers := t } }

/-- R82: the maximum allowed level. -/
def maxAllowed (d : Device) : Nat :=
  if d.npl.quiet then min d.htr.limits.hostMax d.htr.limits.quietMax else d.htr.limits.hostMax

/-- e = setpoint − T_CAB, absent while T_CAB's status is not OK (R82, R92). -/
def cabError (d : Device) : Option Int :=
  if d.sns.analog.tCab.status = .ok then some (d.htr.setpoint - d.sns.analog.tCab.value) else none

/-- R82: the wished level of the start rule. -/
def startWish (d : Device) : Nat :=
  let w := match cabError d with
    | none => d.htr.limits.fallback
    | some e => if 30 ≤ e then maxAllowed d else if 10 ≤ e then 2 else 1
  min w (maxAllowed d)

/-- R90, R92: the wished level in RUN. -/
def runWish (d : Device) : Nat :=
  match cabError d with
  | none => min d.htr.limits.fallback (maxAllowed d)
  | some e =>
    if 30 ≤ e then maxAllowed d
    else if 10 ≤ e then min (d.htr.level + 1) (maxAllowed d)
    else if -9 ≤ e then d.htr.level
    else max 1 (d.htr.level - 1)

/-- The record of a heat level. -/
def heatLevel (d : Device) (n : Nat) : HeatLevel :=
  d.htr.table.getD (n - 1) { interval := 0, duty := 0, minRpm := 0, current := 0 }

/-- R13, R78: the FUEL and GLOW gates are free of DIN5's raw level and of the overheat latch. -/
def gatesFree (d : Device) : Bool := !rawOf d 5 && !d.htr.latch

/-- R78: the GLOW output as the plug receives it. -/
def glowGate (d : Device) : Bool := d.htr.glowSince.isSome && holds d .heater && gatesFree d

/-- R97: the blower speed, 0 after 2,000 ms without a pulse. -/
def rpmNow (d : Device) : Nat :=
  match d.htr.blower.lastTach with
  | none => d.htr.blower.rpm
  | some t => if d.sns.ms < t + 2000 then d.htr.blower.rpm else 0

/-! ## Faults (R102) -/

/-- R102, R176: a posting of HTR to its own indication entry clears the pre-warm indication mark. -/
def heaterIndication (severity : Nat) (newOccurrence : Bool) (d : Device) : Device :=
  let d1 := postIndication .htr severity newOccurrence d
  { d1 with npl := { d1.npl with prewarmMark := false } }

/-- R102: a fault's severity. -/
def FaultKind.severity : FaultKind → Nat
  | .overheatSoft => 3
  | .overheatTrip => 3
  | _ => 2

/-- R102: a fault recorded, posted and shown. -/
def recordFault (k : FaultKind) (d : Device) : Device :=
  let r : FaultRec :=
    { kind := k, state := d.htr.state, tExch := d.sns.analog.tExch.value, tCab := d.sns.analog.tCab.value,
      voltage := d.sns.analog.batv.value, uptime := d.sns.uptime }
  let all := d.htr.faults ++ [r]
  let d1 := putHtr { d.htr with faults := if 8 < all.length then all.drop 1 else all } d
  heaterIndication (max k.severity d.lgt.sources.htr.severity) true (post .heaterFault d1)

/-! ## The heat level table in the Load Table (R76, R53) -/

/-- R76: a heat level table taken, its currents copied into HEATER's step list. -/
def putHeatTable (table : List HeatLevel) (d : Device) : Device :=
  { d with
    htr := { d.htr with table := table, marks := { d.htr.marks with tableDefault := false } }
    bgt := { d.bgt with table := { d.bgt.table with heater := { d.bgt.table.heater with steps := heaterSteps table } } } }

/-- R105: a pending return of the table to its defaults. -/
def applyTableDefault (d : Device) : Device := if d.htr.marks.tableDefault then putHeatTable defaultHeatTable d else d

/-! ## Entering states (R78, R79) -/

/-- R79: what the heater asks for in a state: its requested step and its floor step. -/
def heaterAsk (st : HeaterState) (wished : Nat) : Nat × Nat :=
  match st with
  | .off | .paused | .lockout => (0, 0)
  | .waitInrush | .glow | .ignite | .ramp | .run => (wished, 1)
  | .purge | .cooldown => (1, 1)

/-- R79: the heater writes its entry for its state. -/
def writeHeater (d : Device) : Device :=
  let ask := heaterAsk d.htr.state d.htr.wished
  writeEntry .heater ask.1 ask.2 d

/-- The blower commanded to a duty at `ms`; it notes when the duty rose above 0 (R97). -/
def Blower.command (b : Blower) (duty ms : Nat) : Blower :=
  { b with duty := duty, dutySince := if b.duty = 0 ∧ 0 < duty then ms else b.dutySince }

/-- R78: the blower duty of a state, with the level in force there. -/
def dutyOf (d : Device) (st : HeaterState) : Nat :=
  match st with
  | .off | .waitInrush | .paused | .lockout => 0
  | .glow | .ignite => d.htr.seq.ignDuty
  | .ramp | .run => (heatLevel d d.htr.level).duty
  | .purge => if d.htr.marks.forcedPurge then 1000 else d.htr.seq.purgeDuty
  | .cooldown => match d.htr.cool with
    | none => d.htr.seq.coolDuty
    | some c => c.duty

/-- R87: the fuel train on entry to a state: it runs on in RAMP and RUN, starts with a pulse in IGNITE, and stops elsewhere. -/
def fuelOf (d : Device) (st : HeaterState) : FuelTrain :=
  match st with
  | .ignite =>
    { running := true, interval := d.htr.seq.ignInterval, staged := none, lastStart := d.sns.ms, gate := gatesFree d }
  | .ramp | .run => d.htr.fuel
  | _ => { d.htr.fuel with running := false, staged := none, gate := false }

/-- R78: the glow output switches on at GLOW, stays on through IGNITE and is off elsewhere. -/
def glowOf (d : Device) (st : HeaterState) : Option Nat :=
  match st with
  | .glow => some d.sns.ms
  | .ignite => d.htr.glowSince
  | _ => none

/-- The level kept in RUN, 1 on entry to RAMP, and none elsewhere (R85, R88). -/
def levelIn (d : Device) (st : HeaterState) : Nat :=
  match st with
  | .ramp => 1
  | .run => d.htr.level
  | _ => 0

/-- R78, R79, R103: a heater state entered: level, outputs and timers follow the state, the entry is written and a change of the
state is posted. Each state's own entry starts its timers afterwards. -/
def enterHeater (st : HeaterState) (cause : HeaterCause) (d : Device) : Device :=
  let d1 := putHtr { d.htr with level := levelIn d st } d
  let h := { d1.htr with
    state := st
    fuel := fuelOf d1 st
    glowSince := glowOf d1 st
    blower := d1.htr.blower.command (dutyOf d1 st) d1.sns.ms
    timers := match st with
      | .run => { noHeaterTimers with lowSpeed := d1.htr.timers.lowSpeed }
      | _ => noHeaterTimers
    cause := if st = d.htr.state then d.htr.cause else cause }
  let d2 := writeHeater (putHtr h d1)
  if st = d.htr.state then d2 else post .heaterState d2

/-- Entry to OFF. -/
def toOff (cause : HeaterCause) (d : Device) : Device := applyTableDefault (enterHeater .off cause d)

/-- R100: entry to LOCKOUT. -/
def toLockout (cause : HeaterCause) (d : Device) : Device :=
  let d1 := enterHeater .lockout cause (withdrawAllowance .heater d)
  applyTableDefault (putHtr { d1.htr with
    runUntil := none
    marks := { d1.htr.marks with restartPending := false, lockoutPending := false, forcedPurge := false }
    lockouts := satSucc 255 d1.htr.lockouts } d1)

/-- Entry to PAUSED (R93). -/
def toPaused (cause : HeaterCause) (d : Device) : Device :=
  let d1 := enterHeater .paused cause d
  putHtr { d1.htr with lastRestart := none } d1

/-- R86: entry to PURGE, or its purge time restarted (R97). -/
def toPurge (cause : HeaterCause) (d : Device) : Device :=
  let d1 := enterHeater .purge cause d
  putHtrTimers { d1.htr.timers with purge := some (d1.sns.ms + 1000 * d1.htr.seq.purgeTime) } d1

/-- R99: entry to COOLDOWN; the allowance is released if held. -/
def toCooldown (cause : CooldownCause) (d : Device) : Device :=
  let q := d.htr.seq
  let d1 := putHtr { d.htr with
    cool := some { cause := cause, duty := q.coolDuty, endTemp := q.coolEnd, minTime := q.coolMin, maxTime := q.coolMax } } d
  let d2 := enterHeater .cooldown (.cooling cause) (releaseAllowance .heater d1)
  putHtrTimers { d2.htr.timers with
    coolMin := some (d2.sns.ms + 1000 * q.coolMin), coolMax := some (d2.sns.ms + 1000 * q.coolMax) } d2

/-- R84: entry to GLOW. -/
def toGlow (d : Device) : Device :=
  let d1 := enterHeater .glow .none d
  putHtrTimers { d1.htr.timers with glow := some (d1.sns.ms + 1000 * d1.htr.seq.glowTime) } d1

/-- R85: entry to IGNITE. -/
def toIgnite (d : Device) : Device :=
  let d1 := enterHeater .ignite .none d
  putHtrTimers { d1.htr.timers with window := some (d1.sns.ms + 1000 * d1.htr.seq.flameWindow) }
    (putHtr { d1.htr with flameBase := d1.sns.analog.tExch.value } d1)

/-- The heater asks for the allowance and takes the answer given at once (R82, R83, R86). -/
def requestHeater (d : Device) : Device :=
  match requestAllowance .heater d with
  | (d1, none) => d1
  | (d1, some .granted) => toGlow d1
  | (d1, some .denied) => toOff (.refusal .inrush) d1

/-- R83: entry to WAIT_INRUSH, the wait timer started, and the request. -/
def toWait (d : Device) : Device :=
  let d1 := enterHeater .waitInrush .none d
  requestHeater (putHtrTimers { d1.htr.timers with wait := some (d1.sns.ms + 120000) } d1)

/-! ## The level in force (R88, R90, R91) -/

/-- R90: a change of the level. -/
def changeLevel (n : Nat) (d : Device) : Device :=
  let l := heatLevel d n
  putHtr { d.htr with
    level := n
    blower := d.htr.blower.command l.duty d.sns.ms
    fuel := { d.htr.fuel with staged := some l.interval }
    flameRef := d.sns.analog.tExch.value
    timers := { d.htr.timers with
      lowSpeed := none
      dwell := if d.htr.state = .run then some (d.sns.ms + 1000 * d.htr.seq.dwell) else d.htr.timers.dwell } } d

/-- R85, R88: entry to RUN from RAMP. -/
def toRun (d : Device) : Device :=
  let d1 := enterHeater .run .none d
  putHtr { d1.htr with
    flameRef := d1.sns.analog.tExch.value
    timers := { d1.htr.timers with dwell := some (d1.sns.ms + 1000 * d1.htr.seq.dwell) } } d1

/-- Whether a level is in force: RAMP or RUN. -/
def levelInForce (d : Device) : Bool := decide (d.htr.state = .ramp) || decide (d.htr.state = .run)

/-- R91: in RAMP and RUN a level above a bound is lowered to it, and never below 1. -/
def lowerTo (bound : Nat) (d : Device) : Device :=
  if levelInForce d && decide (max 1 bound < d.htr.level) then changeLevel (max 1 bound) d else d

/-- R88: the test that ends the ramp. -/
def rampTest (d : Device) : Device :=
  if d.htr.state = .ramp ∧ min d.htr.wished (min (grantOf d .heater) (maxAllowed d)) ≤ d.htr.level then toRun d else d

/-- R55, R91: HTR takes a grant handed to it, by a pass or at its own write: the level is held at or below the grant and the maximum
allowed level. In RAMP the changed values are tested (R88). -/
def heaterGrant (d : Device) : Device := rampTest (lowerTo (min (grantOf d .heater) (maxAllowed d)) d)

/-- The entry written for the wished level (R79; a write of the same steps changes nothing), and the grant this leaves handed back
(R54, R55). A wished level below the level is a request below the grant, so the write lowers the grant to it (R54, step 3), and
it is this lowered grant that lowers the level, at once (R91; log 14, DEDUCED). -/
def followWish (d : Device) : Device := heaterGrant (writeHeater d)

/-- R79, R88, R90: the wished level set, and written into the entry as the requested step. -/
def setWished (w : Nat) (d : Device) : Device := followWish (putHtr { d.htr with wished := w } d)

/-- R91: the wished level worked out afresh in RAMP and RUN. -/
def rewish (d : Device) : Device :=
  match d.htr.state with
  | .ramp => setWished (startWish d) d
  | .run => setWished (runWish d) d
  | _ => d

/-- R91: the maximum allowed level may have changed. -/
def heaterCaps (d : Device) : Device := rewish (lowerTo (maxAllowed d) d)

/-- R90: with the dwell run out, the level moves one step toward the wished level. -/
def moveLevel (d : Device) : Device :=
  let h := d.htr
  if ranOut d h.timers.dwell then
    if h.level < h.wished then
      if h.level + 1 ≤ grantOf d .heater ∧ h.level + 1 ≤ maxAllowed d then changeLevel (h.level + 1) d else d
    else if h.wished < h.level then changeLevel (h.level - 1) d
    else d
  else d

/-- R90: in RUN the level moves if it may. -/
def tryMove (d : Device) : Device := if d.htr.state = .run then moveLevel d else d

/-- R85: the flame is proved; the heater enters RAMP at level 1 and releases the allowance. The test made on entry (R88) uses the
wished level that stands; the start rule works it out afresh from the next sweep on (log 45, DESIGN CHOICE). -/
def toRamp (d : Device) : Device :=
  let d1 := enterHeater .ramp .none (releaseAllowance .heater d)
  let h := { d1.htr with
    fuel := { d1.htr.fuel with staged := some (heatLevel d1 1).interval }
    timers := { d1.htr.timers with ramp := some (d1.sns.ms + 20000) } }
  heaterGrant (putHtr h d1)

/-! ## Starting (R80 to R82) -/

/-- Where a start comes from (section 5.3); PAUSED and a completed cooldown start again with the present setpoint. -/
inductive StartSource where
  | host (runUntil : Option Nat)
  | panel
  | prewarm
  | again
  deriving DecidableEq, Repr

/-- R80, check 6: a grant of step 1 can stand, by the step currents as they stand at the check: those of a table or a list taken since
the last pass are used at once (log 48, DESIGN CHOICE). Under CRITICAL the outcome is a free value (log 10, DESIGN CHOICE). -/
def stepOneStands (d : Device) : Bool :=
  let need := tableDemand d.bgt.table
    (fun l => if l = .heater then 1 else if l ∈ sheddable then (entryOf d l).floor else 0) d.bgt.last.horizon
  match d.bgt.last.policy with
  | .exempt | .unknownNormal | .unknownLow => true
  | .knownNormal | .knownLow => decide (need ≤ d.bgt.last.usable)
  | .critical => Config.budgetCheckUnderCritical need d.bgt.last.usable

/-- R80, check 4: no tach pulse in the last 2,000 ms. -/
def blowerStill (d : Device) : Bool :=
  match d.htr.blower.lastTach with
  | none => true
  | some t => decide (t + 2000 ≤ d.sns.ms)

/-- R80: the first start check that fails. `blowerMayTurn` leaves out check 4 (R99). -/
def startCheck (blowerMayTurn : Bool) (d : Device) : Option Reason :=
  if d.sns.analog.tExch.status ≠ .ok then some .sensor
  else if d.htr.latch then some .overheat
  else if d.htr.state = .lockout then some .locked
  else if !blowerMayTurn && !blowerStill d then some .blowerTurning
  else if d.chg.uv = .critical then some .undervoltage
  else if !stepOneStands d then some .noBudget
  else if d.vbl.signals.fuelLow.isOn then some .fuelLow
  else none

/-- R82: a taken new start. -/
def newStart (src : StartSource) (setpoint : Int) (d : Device) : Device :=
  let d1 := putHtr { d.htr with
    attempts := 0
    marks := { d.htr.marks with restartPending := false, lockoutPending := false }
    setpoint := setpoint
    lastSetpoint := match src with
      | .host _ => setpoint
      | _ => d.htr.lastSetpoint
    runUntil := match src with
      | .host u => u
      | _ => d.htr.runUntil } d
  toWait (putHtr { d1.htr with wished := startWish d1 } d1)

/-- The setpoint a start leaves in a running sequence: a pre-warm only raises it (R81). -/
def updatedSetpoint (src : StartSource) (setpoint present : Int) : Int :=
  match src with
  | .prewarm => max present setpoint
  | _ => setpoint

/-- The run-until a start leaves: only a HEATER_START sets it (R81). -/
def updatedUntil (src : StartSource) (present : Option Nat) : Option Nat :=
  match src with
  | .host u => u
  | _ => present

/-- R80, R81: a start reaches the heater; `none` is a start taken. -/
def startHeater (src : StartSource) (setpoint : Int) (d : Device) : Device × Option Reason :=
  let h := d.htr
  match h.state with
  | .off | .paused =>
    match startCheck false d with
    | some r => (d, some r)
    | none => (newStart src setpoint d, none)
  | .lockout => (d, some (if h.latch then .overheat else .locked))
  | .cooldown =>
    if h.marks.lockoutPending || h.marks.forcedPurge then (d, some .locked)
    else (putHtr { h with
      setpoint := setpoint
      runUntil := updatedUntil src h.runUntil
      marks := { h.marks with restartPending := true } } d, none)
  | .purge =>
    if h.marks.lockoutPending || h.marks.forcedPurge then (d, some .locked)
    else (putHtr { h with
      setpoint := updatedSetpoint src setpoint h.setpoint, runUntil := updatedUntil src h.runUntil } d, none)
  | .waitInrush | .glow | .ignite | .ramp | .run =>
    (putHtr { h with
      setpoint := updatedSetpoint src setpoint h.setpoint, runUntil := updatedUntil src h.runUntil } d, none)

/-- HEATER_STATE posted with a refusal reason as its cause (R80, R93). -/
def postRefusal (r : Reason) (d : Device) : Device := post .heaterState (putHtr { d.htr with cause := .refusal r } d)

/-! ## Stopping (R98) -/

/-- The run-until cleared. -/
def clearRunUntil (d : Device) : Device := putHtr { d.htr with runUntil := none } d

/-- R83: WAIT_INRUSH left for OFF with the allowance withdrawn. -/
def leaveWait (cause : HeaterCause) (d : Device) : Device := toOff cause (withdrawAllowance .heater d)

/-- R98: a stop acts by state and clears the run-until. -/
def stopHeater (d0 : Device) : Device :=
  let d := clearRunUntil d0
  match d.htr.state with
  | .glow | .ignite | .ramp | .run => toCooldown .stop d
  | .purge => if d.htr.marks.lockoutPending || d.htr.marks.forcedPurge then d else toCooldown .stop d
  | .cooldown => putHtr { d.htr with marks := { d.htr.marks with restartPending := false } } d
  | .waitInrush => leaveWait (.cooling .stop) d
  | .paused => toOff (.cooling .stop) d
  | .off | .lockout => d

/-- R98: FUEL_LOW has become FRESH and 1. -/
def heaterFuelLow (d : Device) : Device :=
  match d.htr.state with
  | .glow | .ignite | .ramp | .run => toCooldown .fuelLow (clearRunUntil d)
  | .purge =>
    if d.htr.marks.lockoutPending || d.htr.marks.forcedPurge then clearRunUntil d else toCooldown .fuelLow (clearRunUntil d)
  | .waitInrush => leaveWait (.refusal .fuelLow) d
  | .off | .paused | .lockout | .cooldown => d

/-- R80, R98: a press of the heater panel button. -/
def panelPress (d : Device) : Device :=
  match d.htr.state with
  | .off =>
    match startHeater .panel d.htr.lastSetpoint d with
    | (d1, none) => d1
    | (d1, some r) => postRefusal r d1
  | .lockout => d
  | _ => stopHeater d

/-- R98: the run-until has been reached. -/
def runUntilTest (d : Device) : Device :=
  match d.htr.runUntil with
  | none => d
  | some u => if u ≤ d.sns.uptime then stopHeater d else d

/-! ## The allowance's answers (R83, R84) -/

/-- "granted" to a heater that waits. -/
def heaterGranted (d : Device) : Device := if d.htr.state = .waitInrush then toGlow d else d

/-- "denied" to a heater that waits. -/
def heaterDenied (d : Device) : Device := if d.htr.state = .waitInrush then toOff (.refusal .inrush) d else d

/-- R84: an attempt in GLOW or IGNITE ends in PURGE, counted once. -/
def attemptFails (d : Device) : Device :=
  if d.htr.state = .glow ∨ d.htr.state = .ignite then
    toPurge .none (putHtr { d.htr with attempts := d.htr.attempts + 1 } d)
  else d

/-- "revoked" to the heater. -/
def heaterRevoked (d : Device) : Device := attemptFails d

/-- R83: the wait timer expires. -/
def waitExpiry (d : Device) : Device := if d.htr.state = .waitInrush then leaveWait (.refusal .inrush) d else d

/-- R84: the glow time elapses. -/
def glowExpiry (d : Device) : Device := if d.htr.state = .glow then toIgnite d else d

/-- R85: the flame window elapses. -/
def windowExpiry (d : Device) : Device := if d.htr.state = .ignite then attemptFails (releaseAllowance .heater d) else d

/-- R86: the purge time ends. -/
def purgeExpiry (d : Device) : Device :=
  if d.htr.state ≠ .purge then d
  else if d.htr.marks.forcedPurge || d.htr.marks.lockoutPending then toLockout .none d
  else if d.htr.attempts < d.htr.seq.attempts then toWait d
  else toLockout .none (recordFault .noFlame d)

/-! ## The fuel pulse train (R87) -/

/-- R87: the interval in force has elapsed. -/
def pulseStart (d0 : Device) : Device :=
  if d0.htr.fuel.running then
    let due := d0.htr.fuel.lastStart + d0.htr.fuel.interval
    let d := reach due d0
    putHtr { d.htr with fuel := { d.htr.fuel with
      lastStart := due, interval := d.htr.fuel.staged.getD d.htr.fuel.interval, staged := none, gate := gatesFree d } } d
  else d0

/-- R87: the pulse width has elapsed. -/
def pulseEnd (d0 : Device) : Device :=
  if d0.htr.fuel.gate then
    let d := reach (d0.htr.fuel.lastStart + d0.htr.seq.pulseWidth) d0
    putHtr { d.htr with fuel := { d.htr.fuel with gate := false } } d
  else d0

/-- R88: 20 s of RAMP have passed. -/
def rampStep (d : Device) : Device :=
  if d.htr.state = .ramp then
    let d1 := changeLevel (d.htr.level + 1) d
    heaterGrant (putHtrTimers { d1.htr.timers with ramp := d.htr.timers.ramp.map (· + 20000) } d1)
  else d

/-- R90: the level dwell runs out. -/
def dwellExpiry (d : Device) : Device := tryMove (putHtrTimers { d.htr.timers with dwell := none } d)

/-- R93: the pause delay has run. -/
def pauseExpiry (d : Device) : Device := if d.htr.state = .run then toCooldown .pause d else d

/-! ## Overheat, sensors and the blower (R94 to R97) -/

/-- The states a failed or overheated exchanger ends in a cooldown (R94 to R96): a burn, or a purge that is not forced. -/
def burnOrPurge (d : Device) : Bool :=
  match d.htr.state with
  | .glow | .ignite | .ramp | .run => true
  | .purge => !d.htr.marks.forcedPurge
  | _ => false

/-- The lockout-on-completion mark set. -/
def markLockout (d : Device) : Device := putHtr { d.htr with marks := { d.htr.marks with lockoutPending := true } } d

/-- R94: a soft overheat at a published sweep. -/
def softOverheat (d : Device) : Device :=
  let exch := d.sns.analog.tExch
  let applies := burnOrPurge d || decide (d.htr.state = .cooldown) || decide (d.htr.state = .purge)
  if applies && !d.htr.marks.lockoutPending && decide (exch.status = .ok) && decide ((d.htr.seq.softLimit : Int) ≤ exch.value) then
    let d1 := markLockout (recordFault .overheatSoft d)
    if burnOrPurge d1 then toCooldown .overheat d1 else d1
  else d

/-- R95: T_EXCH has changed from OK to OPEN or SHORT. -/
def exchangerFails (d : Device) : Device :=
  if burnOrPurge d then toCooldown .sensor (markLockout (recordFault .sensor d))
  else if d.htr.state = .waitInrush then leaveWait (.refusal .sensor) d
  else d

/-- R96: the filtered rising edge of DIN5. A move from WAIT_INRUSH, OFF or PAUSED to LOCKOUT reports no cause (log 46, DESIGN CHOICE). -/
def overheatTrip (d0 : Device) : Device :=
  let d := recordFault .overheatTrip (putHtr { d0.htr with latch := true } d0)
  match d.htr.state with
  | .glow | .ignite | .ramp | .run => toCooldown .overheat (markLockout d)
  | .purge => if d.htr.marks.forcedPurge then d else toCooldown .overheat (markLockout d)
  | .cooldown => markLockout d
  | .waitInrush | .off | .paused => toLockout .none d
  | .lockout => d

/-- R97: blower supervision applies while the duty is above 0, except during a forced purge. -/
def supervised (d : Device) : Bool :=
  decide (0 < d.htr.blower.duty) && !(decide (d.htr.state = .purge) && d.htr.marks.forcedPurge)

/-- R97: a blower fault. -/
def blowerFault (d : Device) : Device :=
  if supervised d then
    let d1 := releaseAllowance .heater (recordFault .blower d)
    toPurge .none (putHtr { d1.htr with marks := { d1.htr.marks with forcedPurge := true } } d1)
  else d

/-- R97: when the tach has been silent for 2,000 ms, counted from the later of the last pulse and the duty's rise. -/
def tachDeadline (d : Device) : Option Nat :=
  if supervised d then some (max d.htr.blower.dutySince (d.htr.blower.lastTach.getD 0) + 2000) else none

/-- R97: the rpm of a tach period captured at `ms`. -/
def rpmOfPeriod (periodUs ms : Nat) : Nat :=
  if periodUs = 0 then Config.blowerRpmOfZeroPeriod ms
  else if 2000000 ≤ periodUs then 0
  else 30000000 / periodUs

/-- R97: a tach pulse; the first pulse of all has no previous one and captures no period (log 12). -/
def tachPulse (periodUs : Nat) (d : Device) : Device :=
  let b := d.htr.blower
  let b1 := match b.lastTach with
    | none => b
    | some _ => { b with period := periodUs, rpm := rpmOfPeriod periodUs d.sns.ms }
  putHtr { d.htr with blower := { b1 with lastTach := some d.sns.ms } } d

/-- R97: the count of sweeps with the rpm below the level's minimum. -/
def speedWatch (d : Device) : Device :=
  if levelInForce d then
    let low := decide (rpmNow d < (heatLevel d d.htr.level).minRpm)
    let timer := if low then some (d.htr.timers.lowSpeed.getD (d.sns.ms + 5000)) else none
    putHtrTimers { d.htr.timers with lowSpeed := timer } d
  else d

/-! ## Cooldown (R99) -/

/-- R99: a cooldown that ends normally completes. Its record keeps the cause (log 41, DESIGN CHOICE), and the report carries it (log
46, DESIGN CHOICE). -/
def completeCooldown (d : Device) : Device :=
  let cause : HeaterCause := match d.htr.cool with
    | none => .none
    | some c => .cooling c.cause
  if d.htr.marks.lockoutPending then toLockout cause d
  else if d.htr.marks.restartPending then
    let d1 := applyTableDefault d
    match startCheck true d1 with
    | none => newStart .again d1.htr.setpoint d1
    | some r => toOff (.refusal r) d1
  else if cause = .cooling .pause then toPaused cause d
  else toOff cause d

/-- R99: the end test at a published sweep. -/
def cooldownTest (d : Device) : Device :=
  let endTemp : Nat := match d.htr.cool with
    | none => d.htr.seq.coolEnd
    | some c => c.endTemp
  let exch := d.sns.analog.tExch
  if ranOut d d.htr.timers.coolMin && decide (exch.status = .ok) && decide (exch.value < (endTemp : Int)) then completeCooldown d
  else d

/-- R99: the maximum cooldown elapses; the report carries the cooldown's cause (log 46, DESIGN CHOICE). -/
def cooldownTooLong (d : Device) : Device :=
  if d.htr.state = .cooldown then
    let cause : HeaterCause := match d.htr.cool with
      | none => .none
      | some c => .cooling c.cause
    toLockout cause (recordFault (if d.sns.analog.tExch.status = .ok then .cooldownLong else .sensor) d)
  else d

/-! ## The published sweep -/

/-- R85: the flame test in IGNITE. -/
def flameTest (d : Device) : Device :=
  let exch := d.sns.analog.tExch
  if exch.status = .ok ∧ d.htr.flameBase + (d.htr.seq.flameRise : Int) ≤ exch.value then toRamp d else d

/-- R89: a flame loss. -/
def flameLost (d : Device) : Device :=
  let recent := match d.htr.flameLoss with
    | none => false
    | some u => decide (uptimeSince d u ≤ 1800)
  if recent then toPurge .none (markLockout (recordFault .flameLoss d))
  else toPurge .flameRelight (putHtr { d.htr with
    flameLoss := some d.sns.uptime, attempts := d.htr.seq.attempts - 1 } d)

/-- R93: the pause condition at a published sweep; it is not tested while T_CAB is not OK (log 19). -/
def pauseWatch (d : Device) : Device :=
  match cabError d with
  | none => d
  | some e =>
    let timer :=
      if d.htr.level = 1 ∧ e ≤ -20 then some (d.htr.timers.pause.getD (d.sns.ms + 1000 * d.htr.seq.pauseDelay)) else none
    if d.htr.state = .run then putHtrTimers { d.htr.timers with pause := timer } d else d

/-- R89, R90, R93: a published sweep in RUN. -/
def runSweep (d : Device) : Device :=
  let exch := d.sns.analog.tExch
  if exch.status = .ok ∧ exch.value < d.htr.flameRef - (d.htr.seq.lossDrop : Int) then flameLost d
  else
    let d1 := if exch.status = .ok then putHtr { d.htr with flameRef := max d.htr.flameRef exch.value } d else d
    pauseWatch (tryMove (setWished (runWish d1) d1))

/-- R93: a published sweep in PAUSED. -/
def pausedSweep (d : Device) : Device :=
  let wants := match cabError d with
    | none => true
    | some e => decide (10 ≤ e)
  if wants then
    match startHeater .again d.htr.setpoint d with
    | (d1, none) => d1
    | (d1, some r) =>
      if d1.htr.lastRestart = some r then d1 else postRefusal r (putHtr { d1.htr with lastRestart := some r } d1)
  else d

/-- The state's own work at a published sweep. -/
def heaterStateSweep (d : Device) : Device :=
  match d.htr.state with
  | .ignite => flameTest d
  | .ramp => setWished (startWish d) d
  | .run => runSweep d
  | .cooldown => cooldownTest d
  | .paused => pausedSweep d
  | .off | .waitInrush | .glow | .purge | .lockout => d

/-- A published sweep reaches HTR (R85, R89 to R95, R97, R99; the order is log 18's, DESIGN CHOICE, with R97's test of the speed last,
against the minimum of the level that the sweep has left). `exchWasOk` says that T_EXCH's status was OK at the sweep before. -/
def heaterSweep (exchWasOk : Bool) (d : Device) : Device :=
  let st := d.sns.analog.tExch.status
  let d1 := if exchWasOk && (decide (st = .openCircuit) || decide (st = .shortCircuit)) then exchangerFails d else d
  speedWatch (heaterStateSweep (softOverheat d1))

/-! ## Requests -/

/-- R187: HEATER_START. -/
def heaterStartRequest (b : List Byte) (d : Device) : Answered :=
  if b.length ≠ 6 then refuse .badLength d
  else
    let setpoint := sWordAt b 0
    let wall := longAt b 2
    if !withinInt 50 300 setpoint then refuse .badValue d
    else if wall ≠ 0 ∧ d.sns.clockSet = false then refuse .noClock d
    else if wall ≠ 0 ∧ wall ≤ wallOf d d.sns.uptime then refuse .badValue d
    else
      match startHeater (.host (if wall = 0 then none else some (uptimeOfWall d wall))) setpoint d with
      | (d1, none) => taken d1 (u8 d1.htr.state.code)
      | (_, some r) => refuse (.refused r) d

/-- R98: HEATER_STOP. -/
def heaterStopRequest (b : List Byte) (d : Device) : Answered :=
  if b ≠ [] then refuse .badLength d else taken (stopHeater d) []

/-- R101: the latch and the severity of a released heater. -/
def releaseLatch (d : Device) : Device := heaterIndication 0 false (putHtr { d.htr with latch := false } d)

/-- R101: LOCKOUT left for OFF. -/
def leaveLockout (d : Device) : Device :=
  releaseLatch (toOff .none (putHtr { d.htr with flameLoss := none } d))

/-- R101: HEATER_UNLOCK (`service` false) and HEATER_SERVICE_CLEAR (`service` true). -/
def unlockRequest (service : Bool) (b : List Byte) (d : Device) : Answered :=
  let cleared := if service then putHtr { d.htr with lockouts := 0 } d else d
  if b ≠ [] then refuse .badLength d
  else if (lineOf d 5).real then refuse .protectedItem d
  else
    match d.htr.state with
    | .lockout => if !service && decide (3 ≤ d.htr.lockouts) then refuse .locked d else taken (leaveLockout cleared) []
    | .off =>
      if d.htr.latch then
        if !service && decide (3 ≤ d.htr.lockouts) then refuse .locked d else taken (releaseLatch cleared) []
      else taken cleared []
    | .cooldown | .purge =>
      if d.htr.marks.lockoutPending || d.htr.marks.forcedPurge then refuse .busy d else taken cleared []
    | _ => taken cleared []

/-- The six level entries of HEATER_CONFIG part 0. -/
def levelEntries (b : List Byte) : List HeatLevel :=
  (List.range 6).map fun n =>
    { interval := wordAt b (1 + 8 * n), duty := wordAt b (3 + 8 * n), minRpm := wordAt b (5 + 8 * n),
      current := wordAt b (7 + 8 * n) }

/-- Whether a list of numbers rises strictly. -/
def risesStrictly : List Nat → Bool
  | a :: b :: rest => decide (a < b) && risesStrictly (b :: rest)
  | _ => true

/-- R76: whether a heat level table may be loaded. -/
def goodTable (t : List HeatLevel) : Bool :=
  (t.all fun l => within 300 5000 l.interval && within 100 1000 l.duty && decide (l.minRpm ≤ 10000) && decide (l.current ≤ 20000)) &&
    risesStrictly (t.map (·.interval)).reverse && risesStrictly (t.map (·.duty))

/-- R76: HEATER_CONFIG part 0. -/
def configTable (b : List Byte) (d : Device) : Answered :=
  if b.length ≠ 49 then refuse .badLength d
  else if d.htr.state ≠ .off ∧ d.htr.state ≠ .lockout then refuse .busy d
  else if !goodTable (levelEntries b) then refuse .badValue d
  else taken (putHeatTable (levelEntries b) d) []

/-- The sequence settings of HEATER_CONFIG part 1. -/
def seqOf (b : List Byte) : SeqSettings :=
  { pulseWidth := byteAt b 1, glowTime := byteAt b 2, ignInterval := wordAt b 3, ignDuty := wordAt b 5, flameRise := wordAt b 7,
    flameWindow := byteAt b 9, attempts := byteAt b 10, purgeDuty := wordAt b 11, purgeTime := wordAt b 13,
    coolDuty := wordAt b 15, coolEnd := wordAt b 17, coolMin := wordAt b 19, coolMax := wordAt b 21, softLimit := wordAt b 23,
    lossDrop := wordAt b 25, dwell := wordAt b 27, pauseDelay := wordAt b 29 }

/-- Section 5.1 and R77: whether sequence settings are in their ranges. -/
def goodSeq (q : SeqSettings) : Bool :=
  within 20 80 q.pulseWidth && within 10 60 q.glowTime && within 300 5000 q.ignInterval && within 100 1000 q.ignDuty &&
    within 50 500 q.flameRise && within 30 90 q.flameWindow && within 1 3 q.attempts && within 500 1000 q.purgeDuty &&
    within 30 300 q.purgeTime && within 300 1000 q.coolDuty && within 200 1500 q.coolEnd && within 60 600 q.coolMin &&
    within 300 1800 q.coolMax && within 1500 2500 q.softLimit && within 50 500 q.lossDrop && within 10 600 q.dwell &&
    within 60 1800 q.pauseDelay && decide (q.coolMin < q.coolMax) && decide (q.pulseWidth < q.ignInterval)

/-- R77: HEATER_CONFIG part 1. -/
def configSequence (b : List Byte) (d : Device) : Answered :=
  if b.length ≠ 31 then refuse .badLength d
  else if d.htr.state ≠ .off ∧ d.htr.state ≠ .paused ∧ d.htr.state ≠ .lockout then refuse .busy d
  else if !goodSeq (seqOf b) then refuse .badValue d
  else taken (putHtr { d.htr with seq := seqOf b } d) []

/-- R77: HEATER_CONFIG part 2. -/
def configLimits (b : List Byte) (d : Device) : Answered :=
  if b.length ≠ 4 then refuse .badLength d
  else if !(within 1 6 (byteAt b 1) && within 1 6 (byteAt b 2) && within 1 6 (byteAt b 3)) then refuse .badValue d
  else
    let limits : LevelLimits := { hostMax := byteAt b 1, quietMax := byteAt b 2, fallback := byteAt b 3 }
    taken (heaterCaps (putHtr { d.htr with limits := limits } d)) []

/-- R76, R77: HEATER_CONFIG by its part; an empty body has no part and is the wrong length. -/
def heaterConfigRequest (b : List Byte) (d : Device) : Answered :=
  if b = [] then refuse .badLength d
  else
    match byteAt b 0 with
    | 0 => configTable b d
    | 1 => configSequence b d
    | 2 => configLimits b d
    | _ => refuse .badValue d

/-! ## Reports (R103) -/

/-- R103: the time the running timer of the state has left. -/
def stateTimer (d : Device) : Option Nat :=
  let t := d.htr.timers
  match d.htr.state with
  | .waitInrush => t.wait
  | .glow => t.glow
  | .ignite => t.window
  | .ramp => t.ramp
  | .run => t.dwell
  | .purge => t.purge
  | .cooldown => if ranOut d t.coolMin then t.coolMax else t.coolMin
  | .off | .paused | .lockout => none

/-- R103: READ_HEATER part 0. The glow output field shows HTR's command, whatever holds the gate off, and the time remaining and the
glow on-time, of which R103 gives no unit, are sent in ms (log 7, DEDUCED). -/
def heaterStatus (d : Device) : List Byte :=
  let h := d.htr
  u8 h.state.code ++ levelField d ++ u8 h.wished ++ u8 (maxAllowed d) ++ u16 h.setpoint.toNat ++ u16 h.lastSetpoint.toNat ++
    opt32 (if d.sns.clockSet then h.runUntil.map (wallOf d) else h.runUntil) ++
    mark8 h.marks.restartPending ++ mark8 h.marks.lockoutPending ++ mark8 h.marks.forcedPurge ++ mark8 h.marks.tableDefault ++
    opt8 (h.cool.map fun c => c.cause.code) ++
    opt32 (remaining d (stateTimer d)) ++
    u16 h.fuel.interval ++ opt16 h.fuel.staged ++
    mark8 h.glowSince.isSome ++ u32 (match h.glowSince with
      | none => 0
      | some t => d.sns.ms - t) ++
    u16 h.blower.duty ++ u32 (rpmNow d) ++
    i16 h.flameBase ++ i16 h.flameRef ++
    u32 h.attempts ++ u8 h.lockouts ++ opt32 h.flameLoss ++ mark8 h.latch

/-- R103: READ_HEATER part 1. -/
def heaterSettings (d : Device) : List Byte :=
  let q := d.htr.seq
  (d.htr.table.flatMap fun l => u16 l.interval ++ u16 l.duty ++ u16 l.minRpm ++ u16 l.current) ++
    u8 q.pulseWidth ++ u8 q.glowTime ++ u16 q.ignInterval ++ u16 q.ignDuty ++ u16 q.flameRise ++ u8 q.flameWindow ++
    u8 q.attempts ++ u16 q.purgeDuty ++ u16 q.purgeTime ++ u16 q.coolDuty ++ u16 q.coolEnd ++ u16 q.coolMin ++ u16 q.coolMax ++
    u16 q.softLimit ++ u16 q.lossDrop ++ u16 q.dwell ++ u16 q.pauseDelay ++
    u8 d.htr.limits.hostMax ++ u8 d.htr.limits.quietMax ++ u8 d.htr.limits.fallback ++
    (if d.htr.state = .cooldown then
      match d.htr.cool with
      | none => []
      | some c => u16 c.duty ++ u16 c.endTemp ++ u16 c.minTime ++ u16 c.maxTime
    else [])

/-- R102: a fault record in a body; an absent record carries all ones in every field (log 7). -/
def faultField : Option FaultRec → List Byte
  | none => List.replicate 12 0xFF
  | some r => u8 r.kind.code ++ u8 r.state.code ++ i16 r.tExch ++ i16 r.tCab ++ u16 r.voltage.toNat ++ u32 r.uptime

/-- R103: four fault records from an index. -/
def faultFields (first : Nat) (d : Device) : List Byte :=
  (List.range 4).flatMap fun n => faultField (d.htr.faults[first + n]?)

/-- R103: READ_HEATER. -/
def readHeaterRequest (b : List Byte) (d : Device) : Answered :=
  if b.length ≠ 1 then refuse .badLength d
  else
    match byteAt b 0 with
    | 0 => taken d (heaterStatus d)
    | 1 => taken d (heaterSettings d)
    | 2 => taken d (faultFields 0 d)
    | 3 => taken d (faultFields 4 d)
    | _ => refuse .badValue d

/-- R103: the body of HEATER_STATE after the merge count. -/
def heaterStateBody (d : Device) : List Byte :=
  u8 d.htr.state.code ++ d.htr.cause.field ++ levelField d ++ u16 d.htr.setpoint.toNat ++
    i16 d.sns.analog.tExch.value ++ i16 d.sns.analog.tCab.value ++ u32 (rpmNow d) ++
    u8 (grantOf d .heater) ++ u32 d.htr.attempts ++ u8 d.htr.lockouts ++ mark8 d.htr.latch

/-- R102: the body of HEATER_FAULT after the merge count. -/
def heaterFaultBody (d : Device) : List Byte := faultField d.htr.faults.getLast? ++ u8 d.htr.faults.length

/-! ## RESTART (R105) -/

/-- R105: the settings a RESTART returns to their defaults. The attempt counter and the wished level, which R105 names neither among
what is kept nor among what is cleared, are kept until the next new start (log 43, DEDUCED). -/
def restartHeaterSettings (d : Device) : Device :=
  putHtr { d.htr with
    setpoint := 200
    lastSetpoint := 200
    runUntil := none
    marks := { d.htr.marks with restartPending := false }
    seq := defaultSeq
    limits := defaultLimits
    lastRestart := none } d

/-- R105: a cooldown's cause PAUSE becomes RESTART. -/
def Cooldown.restarted (c : Cooldown) : Cooldown := { c with cause := if c.cause = .pause then .restart else c.cause }

/-- R105: the heater through a RESTART. HEATER_STATE's cause for the move from WAIT_INRUSH and PAUSED to OFF, which no rule gives, is the
cooldown cause RESTART (log 44, DESIGN CHOICE). -/
def restartHeater (d0 : Device) : Device :=
  let d := restartHeaterSettings d0
  let d1 := match d.htr.state with
    | .glow | .ignite | .ramp | .run => toCooldown .restart d
    | .purge => if d.htr.marks.lockoutPending || d.htr.marks.forcedPurge then d else toCooldown .restart d
    | .cooldown => putHtr { d.htr with cool := d.htr.cool.map Cooldown.restarted } d
    | .waitInrush => leaveWait (.cooling .restart) d
    | .paused => toOff (.cooling .restart) d
    | .off | .lockout => d
  if d1.htr.state = .off ∨ d1.htr.state = .lockout then putHeatTable defaultHeatTable d1
  else putHtr { d1.htr with marks := { d1.htr.marks with tableDefault := true } } d1

/-! ## The commands -/

/-- HEATER_CONFIG part 0 (R76). -/
def execHeaterConfigLevelTable (tag : Byte) (body : List Byte) (s : State) : Host.Outcome State Fault Refusal :=
  running s (serve 0x20 tag body heaterConfigRequest)

/-- HEATER_CONFIG part 1 (R77). -/
def execHeaterConfigSequence (tag : Byte) (body : List Byte) (s : State) : Host.Outcome State Fault Refusal :=
  running s (serve 0x20 tag body heaterConfigRequest)

/-- HEATER_CONFIG part 2 (R77). -/
def execHeaterConfigLimits (tag : Byte) (body : List Byte) (s : State) : Host.Outcome State Fault Refusal :=
  running s (serve 0x20 tag body heaterConfigRequest)

/-- HEATER_START (R187). -/
def execHeaterStart (tag : Byte) (body : List Byte) (s : State) : Host.Outcome State Fault Refusal :=
  running s (serve 0x21 tag body heaterStartRequest)

/-- HEATER_STOP (R98). -/
def execHeaterStop (tag : Byte) (body : List Byte) (s : State) : Host.Outcome State Fault Refusal :=
  running s (serve 0x22 tag body heaterStopRequest)

/-- HEATER_UNLOCK (R101). -/
def execHeaterUnlock (tag : Byte) (body : List Byte) (s : State) : Host.Outcome State Fault Refusal :=
  running s (serve 0x23 tag body (unlockRequest false))

/-- HEATER_SERVICE_CLEAR (R101). -/
def execHeaterServiceClear (tag : Byte) (body : List Byte) (s : State) : Host.Outcome State Fault Refusal :=
  running s (serve 0x24 tag body (unlockRequest true))

/-- READ_HEATER (R103). -/
def execReadHeater (tag : Byte) (body : List Byte) (s : State) : Host.Outcome State Fault Refusal :=
  running s (serve 0x25 tag body readHeaterRequest)

/-- WAIT_TIMER_EXPIRY (R83). -/
def execWaitTimerExpiry (s : State) : Host.Outcome State Fault Refusal :=
  running s fun d => atTimer d.htr.timers.wait waitExpiry d

/-- GLOW_TIME_EXPIRY (R84). -/
def execGlowTimeExpiry (s : State) : Host.Outcome State Fault Refusal :=
  running s fun d => atTimer d.htr.timers.glow glowExpiry d

/-- GLOW_ONE_SHOT_EXPIRY (R78). -/
def execGlowOneShotExpiry (s : State) : Host.Outcome State Fault Refusal :=
  running s fun d => atTimer (d.htr.glowSince.map (· + 90000)) attemptFails d

/-- FLAME_WINDOW_EXPIRY (R85). -/
def execFlameWindowExpiry (s : State) : Host.Outcome State Fault Refusal :=
  running s fun d => atTimer d.htr.timers.window windowExpiry d

/-- PURGE_TIME_EXPIRY (R86). -/
def execPurgeTimeExpiry (s : State) : Host.Outcome State Fault Refusal :=
  running s fun d => atTimer d.htr.timers.purge purgeExpiry d

/-- FUEL_PULSE_START (R87). -/
def execFuelPulseStart (s : State) : Host.Outcome State Fault Refusal := running s pulseStart

/-- FUEL_PULSE_END (R87). -/
def execFuelPulseEnd (s : State) : Host.Outcome State Fault Refusal := running s pulseEnd

/-- RAMP_STEP (R88). -/
def execRampStep (s : State) : Host.Outcome State Fault Refusal := running s fun d => atTimer d.htr.timers.ramp rampStep d

/-- LEVEL_DWELL_EXPIRY (R90). -/
def execLevelDwellExpiry (s : State) : Host.Outcome State Fault Refusal :=
  running s fun d => atTimer d.htr.timers.dwell dwellExpiry d

/-- PAUSE_TIMER_EXPIRY (R93). -/
def execPauseTimerExpiry (s : State) : Host.Outcome State Fault Refusal :=
  running s fun d => atTimer d.htr.timers.pause pauseExpiry d

/-- TACH_PULSE (R97). -/
def execTachPulse (periodUs : Nat) (s : State) : Host.Outcome State Fault Refusal := running s (tachPulse periodUs)

/-- TACH_TIMEOUT (R97). -/
def execTachTimeout (s : State) : Host.Outcome State Fault Refusal :=
  running s fun d => atTimer (tachDeadline d) blowerFault d

/-- BLOWER_SPEED_TIMEOUT (R97). -/
def execBlowerSpeedTimeout (s : State) : Host.Outcome State Fault Refusal :=
  running s fun d => atTimer d.htr.timers.lowSpeed blowerFault d

/-- RUN_UNTIL_REACHED (R98): the test of the run-until that a second of uptime makes. -/
def execRunUntilReached (s : State) : Host.Outcome State Fault Refusal :=
  running s fun d => runUntilTest { d with sched := { d.sched with runUntilTick := false } }

/-- MINIMUM_COOLDOWN_EXPIRY (R99). -/
def execMinimumCooldownExpiry (s : State) : Host.Outcome State Fault Refusal :=
  running s fun d => atTimer d.htr.timers.coolMin (fun d1 => putHtrTimers { d1.htr.timers with coolMin := none } d1) d

/-- MAXIMUM_COOLDOWN_EXPIRY (R99). -/
def execMaximumCooldownExpiry (s : State) : Host.Outcome State Fault Refusal :=
  running s fun d => atTimer d.htr.timers.coolMax cooldownTooLong d

end Sys2Proof.Machine
end

