-- ==== Sys2Proof/Machine/Compressor.lean ====
section
/-! DEFINITION. The Compressor Drive (chapter 6): demand, speed steps and learning, the compressor states, commutation and the
bridge, speed and regulation, protection and failures. -/

namespace Sys2Proof.Machine

/-! ## Records -/

/-- The device with a new compressor record. -/
def putCmp (c : Compressor) (d : Device) : Device := { d with cmp := c }

/-- The device with new compressor timers. -/
def putCmpTimers (t : CompTimers) (d : Device) : Device := { d with cmp := { d.cmp with timers := t } }

/-- Whether the bridge drives: START or RUN. -/
def CompState.drives (st : CompState) : Bool := decide (st = .start) || decide (st = .run)

/-! ## The bridge (R116, R118, R122) -/

/-- A commutation pattern: the PWM leg, the low leg and the floating leg. -/
structure Pattern where
  pwm : Leg
  low : Leg
  float : Leg
  deriving DecidableEq, Repr

/-- R116: the pattern of a Hall code in order A; codes 0 and 7 have none. -/
def patternA (code : HallCode) : Option Pattern :=
  match code.toNat with
  | 1 => some { pwm := .u, low := .v, float := .w }
  | 3 => some { pwm := .u, low := .w, float := .v }
  | 2 => some { pwm := .v, low := .w, float := .u }
  | 6 => some { pwm := .v, low := .u, float := .w }
  | 4 => some { pwm := .w, low := .u, float := .v }
  | 5 => some { pwm := .w, low := .v, float := .u }
  | _ => none

/-- R116: order B exchanges the high and low legs of order A. -/
def patternOf (o : CommOrder) (code : HallCode) : Option Pattern :=
  match o with
  | .a => patternA code
  | .b => (patternA code).map fun p => { p with pwm := p.low, low := p.pwm }

/-- R115: codes 1 to 6 are valid. -/
def validCode (code : HallCode) : Bool := (patternA code).isSome

/-- What a leg is in a pattern. -/
def Pattern.role (p : Pattern) (l : Leg) : LegRole :=
  if p.pwm = l then .pwm else if p.low = l then .low else .float

/-- R118: a leg given a role; a gate that turns off keeps the other from turning on until the dead time has elapsed, and both
gates are off while the bridge is held. -/
def LegState.driven (g : LegState) (role : LegRole) (held : Bool) : LegState :=
  let wantHigh := !held && decide (role = .pwm)
  let wantLow := !held && decide (role = .low)
  let waitLow := g.waitLow || (g.high && !wantHigh)
  let waitHigh := g.waitHigh || (g.low && !wantLow)
  { role := role, high := wantHigh && !waitHigh, low := wantLow && !waitLow, waitHigh := waitHigh, waitLow := waitLow }

/-- The bridge given a pattern. -/
def Bridge.driven (b : Bridge) (p : Pattern) (held : Bool) : Bridge :=
  { u := b.u.driven (p.role .u) held, v := b.v.driven (p.role .v) held, w := b.w.driven (p.role .w) held }

/-- The bridge held off: every leg keeps its role (R13, R118, R122). -/
def Bridge.heldOff (b : Bridge) : Bridge :=
  { u := b.u.driven b.u.role true, v := b.v.driven b.v.role true, w := b.w.driven b.w.role true }

/-- R118: the bridge outside START and RUN: every leg floats with its gates off. While the bridge is held no dead time counts, so
the gates that wait go on waiting; else each has long elapsed when a leg is driven next (log 22). -/
def Bridge.parked (b : Bridge) (held : Bool) : Bridge :=
  if held then { u := b.u.driven .float true, v := b.v.driven .float true, w := b.w.driven .float true } else idleBridge

/-- R118: the dead time of a leg has elapsed, and its gates take what its role commands. -/
def LegState.released (g : LegState) : LegState :=
  { g with waitHigh := false, waitLow := false, high := decide (g.role = .pwm), low := decide (g.role = .low) }

/-- R118: the overcurrent latch or DIN6's raw level holds all six gates off. -/
def bridgeHeld (d : Device) : Bool := d.cmp.latch || rawOf d 6

/-- The present Hall code's pattern applied to the bridge, in the order in force. -/
def applyPattern (d : Device) : Device :=
  match patternOf d.cmp.orderNow d.pins.hall with
  | none => d
  | some p => putCmp { d.cmp with bridge := d.cmp.bridge.driven p (bridgeHeld d) } d

/-- R122: DIN6's raw level is active: the latch is set and all six gates turn off. -/
def overcurrentRaw (d : Device) : Device := putCmp { d.cmp with latch := true, bridge := d.cmp.bridge.heldOff } d

/-- R118: the dead time of a leg elapses; while the bridge is held it has not begun to count. -/
def deadTimeOver (l : Leg) (d : Device) : Device :=
  if bridgeHeld d || !d.cmp.state.drives then d
  else
    let b := d.cmp.bridge
    putCmp { d.cmp with bridge := match l with
      | .u => { b with u := if b.u.waitHigh || b.u.waitLow then b.u.released else b.u }
      | .v => { b with v := if b.v.waitHigh || b.v.waitLow then b.v.released else b.v }
      | .w => { b with w := if b.w.waitHigh || b.w.waitLow then b.w.released else b.w } } d

/-! ## The steps (R108) -/

/-- The quiet cap on a wished step. -/
def quietCapped (w : Nat) (d : Device) : Nat := if d.npl.quiet then min w d.cmp.settings.quietCap else w

/-- R108: the commanded step worked out afresh. -/
def commandStep (d : Device) : Device := putCmp { d.cmp with commanded := min d.cmp.wished (grantOf d .compressor) } d

/-- R108: the step a state requests. -/
def compAsk (st : CompState) (wished : Nat) : Nat :=
  match st with
  | .idle | .offHold | .waitInrush | .start | .run => wished
  | .disabled | .stopping | .stallBackoff | .blocked => 0

/-- R108: the entry written for the state and the wished step; the commanded step follows. -/
def writeComp (d : Device) : Device := commandStep (writeEntry .compressor (compAsk d.cmp.state d.cmp.wished) 0 d)

/-- R108: the wished step set, the entry written at a change. -/
def setCompWish (w : Nat) (d : Device) : Device :=
  if w = d.cmp.wished then commandStep d else writeComp (putCmp { d.cmp with wished := w } d)

/-- R108: what W is while demand is present: 2 in TIMED mode, L before the first cut-in of a demand, else what it was; capped
by the quiet cap. While demand is absent a W that is kept is capped too. -/
def presentWish (d : Device) : Nat :=
  quietCapped
    (if !d.cmp.demand then d.cmp.wished
     else if d.cmp.mode = .timed then 2
     else if !d.cmp.hadCutIn then d.cmp.learned
     else d.cmp.wished) d

/-- R108, R124: quiet hours or the quiet cap have changed. -/
def compCaps (d : Device) : Device := setCompWish (presentWish d) d

/-! ## Entering states (R108, R112 to R114) -/

/-- The timers on entry to a state, those of the state itself apart: START and RUN keep the stall timer, and a state outside them
stops all but the phase and off timers. -/
def timersIn (t : CompTimers) (st : CompState) : CompTimers :=
  if st = .run then { t with start := none, dutyRamp := none, coast := none, backoff := none, blocked := none }
  else { noCompTimers with phase := t.phase, offSince := t.offSince }

/-- The window with its rpm at 0, outside START and RUN (R119). -/
def SpeedWindow.stopped (w : SpeedWindow) : SpeedWindow := { w with rpm := 0 }

/-- R108, R110 to R114, R123, R126: a compressor state entered. Leaving START or RUN turns the gates off and starts the off timer;
with demand absent W is 0 in STOPPING, STALL_BACKOFF and BLOCKED; leaving RUN discards the partial revolution (R9). The deferred
cut-out mark is cleared on entry to any state but RUN (log 41, DESIGN CHOICE). The entry is written, and a change of the state
posted. -/
def enterComp (st : CompState) (d : Device) : Device :=
  let c := d.cmp
  let exits := c.state.drives && !st.drives
  let idles := !c.demand && (decide (st = .stopping) || decide (st = .stallBackoff) || decide (st = .blocked))
  let timers := timersIn c.timers st
  let c1 : Compressor := { c with
    state := st
    wished := if idles then 0 else c.wished
    deferred := if st = .run then c.deferred else false
    bridge := if st.drives then c.bridge else c.bridge.parked (bridgeHeld d)
    window := if st.drives then c.window else c.window.stopped
    timers := if exits then { timers with offSince := some d.sns.ms } else timers }
  let d1 : Device := putCmp c1 d
  let d2 : Device :=
    if c.state = .run ∧ st ≠ .run then { d1 with sns := { d1.sns with current := { sum := 0, count := 0 } } } else d1
  let d3 := writeComp d2
  if st = c.state then d3 else post .fridgeState d3

/-- R114: entry to STOPPING. -/
def toStopping (d : Device) : Device :=
  let d1 := enterComp .stopping d
  putCmpTimers { d1.cmp.timers with coast := some (d1.sns.ms + 1000) } d1

/-- Entry to DISABLED, where demand is absent and W is 0 (R106, R108). -/
def toDisabled (d : Device) : Device := enterComp .disabled (putCmp { d.cmp with wished := 0 } d)

/-- The off timer started (R111). -/
def startOffTimer (d : Device) : Device := putCmpTimers { d.cmp.timers with offSince := some d.sns.ms } d

/-- R110: the minimum off has passed. -/
def minOffPassed (d : Device) : Bool :=
  match d.cmp.timers.offSince with
  | none => true
  | some t => decide (t + 180000 ≤ d.sns.ms)

/-! ## Failures (R123) -/

/-- R123: a failure, taken in START or RUN. It is posted, and so is the change of state that follows (R126; log 40, DESIGN CHOICE). -/
def compFails (k : FailKind) (d : Device) : Device :=
  if !d.cmp.state.drives then d
  else
    let d1 := releaseAllowance .compressor d
    let failures := satSucc 255 d1.cmp.failures
    let d2 := post .fridgeState (putCmp { d1.cmp with
      failures := failures, lastFailure := some { kind := k, uptime := d1.sns.uptime } } d1)
    if failures < 3 then
      let d3 := enterComp .stallBackoff d2
      putCmpTimers { d3.cmp.timers with backoff := some (d3.sns.ms + 60000) } d3
    else
      let d3 := enterComp .blocked d2
      postIndication .cmp 1 true (putCmpTimers { d3.cmp.timers with blocked := some (d3.sns.ms + 1800000) } d3)

/-! ## Starting (R110 to R112) -/

/-- R112: entry to START on the granted allowance. -/
def toStart (d : Device) : Device :=
  let d1 := enterComp .start d
  let ms := d1.sns.ms
  let blocked := rawOf d1 6
  let c : Compressor := { d1.cmp with
    grantTime := some ms
    latch := blocked
    window := { intervals := [], edges := 0, rpm := 0, first := true }
    staged := 100
    orderNow := d1.cmp.settings.order
    deadTimeNow := d1.cmp.settings.deadTime
    polePairsNow := d1.cmp.settings.polePairs
    timers := { d1.cmp.timers with stall := some (ms + 250), start := some (ms + 3000), dutyRamp := some (ms + 200) } }
  let d2 := putCmp c d1
  if blocked then compFails .overcurrent d2
  else if validCode d2.pins.hall then applyPattern d2
  else compFails .hall d2

/-- R111: a "denied" or a grant of 0 in WAIT_INRUSH. -/
def backToHold (d : Device) : Device := enterComp .offHold (startOffTimer d)

/-- R111: entry to WAIT_INRUSH and the request. -/
def toCompWait (d : Device) : Device :=
  match requestAllowance .compressor (enterComp .waitInrush d) with
  | (d1, none) => d1
  | (d1, some .granted) => toStart d1
  | (d1, some .denied) => backToHold d1

/-- R110: OFF_HOLD's conditions tested. -/
def holdTest (d : Device) : Device :=
  if d.cmp.state = .offHold ∧ minOffPassed d then
    if d.cmp.demand then (if 0 < grantOf d .compressor then toCompWait d else d) else enterComp .idle d
  else d

/-- R110: entry to OFF_HOLD, and on from there in the same moment. -/
def toOffHold (d : Device) : Device := holdTest (enterComp .offHold d)

/-! ## Cut-out and learning (R109, R113) -/

/-- R109: the cut-out of a cycle teaches L. -/
def learnCutOut (d : Device) : Device :=
  let short := match d.cmp.cutIn with
    | none => false
    | some u => decide (uptimeSince d u < 600)
  if d.cmp.learning && short then putCmp { d.cmp with learned := max 1 (d.cmp.learned - 1) } d else d

/-- R113: a cut-out. -/
def cutOut (d : Device) : Device := toStopping (learnCutOut d)

/-- R113: the minimum run has passed. -/
def minRunPassed (d : Device) : Bool := ranOut d d.cmp.timers.minRun

/-- R112, R113: the speed is proved; the allowance is released and the compressor enters RUN. -/
def toCompRun (d : Device) : Device :=
  let ms := d.sns.ms
  let thermostat := decide (d.cmp.mode = .thermostat)
  let d1 := releaseAllowance .compressor d
  let w := if d1.cmp.demand && thermostat then quietCapped d1.cmp.learned d1 else d1.cmp.wished
  let c := { d1.cmp with
    wished := w
    cutIn := some d1.sns.uptime
    learning := thermostat
    hadCutIn := d1.cmp.demand || d1.cmp.hadCutIn
    deferred := !d1.cmp.demand }
  let d2 := enterComp .run (putCmp c d1)
  let d3 := putCmpTimers { d2.cmp.timers with
    minRun := some (ms + 120000)
    failReset := some (ms + 60000)
    raise := if thermostat then some (ms + 900000) else none } d2
  { d3 with sns := { d3.sns with current := { sum := 0, count := 0 } } }

/-! ## Demand (R106 to R108) -/

/-- R106 to R113: demand has become present. A demand that returns in RUN under the deferred cut-out mark keeps the run, counts as
having had its cut-in and so keeps W in THERMOSTAT mode (log 21, DEDUCED). -/
def demandComes (d0 : Device) : Device :=
  let running := decide (d0.cmp.state = .run)
  let d1 := putCmp { d0.cmp with demand := true, hadCutIn := running } d0
  let d := putCmp { d1.cmp with deferred := false } d1
  let w := presentWish d
  match d.cmp.state with
  | .idle => toOffHold (putCmp { d.cmp with wished := w } d)
  | .offHold => holdTest (setCompWish w d)
  | _ => setCompWish w d

/-- R106 to R113: demand has become absent. -/
def demandGoes (d0 : Device) : Device :=
  let d := putCmp { d0.cmp with demand := false } d0
  match d.cmp.state with
  | .offHold => holdTest (setCompWish 0 d)
  | .waitInrush =>
    let d1 := withdrawAllowance .compressor d
    enterComp .idle (putCmp { d1.cmp with wished := 0 } d1)
  | .start => d
  | .run => if minRunPassed d then cutOut d else putCmp { d.cmp with deferred := true } d
  | .disabled | .idle | .stopping | .stallBackoff | .blocked => setCompWish 0 d

/-- Demand decided. -/
def setDemand (v : Bool) (d : Device) : Device :=
  if v = d.cmp.demand then d else if v then demandComes d else demandGoes d

/-- R106: the thermostat. -/
def thermostat (d : Device) : Device :=
  let t := d.sns.analog.tFridge.value
  let q := d.cmp.settings
  if q.setpoint + (q.differential : Int) ≤ t then setDemand true d
  else if t ≤ q.setpoint then setDemand false d
  else d

/-- R107: TIMED mode entered, or entered afresh by a later enable: a demand phase starts. -/
def enterTimed (d : Device) : Device :=
  let changed := decide (d.cmp.mode ≠ .timed)
  let d1 := putCmp { d.cmp with
    mode := .timed
    phase := .demand
    timers := { d.cmp.timers with phase := some (d.sns.ms + 600000), raise := none } } d
  let d2 := if changed then post .fridgeState d1 else d1
  if d2.cmp.demand then setCompWish (quietCapped 2 d2) d2 else setDemand true d2

/-- R107: THERMOSTAT mode returns. -/
def leaveTimed (d : Device) : Device :=
  let d1 := post .fridgeState (putCmp { d.cmp with
    mode := .thermostat, timers := { d.cmp.timers with phase := none } } d)
  if d1.cmp.demand then setCompWish (quietCapped d1.cmp.learned d1) d1 else d1

/-- R106, R107: a published sweep reaches CMP. -/
def compSweep (d : Device) : Device :=
  if !d.cmp.enable then d
  else if d.sns.analog.tFridge.status = .ok then
    thermostat (if d.cmp.mode = .timed then leaveTimed d else d)
  else if d.cmp.mode = .timed ∧ d.cmp.timers.phase ≠ none then d
  else enterTimed d

/-- R107: the timed phase ends. -/
def phaseExpiry (d : Device) : Device :=
  let t := d.cmp.timers.phase.getD d.sns.ms
  match d.cmp.phase with
  | .demand =>
    setDemand false (putCmp { d.cmp with phase := .rest, timers := { d.cmp.timers with phase := some (t + 1200000) } } d)
  | .rest =>
    setDemand true (putCmp { d.cmp with phase := .demand, timers := { d.cmp.timers with phase := some (t + 600000) } } d)

/-! ## Grants and the allowance's answers (R108, R110 to R113) -/

/-- R55: CMP takes a grant handed to it. -/
def compGrant (d0 : Device) : Device :=
  let d := commandStep d0
  let none' := decide (grantOf d .compressor = 0)
  match d.cmp.state with
  | .offHold => holdTest d
  | .waitInrush => if none' then backToHold d else d
  | .start => if none' then toStopping (releaseAllowance .compressor d) else d
  | .run => if none' then (if d.cmp.deferred then cutOut d else toStopping d) else d
  | .disabled | .idle | .stopping | .stallBackoff | .blocked => d

/-- "granted" to a compressor that waits. -/
def compGranted (d : Device) : Device := if d.cmp.state = .waitInrush then toStart d else d

/-- "denied" to a compressor that waits. -/
def compDenied (d : Device) : Device := if d.cmp.state = .waitInrush then backToHold d else d

/-- R112: "revoked" in START: at the hold limit a failed start, before it a stop without a failure. -/
def compRevoked (d : Device) : Device :=
  if d.cmp.state = .start then
    if d.cmp.grantTime.getD 0 + 5000 ≤ d.sns.ms then compFails .startFail d else toStopping d
  else d

/-! ## Speed and regulation (R9, R115, R119, R120) -/

/-- The target rpm of a step (section 6.2). -/
def targetRpm (step : Nat) : Nat :=
  match step with
  | 0 => 0
  | 1 => 2000
  | 2 => 2500
  | 3 => 3000
  | _ => 3500

/-- R117: the staged duty, clamped when it is staged. -/
def stageDuty (duty : Nat) (d : Device) : Device := putCmp { d.cmp with staged := clampNat 100 950 duty } d

/-- R119: the rpm of six intervals, the last ending at `ms`. -/
def windowRpm (intervals : List Nat) (polePairs ms : Nat) : Nat :=
  let sum := intervals.sum
  if sum * polePairs = 0 then Config.compressorRpmOfZeroSum ms else 60000000 / (sum * polePairs)

/-- R120: the staged duty adjusted at a completed window in RUN. -/
def regulate (mean : Option Nat) (d : Device) : Device :=
  let duty := d.cmp.staged
  let rpm := d.cmp.window.rpm
  let target := targetRpm d.cmp.commanded
  let exceeds := match mean with
    | none => false
    | some m => decide (d.cmp.settings.currentLimit < m)
  if exceeds then stageDuty (duty - 20) d
  else if rpm + 50 < target then stageDuty (duty + 5) d
  else if target + 50 < rpm then stageDuty (duty - 5) d
  else d

/-- R9: the mean of the revolution's samples, absent without samples. -/
def revolutionMean (c : CurrentPath) : Option Nat := if c.count = 0 then none else some (c.sum / c.count)

/-- R9, R119, R120: a completed speed window. A revolution without samples hands no mean, and READ_FRIDGE's last mean stays the
earlier one (log 41, DESIGN CHOICE). -/
def windowDone (d0 : Device) : Device :=
  let d := putCmp { d0.cmp with window := { d0.cmp.window with
    edges := 0, rpm := windowRpm d0.cmp.window.intervals d0.cmp.polePairsNow d0.sns.ms } } d0
  match d.cmp.state with
  | .start => if 1500 ≤ d.cmp.window.rpm then toCompRun d else d
  | .run =>
    let mean := revolutionMean d.sns.current
    let d1 : Device := { d with sns := { d.sns with current := { sum := 0, count := 0 } } }
    regulate mean (putCmp { d1.cmp with lastMean := mean.orElse fun _ => d1.cmp.lastMean } d1)
  | _ => d

/-- R119: an interval added to the speed window; the first edge after START captures none. -/
def SpeedWindow.add (w : SpeedWindow) (intervalUs : Nat) : SpeedWindow :=
  if w.first then { w with first := false }
  else
    let all := w.intervals ++ [intervalUs]
    { w with intervals := if 6 < all.length then all.drop 1 else all, edges := w.edges + 1 }

/-- R115, R119: a Hall edge. Outside START and RUN the code is followed but drives no gate. -/
def hallEdge (code : HallCode) (intervalUs : Nat) (d0 : Device) : Device :=
  if validCode code && decide (code ≠ d0.pins.hall) then
    let d : Device := { d0 with pins := { d0.pins with hall := code } }
    if d.cmp.state.drives then
      let d1 := applyPattern d
      let w := d1.cmp.window.add intervalUs
      let d2 := putCmp { d1.cmp with window := w, timers := { d1.cmp.timers with stall := some (d1.sns.ms + 250) } } d1
      if w.edges = 6 then windowDone d2 else d2
    else d
  else d0

/-- R115: the filtered code changes to 0 or 7. No interval is taken from the invalid span. -/
def hallInvalid (code : HallCode) (d0 : Device) : Device :=
  if validCode code || decide (code = d0.pins.hall) then d0
  else
    let d : Device := { d0 with pins := { d0.pins with hall := code } }
    compFails .hall (putCmp { d.cmp with window := { d.cmp.window with first := true } } d)

/-! ## The timers of START, RUN and the states after (R109, R112 to R114, R121, R123) -/

/-- R112: 200 ms of START have passed. -/
def dutyStep (d : Device) : Device :=
  if d.cmp.state = .start then
    stageDuty (d.cmp.staged + 50) (putCmpTimers { d.cmp.timers with dutyRamp := d.cmp.timers.dutyRamp.map (· + 200) } d)
  else d

/-- R113: the minimum run passes. -/
def minRunExpiry (d : Device) : Device :=
  let d1 := putCmpTimers { d.cmp.timers with minRun := none } d
  if d1.cmp.state = .run ∧ d1.cmp.deferred then cutOut d1 else d1

/-- R113: 60 s of RUN have passed. -/
def failureReset (d : Device) : Device :=
  let d1 := putCmpTimers { d.cmp.timers with failReset := none } d
  if d1.cmp.state = .run then putCmp { d1.cmp with failures := 0 } d1 else d1

/-- R109: 900 s of RUN have passed. -/
def raiseExpiry (d : Device) : Device :=
  if d.cmp.state = .run then
    let w := max d.cmp.wished (quietCapped (min 4 (d.cmp.wished + 1)) d)
    setCompWish w (putCmp { d.cmp with
      learned := min 4 (d.cmp.learned + 1)
      timers := { d.cmp.timers with raise := d.cmp.timers.raise.map (· + 900000) } } d)
  else d

/-- R110: the minimum off passes. -/
def minOffExpiry (d : Device) : Device := holdTest (putCmpTimers { d.cmp.timers with offSince := none } d)

/-- The state a rest of any kind ends in (R123): OFF_HOLD, or DISABLED with the enable OFF. -/
def afterRest (d : Device) : Device := if d.cmp.enable then toOffHold d else toDisabled d

/-- R114: the coast ends. -/
def coastEnd (d : Device) : Device :=
  if d.cmp.state ≠ .stopping then d
  else if !d.cmp.enable then toDisabled d
  else if d.cmp.demand then toOffHold d
  else enterComp .idle d

/-- R123: the backoff ends. -/
def backoffExpiry (d : Device) : Device := if d.cmp.state = .stallBackoff then afterRest d else d

/-- R123: BLOCKED is left with a failure count. -/
def leaveBlocked (failures : Nat) (d : Device) : Device :=
  let d1 := putCmp { d.cmp with failures := failures } d
  if d1.cmp.state = .blocked then afterRest (postIndication .cmp 0 false d1) else d1

/-! ## Requests (R124 to R126) -/

/-- The settings of FRIDGE_CONFIG. -/
def fridgeOf (b : List Byte) : FridgeSettings :=
  { setpoint := sWordAt b 0
    differential := byteAt b 2
    order := if byteAt b 3 = 0 then .a else .b
    deadTime := wordAt b 4
    polePairs := byteAt b 6
    currentLimit := wordAt b 7
    quietCap := byteAt b 9 }

/-- Section 6.7: whether the settings of a body are in their ranges. -/
def goodFridge (b : List Byte) : Bool :=
  let q := fridgeOf b
  withinInt (-200) 100 q.setpoint && within 10 50 q.differential && decide (byteAt b 3 ≤ 1) && within 500 4000 q.deadTime &&
    within 2 4 q.polePairs && within 2000 20000 q.currentLimit && within 1 4 q.quietCap

/-- R124: FRIDGE_CONFIG. -/
def fridgeConfigRequest (b : List Byte) (d : Device) : Answered :=
  let q := fridgeOf b
  if b.length ≠ 10 then refuse .badLength d
  else if !goodFridge b then refuse .badValue d
  else if d.cmp.state.drives &&
      (decide (q.order ≠ d.cmp.orderNow) || decide (q.deadTime ≠ d.cmp.deadTimeNow) || decide (q.polePairs ≠ d.cmp.polePairsNow)) then
    refuse .busy d
  else
    let d1 := putCmp { d.cmp with settings := q } d
    taken (if d1.npl.quiet then compCaps d1 else d1) []

/-- R125: the enable turned ON. -/
def enableComp (d : Device) : Device :=
  let d1 := putCmp { d.cmp with enable := true } d
  if d1.cmp.state = .disabled then enterComp .idle d1 else d1

/-- R125: the enable turned OFF. -/
def disableComp (d0 : Device) : Device :=
  let d := putCmp { d0.cmp with
    enable := false, demand := false, timers := { d0.cmp.timers with phase := none } } d0
  match d.cmp.state with
  | .idle | .offHold => toDisabled d
  | .waitInrush => toDisabled (withdrawAllowance .compressor d)
  | .start => toStopping (releaseAllowance .compressor d)
  | .run => toStopping d
  | .stopping | .stallBackoff | .blocked => setCompWish 0 d
  | .disabled => d

/-- R125: FRIDGE_ENABLE. -/
def fridgeEnableRequest (b : List Byte) (d : Device) : Answered :=
  if b ≠ [] then refuse .badLength d else taken (enableComp d) []

/-- R125: FRIDGE_DISABLE. -/
def fridgeDisableRequest (b : List Byte) (d : Device) : Answered :=
  if b ≠ [] then refuse .badLength d else taken (disableComp d) []

/-- R125: FRIDGE_CLEAR. -/
def fridgeClearRequest (b : List Byte) (d : Device) : Answered :=
  if b ≠ [] then refuse .badLength d else taken (leaveBlocked 0 d) []

/-- R126: the body of FRIDGE_STATE after the merge count. -/
def fridgeStateBody (d : Device) : List Byte :=
  let c := d.cmp
  u8 c.state.code ++ mark8 c.enable ++ u8 c.mode.code ++ u8 (if c.demand then 0 else 1) ++
    u8 c.wished ++ u8 c.commanded ++ u8 c.learned ++ u8 (grantOf d .compressor) ++
    u32 c.window.rpm ++ u16 c.duty ++
    u8 c.failures ++ opt8 (c.lastFailure.map fun f => f.kind.code) ++ opt32 (c.lastFailure.map fun f => f.uptime) ++
    mark8 c.latch ++ i16 d.sns.analog.tFridge.value ++ u8 d.sns.analog.tFridge.status.code

/-- R126: the running timer of the state. Which of its timers that is (in START the 3,000 ms one), and that RUN and OFF_HOLD have none,
their minimum run and off timers being fields of their own, is the model's reading (log 7, DEDUCED). -/
def compStateTimer (d : Device) : Option Nat :=
  let t := d.cmp.timers
  match d.cmp.state with
  | .start => t.start
  | .stopping => t.coast
  | .stallBackoff => t.backoff
  | .blocked => t.blocked
  | .disabled | .idle | .offHold | .waitInrush | .run => none

/-- R126: the off timer, all ones once it has passed. -/
def offTimerField (d : Device) : List Byte :=
  opt32 (if minOffPassed d then none else d.cmp.timers.offSince.map fun t => d.sns.ms - t)

/-- R126: the contents of READ_FRIDGE. The raise timer and the minimum-run timer are reported as the ms they have left (log 7, DEDUCED),
the off timer as the ms it has run; the timed phase's time remaining, of which R126 gives no unit, is in ms. The six Hall intervals
are sent oldest first, and the ones that are missing stand at the end with all ones (log 7, DEDUCED). -/
def fridgeContents (d : Device) : List Byte :=
  let c := d.cmp
  let q := c.settings
  fridgeStateBody d ++
    i16 q.setpoint ++ u8 q.differential ++ u8 q.order.code ++ u16 q.deadTime ++ u8 q.polePairs ++ u16 q.currentLimit ++
    u8 q.quietCap ++
    opt32 (remaining d (compStateTimer d)) ++
    offTimerField d ++ opt32 (remaining d c.timers.minRun) ++ mark8 c.deferred ++
    opt32 (remaining d c.timers.raise) ++ opt32 c.cutIn ++
    u8 c.phase.code ++ opt32 (remaining d c.timers.phase) ++
    u8 d.pins.hall.toNat ++ ((List.range 6).flatMap fun n => opt32 (c.window.intervals[n]?)) ++
    opt16 c.lastMean

/-! ## RESTART (R128) -/

/-- R128: the compressor through a RESTART. The cut-in uptime, the last mean current, the duty in force and staged, the timed phase, the
window's intervals and the marks of the run, which R128 does not name, are kept (log 43, DEDUCED). -/
def restartComp (d0 : Device) : Device :=
  let d1 := putCmp { d0.cmp with
    settings := defaultFridge
    enable := false
    demand := false
    mode := .thermostat
    timers := { d0.cmp.timers with phase := none } } d0
  let d := if d0.cmp.mode = .thermostat then d1 else post .fridgeState d1
  match d.cmp.state with
  | .start => toStopping (releaseAllowance .compressor d)
  | .run => toStopping d
  | .stopping => setCompWish 0 d
  | .waitInrush => toDisabled (withdrawAllowance .compressor d)
  | .blocked => toDisabled (postIndication .cmp 0 false d)
  | .idle | .offHold | .stallBackoff => toDisabled d
  | .disabled => d

/-! ## The commands -/

/-- FRIDGE_CONFIG (R124). -/
def execFridgeConfig (tag : Byte) (body : List Byte) (s : State) : Host.Outcome State Fault Refusal :=
  running s (serve 0x28 tag body fridgeConfigRequest)

/-- FRIDGE_ENABLE (R125). -/
def execFridgeEnable (tag : Byte) (body : List Byte) (s : State) : Host.Outcome State Fault Refusal :=
  running s (serve 0x29 tag body fridgeEnableRequest)

/-- FRIDGE_DISABLE (R125). -/
def execFridgeDisable (tag : Byte) (body : List Byte) (s : State) : Host.Outcome State Fault Refusal :=
  running s (serve 0x2A tag body fridgeDisableRequest)

/-- FRIDGE_CLEAR (R125). -/
def execFridgeClear (tag : Byte) (body : List Byte) (s : State) : Host.Outcome State Fault Refusal :=
  running s (serve 0x2B tag body fridgeClearRequest)

/-- READ_FRIDGE (R126). -/
def execReadFridge (tag : Byte) (body : List Byte) (s : State) : Host.Outcome State Fault Refusal :=
  running s (serve 0x2C tag body (readOnly fridgeContents))

/-- TIMED_PHASE_EXPIRY (R107). -/
def execTimedPhaseExpiry (s : State) : Host.Outcome State Fault Refusal :=
  running s fun d => atTimer d.cmp.timers.phase phaseExpiry d

/-- MINIMUM_OFF_PASSED (R110). -/
def execMinimumOffPassed (s : State) : Host.Outcome State Fault Refusal :=
  running s fun d => atTimer (d.cmp.timers.offSince.map (· + 180000)) minOffExpiry d

/-- DUTY_RAMP_STEP (R112). -/
def execDutyRampStep (s : State) : Host.Outcome State Fault Refusal :=
  running s fun d => atTimer d.cmp.timers.dutyRamp dutyStep d

/-- START_TIMER_EXPIRY (R112). -/
def execStartTimerExpiry (s : State) : Host.Outcome State Fault Refusal :=
  running s fun d => atTimer d.cmp.timers.start (compFails .startFail) d

/-- HALL_EDGE (R115). -/
def execHallEdge (code : HallCode) (intervalUs : Nat) (s : State) : Host.Outcome State Fault Refusal :=
  running s (hallEdge code intervalUs)

/-- HALL_CODE_INVALID (R115). -/
def execHallCodeInvalid (code : HallCode) (s : State) : Host.Outcome State Fault Refusal := running s (hallInvalid code)

/-- MINIMUM_RUN_EXPIRY (R113). -/
def execMinimumRunExpiry (s : State) : Host.Outcome State Fault Refusal :=
  running s fun d => atTimer d.cmp.timers.minRun minRunExpiry d

/-- FAILURE_COUNTER_RESET_TIMER (R113). -/
def execFailureCounterResetTimer (s : State) : Host.Outcome State Fault Refusal :=
  running s fun d => atTimer d.cmp.timers.failReset failureReset d

/-- RAISE_TIMER_EXPIRY (R109). -/
def execRaiseTimerExpiry (s : State) : Host.Outcome State Fault Refusal :=
  running s fun d => atTimer d.cmp.timers.raise raiseExpiry d

/-- STOPPING_COAST_END (R114). -/
def execStoppingCoastEnd (s : State) : Host.Outcome State Fault Refusal :=
  running s fun d => atTimer d.cmp.timers.coast coastEnd d

/-- STALL_TIMER_EXPIRY (R121). -/
def execStallTimerExpiry (s : State) : Host.Outcome State Fault Refusal :=
  running s fun d => atTimer d.cmp.timers.stall (compFails .stall) d

/-- BACKOFF_EXPIRY (R123). -/
def execBackoffExpiry (s : State) : Host.Outcome State Fault Refusal :=
  running s fun d => atTimer d.cmp.timers.backoff backoffExpiry d

/-- BLOCKED_TIMER_EXPIRY (R123). -/
def execBlockedTimerExpiry (s : State) : Host.Outcome State Fault Refusal :=
  running s fun d => atTimer d.cmp.timers.blocked (fun d1 => if d1.cmp.state = .blocked then leaveBlocked 2 d1 else d1) d

/-- CARRIER_VALLEY (R117). -/
def execCarrierValley (s : State) : Host.Outcome State Fault Refusal :=
  running s fun d => putCmp { d.cmp with duty := d.cmp.staged } d

/-- DEAD_TIME_EXPIRY (R118). -/
def execDeadTimeExpiry (leg : Leg) (s : State) : Host.Outcome State Fault Refusal := running s (deadTimeOver leg)

end Sys2Proof.Machine
end

