-- ==== Sys2Proof/Machine/Budget.lean ====
section
/-! DEFINITION. The Load Budget (chapter 4): the budget pass, the inrush allowance's own events, the auxiliary outlet, and BGT's
requests. A triggered pass is counted as due and taken by BUDGET_PASS (log 17). -/

namespace Sys2Proof.Machine

/-! ## The outlet (R68, R69) -/

/-- R68: the OUTLET relay is closed in CLOSING and ON. -/
def relayClosed (d : Device) : Bool := decide (d.bgt.outlet.state = .closing) || decide (d.bgt.outlet.state = .on)

/-- R68: the outlet is switched on in every state but OFF. -/
def switchedOn (d : Device) : Bool := decide (d.bgt.outlet.state ≠ .off)

/-- R68: the outlet moved to a state, its closing timer as given; a change of the state posts BUDGET_STATE. -/
def setOutlet (st : OutletState) (closing : Option Nat) (d : Device) : Device :=
  let d1 : Device := { d with bgt := { d.bgt with outlet := { state := st, closing := closing } } }
  if st = d.bgt.outlet.state then d1 else post .budgetState d1

/-- R69: entry to CLOSING. -/
def toClosing (d : Device) : Device := setOutlet .closing (some (d.sns.ms + 2000)) d

/-- R69: the outlet requests the allowance and moves by the answer. -/
def outletRequest (d : Device) : Device :=
  match requestAllowance .outlet d with
  | (d1, none) => setOutlet .waitToken none d1
  | (d1, some .granted) => toClosing d1
  | (d1, some .denied) => setOutlet .denied none d1

/-- R55, R69: the outlet takes a grant handed to it. -/
def outletGrant (d : Device) : Device :=
  let none' := decide (grantOf d .outlet = 0)
  match d.bgt.outlet.state with
  | .off => d
  | .waitGrant => if none' then d else outletRequest d
  | .waitToken => if none' then setOutlet .waitGrant none d else d
  | .closing => if none' then setOutlet .waitGrant none (releaseAllowance .outlet d) else d
  | .on => if none' then setOutlet .waitGrant none d else d
  | .denied => if none' then setOutlet .waitGrant none d else d

/-- "granted" to an outlet that waits. -/
def outletGranted (d : Device) : Device := if d.bgt.outlet.state = .waitToken then toClosing d else d

/-- "denied" to an outlet that waits. -/
def outletDenied (d : Device) : Device := if d.bgt.outlet.state = .waitToken then setOutlet .denied none d else d

/-- "revoked" to an outlet that closes. -/
def outletRevoked (d : Device) : Device := if d.bgt.outlet.state = .closing then setOutlet .on none d else d

/-- R69: the closing timer expires. -/
def closingExpiry (d : Device) : Device :=
  if d.bgt.outlet.state = .closing then setOutlet .on none (releaseAllowance .outlet d) else d

/-- R68: switch on. -/
def outletOn (d : Device) : Device :=
  match d.bgt.outlet.state with
  | .off => writeEntry .outlet 1 0 (setOutlet .waitGrant none d)
  | .denied => outletRequest d
  | .waitGrant | .waitToken | .closing | .on => d

/-- R68: switch off. -/
def outletOff (d : Device) : Device :=
  match d.bgt.outlet.state with
  | .off => d
  | .waitToken => writeEntry .outlet 0 0 (setOutlet .off none (withdrawAllowance .outlet d))
  | .closing => writeEntry .outlet 0 0 (setOutlet .off none (releaseAllowance .outlet d))
  | .waitGrant | .on | .denied => writeEntry .outlet 0 0 (setOutlet .off none d)

/-- R68: a rising event from DIN2. -/
def outletToggle (d : Device) : Device := if switchedOn d then outletOff d else outletOn d

/-- R70: OUTLET_SET. -/
def outletSetRequest (b : List Byte) (d : Device) : Answered :=
  if b.length ≠ 1 then refuse .badLength d
  else if 1 < byteAt b 0 then refuse .badValue d
  else
    let d1 := if byteAt b 0 = 1 then outletOn d else outletOff d
    taken d1 (u8 d1.bgt.outlet.state.code ++ mark8 (relayClosed d1) ++ u8 (grantOf d1 .outlet))

/-! ## The allowance's answers to its loads (R65 to R67) -/

/-- "granted" handed to a load. -/
def answerGranted (l : Load) (d : Device) : Device :=
  match l with
  | .heater => heaterGranted d
  | .compressor => compGranted d
  | .outlet => outletGranted d
  | .base | .lights | .warning => d

/-- "denied" handed to a load. -/
def answerDenied (l : Load) (d : Device) : Device :=
  match l with
  | .heater => heaterDenied d
  | .compressor => compDenied d
  | .outlet => outletDenied d
  | .base | .lights | .warning => d

/-- "revoked" handed to a load. -/
def answerRevoked (l : Load) (d : Device) : Device :=
  match l with
  | .heater => heaterRevoked d
  | .compressor => compRevoked d
  | .outlet => outletRevoked d
  | .base | .lights | .warning => d

/-- R66: the holder is revoked and the allowance goes to SETTLING. -/
def revokeHolder (d : Device) : Device :=
  match d.bgt.allowance.state with
  | .held l => answerRevoked l (putAllowance (d.bgt.allowance.release d.sns.ms) d)
  | .free | .settling => d

/-- R65: the settling timer expires. -/
def settlingExpiry (d : Device) : Device :=
  match d.bgt.allowance.waiting with
  | [] => putAllowance { d.bgt.allowance with state := .free, settle := none } d
  | l :: rest => answerGranted l (putAllowance ({ d.bgt.allowance with waiting := rest }.give l d.sns.ms) d)

/-- R67, R75: the allowance emptied: the waiting loads denied in list order, then the holder revoked. -/
def flushAllowance (d : Device) : Device :=
  let waiting := d.bgt.allowance.waiting
  let d1 := putAllowance { d.bgt.allowance with waiting := [] } d
  revokeHolder (waiting.foldl (fun acc l => answerDenied l acc) d1)

/-! ## The pass (R56 to R62) -/

/-- R56: the horizon source handed by the Night Plan; a change triggers a pass. -/
def putHorizon (source : Option Nat) (d : Device) : Device :=
  if source = d.bgt.horizonSource then d else triggerPass { d with bgt := { d.bgt with horizonSource := source } }

/-- R56: H at a pass. -/
def horizonOf (d : Device) : Nat :=
  match d.bgt.horizonSource with
  | none => d.bgt.defaultHorizon
  | some wake => clampNat 3600 57600 (wake - d.sns.uptime)

/-- R57: the policy of a pass, the first that applies. -/
def policyOf (d : Device) : Policy :=
  if d.vbl.signals.engineRunning.isOn ∧ 0 < d.chg.current ∧ d.chg.uv = .normal then .exempt
  else if d.chg.uv = .critical then .critical
  else match d.chg.known, d.chg.uv with
    | false, .normal => .unknownNormal
    | false, _ => .unknownLow
    | true, .normal => .knownNormal
    | true, _ => .knownLow

/-- R53: an entry's state, derived from its steps. -/
inductive EntryState where
  | full | limited | shed
  deriving DecidableEq, Repr

/-- R53: the state of an entry. -/
def Entry.status (e : Entry) : EntryState :=
  if e.granted = e.requested then .full
  else if e.granted = 0 ∧ 0 < e.requested then .shed
  else .limited

/-- R53: FULL, LIMITED and SHED in the chapter's order. -/
def EntryState.code : EntryState → Nat
  | .full => 0 | .limited => 1 | .shed => 2

/-- The demand of the table at its grants (R56). -/
def demandAtGrants (t : LoadTable) (h : Nat) : Nat := tableDemand t (fun l => (t.get l).granted) h

/-- An entry's grant replaced. -/
def LoadTable.grant (t : LoadTable) (l : Load) (n : Nat) : LoadTable := t.put l { t.get l with granted := n }

/-- Every sheddable entry's grant worked out from the entry. -/
def LoadTable.grantAll (t : LoadTable) (f : Entry → Nat) : LoadTable :=
  sheddable.foldl (fun acc l => acc.grant l (f (t.get l))) t

/-- The sheddable load of a rank. -/
def loadOfRank (t : LoadTable) (rank : Nat) : Option Load := sheddable.find? fun l => decide ((t.get l).rank = some rank)

/-- R59, steps 2 to 4: one load lowered step by step to its floor, until the demand is `usable` or less; whether it is then. -/
def lowerLoad (l : Load) (h usable : Nat) : Nat → LoadTable → LoadTable × Bool
  | 0, t => (t, false)
  | fuel + 1, t =>
    if (t.get l).granted ≤ (t.get l).floor then (t, false)
    else
      let t1 := t.grant l ((t.get l).granted - 1)
      if demandAtGrants t1 h ≤ usable then (t1, true) else lowerLoad l h usable fuel t1

/-- R59: the reduction walk over loads in the given order; whether it ended with the demand at `usable` or less. -/
def walkLoads (h usable : Nat) : List Load → LoadTable → LoadTable × Bool
  | [], t => (t, false)
  | l :: rest, t =>
    match lowerLoad l h usable ((t.get l).granted - (t.get l).floor) t with
    | (t1, true) => (t1, true)
    | (t1, false) => walkLoads h usable rest t1

/-- The sheddable loads, rank 4 first. -/
def worstFirst (t : LoadTable) : List Load := [4, 3, 2, 1].filterMap (loadOfRank t)

/-- R60: the sheddable load of best rank whose grant is below its request. -/
def bestLimited (t : LoadTable) : Option Load :=
  ([1, 2, 3, 4].filterMap (loadOfRank t)).find? fun l => decide ((t.get l).granted < (t.get l).requested)

/-- R60: one raise, if the margin of one tenth allows it. -/
def raiseOne (h usable : Nat) (t : LoadTable) : LoadTable :=
  match bestLimited t with
  | none => t
  | some l =>
    let t1 := t.grant l ((t.get l).granted + 1)
    if demandAtGrants t1 h ≤ usable * 900 / 1000 then t1 else t

/-- R59, R60: the grants of a KNOWN pass, and its BUDGET_SHORT flag. -/
def weighedGrants (h usable : Nat) (t : LoadTable) : LoadTable × Bool :=
  if demandAtGrants t h ≤ usable then (raiseOne h usable t, false)
  else
    match walkLoads h usable (worstFirst t) t with
    | (t1, done) => (t1, !done)

/-- R58: UNKNOWN_LOW grants floors to ranks 3 and 4 and requests to ranks 1 and 2. -/
def unknownLowGrant (e : Entry) : Nat :=
  match e.rank with
  | some 1 => e.requested
  | some 2 => e.requested
  | _ => e.floor

/-- R61: the stage of a KNOWN pass. -/
def stageOf (t : LoadTable) : Nat :=
  if allLoads.any fun l => decide ((t.get l).status = .shed) then 2
  else if allLoads.any fun l => decide ((t.get l).status = .limited) then 1
  else 0

/-- R59: S′ of a policy. -/
def usableOf (p : Policy) (spendable : Nat) : Nat :=
  match p with
  | .knownNormal => spendable
  | .knownLow => spendable / 2
  | .exempt | .critical | .unknownNormal | .unknownLow => 0

/-- What a pass decides: the grants, the stage and the BUDGET_SHORT flag (R58 to R61). -/
def decideGrants (p : Policy) (h usable : Nat) (t : LoadTable) : LoadTable × Nat × Bool :=
  match p with
  | .exempt => (t.grantAll (·.requested), 0, false)
  | .critical => (t.grantAll (·.floor), 3, false)
  | .unknownNormal => (t.grantAll (·.requested), 0, false)
  | .unknownLow => (t.grantAll unknownLowGrant, 2, false)
  | .knownNormal | .knownLow =>
    match weighedGrants h usable t with
    | (t1, short) => (t1, stageOf t1, short)

/-- R62: the since time of every entry whose grant changed. -/
def stampSince (old new : LoadTable) (uptime : Nat) : LoadTable :=
  sheddable.foldl (fun (acc : LoadTable) l =>
    if (new.get l).granted = (old.get l).granted then acc else acc.put l { new.get l with since := uptime }) new

/-- R55: a changed grant handed to its owner. -/
def handGrant (l : Load) (d : Device) : Device :=
  match l with
  | .heater => heaterGrant d
  | .compressor => compGrant d
  | .lights => lightsGrant d
  | .outlet => outletGrant d
  | .base | .warning => d

/-- R61: BGT's entry in the indication source list follows the BUDGET_SHORT flag. -/
def showShort (was now : Bool) (d : Device) : Device :=
  if now && !was then postIndication .bgt 2 true d
  else if was && !now then postIndication .bgt 0 false d
  else d

/-- R57 to R62: one budget pass: the policy, the grants, the published results, and the changed grants handed over. A load that
waits for the allowance and is left with a grant of 0 leaves the waiting list; its grant of 0 and its "denied" are one hand-off.
BUDGET_STATE is posted first, and the grants are handed in table order: HEATER, COMPRESSOR, LIGHTS, OUTLET (log 40, DESIGN CHOICE). -/
def runPass (d : Device) : Device :=
  let p := policyOf d
  let h := horizonOf d
  let usable := usableOf p d.chg.spendable
  let old := d.bgt.table
  match decideGrants p h usable old with
  | (t, stage, short) =>
    let new := stampSince old t d.sns.uptime
    let waiting := d.bgt.allowance.waiting.filter fun l => decide (0 < (new.get l).granted)
    let last : PassResults :=
      { policy := p, stage := stage, short := short, horizon := h, fromWake := d.bgt.horizonSource.isSome, usable := usable,
        demand := demandAtGrants new h, uptime := d.sns.uptime }
    let d1 : Device := { d with bgt := { d.bgt with
        table := new, last := last, allowance := { d.bgt.allowance with waiting := waiting } } }
    let d2 := if stage = d.bgt.last.stage ∧ short = d.bgt.last.short then d1 else post .budgetState d1
    let changed := sheddable.filter fun l => decide ((new.get l).granted ≠ (old.get l).granted)
    changed.foldl (fun acc l => handGrant l acc) (showShort d.bgt.last.short short d2)

/-- R57: a pass taken; it settles one of those due. -/
def budgetPass (d : Device) : Device := runPass { d with bgt := { d.bgt with passesDue := d.bgt.passesDue - 1 } }

/-! ## Requests and reports (R71 to R73) -/

/-- The numbers of `n` two-byte fields from an offset. -/
def wordsAt (b : List Byte) (offset n : Nat) : List Nat := (List.range n).map fun k => wordAt b (offset + 2 * k)

/-- R71: a step list may be taken: no current above 20,000 mA, and none below that of the step beneath it. -/
def goodSteps : List Nat → Bool
  | a :: b :: rest => decide (a ≤ 20000) && decide (a ≤ b) && goodSteps (b :: rest)
  | [a] => decide (a ≤ 20000)
  | [] => true

/-- R71: four ranks are 1, 2, 3 and 4 in some order. -/
def goodRanks (ranks : List Nat) : Bool := [1, 2, 3, 4].all fun r => decide (r ∈ ranks)

/-- R71: an entry's rank and step list replaced. -/
def Entry.configured (e : Entry) (rank : Option Nat) (steps : List Nat) : Entry := { e with rank := rank, steps := steps }

/-- R71: BUDGET_CONFIG. -/
def budgetConfigRequest (b : List Byte) (d : Device) : Answered :=
  if b.length ≠ 32 then refuse .badLength d
  else
    let base := wordsAt b 4 1
    let comp := wordsAt b 6 5
    let lights := wordsAt b 16 4
    let outlet := wordsAt b 24 2
    let warning := wordsAt b 28 1
    let horizon := wordAt b 30
    if !goodRanks [byteAt b 0, byteAt b 1, byteAt b 2, byteAt b 3] then refuse .badValue d
    else if !(goodSteps base && goodSteps comp && goodSteps lights && goodSteps outlet && goodSteps warning) then refuse .badValue d
    else if !within 3600 57600 horizon then refuse .badValue d
    else
      let t := d.bgt.table
      let table : LoadTable :=
        { base := t.base.configured none base
          heater := t.heater.configured (some (byteAt b 0)) t.heater.steps
          compressor := t.compressor.configured (some (byteAt b 1)) comp
          lights := t.lights.configured (some (byteAt b 2)) lights
          outlet := t.outlet.configured (some (byteAt b 3)) outlet
          warning := t.warning.configured none warning }
      taken (triggerPass { d with bgt := { d.bgt with table := table, defaultHorizon := horizon } }) []

/-- R72: an entry in READ_BUDGET; its step list carries R188's count byte (log 7, DEDUCED). -/
def entryFields (d : Device) (l : Load) : List Byte :=
  let e := entryOf d l
  u8 l.code ++ opt8 e.rank ++ counted u16 e.steps ++ u8 e.requested ++ u8 e.floor ++ u8 e.granted ++ u8 e.status.code ++ u32 e.since

/-- The holder of the allowance in a body. -/
def holderField (d : Device) : List Byte := opt8 (d.bgt.allowance.state.holder.map (·.code))

/-- R72: the contents of READ_BUDGET; whether H came from a wake is a mark, 1 for a wake and 0 for the default (log 7, DEDUCED). -/
def budgetContents (d : Device) : List Byte :=
  let r := d.bgt.last
  let a := d.bgt.allowance
  (allLoads.flatMap (entryFields d)) ++
    u8 r.policy.code ++ u8 r.stage ++ mark8 r.short ++ u32 r.uptime ++ u16 r.horizon ++ mark8 r.fromWake ++ u32 r.usable ++
    u32 r.demand ++ u16 d.bgt.defaultHorizon ++
    u8 a.state.code ++ holderField d ++ opt32 (remaining d a.hold) ++ opt32 (remaining d a.settle) ++
    counted (fun l : Load => u8 l.code) a.waiting ++
    u8 d.bgt.outlet.state.code ++ mark8 (relayClosed d) ++ opt32 (remaining d d.bgt.outlet.closing)

/-- R73: the body of BUDGET_STATE after the merge count. -/
def budgetStateBody (d : Device) : List Byte :=
  let r := d.bgt.last
  u8 r.policy.code ++ u8 r.stage ++ mark8 r.short ++ u16 r.horizon ++ u32 r.usable ++
    (sheddable.flatMap fun l =>
      u8 (entryOf d l).requested ++ u8 (entryOf d l).granted ++ u8 (entryOf d l).status.code) ++
    u8 d.bgt.allowance.state.code ++ holderField d ++ u8 d.bgt.outlet.state.code

/-! ## RESTART (R75) -/

/-- R75: the ranks, the step lists other than HEATER's, and the default horizon at their defaults. -/
def defaultBudget (d : Device) : Device :=
  let t := d.bgt.table
  let table : LoadTable :=
    { base := t.base.configured (defaultRank .base) (defaultSteps .base)
      heater := t.heater.configured (defaultRank .heater) t.heater.steps
      compressor := t.compressor.configured (defaultRank .compressor) (defaultSteps .compressor)
      lights := t.lights.configured (defaultRank .lights) (defaultSteps .lights)
      outlet := t.outlet.configured (defaultRank .outlet) (defaultSteps .outlet)
      warning := t.warning.configured (defaultRank .warning) (defaultSteps .warning) }
  { d with bgt := { d.bgt with table := table, defaultHorizon := 28800 } }

/-- R75: the Load Budget through a RESTART, its own pass taken at the end. -/
def restartBudget (d : Device) : Device := runPass (outletOff (flushAllowance (defaultBudget d)))

/-! ## The commands -/

/-- BUDGET_CONFIG (R71). -/
def execBudgetConfig (tag : Byte) (body : List Byte) (s : State) : Host.Outcome State Fault Refusal :=
  running s (serve 0x18 tag body budgetConfigRequest)

/-- READ_BUDGET (R72). -/
def execReadBudget (tag : Byte) (body : List Byte) (s : State) : Host.Outcome State Fault Refusal :=
  running s (serve 0x19 tag body (readOnly budgetContents))

/-- OUTLET_SET (R70). -/
def execOutletSet (tag : Byte) (body : List Byte) (s : State) : Host.Outcome State Fault Refusal :=
  running s (serve 0x1A tag body outletSetRequest)

/-- BUDGET_PASS (R57). -/
def execBudgetPass (s : State) : Host.Outcome State Fault Refusal := running s budgetPass

/-- HOLD_TIMER_EXPIRY (R66). -/
def execHoldTimerExpiry (s : State) : Host.Outcome State Fault Refusal :=
  running s fun d => atTimer d.bgt.allowance.hold revokeHolder d

/-- SETTLING_TIMER_EXPIRY (R65). -/
def execSettlingTimerExpiry (s : State) : Host.Outcome State Fault Refusal :=
  running s fun d => atTimer d.bgt.allowance.settle settlingExpiry d

/-- CLOSING_TIMER_EXPIRY (R69). -/
def execClosingTimerExpiry (s : State) : Host.Outcome State Fault Refusal :=
  running s fun d => atTimer d.bgt.outlet.closing closingExpiry d

end Sys2Proof.Machine
end

