-- ==== Sys2Proof/Machine/Plan.lean ====
section
/-! DEFINITION. The Night Plan (chapter 9): the plan and its wake, the lead, the pre-warm, quiet hours, and NPL's requests. -/

namespace Sys2Proof.Machine

/-- The device with a new plan record. -/
def putPlan (p : Plan) (d : Device) : Device := { d with npl := p }

/-- ARMED or PREWARM. -/
def planLive (d : Device) : Bool := decide (d.npl.state = .armed) || decide (d.npl.state = .prewarm)

/-! ## Quiet hours (R178) -/

/-- R178: the plan's own condition for quiet hours. -/
def planQuiet (d : Device) : Bool := planLive d && decide (d.npl.lastClass = .rest)

/-- R178: the quiet flag worked out afresh, and handed to CMP, HTR and LGT at a change. -/
def refreshQuiet (d : Device) : Device :=
  let q := planQuiet d || d.npl.hostQuiet
  if q = d.npl.quiet then d
  else
    let d1 := heaterCaps (compCaps (putPlan { d.npl with quiet := q } d))
    postPlan .quiet (if q then muteForQuiet d1 else d1)

/-! ## The pre-warm indication mark (R176) -/

/-- R176: the mark resolved. -/
def resolveMark (d : Device) : Device :=
  if d.npl.prewarmMark then
    let d1 := postIndication .htr 0 false d
    putPlan { d1.npl with prewarmMark := false } d1
  else d

/-- R176: a pre-warm failure shown in the heater's entry. -/
def showPrewarmFailure (d : Device) : Device :=
  let severity := d.lgt.sources.htr.severity
  if severity = 0 then
    let d1 := postIndication .htr 1 true d
    putPlan { d1.npl with prewarmMark := true } d1
  else
    let d1 := postIndication .htr severity true d
    putPlan { d1.npl with prewarmMark := false } d1

/-! ## The lead and the pre-warm (R174, R175) -/

/-- R174: the ambient temperature, absent when none can be read. -/
def ambient (d : Device) : Option Int :=
  if d.vbl.signals.ambientTemp.status = .fresh then some d.vbl.signals.ambientTemp.value
  else if d.sns.analog.tCab.status = .ok then some d.sns.analog.tCab.value
  else none

/-- R174: the lead for a pre-warm setpoint. -/
def leadOf (d : Device) : Nat :=
  match ambient d with
  | none => 3600
  | some a => clampNat 600 3600 (600 + (d.npl.setpoint - a).toNat * 3)

/-- R175: the pre-warm start handed to the heater, and its answer recorded and posted. -/
def givePrewarm (d : Device) : Device :=
  match startHeater .prewarm d.npl.setpoint (putPlan { d.npl with state := .prewarm } d) with
  | (d1, none) => postPlan .prewarm (putPlan { d1.npl with result := .taken } d1)
  | (d1, some r) => showPrewarmFailure (postPlan .prewarmFailed (putPlan { d1.npl with result := .refused r } d1))

/-- R175: the pre-warm time tested. -/
def prewarmTest (d : Device) : Device :=
  match d.npl.state, d.npl.wake with
  | .armed, some w => if w ≤ d.sns.uptime + d.npl.lead then givePrewarm d else d
  | _, _ => d

/-- R174: the lead worked out again at an uptime second that is a multiple of 60. -/
def leadRecompute (d : Device) : Device :=
  if d.npl.state = .armed ∧ d.npl.wake ≠ none ∧ d.sns.uptime % 60 = 0 then
    prewarmTest (putPlan { d.npl with lead := leadOf d } d)
  else d

/-! ## The wake (R173, R177) -/

/-- R173: the horizon handed to the Load Budget if the wake differs from the one handed last. -/
def handHorizon (d : Device) : Device :=
  let want := if planLive d then d.npl.wake else none
  if want = d.npl.horizonHanded then d else putHorizon want (putPlan { d.npl with horizonHanded := want } d)

/-- R173: the lead, the state and the horizon at a wake change. -/
def wakeChange (d : Device) : Device :=
  let lead := match d.npl.wake with
    | none => d.npl.lead
    | some _ => leadOf d
  handHorizon (putPlan { d.npl with lead := lead, state := .armed } d)

/-- R173: the wake moved by a hand-off. -/
def moveWake (wake : Option Nat) (d : Device) : Device :=
  if wake = d.npl.wake then d
  else prewarmTest (postPlan .wakeMoved (wakeChange (putPlan { d.npl with wake := wake } d)))

/-- R177: the wake is carried out. -/
def carryOutWake (d : Device) : Device :=
  let d1 := refreshQuiet (putPlan { d.npl with state := .ended, hostQuiet := false } d)
  let d2 := postPlan .wake (if d1.npl.wakeLights then recallWakeScene d1 else d1)
  let d3 := resolveMark (putHorizon none (putPlan { d2.npl with horizonHanded := none } d2))
  putPlan { d3.npl with state := .none, wake := none } d3

/-- R177: the wake tested. -/
def wakeTest (d : Device) : Device :=
  match d.npl.wake with
  | none => d
  | some w => if planLive d && decide (w ≤ d.sns.uptime) then carryOutWake d else d

/-- R173: the re-targeting of a REST_COMPLETE plan by a changed projection. -/
def retarget (projection : Option Nat) (d : Device) : Device :=
  if planLive d && decide (d.npl.source = .restComplete) then
    match projection with
    | some p => moveWake (some p) d
    | none => if d.npl.lastClass = .rest then carryOutWake d else moveWake none d
  else d

/-- R173: a hand-off from the Rest-Time Monitor. A hand-off that changes the class alone leaves the wake as it is. -/
def planHandoff (cls : ActClass) (projection : Option Nat) (d : Device) : Device :=
  let moved := decide (projection ≠ d.npl.lastProjection)
  let d1 := refreshQuiet (putPlan { d.npl with lastClass := cls, lastProjection := projection } d)
  if moved then retarget projection d1 else d1

/-! ## Requests and reports (R171, R172, R179 to R181) -/

/-- R171, check 4: a HOST_TIME wall time that may be taken. -/
def goodWall (wall : Nat) (d : Device) : Bool :=
  let now := wallOf d d.sns.uptime
  decide (now ≤ wall) && within 600 86400 (wall - now)

/-- R171: a taken PLAN_SET. -/
def setPlan (source : WakeSource) (wall setpoint : Nat) (lights : Bool) (d0 : Device) : Device :=
  let d := resolveMark d0
  let p := { d.npl with
    state := PlanState.armed
    source := source
    wake := match source with
      | .hostTime => some (uptimeOfWall d wall)
      | .restComplete => d.npl.lastProjection
    setpoint := if setpoint = 0 then 210 else (setpoint : Int)
    wakeLights := lights
    result := PrewarmResult.none }
  prewarmTest (postPlan .set (refreshQuiet (wakeChange (putPlan p d))))

/-- R171: PLAN_SET. -/
def planSetRequest (b : List Byte) (d : Device) : Answered :=
  if b.length ≠ 8 then refuse .badLength d
  else
    let wall := longAt b 1
    let setpoint := wordAt b 5
    let host := decide (byteAt b 0 = 0)
    if 1 < byteAt b 0 ∨ 1 < byteAt b 7 ∨ (setpoint ≠ 0 ∧ !within 50 300 setpoint) then refuse .badValue d
    else if host && !d.sns.clockSet then refuse .noClock d
    else if host && !goodWall wall d then refuse .badValue d
    else
      let d1 := setPlan (if host then .hostTime else .restComplete) wall setpoint (decide (byteAt b 7 = 1)) d
      taken d1 (optTimeField d1 d1.npl.wake)

/-- R172: PLAN_CANCEL taken. -/
def cancelPlan (d : Device) : Device :=
  let live := planLive d
  let d1 := refreshQuiet (putPlan { d.npl with state := .none, wake := none, hostQuiet := false } d)
  let d2 := resolveMark (handHorizon d1)
  if live then postPlan .cancel d2 else d2

/-- R172: PLAN_CANCEL. -/
def planCancelRequest (b : List Byte) (d : Device) : Answered :=
  if b ≠ [] then refuse .badLength d else taken (cancelPlan d) []

/-- R179: QUIET_SET. -/
def quietSetRequest (b : List Byte) (d : Device) : Answered :=
  if b.length ≠ 1 then refuse .badLength d
  else if 1 < byteAt b 0 then refuse .badValue d
  else
    let d1 := refreshQuiet (putPlan { d.npl with hostQuiet := decide (byteAt b 0 = 1) } d)
    taken d1 (mark8 d1.npl.quiet ++ mark8 (planQuiet d1))

/-- R180: the pre-warm time, unknown with the wake: the wake less the lead, in four bytes of two's complement where it lies before
uptime 0 (R174, R188). -/
def prewarmTime (d : Device) : Option Nat := d.npl.wake.map fun w => (((w : Int) - d.npl.lead) % 4294967296).toNat

/-- R180, R181: the PLAN_STATE snapshot, each uptime laid out by `time`. -/
def planFields (time : Option Nat → List Byte) (d : Device) : List Byte :=
  let p := d.npl
  u8 p.state.code ++ u8 p.source.code ++ time p.wake ++ u16 p.lead ++ time (prewarmTime d) ++ u16 p.setpoint.toNat ++
    mark8 p.wakeLights ++ p.result.field ++ mark8 p.quiet ++ mark8 p.hostQuiet ++ time p.horizonHanded

/-- R180: the body of PLAN_STATE after the merge count. -/
def planStateBody (d : Device) : List Byte := mask16 (d.npl.causes.map (·.code)) ++ planFields opt32 d

/-- R181: the contents of READ_PLAN. -/
def planContents (d : Device) : List Byte :=
  planFields (optTimeField d) d ++ u8 d.npl.lastClass.code ++ optTimeField d d.npl.lastProjection ++ mark8 d.npl.prewarmMark

/-! ## RESTART (R183) -/

/-- R183: the Night Plan through a RESTART. -/
def restartPlan (d : Device) : Device :=
  let d1 := refreshQuiet (putPlan { d.npl with
    state := .none
    wake := none
    setpoint := 210
    lead := 600
    wakeLights := false
    hostQuiet := false
    result := .none
    causes := [] } d)
  resolveMark (handHorizon d1)

/-! ## The commands -/

/-- PLAN_SET (R171). -/
def execPlanSet (tag : Byte) (body : List Byte) (s : State) : Host.Outcome State Fault Refusal :=
  running s (serve 0x1C tag body planSetRequest)

/-- PLAN_CANCEL (R172). -/
def execPlanCancel (tag : Byte) (body : List Byte) (s : State) : Host.Outcome State Fault Refusal :=
  running s (serve 0x1D tag body planCancelRequest)

/-- QUIET_SET (R179). -/
def execQuietSet (tag : Byte) (body : List Byte) (s : State) : Host.Outcome State Fault Refusal :=
  running s (serve 0x1E tag body quietSetRequest)

/-- READ_PLAN (R181). -/
def execReadPlan (tag : Byte) (body : List Byte) (s : State) : Host.Outcome State Fault Refusal :=
  running s (serve 0x1F tag body (readOnly planContents))

/-- LEAD_RECOMPUTE (R174). -/
def execLeadRecompute (s : State) : Host.Outcome State Fault Refusal :=
  running s fun d => leadRecompute { d with sched := { d.sched with leadTick := false } }

/-- PREWARM_TIME_REACHED (R175): the test of the pre-warm time that a second of uptime makes. -/
def execPrewarmTimeReached (s : State) : Host.Outcome State Fault Refusal :=
  running s fun d => prewarmTest { d with sched := { d.sched with prewarmTick := false } }

/-- WAKE (R177): the test of the wake that a second of uptime makes. -/
def execWake (s : State) : Host.Outcome State Fault Refusal :=
  running s fun d => wakeTest { d with sched := { d.sched with wakeTick := false } }

end Sys2Proof.Machine
end

