-- ==== Sys2Proof/Machine/Rest.lean ====
section
/-! DEFINITION. The Rest-Time Monitor (chapter 8): classifying each second, settling and backdating, the timeline, rest crossings,
the day, warnings, and RTM's requests. REST_TICK does the whole of a tick's work; the events that stand within a tick redo their
own test alone (log 1). -/

namespace Sys2Proof.Machine

/-- The device with a new rest record. -/
def putRest (r : Rest) (d : Device) : Device := { d with rtm := r }

/-- The largest value of the two drive counters (R152). -/
def driveTop : Nat := 2147483647

/-! ## Classifying (R149) -/

/-- ROAD_SPEED is FRESH. -/
def speedFresh (d : Device) : Bool := decide (d.vbl.signals.roadSpeed.status = .fresh)

/-- ROAD_SPEED is FRESH and above the moving threshold. -/
def moving (d : Device) : Bool := speedFresh d && decide ((d.rtm.rules.moving : Int) < d.vbl.signals.roadSpeed.value)

/-- The class a declaration names. -/
def Declaration.cls : Declaration → Option ActClass
  | .auto => none
  | .work => some .work
  | .available => some .available
  | .rest => some .rest

/-- R149: the raw class of the second, and whether it comes from a declaration. -/
def classify (d : Device) : ActClass × Bool :=
  if moving d then (.drive, false)
  else match d.rtm.declaration.cls with
    | some c => (c, true)
    | none =>
      if speedFresh d then
        (if d.vbl.signals.parkingBrake.isOn && deliveredOf d 1 then .rest else .available, false)
      else (.unknown, false)

/-! ## Counting and settling (R151 to R156) -/

/-- R152, R156: the second counted under the current class, and the open segment's speed-stale flag: at a tick that takes a class, that
of the segment the take then closes (log 41, DESIGN CHOICE); the new one has the flag of the run's mark. -/
def countSecond (d : Device) : Device :=
  let r := d.rtm
  let n := if r.current.cls = .drive then 1 else 0
  putRest { r with
    driveSinceBreak := min driveTop (r.driveSinceBreak + n)
    driveInDay := min driveTop (r.driveInDay + n)
    current := { r.current with stale := r.current.stale || !speedFresh d } } d

/-- R151: the settling time of a class. -/
def settlingTime : ActClass → Nat
  | .drive => 10
  | _ => 60

/-- R151: a run started at this tick. Its start is not worked modulo 2^32 (log 13, DEDUCED). -/
def startRun (raw : ActClass) (declared stale : Bool) (uptime : Nat) : SettlingRun :=
  { candidate := raw, start := uptime - 1, length := 1, declared := declared, stale := stale }

/-- R151: the settling run after a tick. -/
def advanceRun (run : Option SettlingRun) (raw current : ActClass) (declared stale : Bool) (uptime : Nat) : Option SettlingRun :=
  if raw = current then none
  else match run with
    | none => some (startRun raw declared stale uptime)
    | some s =>
      if s.candidate = raw then some { s with length := s.length + 1, declared := declared, stale := s.stale || stale }
      else some (startRun raw declared stale uptime)

/-- R154: a drive counter corrected at a take. -/
def corrected (old new : ActClass) (k n : Nat) : Nat :=
  if old = .drive then n - k else if new = .drive then min driveTop (n + k) else n

/-- R155: a segment appended to the closed ones, of which 47 stand beside the open one. -/
def keepClosed (closed : List Segment) (s : Segment) : List Segment :=
  let all := closed ++ [s]
  if 47 < all.length then all.drop 1 else all

/-- R153 to R155: the class of a run is taken. -/
def takeClass (run : SettlingRun) (d : Device) : Device :=
  let r := d.rtm
  let fresh : Segment :=
    { number := r.nextNumber, cls := run.candidate, start := run.start, stop := none, declared := run.declared, stale := run.stale }
  postRest .cls (putRest { r with
    closed := keepClosed r.closed { r.current with stop := some run.start }
    current := fresh
    nextNumber := (r.nextNumber + 1) % 4294967296
    settling := none
    marks := noMarks
    driveSinceBreak := corrected r.current.cls run.candidate run.length r.driveSinceBreak
    driveInDay := corrected r.current.cls run.candidate run.length r.driveInDay
    dayClosed := r.dayClosed && decide (run.candidate ≠ .drive) } d)

/-- R151: whether the settling run has reached its settling time. -/
def runSettled (d : Device) : Option SettlingRun := d.rtm.settling.filter fun s => decide (settlingTime s.candidate ≤ s.length)

/-- R151, R153: the class taken if the run has settled; whether it was. -/
def takeIfSettled (d : Device) : Device × Bool :=
  match runSettled d with
  | none => (d, false)
  | some s => (takeClass s d, true)

/-! ## Rest, breaks and the day (R157 to R160) -/

/-- R157: the rest run of an open REST segment, across no wrap of uptime (log 13, DEDUCED). -/
def restRun (d : Device) : Option Nat :=
  if d.rtm.current.cls = .rest then
    some (match d.rtm.settling with
      | none => d.sns.uptime - d.rtm.current.start
      | some s => s.start - d.rtm.current.start)
  else none

/-- R158: a satisfied break. -/
def breakTaken (d : Device) : Device := postRest .brk (putRest { d.rtm with driveSinceBreak := 0, credit := none } d)

/-- R158: the first part crossed. -/
def crossFirst (d : Device) : Device :=
  putRest { d.rtm with
    marks := { d.rtm.marks with first := true }
    credit := some (d.rtm.credit.getD d.rtm.current.start) } d

/-- R158: the second part crossed. -/
def crossSecond (d : Device) : Device :=
  let d1 := putRest { d.rtm with marks := { d.rtm.marks with second := true } } d
  match d1.rtm.credit with
  | none => d1
  | some u => if u < d1.rtm.current.start then breakTaken d1 else d1

/-- R158: the full break crossed. -/
def crossFull (d : Device) : Device := breakTaken (putRest { d.rtm with marks := { d.rtm.marks with full := true } } d)

/-- R159: the daily rest minimum crossed: the day closes. -/
def crossDaily (d : Device) : Device :=
  postRest .day (putRest { d.rtm with
    marks := { d.rtm.marks with daily := true }
    driveInDay := 0
    driveSinceBreak := 0
    credit := none
    dayCounter := (d.rtm.dayCounter + 1) % 65536
    dayClosed := true } d)

/-- R157: one threshold: crossed when its mark is clear and the rest run has reached it. -/
def crossIf (clear : Bool) (threshold run : Nat) (act : Device → Device) (d : Device) : Device :=
  if clear && decide (threshold ≤ run) then act d else d

/-- R157: the crossings of an open REST segment, in their order. -/
def crossings (d : Device) : Device :=
  match restRun d with
  | none => d
  | some run =>
    let m := d.rtm.marks
    let q := d.rtm.rules
    crossIf (!m.daily) q.dailyRest run crossDaily
      (crossIf (!m.full) q.fullBreak run crossFull
        (crossIf (!m.second) q.secondPart run crossSecond
          (crossIf (!m.first) q.firstPart run crossFirst d)))

/-- R160: the rest-complete projection, across no wrap of uptime (log 13, DEDUCED). -/
def projectionOf (d : Device) : Option Nat :=
  if d.rtm.current.cls = .rest ∧ d.rtm.marks.daily = false then some (d.rtm.current.start + d.rtm.rules.dailyRest) else none

/-- R160: the projection worked out. -/
def project (d : Device) : Device := putRest { d.rtm with projection := projectionOf d } d

/-! ## Warnings (R162 to R165) -/

/-- A warning's severity (section 8.6). -/
def WarnKind.severity : WarnKind → Nat
  | .contPre => 1
  | .contLimit => 3
  | .dayPre => 1
  | .dayLimit => 3
  | .unknown => 2
  | .declConflict => 1
  | .restComplete => 0

/-- A warning's condition (section 8.6); the length of an UNKNOWN segment is taken across no wrap of uptime (log 13, DEDUCED). -/
def warnCondition (d : Device) (k : WarnKind) : Bool :=
  let r := d.rtm
  match k with
  | .contPre => decide (r.rules.contLimit - r.rules.preLead ≤ r.driveSinceBreak)
  | .contLimit => decide (r.rules.contLimit ≤ r.driveSinceBreak)
  | .dayPre => decide (r.rules.dailyLimit - r.rules.preLead ≤ r.driveInDay)
  | .dayLimit => decide (r.rules.dailyLimit ≤ r.driveInDay)
  | .unknown => decide (r.current.cls = .unknown) && decide (r.rules.unknownAlarm ≤ d.sns.uptime - r.current.start)
  | .declConflict => (decide (r.declaration = .work) || decide (r.declaration = .rest)) && moving d
  | .restComplete => r.dayClosed

/-- R163: the kinds that are raised again. -/
def WarnKind.repeats (k : WarnKind) : Bool := decide (k = .contLimit) || decide (k = .dayLimit)

/-- R162, R163: a record raised. -/
def Warning.raise (w : Warning) (uptime : Nat) : Warning :=
  { state := .active, occurrence := (w.occurrence + 1) % 65536, raised := uptime }

/-- RTM's severity: the highest among the records that stand (R165). -/
def restSeverity (t : Warnings) : Nat :=
  (allWarnings.map fun k => if (t.get k).state = .clear then 0 else k.severity).foldl max 0

/-- R165: RTM's severity at the Light Controller, after a raise or without one. -/
def showRest (raised : Bool) (d : Device) : Device :=
  let severity := restSeverity d.rtm.warnings
  if raised then postIndication .rtm severity true d
  else if severity = d.lgt.sources.rtm.severity then d
  else postIndication .rtm severity false d

/-- R162: the records raised at this tick, those cleared, and R163's repeats. -/
def dueRaises (d : Device) : List WarnKind :=
  allWarnings.filter fun k =>
    let w := d.rtm.warnings.get k
    warnCondition d k &&
      (decide (w.state = .clear) || (k.repeats && decide (d.rtm.rules.repeatInterval ≤ uptimeSince d w.raised)))

/-- R162: the records cleared at this tick. -/
def dueClears (d : Device) : List WarnKind :=
  allWarnings.filter fun k => !warnCondition d k && decide ((d.rtm.warnings.get k).state ≠ .clear)

/-- A record replaced, REST_WARNING posted. -/
def putWarning (k : WarnKind) (w : Warning) (d : Device) : Device :=
  post .restWarning (putRest { d.rtm with warnings := d.rtm.warnings.put k w } d)

/-- R162: a record cleared. -/
def clearWarningOf (k : WarnKind) (d : Device) : Device := putWarning k { d.rtm.warnings.get k with state := .clear } d

/-- R162: a record raised or raised again. -/
def raiseWarning (k : WarnKind) (d : Device) : Device := putWarning k ((d.rtm.warnings.get k).raise d.sns.uptime) d

/-- R162, R165: records cleared and raised, and the indication entry after them: one posting for each raise of a severity above
0, else one if the severity has changed. Where several records change together, every posting carries the severity after them all, and
a clearing beside such a raise has no posting of its own (log 40, DESIGN CHOICE). -/
def applyWarnings (clears raises : List WarnKind) (d : Device) : Device :=
  let d1 := raises.foldl (fun acc k => raiseWarning k acc) (clears.foldl (fun acc k => clearWarningOf k acc) d)
  let sounding := raises.filter fun k => decide (0 < k.severity)
  if sounding = [] then showRest false d1 else sounding.foldl (fun acc _ => showRest true acc) d1

/-- R162, R163: the warnings evaluated at the end of a tick. -/
def evaluateWarnings (d : Device) : Device := applyWarnings (dueClears d) (dueRaises d) d

/-! ## The tick (R149) -/

/-- R153, R160: the class and the projection handed to the Night Plan, after a take or when the projection has changed. -/
def handToPlan (tookClass : Bool) (d : Device) : Device :=
  if tookClass || decide (d.rtm.projection ≠ d.rtm.handed) then
    let d1 := putRest { d.rtm with handed := d.rtm.projection } d
    planHandoff d1.rtm.current.cls d1.rtm.projection d1
  else d

/-- The tick's work after the settling run has been advanced (R157 to R163). Each notice is posted as its part of the work is done, so
that REST_STATE (the take, a break, a day closing) comes before REST_WARNING, and both, with the warnings' indications, before the
hand-off to the Night Plan, which may move the quiet flag and post PLAN_STATE (log 40, DESIGN CHOICE). -/
def tickTail (tookClass : Bool) (d : Device) : Device := handToPlan tookClass (evaluateWarnings (project (crossings d)))

/-- R149 to R152, R156: the tick's work up to and with the advance of the settling run. -/
def tickHead (d : Device) : Device :=
  match classify d with
  | (raw, declared) =>
    let d1 := countSecond d
    putRest { d1.rtm with
      raw := raw
      settling := advanceRun d1.rtm.settling raw d1.rtm.current.cls declared (!speedFresh d) d1.sns.uptime } d1

/-- R149: RTM's tick. -/
def restTick (d0 : Device) : Device :=
  match takeIfSettled (tickHead { d0 with sched := { d0.sched with restTick := false } }) with
  | (d, took) => tickTail took d

/-- R153: a settled run is taken, with the work of its tick that follows; without one nothing happens. -/
def classTake (d : Device) : Device :=
  match takeIfSettled d with
  | (d1, true) => tickTail true d1
  | (_, false) => d

/-- R157: thresholds that the rest run has reached are crossed, with the work of the tick that follows; else nothing happens. -/
def restCrossing (d : Device) : Device :=
  let d1 := crossings d
  if d1.rtm.marks = d.rtm.marks then d else handToPlan false (evaluateWarnings (project d1))

/-- R163: the limit warnings whose repeat interval has elapsed are raised again; else nothing happens. -/
def repeatRaise (d : Device) : Device :=
  let due := (dueRaises d).filter fun k => k.repeats && decide ((d.rtm.warnings.get k).state ≠ .clear)
  if due = [] then d else applyWarnings [] due d

/-- R149: an input event from DIN1. -/
def bunkChange (d : Device) : Device := putRest { d.rtm with lastBunk := some d.sns.uptime } d

/-! ## Requests and reports (R150, R161, R164, R166 to R168) -/

/-- R161: the rules of a body. -/
def rulesOf (b : List Byte) : RestRules :=
  { contLimit := wordAt b 0, fullBreak := wordAt b 2, firstPart := wordAt b 4, secondPart := wordAt b 6,
    dailyLimit := longAt b 8, dailyRest := longAt b 12, preLead := wordAt b 16, repeatInterval := wordAt b 18,
    unknownAlarm := wordAt b 20, moving := wordAt b 22 }

/-- Section 8.5: every rule in its range. -/
def rulesInRange (q : RestRules) : Bool :=
  within 1800 43200 q.contLimit && within 300 14400 q.fullBreak && within 60 14400 q.firstPart &&
    within 60 14400 q.secondPart && within 1800 86400 q.dailyLimit && within 3600 86400 q.dailyRest &&
    within 60 7200 q.preLead && within 60 7200 q.repeatInterval && within 60 7200 q.unknownAlarm && within 10 300 q.moving

/-- R161, check 3: the rules agree with each other. -/
def rulesAgree (q : RestRules) : Bool :=
  decide (q.firstPart < q.fullBreak) && decide (q.secondPart < q.fullBreak) && decide (q.fullBreak < q.dailyRest) &&
    decide (q.preLead < q.contLimit) && decide (q.contLimit ≤ q.dailyLimit)

/-- R161: REST_RULES. -/
def restRulesRequest (b : List Byte) (d : Device) : Answered :=
  if b.length ≠ 24 then refuse .badLength d
  else if !rulesInRange (rulesOf b) then refuse .badValue d
  else if !rulesAgree (rulesOf b) then refuse .badValue d
  else taken (putRest { d.rtm with rules := rulesOf b } d) []

/-- A declaration by its code. -/
def declarationOfCode (n : Nat) : Option Declaration :=
  match n with
  | 0 => some .auto
  | 1 => some .work
  | 2 => some .available
  | 3 => some .rest
  | _ => none

/-- R150: DECLARE_ACTIVITY. -/
def declareRequest (b : List Byte) (d : Device) : Answered :=
  if b.length ≠ 1 then refuse .badLength d
  else match declarationOfCode (byteAt b 0) with
    | none => refuse .badValue d
    | some a => taken (putRest { d.rtm with declaration := a } d) (u8 d.rtm.current.cls.code ++ u8 d.rtm.raw.code)

/-- R164: a record's state and occurrence, carried by every reply that names a record. -/
def ackFields (w : Warning) : List Byte := u8 w.state.code ++ u16 w.occurrence

/-- R164: ACK_WARNING on a record. -/
def ackRecord (k : WarnKind) (occurrence : Nat) (d : Device) : Answered :=
  let w := d.rtm.warnings.get k
  match w.state with
  | .clear => { dev := d, result := .badValue, contents := ackFields w }
  | .active =>
    if occurrence = w.occurrence then
      let w1 := { w with state := WarnState.acknowledged }
      taken (ackIndication (putRest { d.rtm with warnings := d.rtm.warnings.put k w1 } d)) (ackFields w1)
    else { dev := d, result := .staleOccurrence, contents := ackFields w }
  | .acknowledged =>
    if occurrence = w.occurrence then taken d (ackFields w)
    else { dev := d, result := .staleOccurrence, contents := ackFields w }

/-- R164: ACK_WARNING. -/
def ackWarningRequest (b : List Byte) (d : Device) : Answered :=
  if b.length ≠ 3 then refuse .badLength d
  else match allWarnings[byteAt b 0]? with
    | none => refuse .badValue d
    | some k => ackRecord k (wordAt b 1) d

/-- R167: the settling run in READ_REST; an absent run carries all ones in every field (log 7). -/
def settlingField (d : Device) : List Byte :=
  match d.rtm.settling with
  | none => u8 0xFF ++ optTimeField d none ++ u32 0xFFFFFFFF ++ u8 0xFF ++ u8 0xFF
  | some s => u8 s.candidate.code ++ timeField d s.start ++ u32 s.length ++ mark8 s.declared ++ mark8 s.stale

/-- The rule set in a body. -/
def rulesField (q : RestRules) : List Byte :=
  u16 q.contLimit ++ u16 q.fullBreak ++ u16 q.firstPart ++ u16 q.secondPart ++ u32 q.dailyLimit ++ u32 q.dailyRest ++
    u16 q.preLead ++ u16 q.repeatInterval ++ u16 q.unknownAlarm ++ u16 q.moving

/-- R166, R167: the seven records, each uptime laid out by `time`. -/
def warningFields (time : Nat → List Byte) (t : Warnings) : List Byte :=
  allWarnings.flatMap fun k =>
    u8 (t.get k).state.code ++ u16 (t.get k).occurrence ++ time (t.get k).raised ++ u8 k.severity

/-- R167: the contents of READ_REST. -/
def restContents (d : Device) : List Byte :=
  let r := d.rtm
  u8 r.current.cls.code ++ u8 r.raw.code ++ u8 r.declaration.code ++ settlingField d ++
    u32 r.current.number ++ timeField d r.current.start ++
    mark8 r.marks.first ++ mark8 r.marks.second ++ mark8 r.marks.full ++ mark8 r.marks.daily ++
    u32 r.driveSinceBreak ++ u32 r.driveInDay ++ opt32 (restRun d) ++ u16 r.dayCounter ++
    optTimeField d r.credit ++ optTimeField d r.projection ++
    rulesField r.rules ++ warningFields (timeField d) r.warnings ++ u8 (restSeverity r.warnings) ++
    optTimeField d r.lastBunk

/-- The timeline: the closed segments and the open one (R155). -/
def timeline (d : Device) : List Segment := d.rtm.closed ++ [d.rtm.current]

/-- R168: a segment record. -/
def segmentFields (d : Device) (s : Segment) : List Byte :=
  u32 s.number ++ u8 s.cls.code ++ timeField d s.start ++ optTimeField d s.stop ++ mark8 s.declared ++ mark8 s.stale

/-- R168: READ_TIMELINE. -/
def readTimelineRequest (b : List Byte) (d : Device) : Answered :=
  if b.length ≠ 1 then refuse .badLength d
  else
    let index := byteAt b 0
    if 47 < index then refuse .badValue d
    else taken d (u8 (timeline d).length ++ u8 index ++ counted (segmentFields d) (((timeline d).drop index).take 8))

/-- R166: the body of REST_STATE after the merge count. -/
def restStateBody (d : Device) : List Byte :=
  let r := d.rtm
  mask16 (r.causes.map (·.code)) ++ u8 r.current.cls.code ++ u32 r.current.number ++ u32 r.current.start ++
    u8 r.declaration.code ++ u32 r.driveSinceBreak ++ u32 r.driveInDay ++ opt32 (restRun d) ++
    opt32 r.credit ++ u16 r.dayCounter ++ opt32 r.projection

/-- R166: the body of REST_WARNING after the merge count. -/
def restWarningBody (d : Device) : List Byte := warningFields u32 d.rtm.warnings

/-! ## RESTART (R170) -/

/-- R170: the Rest-Time Monitor through a RESTART. -/
def restartRest (d : Device) : Device :=
  postIndication .rtm (restSeverity d.rtm.warnings) false
    (putRest { d.rtm with rules := defaultRules, declaration := .auto } d)

/-! ## The commands -/

/-- REST_RULES (R161). -/
def execRestRules (tag : Byte) (body : List Byte) (s : State) : Host.Outcome State Fault Refusal :=
  running s (serve 0x38 tag body restRulesRequest)

/-- DECLARE_ACTIVITY (R150). -/
def execDeclareActivity (tag : Byte) (body : List Byte) (s : State) : Host.Outcome State Fault Refusal :=
  running s (serve 0x39 tag body declareRequest)

/-- ACK_WARNING (R164). -/
def execAckWarning (tag : Byte) (body : List Byte) (s : State) : Host.Outcome State Fault Refusal :=
  running s (serve 0x3A tag body ackWarningRequest)

/-- READ_REST (R167). -/
def execReadRest (tag : Byte) (body : List Byte) (s : State) : Host.Outcome State Fault Refusal :=
  running s (serve 0x3B tag body (readOnly restContents))

/-- READ_TIMELINE (R168). -/
def execReadTimeline (tag : Byte) (body : List Byte) (s : State) : Host.Outcome State Fault Refusal :=
  running s (serve 0x3C tag body readTimelineRequest)

/-- REST_TICK (R149). -/
def execRestTick (s : State) : Host.Outcome State Fault Refusal := running s restTick

/-- CLASS_TAKE (R153). -/
def execClassTake (s : State) : Host.Outcome State Fault Refusal := running s classTake

/-- REST_CROSSING (R157). -/
def execRestCrossing (s : State) : Host.Outcome State Fault Refusal := running s restCrossing

/-- REPEAT_RAISE (R163). -/
def execRepeatRaise (s : State) : Host.Outcome State Fault Refusal := running s repeatRaise

end Sys2Proof.Machine
end

