-- ==== Sys2Proof/Machine/Charge.lean ====
section
/-! DEFINITION. The Charge Counter (chapter 3): the accounting tick, counting, the derate and the spendable charge, supply grading,
full-charge detection, and CHG's requests. -/

namespace Sys2Proof.Machine

/-- The device with a new charge record. -/
def putChg (c : Charge) (d : Device) : Device := { d with chg := c }

/-! ## The battery description (section 3.6) -/

/-- A threshold as given, or the system's default for a 0. -/
def orDefault (given fallback : Nat) : Nat := if given = 0 then fallback else given

/-- V_warn in force. -/
def Battery.warn (b : Battery) : Nat := orDefault b.vWarn (if b.system = 12 then 11800 else 23600)

/-- V_cut in force. -/
def Battery.cut (b : Battery) : Nat := orDefault b.vCut (if b.system = 12 then 11400 else 22800)

/-- V_full in force. -/
def Battery.full (b : Battery) : Nat := orDefault b.vFull (if b.system = 12 then 14200 else 28400)

/-- The tail in force. -/
def Battery.tailNow (b : Battery) : Nat := orDefault b.tail 200

/-! ## Counting (R36, R37) -/

/-- R36: a sample pair joins the history of ten. -/
def chargeSample (current : Int) (voltage : Nat) (d : Device) : Device :=
  let all := d.chg.history ++ [(current, voltage)]
  putChg { d.chg with history := if 10 < all.length then all.drop 1 else all } d

/-- R37: the tick current counted into the accumulator, whole mAh carried into Q, and the clamps. -/
def Charge.counted (c : Charge) : Charge :=
  if c.known then
    let a := c.acc + c.current * 10
    let rest := a - 3600 * a.tdiv 3600
    let q : Int := (c.q : Int) + a.tdiv 3600
    if (c.battery.capacity : Int) < q then { c with q := c.battery.capacity, acc := min rest 0 }
    else if q < 0 then { c with q := 0, acc := max rest 0 }
    else { c with q := q.toNat, acc := rest }
  else c

/-! ## What may be spent (R40, R41) -/

/-- R40: the cold derate in ‰. -/
def derateOf (temp : Int) : Nat :=
  if 200 ≤ temp then 1000 else max 550 (1000 - ceilDiv ((200 - temp).toNat * 8) 10)

/-- R40, R41: the derate, Qmin, S and SoC. -/
def Charge.derived (c : Charge) : Charge :=
  let derate := derateOf c.temp
  let qmin := ceilDiv (c.battery.capacity * c.battery.reserve) 1000
  { c with
    derate := derate
    qmin := qmin
    soc := c.q * 1000 / c.battery.capacity
    spendable := (c.q - qmin) * derate / 1000 }

/-- R36: T_b from T_BATT, 0 while its status is not OK. -/
def Charge.withTemp (c : Charge) (t : Channel) : Charge :=
  if t.status = .ok then { c with temp := t.value, tempFallback := false } else { c with temp := 0, tempFallback := true }

/-! ## Full-charge detection (R45) -/

/-- R45: whether the tick meets the full-charge condition. -/
def Charge.looksFull (c : Charge) : Bool :=
  decide (c.battery.full ≤ c.voltage) && decide (0 ≤ c.current) && decide (c.current ≤ (c.battery.tailNow : Int))

/-- R45: the full-charge run after a tick. -/
def Charge.fullRunStep (c : Charge) : Charge := { c with fullRun := if c.looksFull then c.fullRun + 1 else 0 }

/-- R45: a full-charge detection, when the run has reached 600. -/
def fullDetection (d : Device) : Device :=
  if 600 ≤ d.chg.fullRun then
    postCharge .full (putChg { d.chg with
      q := d.chg.battery.capacity, acc := 0, known := true, lastFull := some d.sns.uptime, fullRun := 0 } d)
  else d

/-! ## Supply grading (R42 to R44, R50) -/

/-- One more tick of a run, or none. -/
def runStep (counts continues : Bool) (n : Nat) : Nat := if counts && continues then n + 1 else 0

/-- R43: the runs after a tick. -/
def GradingRuns.step (r : GradingRuns) (uv : Undervoltage) (v : Int) (warn cut : Nat) : GradingRuns :=
  { fallToLow := runStep (decide (uv = .normal)) (decide (v < warn)) r.fallToLow
    fallToCritical := runStep (decide (uv ≠ .critical)) (decide (v < cut)) r.fallToCritical
    riseToLow := runStep (decide (uv = .critical)) (decide ((cut : Int) + 200 ≤ v)) r.riseToLow
    riseToNormal := runStep (decide (uv = .low)) (decide ((warn : Int) + 200 ≤ v)) r.riseToNormal }

/-- R44: the state and runs after a run has reached its length, if one has. -/
def gradeChange (uv : Undervoltage) (r : GradingRuns) : Option (Undervoltage × GradingRuns) :=
  match uv with
  | .normal =>
    if 5 ≤ r.fallToCritical then some (.critical, noRuns)
    else if 10 ≤ r.fallToLow then some (.low, { r with fallToLow := 0 })
    else none
  | .low =>
    if 5 ≤ r.fallToCritical then some (.critical, noRuns)
    else if 30 ≤ r.riseToNormal then some (.normal, noRuns)
    else none
  | .critical => if 30 ≤ r.riseToLow then some (.low, noRuns) else none

/-- R50: CHG's severity in a state. -/
def Undervoltage.severity : Undervoltage → Nat
  | .normal => 0
  | .low => 2
  | .critical => 3

/-- R44, R49, R50: a change of the undervoltage state when a run has reached its length. -/
def gradeTest (d : Device) : Device :=
  match gradeChange d.chg.uv d.chg.runs with
  | none => d
  | some (uv, runs) =>
    postIndication .chg uv.severity (decide (d.chg.uv.severity < uv.severity))
      (postCharge .grade (putChg { d.chg with uv := uv, runs := runs } d))

/-! ## The tick (R36, R41) -/

/-- R41, R67: what a change of charge status or undervoltage state hands on once the results stand: a pass trigger for each, and a
change into CRITICAL to the allowance. -/
def handOnCharge (wasKnown : Bool) (wasUv : Undervoltage) (d : Device) : Device :=
  let d1 := if d.chg.known = wasKnown then d else triggerPass d
  if d1.chg.uv = wasUv then d1
  else
    let d2 := triggerPass d1
    if d2.chg.uv = .critical then flushAllowance d2 else d2

/-- R40, R41: the derived values worked out and published, and the changes handed on. -/
def publishCharge (wasKnown : Bool) (wasUv : Undervoltage) (d : Device) : Device :=
  handOnCharge wasKnown wasUv (putChg d.chg.derived d)

/-- R36, R42, R43: the tick's means, counting, full-charge run, compensated voltage and grading runs, with a full history. -/
def Charge.ticked (c : Charge) (uptime : Nat) : Charge :=
  let current := (c.history.map fun p : Int × Nat => p.1).sum.tdiv 10
  let voltage := (c.history.map fun p : Int × Nat => p.2).sum / 10
  { c with current := current, voltage := voltage, lastFullTick := some uptime }.counted.fullRunStep

/-- R42, R43: the compensated voltage and the grading runs. -/
def Charge.graded (c : Charge) : Charge :=
  let v := (c.voltage : Int) - (c.current * 10 * (c.battery.resistance : Int)).tdiv 1000
  { c with vcomp := v, runs := c.runs.step c.uv v c.battery.warn c.battery.cut }

/-- R36: a tick with a full history: counting, full charge, grading. -/
def countingTick (d : Device) : Device :=
  let d1 := fullDetection (putChg (d.chg.ticked d.sns.uptime) d)
  gradeTest (putChg d1.chg.graded d1)

/-- R36: the accounting tick. -/
def accountingTick (d0 : Device) : Device :=
  let d : Device := { d0 with sched := { d0.sched with chgTick := false }, chg := d0.chg.withTemp d0.sns.analog.tBatt }
  publishCharge d0.chg.known d0.chg.uv (if d.chg.history.length = 10 then countingTick d else d)

/-- R44: a grading run has reached its length; without one nothing happens. -/
def gradingComplete (d : Device) : Device :=
  match gradeChange d.chg.uv d.chg.runs with
  | none => d
  | some _ => publishCharge d.chg.known d.chg.uv (gradeTest d)

/-- R45: the full-charge run has reached 600 ticks; else nothing happens. -/
def fullChargeReached (d : Device) : Device :=
  if 600 ≤ d.chg.fullRun then publishCharge d.chg.known d.chg.uv (fullDetection d) else d

/-! ## Requests and reports (R39, R46 to R49) -/

/-- R39: SET_CHARGE. -/
def setChargeRequest (b : List Byte) (d : Device) : Answered :=
  if b.length ≠ 2 then refuse .badLength d
  else if 1000 < wordAt b 0 then refuse .badValue d
  else
    let d1 := putChg { d.chg with q := d.chg.battery.capacity * wordAt b 0 / 1000, acc := 0, known := true } d
    taken (publishCharge d.chg.known d.chg.uv (postCharge .set d1)) []

/-- R46: the description of a body. -/
def batteryOf (b : List Byte) : Battery :=
  { system := byteAt b 0, capacity := longAt b 1, reserve := wordAt b 5, resistance := byteAt b 7, vWarn := wordAt b 8,
    vCut := wordAt b 10, vFull := wordAt b 12, tail := wordAt b 14 }

/-- R46: a threshold given as 0 or inside the system's range. -/
def goodThreshold (system v : Nat) : Bool :=
  decide (v = 0) || (if system = 12 then within 9000 16000 v else within 18000 32000 v)

/-- R46, check 2. -/
def batteryInRange (q : Battery) : Bool :=
  (decide (q.system = 12) || decide (q.system = 24)) && within 10000 400000 q.capacity && within 300 800 q.reserve &&
    decide (q.resistance ≤ 50) && decide (q.tail ≤ 2000) &&
    goodThreshold q.system q.vWarn && goodThreshold q.system q.vCut && goodThreshold q.system q.vFull

/-- R47: the charge record under a new description. -/
def Charge.described (c : Charge) (q : Battery) : Charge :=
  let sameCn := decide (q.capacity = c.battery.capacity)
  let sameGrading := decide (q.warn = c.battery.warn) && decide (q.cut = c.battery.cut)
  let sameFull := decide (q.full = c.battery.full) && decide (q.tailNow = c.battery.tailNow)
  { c with
    battery := q
    known := c.known && sameCn
    q := if sameCn then c.q else 0
    acc := if sameCn then c.acc else 0
    runs := if sameGrading then c.runs else noRuns
    fullRun := if sameFull then c.fullRun else 0 }

/-- R46, R47: BATTERY_CONFIG. -/
def batteryConfigRequest (b : List Byte) (d : Device) : Answered :=
  if b.length ≠ 16 then refuse .badLength d
  else
    let q := batteryOf b
    if !batteryInRange q then refuse .badValue d
    else if !(decide (q.cut < q.warn) && decide (q.warn < q.full)) then refuse .badValue d
    else
      let d1 := putChg (d.chg.described q) d
      let d2 := if d1.chg.known = d.chg.known then d1 else postCharge .capacity d1
      taken (publishCharge d.chg.known d.chg.uv d2) []

/-- R48: the contents of READ_CHARGE. -/
def chargeContents (d : Device) : List Byte :=
  let c := d.chg
  let q := c.battery
  mark8 c.known ++ u32 c.q ++ i16 c.acc ++ u16 c.soc ++ u32 q.capacity ++
    u16 q.reserve ++ u32 c.qmin ++ i16 c.temp ++ mark8 c.tempFallback ++
    u16 c.derate ++ u32 c.spendable ++
    i16 c.current ++ u16 c.voltage ++ i32 c.vcomp ++
    u8 c.uv.code ++ u32 c.runs.fallToLow ++ u32 c.runs.fallToCritical ++ u32 c.runs.riseToLow ++ u32 c.runs.riseToNormal ++
    u16 c.fullRun ++ opt32 c.lastFull ++
    u8 q.system ++ u32 q.capacity ++ u16 q.reserve ++ u8 q.resistance ++ u16 q.vWarn ++ u16 q.warn ++ u16 q.vCut ++ u16 q.cut ++
    u16 q.vFull ++ u16 q.full ++ u16 q.tail ++
    opt32 c.lastFullTick

/-- R49: the body of CHARGE_STATE after the merge count. -/
def chargeStateBody (d : Device) : List Byte :=
  let c := d.chg
  mask16 (c.causes.map (·.code)) ++ mark8 c.known ++ u16 c.soc ++ u32 c.q ++ u32 c.spendable ++ u16 c.derate ++ i16 c.temp ++
    i32 c.vcomp ++ u8 c.uv.code ++ opt32 c.lastFull

/-! ## RESTART (R52) -/

/-- R52: the Charge Counter through a RESTART. -/
def restartCharge (d : Device) : Device :=
  let q := d.chg.battery
  putChg { d.chg with
    battery := { defaultBattery with system := q.system, capacity := q.capacity }
    runs := noRuns
    fullRun := 0 }.derived d

/-! ## The commands -/

/-- BATTERY_CONFIG (R46). -/
def execBatteryConfig (tag : Byte) (body : List Byte) (s : State) : Host.Outcome State Fault Refusal :=
  running s (serve 0x14 tag body batteryConfigRequest)

/-- SET_CHARGE (R39). -/
def execSetCharge (tag : Byte) (body : List Byte) (s : State) : Host.Outcome State Fault Refusal :=
  running s (serve 0x15 tag body setChargeRequest)

/-- READ_CHARGE (R48). -/
def execReadCharge (tag : Byte) (body : List Byte) (s : State) : Host.Outcome State Fault Refusal :=
  running s (serve 0x16 tag body (readOnly chargeContents))

/-- CHG_ACCOUNTING_TICK (R36). -/
def execChgAccountingTick (s : State) : Host.Outcome State Fault Refusal := running s accountingTick

/-- GRADING_RUN_COMPLETE (R44). -/
def execGradingRunComplete (s : State) : Host.Outcome State Fault Refusal := running s gradingComplete

/-- FULL_CHARGE_DETECTION (R45). -/
def execFullChargeDetection (s : State) : Host.Outcome State Fault Refusal := running s fullChargeReached

end Sys2Proof.Machine
end

