-- ==== Sys2Proof/Machine/Vehicle.lean ====
section
/-! DEFINITION. The Vehicle Bus Listener (chapter 2): the listener state, acceptance slots, signals and their bindings, what the
consumers are handed, and VBL's requests. -/

namespace Sys2Proof.Machine

/-- The device with a new listener record. -/
def putVbl (v : Vehicle) (d : Device) : Device := { d with vbl := v }

/-- The slot of that number. -/
def slotOf (d : Device) (n : Nat) : Slot := d.vbl.slots.getD n coldSlot

/-- The device with one slot replaced. -/
def putSlot (n : Nat) (s : Slot) (d : Device) : Device := putVbl { d.vbl with slots := d.vbl.slots.set n s } d

/-- The device with new signals. -/
def putSignals (t : Signals) (d : Device) : Device := putVbl { d.vbl with signals := t } d

/-! ## What the consumers are handed (R33) -/

/-- R33: a change of a signal's status or value. -/
def signalMoved (a b : SignalRec) : Bool := decide (a.status ≠ b.status) || decide (a.value ≠ b.value)

/-- R33: a signal that has become FRESH and 1. -/
def turnedOn (a b : SignalRec) : Bool := !a.isOn && b.isOn

/-- R33: the changes since `was` handed on. The manual gives no order for changes made by one operation: BGT, then LGT, then HTR
(log 40, DESIGN CHOICE). -/
def handSignals (was : Signals) (d : Device) : Device :=
  let now := d.vbl.signals
  let d1 := if signalMoved was.engineRunning now.engineRunning then triggerPass d else d
  let d2 := if turnedOn was.ignition now.ignition then lightsIgnitionOn d1 else d1
  if turnedOn was.fuelLow now.fuelLow then heaterFuelLow d2 else d2

/-- An operation on the listener, and the signal changes it makes handed on after it (R33). -/
def handing (f : Device → Device) (d : Device) : Device := handSignals d.vbl.signals (f d)

/-! ## Signals (R22, R26, R28 to R30, R32) -/

/-- A signal that frames and slots act on: all but PARKING_BRAKE while its source is WIRED (R30, R32). -/
def fromBus (d : Device) (g : Signal) : Bool := !(decide (g = .parkingBrake) && decide (d.vbl.source = .wired))

/-- Whether a signal's binding names a slot. -/
def boundTo (n : Nat) (r : SignalRec) : Bool :=
  match r.binding with
  | none => false
  | some b => decide (b.slot = n)

/-- An operation on each signal that frames and slots act on. -/
def mapBusSignals (f : SignalRec → SignalRec) (d : Device) : Device :=
  putSignals (allSignals.foldl (fun (acc : Signals) g => if fromBus d g then acc.put g (f (acc.get g)) else acc) d.vbl.signals) d

/-- R22, R26: a signal goes STALE; NEVER stays NEVER. -/
def SignalRec.goStale (r : SignalRec) : SignalRec := if r.status = .never then r else { r with status := .stale }

/-- R29: the place (byte, bit) of a field's bit, counted from its least significant. -/
def bitPlace (b : Binding) (i : Nat) : Nat × Nat :=
  match b.order with
  | .firstLsb => ((b.start + i) / 8, (b.start + i) % 8)
  | .firstMsb => (b.start / 8 - (b.start % 8 + i) / 8, (b.start % 8 + i) % 8)

/-- R29: whether every bit of the field lies within the received length. -/
def fieldPresent (b : Binding) (data : List Byte) : Bool :=
  (List.range b.length).all fun i => decide ((bitPlace b i).1 < data.length)

/-- R29: the raw field. -/
def rawField (b : Binding) (data : List Byte) : Nat :=
  ((List.range b.length).map fun i =>
    if (data.getD (bitPlace b i).1 0).getLsbD (bitPlace b i).2 then 2 ^ i else 0).sum

/-- R30: a signal evaluated by a frame, at the given uptime. -/
def SignalRec.evaluated (r : SignalRec) (b : Binding) (data : List Byte) (uptime : Nat) : SignalRec :=
  let r1 := { r with lastUpdate := uptime, updated := true }
  if !fieldPresent b data then { r1 with status := .notAvailable }
  else
    let raw := rawField b data
    if 2 ≤ b.length ∧ raw = 2 ^ b.length - 1 then { r1 with status := .notAvailable }
    else
      let v : Int := ((raw * b.num / b.den : Nat) : Int) + b.offset
      if v < b.vmin ∨ b.vmax < v then { r1 with status := .outOfRange } else { r1 with value := v, status := .fresh }

/-- R25: a signal after a frame taken by slot `n`. -/
def SignalRec.afterFrame (n : Nat) (data : List Byte) (uptime : Nat) (r : SignalRec) : SignalRec :=
  match r.binding with
  | none => r
  | some b => if b.slot = n then r.evaluated b data uptime else r

/-- R32: PARKING_BRAKE follows DIN7's delivered level while the source is WIRED. -/
def wiredBrake (d : Device) : Device :=
  if d.vbl.source = .wired then
    putSignals { d.vbl.signals with parkingBrake := { d.vbl.signals.parkingBrake with
      value := if deliveredOf d 7 then 1 else 0, status := .fresh, lastUpdate := d.sns.uptime, updated := true } } d
  else d

/-! ## Slots (R24 to R28) -/

/-- R24: the mask a slot uses, before the cut to its format's width. -/
def maskOf (d : Device) (n : Nat) : Nat := if n < 10 then d.vbl.mask else (slotOf d n).ownMask

/-- R24: a mask cut to the width of a format. -/
def formatMask (f : FrameFormat) (mask : Nat) : Nat :=
  match f with
  | .standard => mask % 2048
  | .extended => mask % 536870912

/-- R24: whether a slot takes a frame. -/
def slotTakes (d : Device) (format : FrameFormat) (ident : Nat) (n : Nat) : Bool :=
  let s := slotOf d n
  let m := formatMask s.format (maskOf d n)
  s.enabled && decide (s.format = format) && decide (ident &&& m = s.ident &&& m)

/-- R24: the first slot that takes a frame. -/
def matchSlot (d : Device) (format : FrameFormat) (ident : Nat) : Option Nat := (List.range 12).find? (slotTakes d format ident)

/-- R25: a slot takes a frame; its signals are evaluated together. -/
def slotFrame (n : Nat) (data : List Byte) (d : Device) : Device :=
  let s := slotOf d n
  let d1 := putSlot n { s with data := data, arrival := d.sns.ms, status := .fresh, timer := some (d.sns.ms + s.limit) } d
  mapBusSignals (SignalRec.afterFrame n data d.sns.uptime) d1

/-- R28: a slot emptied, its signals becoming NEVER. -/
def emptySlot (n : Nat) (d : Device) : Device :=
  let d1 := putSlot n { slotOf d n with data := [], arrival := 0, status := .empty, timer := none } d
  mapBusSignals (fun r => if boundTo n r then { r with status := .never } else r) d1

/-- R26: a slot's freshness timer expires. -/
def freshnessExpiry (n : Nat) (d : Device) : Device :=
  let d1 := putSlot n { slotOf d n with status := .stale, timer := none } d
  mapBusSignals (fun r => if boundTo n r then r.goStale else r) d1

/-! ## The listener (R20 to R23) -/

/-- R21: the listener moved to a state with its silence timer; a change posts BUS_STATE. -/
def setListener (st : ListenerState) (silence : Option Nat) (d : Device) : Device :=
  let d1 := putVbl { d.vbl with listener := st, silence := silence } d
  if st = d.vbl.listener then d1 else post .busState d1

/-- R20: the data bytes a length code gives. -/
def dataLength (dlc : BitVec 4) : Nat := min 8 dlc.toNat

/-- R20, R21, R24, R25: a valid frame ends; while the enable is OFF the line is not sampled. -/
def canFrame (format : FrameFormat) (ident : Nat) (data : List Byte) (d : Device) : Device :=
  if d.vbl.listener = .off then d
  else
    let d1 := setListener .listening (some (d.sns.ms + 2000)) d
    match matchSlot d1 format ident with
    | none => d1
    | some n => slotFrame n data d1

/-- R21: the silence timer expires. -/
def silenceExpiry (d : Device) : Device := if d.vbl.listener = .listening then setListener .silent none d else d

/-- R22: a slot when the listener goes OFF. -/
def Slot.stopped (s : Slot) : Slot := { s with status := if s.status = .fresh then .stale else s.status, timer := none }

/-- R21, R22: the listener goes OFF. -/
def listenerOff (d : Device) : Device :=
  let d1 := setListener .off none d
  mapBusSignals SignalRec.goStale (putVbl { d1.vbl with slots := d1.vbl.slots.map Slot.stopped } d1)

/-- R21 to R23: the enable set. -/
def setEnable (on : Bool) (d : Device) : Device :=
  if on = d.vbl.enable then d
  else
    let d1 := putVbl { d.vbl with enable := on } d
    if on then setListener .silent none d1 else listenerOff d1

/-- R23, R28: the common mask set; a changed mask empties slots 0 to 9. -/
def setMask (mask : Nat) (d : Device) : Device :=
  if mask = d.vbl.mask then d
  else (List.range 10).foldl (fun acc n => emptySlot n acc) (putVbl { d.vbl with mask := mask } d)

/-- R32: the parking brake source set. -/
def setSource (source : BrakeSource) (d : Device) : Device :=
  if source = d.vbl.source then d
  else
    let d1 := putVbl { d.vbl with source := source } d
    match source with
    | .wired => wiredBrake d1
    | .bus =>
      putSignals { d1.vbl.signals with parkingBrake := { d1.vbl.signals.parkingBrake with status := .never } } d1

/-! ## Requests and reports (R23, R27, R31, R34) -/

/-- R23: BUS_CONFIG. -/
def busConfigRequest (b : List Byte) (d : Device) : Answered :=
  if b.length ≠ 8 then refuse .badLength d
  else
    let rate := wordAt b 1
    let mask := longAt b 4
    if 1 < byteAt b 0 ∨ (rate ≠ 250 ∧ rate ≠ 500) ∨ 1 < byteAt b 3 ∨ 536870911 < mask then refuse .badValue d
    else
      taken (handing (fun d1 =>
        setSource (if byteAt b 3 = 0 then .bus else .wired)
          (setMask mask (setEnable (decide (byteAt b 0 = 1)) (putVbl { d1.vbl with bitRate := rate } d1)))) d) []

/-- The highest identifier or mask of a format (R24, R27). -/
def formatTop (f : FrameFormat) : Nat :=
  match f with
  | .standard => 2047
  | .extended => 536870911

/-- R27: BUS_SLOT_SET. -/
def busSlotSetRequest (b : List Byte) (d : Device) : Answered :=
  if b.length ≠ 13 then refuse .badLength d
  else
    let n := byteAt b 0
    let format : FrameFormat := if byteAt b 2 = 0 then .standard else .extended
    let ident := longAt b 3
    let own := longAt b 7
    let limit := wordAt b 11
    if 11 < n ∨ 1 < byteAt b 2 then refuse .badValue d
    else if formatTop format < ident then refuse .badValue d
    else if !within 50 10000 limit then refuse .badValue d
    else if 10 ≤ n ∧ formatTop format < own then refuse .badValue d
    else
      taken (handing (fun d1 =>
        let s := slotOf d1 n
        emptySlot n (putSlot n { s with
          enabled := freeFlag (byteAt b 1)
          format := format
          ident := ident
          ownMask := if 10 ≤ n then own else s.ownMask
          limit := limit } d1)) d) []

/-- The binding of a body. -/
def bindingOf (b : List Byte) : Binding :=
  { slot := byteAt b 2, start := byteAt b 3, length := byteAt b 4, order := if byteAt b 5 = 0 then .firstLsb else .firstMsb,
    num := wordAt b 6, den := wordAt b 8, offset := sLongAt b 10, vmin := sLongAt b 14, vmax := sLongAt b 18 }

/-- R31, check 3. -/
def bindingInRange (b : List Byte) : Bool :=
  let q := bindingOf b
  decide (q.slot ≤ 11) && decide (q.start ≤ 63) && within 1 16 q.length && decide (byteAt b 5 ≤ 1) && within 1 1000 q.num &&
    within 1 1000 q.den && withinInt (-1000000) 1000000 q.offset && withinInt (-1000000) 1000000 q.vmin &&
    withinInt (-1000000) 1000000 q.vmax && decide (q.vmin ≤ q.vmax)

/-- R31, check 4: the field fits within eight bytes. -/
def bindingFits (q : Binding) : Bool :=
  match q.order with
  | .firstLsb => decide (q.start + q.length ≤ 64)
  | .firstMsb => decide ((7 - q.start / 8) * 8 + q.start % 8 + q.length ≤ 64)

/-- R31: a signal's binding replaced; PARKING_BRAKE's record is left to the wire while its source is WIRED. -/
def bindSignal (g : Signal) (binding : Option Binding) (d : Device) : Device :=
  let r := d.vbl.signals.get g
  putSignals (d.vbl.signals.put g { r with
    binding := binding, status := if fromBus d g then .never else r.status }) d

/-- R31: BUS_BIND. -/
def busBindRequest (b : List Byte) (d : Device) : Answered :=
  if b.length ≠ 22 then refuse .badLength d
  else match allSignals[byteAt b 0]? with
    | none => refuse .badValue d
    | some g =>
      if 1 < byteAt b 1 then refuse .badValue d
      else if byteAt b 1 = 0 then taken (handing (bindSignal g none) d) []
      else if !bindingInRange b then refuse .badValue d
      else if !bindingFits (bindingOf b) then refuse .badValue d
      else taken (handing (bindSignal g (some (bindingOf b))) d) []

/-- A count saturated at 65,535 (R34). -/
def sat16 (n : Nat) : Nat := min 65535 n

/-- R34: READ_VEHICLE part 0. -/
def vehicleSummary (d : Device) : List Byte :=
  let v := d.vbl
  u8 v.listener.code ++ mark8 v.enable ++ u16 v.bitRate ++ u8 v.source.code ++ u32 v.mask ++
    allSignals.flatMap fun g =>
      let r := v.signals.get g
      u8 r.status.code ++ i32 r.value ++ u16 (if r.updated then sat16 (uptimeSince d r.lastUpdate) else 65535)

/-- R34: READ_VEHICLE parts 1 to 12. The mask is the whole 29-bit mask for a STANDARD slot too (log 7, DEDUCED). -/
def slotRecord (d : Device) (n : Nat) : List Byte :=
  let s := slotOf d n
  mark8 s.enabled ++ u8 (FrameFormat.code s.format) ++ u32 s.ident ++ u32 (maskOf d n) ++ u16 s.limit ++ u8 s.status.code ++
    counted (fun x : Byte => [x]) s.data ++ u16 (sat16 (d.sns.ms - s.arrival)) ++
    counted (fun g : Signal => u8 g.code) (allSignals.filter fun g => boundTo n (d.vbl.signals.get g))

/-- R34: READ_VEHICLE. -/
def readVehicleRequest (b : List Byte) (d : Device) : Answered :=
  if b.length ≠ 1 then refuse .badLength d
  else if 12 < byteAt b 0 then refuse .badValue d
  else if byteAt b 0 = 0 then taken d (vehicleSummary d)
  else taken d (slotRecord d (byteAt b 0 - 1))

/-- R21: the body of BUS_STATE after the merge count. -/
def busStateBody (d : Device) : List Byte :=
  u8 d.vbl.listener.code ++ u16 d.vbl.bitRate ++ u8 d.vbl.source.code ++
    allSignals.flatMap fun g => u8 (d.vbl.signals.get g).status.code

/-! ## The commands -/

/-- BUS_CONFIG (R23). -/
def execBusConfig (tag : Byte) (body : List Byte) (s : State) : Host.Outcome State Fault Refusal :=
  running s (serve 0x10 tag body busConfigRequest)

/-- BUS_SLOT_SET (R27). -/
def execBusSlotSet (tag : Byte) (body : List Byte) (s : State) : Host.Outcome State Fault Refusal :=
  running s (serve 0x11 tag body busSlotSetRequest)

/-- BUS_BIND (R31). -/
def execBusBind (tag : Byte) (body : List Byte) (s : State) : Host.Outcome State Fault Refusal :=
  running s (serve 0x12 tag body busBindRequest)

/-- READ_VEHICLE (R34). -/
def execReadVehicle (tag : Byte) (body : List Byte) (s : State) : Host.Outcome State Fault Refusal :=
  running s (serve 0x13 tag body readVehicleRequest)

/-- CAN_FRAME (R25). -/
def execCanFrame (format : FrameFormat) (ident : Ident) (dlc : BitVec 4) (data : List Byte) (s : State) :
    Host.Outcome State Fault Refusal :=
  running s (handing (canFrame format (formatMask format ident.toNat) (data.take (dataLength dlc))))

/-- SILENCE_TIMER_EXPIRY (R21). -/
def execSilenceTimerExpiry (s : State) : Host.Outcome State Fault Refusal :=
  running s fun d => atTimer d.vbl.silence silenceExpiry d

/-- FRESHNESS_TIMER_EXPIRY (R26). -/
def execFreshnessTimerExpiry (slot : Fin 12) (s : State) : Host.Outcome State Fault Refusal :=
  running s fun d => atTimer (slotOf d slot).timer (handing (freshnessExpiry slot)) d

end Sys2Proof.Machine
end

