-- ==== Sys2Proof/Machine/Sensing.lean ====
section
/-! DEFINITION. The Sensing Unit (chapter 1): the measurement sweep, the temperature tables, the input lines with their filters and
forcing, the protection lines, the dial, the two time bases and the cab clock, and SNS's requests. -/

namespace Sys2Proof.Machine

/-- The device with a new sensing record. -/
def putSns (x : Sensing) (d : Device) : Device := { d with sns := x }

/-! ## Analog conversion (R1 to R5) -/

/-- R1: a raw code joins a history of four. -/
def Channel.converted (c : Channel) (code : RawCode) : Channel :=
  let all := c.history ++ [code.toNat]
  { c with history := if 4 < all.length then all.drop 1 else all }

/-- R1: the mean of a full history, truncated. -/
def Channel.mean (c : Channel) : Nat := c.history.sum / 4

/-- R1: whether the history holds four codes. -/
def Channel.isFull (c : Channel) : Bool := decide (c.history.length = 4)

/-- R2: battery voltage in mV from an averaged raw value; the quotient alone is truncated, and 10,000 added to it (log 42, DEDUCED). -/
def voltageOf (f : Factory) (raw : Nat) : Int :=
  clampInt 0 40000 (10000 + (((raw : Int) - f.raw10) * 20000).tdiv ((f.raw30 : Int) - f.raw10))

/-- R3: battery current in units of 10 mA from an averaged raw value. -/
def currentOf (f : Factory) (raw : Nat) : Int :=
  clampInt (-20000) 20000 ((((raw : Int) - f.raw0) * 5000).tdiv ((f.raw50 : Int) - f.raw0))

/-- R1: a channel with fewer than four codes. -/
def Channel.notReady (c : Channel) : Channel := { c with status := .notReady, average := 0, value := 0 }

/-- R2, R3: a battery channel published through a conversion. -/
def Channel.publishBattery (c : Channel) (convert : Nat → Int) : Channel :=
  if c.isFull then { c with status := .ok, average := c.mean, value := convert c.mean } else c.notReady

/-- R5: the temperature of an averaged raw value in a table whose codes rise; the interpolated temperature itself is rounded. -/
def tableLookup : List (Nat × Int) → Nat → Int
  | [], _ => 0
  | [p], _ => p.2
  | p :: q :: rest, raw =>
    if raw ≤ p.1 then p.2
    else if raw < q.1 then roundHalfAway (p.2 * ((q.1 : Int) - p.1) + ((raw : Int) - p.1) * (q.2 - p.2)) (q.1 - p.1)
    else tableLookup (q :: rest) raw

/-- R4: the status of an averaged raw value. -/
def gradeRaw (raw : Nat) : ChannelStatus :=
  if raw < 40 then .shortCircuit else if 4055 < raw then .openCircuit else .ok

/-- R4, R5: a temperature channel published through its table. -/
def Channel.publishTemp (c : Channel) (table : List (Nat × Int)) : Channel :=
  if c.isFull then
    let raw := c.mean
    match gradeRaw raw with
    | .ok =>
      let t := tableLookup table raw
      { c with status := .ok, average := raw, value := t, lastGood := t }
    | st => { c with status := st, average := raw, value := c.lastGood }
  else c.notReady

/-- R1 to R5: the six channels converted and published together. -/
def Analog.swept (a : Analog) (codes : SweepCodes) (f : Factory) (t : SensorTables) : Analog :=
  { batv := (a.batv.converted codes.batv).publishBattery (voltageOf f)
    bati := (a.bati.converted codes.bati).publishBattery (currentOf f)
    tCab := (a.tCab.converted codes.tCab).publishTemp t.cab
    tExch := (a.tExch.converted codes.tExch).publishTemp t.exch
    tFridge := (a.tFridge.converted codes.tFridge).publishTemp t.fridge
    tBatt := (a.tBatt.converted codes.tBatt).publishTemp t.batt }

/-! ## Sensor faults (R7) -/

/-- The four temperature channels. -/
def temperatureChannels : List AnalogChannel := [.tCab, .tExch, .tFridge, .tBatt]

/-- OPEN or SHORT. -/
def ChannelStatus.failed (s : ChannelStatus) : Bool := decide (s = .openCircuit) || decide (s = .shortCircuit)

/-- R7: a change among OK, OPEN and SHORT, or a first full sweep that finds the channel failed. -/
def faultPosted (was now : ChannelStatus) : Bool :=
  if was = .notReady then now.failed else decide (was ≠ now) && decide (now ≠ .notReady)

/-- R7: SENSOR_FAULT and SNS's indication after a sweep. -/
def sensorFaults (was : Analog) (d : Device) : Device :=
  let now := d.sns.analog
  let posted := temperatureChannels.filter fun c => faultPosted (was.get c).status (now.get c).status
  let fresh := temperatureChannels.filter fun c => decide ((was.get c).status = .ok) && (now.get c).status.failed
  let severity := if temperatureChannels.any fun c => (now.get c).status.failed then 1 else 0
  let d1 := posted.foldl (fun acc _ => post .sensorFault acc) d
  let d2 := fresh.foldl (fun acc _ => postIndication .sns severity true acc) d1
  if severity = d2.lgt.sources.sns.severity then d2 else postIndication .sns severity false d2

/-- R3: the current sample handed to CHG while BATI is OK. -/
def handSample (d : Device) : Device :=
  let a := d.sns.analog
  if a.bati.status = .ok then chargeSample a.bati.value a.batv.value.toNat d else d

/-- R1: one measurement sweep; CHG, HTR and CMP act on what it publishes. -/
def sweep (codes : SweepCodes) (d0 : Device) : Device :=
  let d := reach d0.sched.nextSweep d0
  let was := d.sns.analog
  let d1 : Device := { d with
    pins := { d.pins with analog := codes }
    sns := { d.sns with analog := was.swept codes d.factory d.sns.tables }
    sched := { d.sched with nextSweep := d.sched.nextSweep + 100 } }
  compSweep (heaterSweep (decide (was.tExch.status = .ok)) (handSample (sensorFaults was d1)))

/-! ## Input events (R11) -/

/-- R11: an input event delivered to the line's owners. -/
def deliverEvent (line : Nat) (rising : Bool) (d : Device) : Device :=
  match line with
  | 0 => doorEvent rising d
  | 1 => startCourtesy (bunkChange d)
  | 2 => if rising then outletToggle d else d
  | 3 => if rising then panelPress d else d
  | 4 => dialPushEvent rising d
  | 5 => if rising then overheatTrip d else d
  | 6 => if rising then compFails .overcurrent d else d
  | 7 => wiredBrake d
  | _ => d

/-- R11: whether a direction matches a line's edge sense. -/
def EdgeSense.takes (e : EdgeSense) (rising : Bool) : Bool :=
  match e with
  | .rising => rising
  | .falling => !rising
  | .both => true

/-- R11, R14, R15: the delivered level of a line has changed to `level`. INPUT_CHANGE is posted before the owner acts on the event
(log 40, DESIGN CHOICE). -/
def deliveredChange (line : Nat) (level forcing : Bool) (d : Device) : Device :=
  let l := lineOf d line
  let d1 := if l.report then postInputChange line forcing d else d
  if l.edge.takes level then deliverEvent line level d1 else d1

/-! ## The pins and the protection lines (R13, R122) -/

/-- The pins with one DIN pin high or low. -/
def putPin (line : Nat) (high : Bool) (d : Device) : Device :=
  let bit : BitVec 8 := 1#8 <<< line
  { d with pins := { d.pins with din := if high then d.pins.din ||| bit else d.pins.din &&& ~~~bit } }

/-- The pin put at the level that its polarity reads as `level`. -/
def putRaw (line : Nat) (level : Bool) (d : Device) : Device :=
  putPin line (match (lineOf d line).polarity with
    | .high => level
    | .low => !level) d

/-- R13: DIN5's raw level active ends a fuel pulse in progress. -/
def holdFuel (d : Device) : Device :=
  if rawOf d 5 then putHtr { d.htr with fuel := { d.htr.fuel with gate := false } } d else d

/-- R13, R122: DIN6's raw level active sets the overcurrent latch and turns the bridge off. -/
def holdBridge (d : Device) : Device := if rawOf d 6 then overcurrentRaw d else d

/-- R13: the raw levels of DIN5 and DIN6 act at once. -/
def protect (d : Device) : Device := holdBridge (holdFuel d)

/-! ## The filters (R10) -/

/-- R10, R11: the filter of a line accepts a level. -/
def acceptLevel (line : Nat) (level : Bool) (d : Device) : Device :=
  let l := lineOf d line
  let d1 := putLine line { l with real := level, run := 0 } d
  if l.real = level ∨ l.forced ≠ none then d1 else deliveredChange line level false d1

/-- R10: one sample of a line. -/
def sampleLine (line : Nat) (d : Device) : Device :=
  let l := lineOf d line
  let raw := rawOf d line
  if l.startAfresh then putLine line { l with real := raw, run := 0, startAfresh := false } d
  else if raw = l.real then putLine line { l with run := 0 } d
  else if l.filter ≤ l.run + 1 then acceptLevel line raw d
  else putLine line { l with run := l.run + 1 } d

/-- R10: a 5 ms sample of every line. Lines whose filters accept at the same sample act on their owners in the order DIN0 to DIN7
(log 40, DESIGN CHOICE: the rule orders no two lines). -/
def sampleLines (pins : BitVec 8) (d0 : Device) : Device :=
  let d := reach d0.sched.nextSample d0
  let d1 : Device := { d with
    pins := { d.pins with din := pins }, sched := { d.sched with nextSample := d.sched.nextSample + 5 } }
  (List.range 8).foldl (fun acc n => sampleLine n acc) (protect d1)

/-- R10, R11: an accepted change of a line, whose pin then stands at the accepted level. -/
def acceptedChange (line : Nat) (level : Bool) (d : Device) : Device := acceptLevel line level (protect (putRaw line level d))

/-! ## The dial (R16, R17) -/

/-- R17: the multiplier and the direction-change mark of a detent at `ms`. -/
def detentMarks (last : Option LastDetent) (dir : DialDir) (ms : Nat) : Nat × Bool :=
  match last with
  | none => (1, false)
  | some l => if l.dir = dir then (if ms < l.time + 40 then 4 else 1, false) else (1, true)

/-- R16, R17: a detent delivered to LGT. -/
def detent (dir : DialDir) (d : Device) : Device :=
  match detentMarks d.sns.dial.last dir d.sns.ms with
  | (multiplier, change) =>
    lightsDetent dir multiplier (putSns { d.sns with dial := { d.sns.dial with
      count := 0, last := some { dir := dir, time := d.sns.ms, multiplier := multiplier, directionChange := change } } } d)

/-- R16: the place of a pair state in the cycle 00, 01, 11, 10. -/
def cyclePlace (a b : Bool) : Nat :=
  match a, b with
  | false, false => 0
  | false, true => 1
  | true, true => 2
  | true, false => 3

/-- R16: the partial count after a step forward or backward. -/
def stepCount (forward : Bool) (count : Int) : Int :=
  if forward then (if count < 0 then 1 else count + 1) else (if 0 < count then -1 else count - 1)

/-- R16: the partial count set. -/
def putCount (n : Int) (d : Device) : Device := putSns { d.sns with dial := { d.sns.dial with count := n } } d

/-- R16: the filtered pair state becomes `a`, `b`: a change of it is placed in the cycle and counted. -/
def turnDial (a b : Bool) (d0 : Device) : Device :=
  let moved := (cyclePlace a b + 4 - cyclePlace d0.sns.dial.a d0.sns.dial.b) % 4
  let d := putSns { d0.sns with dial := { d0.sns.dial with a := a, b := b } } d0
  if moved = 0 then d
  else if moved = 2 then putCount 0 d
  else
    let n := stepCount (decide (moved = 1)) d0.sns.dial.count
    if n = 4 then detent .plus d else if n = -4 then detent .minus d else putCount n d

/-- R16: a line's 2-sample filter: the filtered level and the mark after one sample `raw`. -/
def filterDial (level differed raw : Bool) : Bool × Bool :=
  if raw = level then (level, false) else if differed then (raw, false) else (level, true)

/-- R16: a 1 ms sample of both dial lines. -/
def sampleDial (d : Device) : Device :=
  let x := d.sns.dial
  let p := filterDial x.a x.runA d.pins.dialA
  let q := filterDial x.b x.runB d.pins.dialB
  turnDial p.1 q.1 (putSns { d.sns with dial := { x with runA := p.2, runB := q.2 } } d)

/-- R16: the filtered pair state takes a value, at which the dial's lines then stand (log 1). -/
def dialCount (a b : Bool) (d : Device) : Device :=
  turnDial a b { d with
    pins := { d.pins with dialA := a, dialB := b }
    sns := { d.sns with dial := { d.sns.dial with runA := false, runB := false } } }

/-! ## Time (R18) -/

/-- R18: an uptime second, with the work that falls on it made due (log 2) and the wired parking brake read (R32). -/
def uptimeSecond (d0 : Device) : Device :=
  let d := reach d0.sched.nextSecond d0
  let up := (d.sns.uptime + 1) % 4294967296
  let d1 : Device := { d with
    sns := { d.sns with uptime := up }
    sched := { d.sched with
      nextSecond := d.sched.nextSecond + 1000
      chgTick := true
      restTick := true
      leadTick := d.sched.leadTick || decide (up % 60 = 0)
      runUntilTick := true
      wakeTick := true
      prewarmTick := true } }
  wiredBrake (if up % 10 = 0 then triggerPass d1 else d1)

/-! ## Requests and reports (R6, R8, R12, R14, R15, R19) -/

/-- R19: SET_CLOCK. -/
def setClockRequest (b : List Byte) (d : Device) : Answered :=
  if b.length ≠ 4 then refuse .badLength d
  else if longAt b 0 < d.sns.uptime then refuse .badValue d
  else
    taken (removeNotice .clockNeeded
      (putSns { d.sns with clockSet := true, clockOffset := longAt b 0 - d.sns.uptime } d)) []

/-- R6: the nine pairs of a body. -/
def tablePairs (b : List Byte) : List (Nat × Int) := (List.range 9).map fun n => (wordAt b (1 + 4 * n), sWordAt b (3 + 4 * n))

/-- R6, check 4: a table that may be loaded. -/
def goodSensorTable (top : Int) (t : List (Nat × Int)) : Bool :=
  risesStrictly (t.map (·.1)) && t.all fun p => decide (p.1 ≤ 4095) && withinInt (-400) top p.2

/-- R6: a table replaced. -/
def SensorTables.put (t : SensorTables) (c : AnalogChannel) (table : List (Nat × Int)) : SensorTables :=
  match c with
  | .tCab => { t with cab := table }
  | .tExch => { t with exch := table }
  | .tFridge => { t with fridge := table }
  | .tBatt => { t with batt := table }
  | .batv | .bati => t

/-- R6: SET_SENSOR_TABLE. -/
def setSensorTableRequest (b : List Byte) (d : Device) : Answered :=
  if b.length ≠ 37 then refuse .badLength d
  else match temperatureChannels.find? fun c => decide (c.code = byteAt b 0) with
    | none => refuse .badValue d
    | some c =>
      if c = .tExch ∧ d.htr.state ≠ .off ∧ d.htr.state ≠ .lockout then refuse .busy d
      else if !goodSensorTable (if c = .tExch then 2500 else 1250) (tablePairs b) then refuse .badValue d
      else taken (putSns { d.sns with tables := d.sns.tables.put c (tablePairs b) } d) []

/-- A channel's converted value in a body: unsigned for BATV, signed for the others. -/
def valueField (c : AnalogChannel) (x : Int) : List Byte := if c = .batv then u16 x.toNat else i16 x

/-- R8: the contents of READ_SENSORS. -/
def sensorContents (d : Device) : List Byte :=
  (allChannels.flatMap fun c =>
    u8 (d.sns.analog.get c).status.code ++ u16 (d.sns.analog.get c).average ++ valueField c (d.sns.analog.get c).value) ++
  ((List.range 8).flatMap fun n =>
    mark8 (lineOf d n).real ++ mark8 (deliveredOf d n) ++ mark8 (lineOf d n).forced.isSome) ++
  u32 d.sns.uptime ++ clockField d ++ wallField d

/-- R7: the body of SENSOR_FAULT after the merge count: status and value channel by channel (log 7, DEDUCED). -/
def sensorFaultBody (d : Device) : List Byte :=
  allChannels.flatMap fun c => u8 (d.sns.analog.get c).status.code ++ valueField c (d.sns.analog.get c).value

/-- R190: the body of INPUT_CHANGE after the merge count, for the lines its entry holds. -/
def inputChangeBody (lines : List (Nat × Bool)) (d : Device) : List Byte :=
  counted (fun p : Nat × Bool => u8 p.1 ++ mark8 (deliveredOf d p.1) ++ mark8 p.2) lines ++
    (List.range 8).flatMap fun n => mark8 (deliveredOf d n)

/-- An edge sense by its code. -/
def edgeOfCode (n : Nat) : EdgeSense :=
  match n with
  | 0 => .rising
  | 1 => .falling
  | _ => .both

/-- R12: a line under a new setting; a changed polarity starts it afresh, a changed filter length returns its run to 0. -/
def InputLine.configured (l : InputLine) (p : Polarity) (filter : Nat) (e : EdgeSense) (report : Bool) : InputLine :=
  { l with
    polarity := p
    filter := filter
    edge := e
    report := report
    run := if p = l.polarity ∧ filter = l.filter then l.run else 0
    startAfresh := l.startAfresh || decide (p ≠ l.polarity) }

/-- R12: INPUT_CONFIG. -/
def inputConfigRequest (b : List Byte) (d : Device) : Answered :=
  if b.length ≠ 5 then refuse .badLength d
  else
    let n := byteAt b 0
    let filter := byteAt b 2
    if 7 < n ∨ 1 < byteAt b 1 ∨ !within 1 15 filter ∨ 2 < byteAt b 3 then refuse .badValue d
    else if (n = 5 ∨ n = 6) ∧ (filter ≠ 2 ∨ byteAt b 3 ≠ 2) then refuse .protectedItem d
    else
      let l := (lineOf d n).configured (if byteAt b 1 = 0 then .high else .low) filter (edgeOfCode (byteAt b 3))
        (freeFlag (byteAt b 4))
      taken (protect (putLine n l d)) []

/-- R14, R15: a line's forcing replaced; a changed delivered level is delivered as a change from forcing. -/
def putForcing (line : Nat) (forced : Option Bool) (d : Device) : Device :=
  let l := lineOf d line
  let l1 := { l with forced := forced }
  let d1 := putLine line l1 d
  if l1.delivered = l.delivered then d1 else deliveredChange line l1.delivered true d1

/-- R14: INPUT_FORCE. -/
def inputForceRequest (b : List Byte) (d : Device) : Answered :=
  if b.length ≠ 2 then refuse .badLength d
  else
    let n := byteAt b 0
    if 7 < n ∨ 1 < byteAt b 1 then refuse .badValue d
    else if n = 5 ∨ n = 6 then refuse .protectedItem d
    else taken (putForcing n (some (decide (byteAt b 1 = 1))) d) []

/-- R15: INPUT_RELEASE. -/
def inputReleaseRequest (b : List Byte) (d : Device) : Answered :=
  if b.length ≠ 1 then refuse .badLength d
  else if 7 < byteAt b 0 then refuse .badValue d
  else taken (putForcing (byteAt b 0) none d) []

/-! ## RESTART (R6, R9, R12, R15, R16) -/

/-- R12, R15: a line through a RESTART, without an event. -/
def InputLine.restarted (l : InputLine) (n : Nat) : InputLine :=
  { l.configured (defaultPolarity n) (defaultFilter n) (defaultEdge n) false with forced := none }

/-- The Sensing Unit through a RESTART. -/
def restartSensing (d : Device) : Device :=
  protect (putSns { d.sns with
    tables := defaultTables
    lines := (List.range 8).map fun n => (lineOf d n).restarted n
    dial := freshDial d.pins
    current := { sum := 0, count := 0 } } d)

/-! ## The commands -/

/-- SET_CLOCK (R19). -/
def execSetClock (tag : Byte) (body : List Byte) (s : State) : Host.Outcome State Fault Refusal :=
  running s (serve 0x08 tag body setClockRequest)

/-- SET_SENSOR_TABLE (R6). -/
def execSetSensorTable (tag : Byte) (body : List Byte) (s : State) : Host.Outcome State Fault Refusal :=
  running s (serve 0x09 tag body setSensorTableRequest)

/-- READ_SENSORS (R8). -/
def execReadSensors (tag : Byte) (body : List Byte) (s : State) : Host.Outcome State Fault Refusal :=
  running s (serve 0x0A tag body (readOnly sensorContents))

/-- INPUT_CONFIG (R12). -/
def execInputConfig (tag : Byte) (body : List Byte) (s : State) : Host.Outcome State Fault Refusal :=
  running s (serve 0x0B tag body inputConfigRequest)

/-- INPUT_FORCE (R14). -/
def execInputForce (tag : Byte) (body : List Byte) (s : State) : Host.Outcome State Fault Refusal :=
  running s (serve 0x0C tag body inputForceRequest)

/-- INPUT_RELEASE (R15). -/
def execInputRelease (tag : Byte) (body : List Byte) (s : State) : Host.Outcome State Fault Refusal :=
  running s (serve 0x0D tag body inputReleaseRequest)

/-- MEASUREMENT_SWEEP (R1). -/
def execMeasurementSweep (codes : SweepCodes) (s : State) : Host.Outcome State Fault Refusal := running s (sweep codes)

/-- ACCEPTED_CHANGE (R11). -/
def execAcceptedChange (line : Fin 8) (active : Bool) (s : State) : Host.Outcome State Fault Refusal :=
  running s (acceptedChange line active)

/-- INPUT_SAMPLE (R10). -/
def execInputSample (pins : BitVec 8) (s : State) : Host.Outcome State Fault Refusal := running s (sampleLines pins)

/-- DIN5_RAW_ACTIVE (R13). -/
def execDin5RawActive (s : State) : Host.Outcome State Fault Refusal := running s fun d => holdFuel (putRaw 5 true d)

/-- DIN5_RAW_INACTIVE (R13). -/
def execDin5RawInactive (s : State) : Host.Outcome State Fault Refusal := running s (putRaw 5 false)

/-- DIN6_RAW_ACTIVE (R122). -/
def execDin6RawActive (s : State) : Host.Outcome State Fault Refusal := running s fun d => holdBridge (putRaw 6 true d)

/-- DIN6_RAW_INACTIVE (R13). -/
def execDin6RawInactive (s : State) : Host.Outcome State Fault Refusal := running s (putRaw 6 false)

/-- DIAL_COUNT (R16). -/
def execDialCount (a b : Bool) (s : State) : Host.Outcome State Fault Refusal := running s (dialCount a b)

/-- DETENT (R137). -/
def execDetent (dir : DialDir) (s : State) : Host.Outcome State Fault Refusal := running s (detent dir)

/-- UPTIME_SECOND (R18). -/
def execUptimeSecond (s : State) : Host.Outcome State Fault Refusal := running s uptimeSecond

/-- COMPRESSOR_CURRENT_SAMPLE (R9). -/
def execCompressorCurrentSample (raw : RawCode) (s : State) : Host.Outcome State Fault Refusal :=
  running s fun d =>
    if d.cmp.state = .run then
      putSns { d.sns with current := { sum := d.sns.current.sum + 5 * raw.toNat, count := d.sns.current.count + 1 } } d
    else d

end Sys2Proof.Machine
end

