-- ==== Sys2Proof/Machine/System.lean ====
section
/-! DEFINITION. The part as a whole: the notice bodies (R190), the transmitter (R189, R190), RESTART (R196), the cold reset (R197),
which command the request in hand is, and which event is due when no command waits (log 2). -/

namespace Sys2Proof.Machine

/-! ## Notice bodies (R190) -/

/-- R190: the body of RESTARTED after the merge count: the reset kind COLD 0 or REQUEST 1, the uptime of that reset, the clock
state. -/
def restartedBody (d : Device) : List Byte := mark8 d.lnk.resetKind ++ u32 d.lnk.resetUptime ++ clockField d

/-- R190: the body of CLOCK_NEEDED after the merge count. -/
def clockNeededBody (d : Device) : List Byte := clockField d ++ u32 d.sns.uptime

/-- R190: the owner's snapshot of a notice, as it stands now. -/
def snapshot (n : Notice) (d : Device) : List Byte :=
  match n.kind with
  | .restarted => restartedBody d
  | .clockNeeded => clockNeededBody d
  | .sensorFault => sensorFaultBody d
  | .inputChange => inputChangeBody n.lines d
  | .busState => busStateBody d
  | .chargeState => chargeStateBody d
  | .budgetState => budgetStateBody d
  | .heaterState => heaterStateBody d
  | .heaterFault => heaterFaultBody d
  | .fridgeState => fridgeStateBody d
  | .lightState => lightStateBody d
  | .restState => restStateBody d
  | .restWarning => restWarningBody d
  | .planState => planStateBody d

/-- R190: the frame of a notice: KIND 0xC0 + its number, TAG 0x00, the merge count and the snapshot. -/
def noticeFrame (n : Notice) (d : Device) : Frame :=
  { kind := 0xC0 + BitVec.ofNat 8 n.kind.number, tag := 0, body := u8 n.merge ++ snapshot n d }

/-! ## RESTART (R196) -/

/-- R196, stages 1 to 3: the queue and the notice table emptied, the link configuration at its defaults, the link AWAKE and the
idle timer running from the last valid frame. -/
def restartLink (d0 : Device) : Device :=
  let d := removeAll { d0 with lnk := { d0.lnk with queue := [] } }
  { d with lnk := { d.lnk with
      enables := defaultEnables
      idleTime := 5000
      awake := true
      idle := some (d.lnk.lastFrame + 5000)
      resetKind := true
      resetUptime := d.sns.uptime } }

/-- R196, stage 5: the RESTART handed to every block (in the order of log 16; the listener is left as it is, R35). -/
def restartBlocks (d : Device) : Device :=
  restartBudget (restartRest (restartLights (restartComp (restartHeater (restartPlan (restartCharge (restartSensing d)))))))

/-- R196: the RESTART acts. -/
def restartPart (d : Device) : Device := restartBlocks (post .restarted (restartLink d))

/-! ## The transmitter (R189, R190) -/

/-- R190: the frame being sent ends, at its end. -/
def endFrame (d : Device) : Device :=
  let d1 := reach d.lnk.sendEnd d
  { d1 with lnk := { d1.lnk with tx := .idle } }

/-- R185, R189, R196: after the last frame of its reply the request in hand leaves the queue, and a RESTART acts. -/
def replyEnded (d : Device) : Device :=
  match d.lnk.out with
  | none => d
  | some run =>
    if run.rest = [] then
      let d1 : Device := { d with lnk := { d.lnk with out := none, queue := d.lnk.queue.tail } }
      if run.restart then restartPart d1 else d1
    else d

/-- R190: the entry at the head of the table begins to be sent: its body is built, the entry leaves the table, and its owner's
causes are emptied. -/
def beginNotice (d : Device) : Device :=
  match d.lnk.notices with
  | [] => d
  | n :: rest =>
    let f := noticeFrame n d
    emptyCauses n.kind { d with lnk := { d.lnk with
      notices := rest, tx := .notice f, sendEnd := d.sns.ms + frameMs f } }

/-- A request in hand that has not been answered yet: it is answered in the same moment, before a notice is chosen (log 6). -/
def unanswered (d : Device) : Bool := !d.lnk.queue.isEmpty && decide (d.lnk.out = none)

/-- R190: an idle transmitter chooses the next frame: a reply that is ready, else a notice while the link is AWAKE. -/
def chooseFrame (d : Device) : Device :=
  match d.lnk.out with
  | some _ => sendReply d
  | none => if d.lnk.awake && !unanswered d then beginNotice d else d

/-- R190: the transmitter becomes free, or is free while a frame is ready. -/
def transmitterFree (d : Device) : Device :=
  match d.lnk.tx with
  | .idle => chooseFrame d
  | .reply _ => chooseFrame (replyEnded (endFrame d))
  | .notice _ => chooseFrame (endFrame d)

/-! ## The request in hand (R186) -/

/-- R186: the command that a request frame is; HEATER_CONFIG is one command for each part (R76, R77). -/
def requestOf (f : Frame) : Instr :=
  match f.kind.toNat with
  | 0x01 => .identify f.tag f.body
  | 0x02 => .restart f.tag f.body
  | 0x03 => .getStatus f.tag f.body
  | 0x04 => .linkConfig f.tag f.body
  | 0x08 => .setClock f.tag f.body
  | 0x09 => .setSensorTable f.tag f.body
  | 0x0A => .readSensors f.tag f.body
  | 0x0B => .inputConfig f.tag f.body
  | 0x0C => .inputForce f.tag f.body
  | 0x0D => .inputRelease f.tag f.body
  | 0x10 => .busConfig f.tag f.body
  | 0x11 => .busSlotSet f.tag f.body
  | 0x12 => .busBind f.tag f.body
  | 0x13 => .readVehicle f.tag f.body
  | 0x14 => .batteryConfig f.tag f.body
  | 0x15 => .setCharge f.tag f.body
  | 0x16 => .readCharge f.tag f.body
  | 0x18 => .budgetConfig f.tag f.body
  | 0x19 => .readBudget f.tag f.body
  | 0x1A => .outletSet f.tag f.body
  | 0x1C => .planSet f.tag f.body
  | 0x1D => .planCancel f.tag f.body
  | 0x1E => .quietSet f.tag f.body
  | 0x1F => .readPlan f.tag f.body
  | 0x20 =>
    match f.body with
    | 1 :: _ => .heaterConfigSequence f.tag f.body
    | 2 :: _ => .heaterConfigLimits f.tag f.body
    | _ => .heaterConfigLevelTable f.tag f.body
  | 0x21 => .heaterStart f.tag f.body
  | 0x22 => .heaterStop f.tag f.body
  | 0x23 => .heaterUnlock f.tag f.body
  | 0x24 => .heaterServiceClear f.tag f.body
  | 0x25 => .readHeater f.tag f.body
  | 0x28 => .fridgeConfig f.tag f.body
  | 0x29 => .fridgeEnable f.tag f.body
  | 0x2A => .fridgeDisable f.tag f.body
  | 0x2B => .fridgeClear f.tag f.body
  | 0x2C => .readFridge f.tag f.body
  | 0x30 => .lightSet f.tag f.body
  | 0x31 => .lightGroup f.tag f.body
  | 0x32 => .sceneSet f.tag f.body
  | 0x33 => .sceneRecall f.tag f.body
  | 0x34 => .lightConfig f.tag f.body
  | 0x35 => .readLights f.tag f.body
  | 0x38 => .restRules f.tag f.body
  | 0x39 => .declareActivity f.tag f.body
  | 0x3A => .ackWarning f.tag f.body
  | 0x3B => .readRest f.tag f.body
  | 0x3C => .readTimeline f.tag f.body
  | _ => .unknownKind f.kind f.tag f.body

/-! ## What is due when no command waits (log 2) -/

/-- Whether a running timer has reached its time. -/
def timerDue (d : Device) (timer : Option Nat) : Bool :=
  match timer with
  | none => false
  | some t => decide (t ≤ d.sns.ms)

/-- The link's work that is due: the request in hand, and the transmitter. -/
def linkDue (d : Device) : List (Bool × Instr) :=
  let sending := decide (d.lnk.tx ≠ .idle)
  let ready := match d.lnk.out with
    | some _ => true
    | none => d.lnk.awake && !d.lnk.notices.isEmpty
  [ (unanswered d, requestOf (d.lnk.queue.headD { kind := 0, tag := 0, body := [] })),
    ((!sending && ready) || (sending && decide (d.lnk.sendEnd ≤ d.sns.ms)), .transmitterFree) ]

/-- The work and the tests that fall on an uptime second, each once for each second, and the passes that have been triggered (R18, R36,
R57, R98, R149, R174, R175, R177). -/
def secondDue (d : Device) : List (Bool × Instr) :=
  [ (d.sched.chgTick, .chgAccountingTick),
    (d.sched.restTick, .restTick),
    (d.sched.leadTick, .leadRecompute),
    (decide (0 < d.bgt.passesDue), .budgetPass),
    (d.sched.runUntilTick, .runUntilReached),
    (d.sched.wakeTick, .wake),
    (d.sched.prewarmTick, .prewarmTimeReached) ]

/-- The timers of the listener, the allowance and the link. -/
def busTimersDue (d : Device) : List (Bool × Instr) :=
  [ (timerDue d d.lnk.idle, .idleTimerExpiry),
    (timerDue d d.vbl.silence, .silenceTimerExpiry),
    (timerDue d d.bgt.allowance.hold, .holdTimerExpiry),
    (timerDue d d.bgt.allowance.settle, .settlingTimerExpiry),
    (timerDue d d.bgt.outlet.closing, .closingTimerExpiry) ] ++
  (List.finRange 12).map fun (n : Fin 12) => (timerDue d (slotOf d n.val).timer, .freshnessTimerExpiry n)

/-- The heater's timers. -/
def heaterTimersDue (d : Device) : List (Bool × Instr) :=
  let t := d.htr.timers
  let fuel := d.htr.fuel
  [ (timerDue d t.wait, .waitTimerExpiry),
    (timerDue d t.glow, .glowTimeExpiry),
    (timerDue d (d.htr.glowSince.map (· + 90000)), .glowOneShotExpiry),
    (timerDue d t.window, .flameWindowExpiry),
    (timerDue d t.purge, .purgeTimeExpiry),
    (fuel.gate && decide (fuel.lastStart + d.htr.seq.pulseWidth ≤ d.sns.ms), .fuelPulseEnd),
    (fuel.running && decide (fuel.lastStart + fuel.interval ≤ d.sns.ms), .fuelPulseStart),
    (timerDue d t.ramp, .rampStep),
    (timerDue d t.dwell, .levelDwellExpiry),
    (timerDue d t.pause, .pauseTimerExpiry),
    (timerDue d (tachDeadline d), .tachTimeout),
    (timerDue d t.lowSpeed, .blowerSpeedTimeout),
    (timerDue d t.coolMin, .minimumCooldownExpiry),
    (timerDue d t.coolMax, .maximumCooldownExpiry) ]

/-- The compressor's timers. -/
def compTimersDue (d : Device) : List (Bool × Instr) :=
  let t := d.cmp.timers
  [ (timerDue d t.stall, .stallTimerExpiry),
    (timerDue d t.start, .startTimerExpiry),
    (timerDue d t.dutyRamp, .dutyRampStep),
    (timerDue d t.minRun, .minimumRunExpiry),
    (timerDue d t.failReset, .failureCounterResetTimer),
    (timerDue d t.raise, .raiseTimerExpiry),
    (timerDue d t.coast, .stoppingCoastEnd),
    (timerDue d t.backoff, .backoffExpiry),
    (timerDue d t.blocked, .blockedTimerExpiry),
    (timerDue d (t.offSince.map (· + 180000)), .minimumOffPassed),
    (timerDue d t.phase, .timedPhaseExpiry) ]

/-- The light controller's timers. -/
def lightTimersDue (d : Device) : List (Bool × Instr) :=
  [ (timerDue d d.lgt.courtesyTimer, .courtesyTimerExpiry),
    (timerDue d d.lgt.ch7Timer, .ch7PatternPhase),
    (timerDue d d.lgt.buzzer.timer, .buzzerBeatPhase) ] ++
  (List.finRange 7).map fun (n : Fin 7) =>
    ((channelOf d n.val).fading && decide ((channelOf d n.val).fadeAt + (channelOf d n.val).fadeMs ≤ d.sns.ms), .fadeEnd n)

/-- The periodic events, with what stands at the pins, and the gates whose dead time has elapsed (R1, R10, R18, R117, R118,
R130). -/
def periodicDue (d : Device) : List (Bool × Instr) :=
  let waits := fun (g : LegState) => g.waitHigh || g.waitLow
  let frees := d.cmp.state.drives && !bridgeHeld d
  [ (decide (d.sched.nextSweep ≤ d.sns.ms), .measurementSweep d.pins.analog),
    (decide (d.sched.nextSample ≤ d.sns.ms), .inputSample d.pins.din),
    (decide (d.sched.nextPwm ≤ d.sns.ms), .lampPwmBoundary),
    (frees && waits d.cmp.bridge.u, .deadTimeExpiry .u),
    (frees && waits d.cmp.bridge.v, .deadTimeExpiry .v),
    (frees && waits d.cmp.bridge.w, .deadTimeExpiry .w),
    (decide (d.cmp.staged ≠ d.cmp.duty), .carrierValley),
    (decide (d.sched.nextSecond ≤ d.sns.ms), .uptimeSecond) ]

/-- Everything that may be due, in the order in which it is taken when several things fall together (log 2). -/
def dueList (d : Device) : List (Bool × Instr) :=
  linkDue d ++ secondDue d ++ busTimersDue d ++ heaterTimersDue d ++ compTimersDue d ++ lightTimersDue d ++ periodicDue d

/-- The first event that is due, if one is. -/
def dueEvent (d : Device) : Option Instr := ((dueList d).find? fun p => p.1).map fun p => p.2

/-- One millisecond passes with nothing due (log 2); the dial is sampled at its end (R16). -/
def tickMs (d : Device) : Device := sampleDial (reach (d.sns.ms + 1) d)

/-! ## The cold reset (R197) -/

/-- R197: every block at its initial state, whatever it was; the pins and the factory data stand. -/
def coldReset (d : Device) : Device := coldDevice d.pins d.factory

/-! ## The commands -/

/-- COLD_RESET (R197). -/
def execColdReset (s : State) : Host.Outcome State Fault Refusal := running s coldReset

/-- TRANSMITTER_FREE (R190). -/
def execTransmitterFree (s : State) : Host.Outcome State Fault Refusal := running s transmitterFree

end Sys2Proof.Machine
end

