-- ==== Sys2Proof/Machine/Dispatch.lean ====
section
/-! DEFINITION. One arm per command of the operation table, each one direct call of its meaning. -/

namespace Sys2Proof.Machine

def exec (i : Instr) (s : State) : Host.Outcome State Fault Refusal :=
  match i with
  | .coldReset => Sys2Proof.Machine.execColdReset s
  | .frameReceived kind tag body => Sys2Proof.Machine.execFrameReceived kind tag body s
  | .frameDiscarded why => Sys2Proof.Machine.execFrameDiscarded why s
  | .unknownKind kind tag body => Sys2Proof.Machine.execUnknownKind kind tag body s
  | .transmitterFree => Sys2Proof.Machine.execTransmitterFree s
  | .idleTimerExpiry => Sys2Proof.Machine.execIdleTimerExpiry s
  | .identify tag body => Sys2Proof.Machine.execIdentify tag body s
  | .restart tag body => Sys2Proof.Machine.execRestart tag body s
  | .getStatus tag body => Sys2Proof.Machine.execGetStatus tag body s
  | .linkConfig tag body => Sys2Proof.Machine.execLinkConfig tag body s
  | .setClock tag body => Sys2Proof.Machine.execSetClock tag body s
  | .setSensorTable tag body => Sys2Proof.Machine.execSetSensorTable tag body s
  | .readSensors tag body => Sys2Proof.Machine.execReadSensors tag body s
  | .inputConfig tag body => Sys2Proof.Machine.execInputConfig tag body s
  | .inputForce tag body => Sys2Proof.Machine.execInputForce tag body s
  | .inputRelease tag body => Sys2Proof.Machine.execInputRelease tag body s
  | .measurementSweep codes => Sys2Proof.Machine.execMeasurementSweep codes s
  | .acceptedChange line active => Sys2Proof.Machine.execAcceptedChange line active s
  | .din5RawActive => Sys2Proof.Machine.execDin5RawActive s
  | .din5RawInactive => Sys2Proof.Machine.execDin5RawInactive s
  | .din6RawActive => Sys2Proof.Machine.execDin6RawActive s
  | .din6RawInactive => Sys2Proof.Machine.execDin6RawInactive s
  | .detent dir => Sys2Proof.Machine.execDetent dir s
  | .uptimeSecond => Sys2Proof.Machine.execUptimeSecond s
  | .busConfig tag body => Sys2Proof.Machine.execBusConfig tag body s
  | .busSlotSet tag body => Sys2Proof.Machine.execBusSlotSet tag body s
  | .busBind tag body => Sys2Proof.Machine.execBusBind tag body s
  | .readVehicle tag body => Sys2Proof.Machine.execReadVehicle tag body s
  | .canFrame format ident dlc data => Sys2Proof.Machine.execCanFrame format ident dlc data s
  | .silenceTimerExpiry => Sys2Proof.Machine.execSilenceTimerExpiry s
  | .freshnessTimerExpiry slot => Sys2Proof.Machine.execFreshnessTimerExpiry slot s
  | .batteryConfig tag body => Sys2Proof.Machine.execBatteryConfig tag body s
  | .setCharge tag body => Sys2Proof.Machine.execSetCharge tag body s
  | .readCharge tag body => Sys2Proof.Machine.execReadCharge tag body s
  | .chgAccountingTick => Sys2Proof.Machine.execChgAccountingTick s
  | .gradingRunComplete => Sys2Proof.Machine.execGradingRunComplete s
  | .fullChargeDetection => Sys2Proof.Machine.execFullChargeDetection s
  | .budgetConfig tag body => Sys2Proof.Machine.execBudgetConfig tag body s
  | .readBudget tag body => Sys2Proof.Machine.execReadBudget tag body s
  | .outletSet tag body => Sys2Proof.Machine.execOutletSet tag body s
  | .budgetPass => Sys2Proof.Machine.execBudgetPass s
  | .holdTimerExpiry => Sys2Proof.Machine.execHoldTimerExpiry s
  | .settlingTimerExpiry => Sys2Proof.Machine.execSettlingTimerExpiry s
  | .closingTimerExpiry => Sys2Proof.Machine.execClosingTimerExpiry s
  | .heaterConfigLevelTable tag body => Sys2Proof.Machine.execHeaterConfigLevelTable tag body s
  | .heaterConfigSequence tag body => Sys2Proof.Machine.execHeaterConfigSequence tag body s
  | .heaterConfigLimits tag body => Sys2Proof.Machine.execHeaterConfigLimits tag body s
  | .heaterStart tag body => Sys2Proof.Machine.execHeaterStart tag body s
  | .heaterStop tag body => Sys2Proof.Machine.execHeaterStop tag body s
  | .heaterUnlock tag body => Sys2Proof.Machine.execHeaterUnlock tag body s
  | .heaterServiceClear tag body => Sys2Proof.Machine.execHeaterServiceClear tag body s
  | .readHeater tag body => Sys2Proof.Machine.execReadHeater tag body s
  | .waitTimerExpiry => Sys2Proof.Machine.execWaitTimerExpiry s
  | .glowTimeExpiry => Sys2Proof.Machine.execGlowTimeExpiry s
  | .glowOneShotExpiry => Sys2Proof.Machine.execGlowOneShotExpiry s
  | .flameWindowExpiry => Sys2Proof.Machine.execFlameWindowExpiry s
  | .purgeTimeExpiry => Sys2Proof.Machine.execPurgeTimeExpiry s
  | .fuelPulseStart => Sys2Proof.Machine.execFuelPulseStart s
  | .fuelPulseEnd => Sys2Proof.Machine.execFuelPulseEnd s
  | .rampStep => Sys2Proof.Machine.execRampStep s
  | .levelDwellExpiry => Sys2Proof.Machine.execLevelDwellExpiry s
  | .pauseTimerExpiry => Sys2Proof.Machine.execPauseTimerExpiry s
  | .tachPulse periodUs => Sys2Proof.Machine.execTachPulse periodUs s
  | .tachTimeout => Sys2Proof.Machine.execTachTimeout s
  | .blowerSpeedTimeout => Sys2Proof.Machine.execBlowerSpeedTimeout s
  | .runUntilReached => Sys2Proof.Machine.execRunUntilReached s
  | .minimumCooldownExpiry => Sys2Proof.Machine.execMinimumCooldownExpiry s
  | .maximumCooldownExpiry => Sys2Proof.Machine.execMaximumCooldownExpiry s
  | .fridgeConfig tag body => Sys2Proof.Machine.execFridgeConfig tag body s
  | .fridgeEnable tag body => Sys2Proof.Machine.execFridgeEnable tag body s
  | .fridgeDisable tag body => Sys2Proof.Machine.execFridgeDisable tag body s
  | .fridgeClear tag body => Sys2Proof.Machine.execFridgeClear tag body s
  | .readFridge tag body => Sys2Proof.Machine.execReadFridge tag body s
  | .timedPhaseExpiry => Sys2Proof.Machine.execTimedPhaseExpiry s
  | .minimumOffPassed => Sys2Proof.Machine.execMinimumOffPassed s
  | .dutyRampStep => Sys2Proof.Machine.execDutyRampStep s
  | .startTimerExpiry => Sys2Proof.Machine.execStartTimerExpiry s
  | .hallEdge code intervalUs => Sys2Proof.Machine.execHallEdge code intervalUs s
  | .minimumRunExpiry => Sys2Proof.Machine.execMinimumRunExpiry s
  | .failureCounterResetTimer => Sys2Proof.Machine.execFailureCounterResetTimer s
  | .raiseTimerExpiry => Sys2Proof.Machine.execRaiseTimerExpiry s
  | .stoppingCoastEnd => Sys2Proof.Machine.execStoppingCoastEnd s
  | .stallTimerExpiry => Sys2Proof.Machine.execStallTimerExpiry s
  | .backoffExpiry => Sys2Proof.Machine.execBackoffExpiry s
  | .blockedTimerExpiry => Sys2Proof.Machine.execBlockedTimerExpiry s
  | .lightSet tag body => Sys2Proof.Machine.execLightSet tag body s
  | .lightGroup tag body => Sys2Proof.Machine.execLightGroup tag body s
  | .sceneSet tag body => Sys2Proof.Machine.execSceneSet tag body s
  | .sceneRecall tag body => Sys2Proof.Machine.execSceneRecall tag body s
  | .lightConfig tag body => Sys2Proof.Machine.execLightConfig tag body s
  | .readLights tag body => Sys2Proof.Machine.execReadLights tag body s
  | .courtesyTimerExpiry => Sys2Proof.Machine.execCourtesyTimerExpiry s
  | .fadeEnd channel => Sys2Proof.Machine.execFadeEnd channel s
  | .ch7PatternPhase => Sys2Proof.Machine.execCh7PatternPhase s
  | .buzzerBeatPhase => Sys2Proof.Machine.execBuzzerBeatPhase s
  | .restRules tag body => Sys2Proof.Machine.execRestRules tag body s
  | .declareActivity tag body => Sys2Proof.Machine.execDeclareActivity tag body s
  | .ackWarning tag body => Sys2Proof.Machine.execAckWarning tag body s
  | .readRest tag body => Sys2Proof.Machine.execReadRest tag body s
  | .readTimeline tag body => Sys2Proof.Machine.execReadTimeline tag body s
  | .restTick => Sys2Proof.Machine.execRestTick s
  | .classTake => Sys2Proof.Machine.execClassTake s
  | .restCrossing => Sys2Proof.Machine.execRestCrossing s
  | .repeatRaise => Sys2Proof.Machine.execRepeatRaise s
  | .planSet tag body => Sys2Proof.Machine.execPlanSet tag body s
  | .planCancel tag body => Sys2Proof.Machine.execPlanCancel tag body s
  | .quietSet tag body => Sys2Proof.Machine.execQuietSet tag body s
  | .readPlan tag body => Sys2Proof.Machine.execReadPlan tag body s
  | .leadRecompute => Sys2Proof.Machine.execLeadRecompute s
  | .prewarmTimeReached => Sys2Proof.Machine.execPrewarmTimeReached s
  | .wake => Sys2Proof.Machine.execWake s
  | .byteReceived byte stopBit => Sys2Proof.Machine.execByteReceived byte stopBit s
  | .inputSample pins => Sys2Proof.Machine.execInputSample pins s
  | .dialCount a b => Sys2Proof.Machine.execDialCount a b s
  | .compressorCurrentSample raw => Sys2Proof.Machine.execCompressorCurrentSample raw s
  | .carrierValley => Sys2Proof.Machine.execCarrierValley s
  | .deadTimeExpiry leg => Sys2Proof.Machine.execDeadTimeExpiry leg s
  | .lampPwmBoundary => Sys2Proof.Machine.execLampPwmBoundary s
  | .hallCodeInvalid code => Sys2Proof.Machine.execHallCodeInvalid code s

end Sys2Proof.Machine
end

