-- ==== Sys2Proof/Machine/Step.lean ====
section
/-! DEFINITION. One step of the part: the command at the front of the queue, or, with no command waiting, the event that is due,
or one millisecond. -/

namespace Sys2Proof.Machine

/-- One step. With a command waiting, the first is taken off the queue and run on the rest. With none waiting the part's own time
goes on (log 2, DESIGN CHOICE): the event that is due is run, and with nothing due one millisecond passes. -/
def step (s : State) : Host.Outcome State Fault Refusal :=
  match s.pending with
  | c :: rest => exec c { s with pending := rest }
  | [] =>
    match dueEvent s.dev with
    | some c => exec c s
    | none => .next { s with dev := tickMs s.dev }

/-- The state with the command that a word spells put at the front of its queue; no word spells one (log 31). -/
def State.withFetchWord (s : State) (nbits w : Nat) : State :=
  match decodeTableWord nbits w with
  | some c => { s with pending := c :: s.pending }
  | none => s

end Sys2Proof.Machine
end

