-- ==== Sys2Proof/Safety.lean ====
section
/-! DEFINITION. What a sound part is, block by block: the relations between registers that the manual's rules keep in every state a
run can reach. The statements speak of them; nothing in the machine depends on them. -/

namespace Sys2Proof.Machine

/-! ## Host Link (chapter 10) -/

/-- R190 to R192: at most one entry of each kind stands in the notice table, each with a merge count of 1 to 255, and none of a
disabled kind. -/
def noticesSound (table : List Notice) (enables : BitVec 16) : Prop :=
  (table.map (·.kind)).Nodup ∧ ∀ n ∈ table, 1 ≤ n.merge ∧ n.merge ≤ 255 ∧ enables.getLsbD n.kind.number = true

/-- R185, R189: the receive queue holds at most four frames; a reply that has been formed answers the first of them, and a reply on
its way is one that has been formed. -/
def queueSound (queue : List Frame) (out : Option ReplyRun) (tx : Transmitter) : Prop :=
  queue.length ≤ 4 ∧ (out ≠ none → queue ≠ []) ∧ (∀ f, tx = .reply f → out ≠ none)

/-- The link and its notice table are sound. -/
def linkSound (d : Device) : Prop :=
  queueSound d.lnk.queue d.lnk.out d.lnk.tx ∧ noticesSound d.lnk.notices d.lnk.enables

/-! ## The compressor's bridge (chapter 6) -/

/-- R118: a leg never has both gates on, and a gate that waits for the dead time is off. -/
def LegState.sound (g : LegState) : Prop :=
  ¬(g.high = true ∧ g.low = true) ∧ (g.waitHigh = true → g.high = false) ∧ (g.waitLow = true → g.low = false)

/-- Both gates of a leg are off. -/
def LegState.isOff (g : LegState) : Prop := g.high = false ∧ g.low = false

/-- All six gates are off. -/
def Bridge.isOff (b : Bridge) : Prop := b.u.isOff ∧ b.v.isOff ∧ b.w.isOff

/-- The raw level of DIN`n` through a line's polarity (section 1.4). -/
def rawLevel (pins : Pins) (lines : List InputLine) (n : Nat) : Bool :=
  (lines.getD n noLine).polarity.active (pins.din.getLsbD n)

/-- R13, R118, R122: every leg is sound; all six gates are off outside START and RUN, while the overcurrent latch is set, and while
DIN6's raw level is active. -/
def bridgeSound (c : Compressor) (pins : Pins) (lines : List InputLine) : Prop :=
  c.bridge.u.sound ∧ c.bridge.v.sound ∧ c.bridge.w.sound ∧
  (c.state.drives = false → c.bridge.isOff) ∧ (c.latch = true → c.bridge.isOff) ∧ (rawLevel pins lines 6 = true → c.bridge.isOff)

/-! ## The Load Budget (chapter 4) -/

/-- R54, R71: an entry's step list has its length, and floor ≤ granted ≤ requested ≤ the last step. -/
def Entry.sound (e : Entry) (steps : Nat) : Prop :=
  e.steps.length = steps ∧ e.floor ≤ e.granted ∧ e.granted ≤ e.requested ∧ e.requested < steps

/-- R53, R71: every entry is sound, the protected entries have no rank, and the four sheddable ones share the ranks 1 to 4. -/
def LoadTable.sound (t : LoadTable) : Prop :=
  t.base.sound 1 ∧ t.heater.sound 7 ∧ t.compressor.sound 5 ∧ t.lights.sound 4 ∧ t.outlet.sound 2 ∧ t.warning.sound 1 ∧
  t.base.rank = none ∧ t.warning.rank = none ∧ ∀ r ∈ [1, 2, 3, 4], ∃ l ∈ sheddable, (t.get l).rank = some r

/-- The loads that draw on the inrush allowance (section 4.4). -/
def inrushLoads : List Load := [.heater, .compressor, .outlet]

/-- R63 to R67: no load waits twice, none waits that holds the allowance or has a grant of 0, nobody waits for a FREE allowance; only
the loads of section 4.4 hold or wait; the hold timer runs exactly while it is HELD, the settling timer exactly in SETTLING. -/
def Allowance.sound (a : Allowance) (t : LoadTable) : Prop :=
  a.waiting.Nodup ∧ (∀ l ∈ a.waiting, a.state ≠ .held l ∧ l ∈ inrushLoads ∧ 0 < (t.get l).granted) ∧
  (a.state = .free → a.waiting = []) ∧ (∀ l, a.state = .held l → l ∈ inrushLoads) ∧
  (a.hold.isSome = true ↔ a.state.holder.isSome = true) ∧ (a.settle.isSome = true ↔ a.state = .settling)

/-- The Load Table and the inrush allowance are sound. -/
def budgetSound (d : Device) : Prop := d.bgt.table.sound ∧ d.bgt.allowance.sound d.bgt.table

/-! ## The Heater Sequencer (chapter 5) -/

/-- The states in which fuel may be fed (section 5.2). -/
def HeaterState.fed (st : HeaterState) : Prop := st = .ignite ∨ st = .ramp ∨ st = .run

/-- R13, R78, R87, R96: a fuel pulse train runs in IGNITE, RAMP and RUN alone; the FUEL gate is on only within a running train,
with the overheat latch clear, and never while DIN5's raw level is active; the glow output is commanded in GLOW and IGNITE alone. -/
def fuelSound (h : Heater) (pins : Pins) (lines : List InputLine) : Prop :=
  (h.fuel.running = true → h.state.fed) ∧ (h.fuel.gate = true → h.fuel.running = true ∧ h.latch = false) ∧
  (rawLevel pins lines 5 = true → h.fuel.gate = false) ∧ (h.glowSince ≠ none → h.state = .glow ∨ h.state = .ignite)

/-- R79: HEATER's entry asks what the table gives for the heater state: the wished level (no lower than the floor, and no higher than
the last step, R54) with a floor of 1 from WAIT_INRUSH to RUN, 1 and 1 in PURGE and COOLDOWN, and 0 and 0 elsewhere. -/
def entryAsked (d : Device) : Prop :=
  let e := d.bgt.table.heater
  match d.htr.state with
  | .off | .paused | .lockout => e.requested = 0 ∧ e.floor = 0
  | .waitInrush | .glow | .ignite | .ramp | .run => e.requested = max 1 (min d.htr.wished 6) ∧ e.floor = 1
  | .purge | .cooldown => e.requested = 1 ∧ e.floor = 1

/-- R77, R79, R91: every level limit is at least 1, and in RAMP and RUN the entry asks for the wished level, and the level stands
within the granted step and the maximum allowed level. -/
def levelHeld (d : Device) : Prop :=
  1 ≤ d.htr.limits.hostMax ∧ 1 ≤ d.htr.limits.quietMax ∧ 1 ≤ d.htr.limits.fallback ∧
  (d.htr.state = .ramp ∨ d.htr.state = .run →
    entryAsked d ∧ d.htr.level ≤ d.bgt.table.heater.granted ∧ d.htr.level ≤ maxAllowed d)

/-- R55, R79: HEATER's entry asks what the heater's state gives, and the heater's level, the compressor's commanded step, the lights' cap step and the outlet never exceed their granted steps. -/
def grantsObeyed (d : Device) : Prop :=
  levelHeld d ∧ entryAsked d ∧ d.cmp.commanded ≤ d.bgt.table.compressor.granted ∧ d.lgt.capStep ≤ d.bgt.table.lights.granted ∧
  (relayClosed d = true → d.bgt.table.outlet.granted ≠ 0)

/-! ## The Light Controller (chapter 7) -/

/-- Section 7.1: a channel's levels lie in 0 to 1,000. -/
def LightChannel.sound (c : LightChannel) : Prop :=
  c.target ≤ 1000 ∧ c.fadeFrom ≤ 1000 ∧ c.applied ≤ 1000 ∧ c.saved.getD 0 ≤ 1000

/-- Section 7.1, R135, R145: seven channels and seven settings, every level at most 1,000, in the channels, the scenes and the
courtesy settings. -/
def levelsSound (channels : List LightChannel) (settings : List ChannelSetting) (scenes : List Scene) (s : LightSettings) : Prop :=
  channels.length = 7 ∧ settings.length = 7 ∧ (∀ c ∈ channels, c.sound) ∧
  (∀ r ∈ scenes, ∀ l ∈ r.levels, l.getD 0 ≤ 1000) ∧ s.courtesyLevel ≤ 1000 ∧ s.nightLevel ≤ 1000

/-- Section 7.1, R135: levels in range, and six scenes of seven entries. -/
def lightsSound (d : Device) : Prop :=
  levelsSound d.lgt.channels d.lgt.chSettings d.lgt.scenes d.lgt.settings ∧
  d.lgt.scenes.length = 6 ∧ ∀ r ∈ d.lgt.scenes, r.levels.length = 7

/-! ## Lists of fixed length (chapters 1 and 2) -/

/-- Section 1.4, section 2.2: the part has eight input lines and twelve acceptance slots. -/
def shapesSound (d : Device) : Prop := d.sns.lines.length = 8 ∧ d.vbl.slots.length = 12

end Sys2Proof.Machine
end

