-- ==== Sys2Proof/Certificates/Slice0/Obligations.lean ====
section
/-! DEFINITION. The statements about the CS-410, for the provers: one `Obligations.<Name>` each, from the manual's numbered rules.
`Sys2Proof.Stated` holds the words they share. A statement about a command speaks of `exec`; `StepRunsFrontCommand` carries it to a
step. -/

namespace Sys2Proof.Stated

open Sys2Proof Sys2Proof.Machine

/-! ## Words the statements share -/

/-- The command `c` runs at `s`: it answers a next state, in which the commands that wait are those that waited and the part meets
`P`. -/
def Runs (c : Instr) (s : State) (P : Device → Prop) : Prop :=
  ∃ t, exec c s = .next t ∧ t.pending = s.pending ∧ P t.dev

/-- The milliseconds that a frame of LEN + 3 bytes takes: 115,200 bit/s with one start and one stop bit to a byte (00_scope.md),
rounded up to whole milliseconds (log 6). -/
def airtime (f : Frame) : Nat := (10000 * (f.body.length + 5) + 115199) / 115200

/-- R184, R185, R193: the link after a valid frame: AWAKE, the idle timer restarted, the frame appended to a queue of fewer than
four. -/
def heard (d : Device) (f : Frame) : Link :=
  { d.lnk with
    awake := true
    idle := some (d.sns.ms + d.lnk.idleTime)
    lastFrame := d.sns.ms
    queue := if d.lnk.queue.length < 4 then d.lnk.queue ++ [f] else d.lnk.queue }

/-- R189: the frames of a reply: each carries the reply's KIND and the request's TAG and begins with the result code; every one but
the last holds 60 bytes, the last fewer; the bytes after the codes, joined, are the contents. -/
def isRun (kind tag code : Byte) (contents : List Byte) (run : List Frame) : Prop :=
  (∀ f ∈ run, f.kind = kind ∧ f.tag = tag ∧ f.body.head? = some code) ∧
  run.flatMap (fun f => f.body.tail) = contents ∧
  (∀ f ∈ run.dropLast, f.body.length = 60) ∧ (∀ f, run.getLast? = some f → f.body.length < 60)

/-- No request is in hand: the next one received is served at once. -/
def noneInHand (d : Device) : Prop := d.lnk.queue = [] ∧ d.lnk.out = none

/-- R185, R186, R189, R190: from `d`, with no request in hand, to `t`: the request `kind`, `tag`, `body` is the request in hand and
its reply, a run with the given KIND, result code and contents, is ready; its first frame is being sent, unless a notice still is.
The notice table and the settings are left to the statement. -/
def Answers (d t : Device) (kind tag : Byte) (body : List Byte) (replyKind code : Byte) (contents : List Byte) (restart : Bool) :
    Prop :=
  ∃ first rest, isRun replyKind tag code contents (first :: rest) ∧
    t.lnk = { heard d { kind := kind, tag := tag, body := body } with
      out := some { rest := if d.lnk.tx = .idle then rest else first :: rest, restart := restart }
      tx := if d.lnk.tx = .idle then .reply first else d.lnk.tx
      sendEnd := if d.lnk.tx = .idle then d.sns.ms + airtime first else d.lnk.sendEnd
      notices := t.lnk.notices
      enables := t.lnk.enables
      idleTime := t.lnk.idleTime
      idle := some (d.sns.ms + t.lnk.idleTime) }

/-- A reply to a request of the code table: its KIND is the request's + 0x80; the link's settings stay. -/
def Replied (d t : Device) (kind tag : Byte) (body : List Byte) (code : Byte) (contents : List Byte) : Prop :=
  Answers d t kind tag body (kind + 0x80) code contents false ∧ t.lnk.enables = d.lnk.enables ∧ t.lnk.idleTime = d.lnk.idleTime

/-- A reply as `Replied` says, with the notice table as it was. -/
def RepliedQuietly (d t : Device) (kind tag : Byte) (body : List Byte) (code : Byte) (contents : List Byte) : Prop :=
  Replied d t kind tag body code contents ∧ t.lnk.notices = d.lnk.notices

/-- R186: the request is refused with a result code that nothing follows, and nothing has changed but the link that hears it and
answers. -/
def Refused (c : Instr) (s : State) (kind tag : Byte) (body : List Byte) (code : Byte) : Prop :=
  Runs c s fun t => RepliedQuietly s.dev t kind tag body code [] ∧ t = { s.dev with lnk := t.lnk }

/-- R188: the number in one, two or four bytes at an offset of a body, least significant byte first, and the signed number in two or
four. -/
def num1 (body : List Byte) (i : Nat) : Nat := (body.getD i 0).toNat
def num2 (body : List Byte) (i : Nat) : Nat := num1 body i + 256 * num1 body (i + 1)
def num4 (body : List Byte) (i : Nat) : Nat := num2 body i + 65536 * num2 body (i + 2)
def int2 (body : List Byte) (i : Nat) : Int := if num2 body i < 32768 then (num2 body i : Int) else num2 body i - 65536
def int4 (body : List Byte) (i : Nat) : Int := if num4 body i < 2147483648 then (num4 body i : Int) else num4 body i - 4294967296

def words (body : List Byte) (i n : Nat) : List Nat := (List.range n).map fun k => num2 body (i + 2 * k)

/-- A number that lies in a range, both ends included. -/
def liesIn (lo hi n : Nat) : Prop := lo ≤ n ∧ n ≤ hi

end Sys2Proof.Stated

open Sys2Proof Sys2Proof.Machine Sys2Proof.Stated
/-! ## The machine -/

/-- With a command at the front of the queue, a step is `exec` of that command on the state whose queue is the rest; so every
statement below about `exec` speaks of a step. With no command waiting (a choice of this model, log 2), a step runs the first event
that is due as the command it is; with nothing due it lets one millisecond pass, at whose end R16's two filters sample the dial: a
line's filtered level takes the level of its pin once two samples in a row differ from it. The filtered pair state then turns the
dial (DialCountsDetents); while it stays as it was, nothing but the time and the filters' marks has changed. -/
def Obligations.StepRunsFrontCommandElseDueEvent : Prop :=
  (∀ (c : Instr) (rest : List Instr) (s : State), s.pending = c :: rest → step s = exec c { s with pending := rest }) ∧
  (∀ s : State, s.pending = [] →
    (∀ p l, dueList s.dev = p ++ l → (∀ x ∈ p, x.1 = false) → ∀ c r, l = (true, c) :: r → step s = exec c s) ∧
    ((∀ x ∈ dueList s.dev, x.1 = false) →
      let x := s.dev.sns.dial
      let level := fun (was differed pin : Bool) => if differed = true ∧ pin ≠ was then pin else was
      let differs := fun (was differed pin : Bool) => decide (differed = false ∧ pin ≠ was)
      let a := level x.a x.runA s.dev.pins.dialA
      let b := level x.b x.runB s.dev.pins.dialB
      let d : Device := { s.dev with sns := { s.dev.sns with
        ms := s.dev.sns.ms + 1
        dial := { x with runA := differs x.a x.runA s.dev.pins.dialA, runB := differs x.b x.runB s.dev.pins.dialB } } }
      step s = .next { s with dev := turnDial a b d } ∧ (a = x.a → b = x.b → step s = .next { s with dev := d })))

/-- R197: a cold reset sets LNK: receiver in HUNT, receive queue empty, transmitter idle, every kind enabled and the idle time 5,000
ms, CLOCK_NEEDED then RESTARTED (reset kind COLD) in the table with merge count 1 each, the link AWAKE with its idle timer at 5,000
ms and ATTN inactive; and every block at its initial state, whatever it was, the time bases at 0. The values the chapters give for a
cold reset: R1, R4 (no conversion, NOT_READY, last good 0), R10 (the first sample is the real filtered level), R12 (default settings
of DIN0), R16, R19, R35, R51, R74, R104, R127, R147, R169 and R182. The levels of the input lines and of the dial, and the two
latches, are those of the pins as they stand (log 3). -/
def Obligations.ColdResetSetsPart : Prop :=
  (∀ s : State, Runs .coldReset s fun t =>
    t.lnk.receiver = .hunt ∧ t.lnk.queue = [] ∧ t.lnk.out = none ∧ t.lnk.tx = .idle ∧
    (∀ n : Nat, t.lnk.enables.getLsbD n = true ↔ 1 ≤ n ∧ n ≤ 14) ∧ t.lnk.idleTime = 5000 ∧
    t.lnk.notices = [{ kind := .clockNeeded, merge := 1, lines := [] }, { kind := .restarted, merge := 1, lines := [] }] ∧
    t.lnk.resetKind = false ∧ t.lnk.resetUptime = 0 ∧
    t.lnk.awake = true ∧ t.sns.ms = 0 ∧ t.sns.uptime = 0 ∧ t.lnk.idle = some 5000 ∧ attnActive t = false) ∧
  (∀ s : State, Runs .coldReset s fun t =>
    t.pins = s.dev.pins ∧ t.factory = s.dev.factory ∧
    (∀ c, t.sns.analog.get c = { history := [], status := .notReady, average := 0, value := 0, lastGood := 0 }) ∧
    t.sns.lines.length = 8 ∧
    (∀ n, n < 8 → (lineOf t n).run = 0 ∧ (lineOf t n).forced = none ∧ (lineOf t n).report = false ∧
      (lineOf t n).real = (if n = 5 ∨ n = 6 then s.dev.pins.din.getLsbD n else !s.dev.pins.din.getLsbD n) ∧
      (lineOf t n).polarity = (if n = 5 ∨ n = 6 then Polarity.high else Polarity.low) ∧
      (lineOf t n).filter = (if n = 1 ∨ n = 7 then 8 else if n = 5 ∨ n = 6 then 2 else 4) ∧
      (lineOf t n).edge = (if n = 2 ∨ n = 3 ∨ n = 4 then EdgeSense.rising else EdgeSense.both)) ∧
    t.sns.dial = { a := s.dev.pins.dialA, b := s.dev.pins.dialB, runA := false, runB := false, count := 0, last := none } ∧
    t.sns.current = { sum := 0, count := 0 } ∧ t.sns.clockSet = false ∧ t.sns.clockOffset = 0 ∧
    t.vbl.enable = false ∧ t.vbl.listener = .off ∧ t.vbl.bitRate = 250 ∧ t.vbl.source = .bus ∧
    (∀ v ∈ t.vbl.slots, v.enabled = false ∧ v.status = .empty) ∧
    (∀ g, (t.vbl.signals.get g).binding = none ∧ (t.vbl.signals.get g).status = .never) ∧
    t.chg.known = false ∧ t.chg.q = 0 ∧ t.chg.acc = 0 ∧ t.chg.uv = .normal ∧ t.chg.lastFull = none ∧
    (∀ l, (t.bgt.table.get l).requested = 0 ∧ (t.bgt.table.get l).floor = 0 ∧ (t.bgt.table.get l).granted = 0) ∧
    t.bgt.allowance = { state := .free, hold := none, settle := none, waiting := [] } ∧ t.bgt.outlet.state = .off ∧
    t.htr.state = .off ∧ t.htr.lockouts = 0 ∧ t.htr.faults = [] ∧ t.htr.latch = s.dev.pins.din.getLsbD 5 ∧
    t.cmp.state = .disabled ∧ t.cmp.enable = false ∧ t.cmp.learned = 2 ∧ t.cmp.failures = 0 ∧ t.cmp.bridge.isOff ∧
    t.cmp.latch = s.dev.pins.din.getLsbD 6 ∧
    (∀ c ∈ t.lgt.channels, c.target = 0 ∧ c.applied = 0) ∧
    (∀ g, t.lgt.sources.get g = { severity := 0, occurrence := 0, sounding := false }) ∧ t.lgt.buzzer.burst = false ∧
    t.rtm.current.cls = .unknown ∧ t.rtm.current.start = 0 ∧ t.rtm.closed = [] ∧ t.rtm.driveSinceBreak = 0 ∧
    t.rtm.driveInDay = 0 ∧ t.rtm.credit = none ∧ (∀ k, (t.rtm.warnings.get k).state = .clear) ∧
    t.npl.state = .none ∧ t.npl.wake = none ∧ t.npl.quiet = false)

/-! ## Host Link (chapter 10) -/

/-- R184: one byte with its gap: `gap` milliseconds after the one before, it arrives with its stop bit. -/
def Sys2Proof.Stated.byteAfter (s : State) (x : Nat × Byte) : Host.Outcome State Fault Refusal :=
  exec (.byteReceived x.2 true) { s with dev := { s.dev with sns := { s.dev.sns with ms := s.dev.sns.ms + x.1 } } }

/-- R184: a line of bytes, each with its gap; `none` were one of them to stop the part. -/
def Sys2Proof.Stated.bytesAfter : List (Nat × Byte) → State → Option State
  | [], s => some s
  | x :: l, s =>
    match Sys2Proof.Stated.byteAfter s x with
    | .next t => Sys2Proof.Stated.bytesAfter l t
    | _ => none

/-- R184, R185, R193, section 10.1. First: a valid frame wakes the link, restarts the idle timer and, whatever its KIND, is appended
to a queue of fewer than four; nothing else changes (no reply is formed and no notice begun at this moment: that is
TRANSMITTER_FREE's and the request's own command, logs 5 and 6). Second: a discarded frame leaves the receiver in HUNT, but that a
late 0xA5 is examined in HUNT and opens a new frame; it changes nothing else but the time of the last byte. Third: the bytes of a
frame arriving on RX in HUNT, none more than 20 ms after the one before, with LEN and CHECK as section 10.1 gives them, come to the
valid frame at the last byte: the receiver is back in HUNT, the link has heard the frame, and only the time has passed beside that.
Fourth, the bytes the receiver drops: in HUNT every byte but 0xA5; a byte without its stop bit; a byte more than 20 ms late, which
is examined in HUNT; a LEN outside 2 to 62; a CHECK that does not bring the sum to 0. Each leaves the receiver in HUNT (a late 0xA5:
in LENGTH) and changes nothing but the receiver and the time of the last byte. -/
def Obligations.FramesAndBytesReachReceiver : Prop :=
  (∀ (s : State) (kind tag : Byte) (body : List Byte),
    exec (.frameReceived kind tag body) s =
      .next { s with dev := { s.dev with lnk := heard s.dev { kind := kind, tag := tag, body := body } } }) ∧
  (∀ (s : State) (why : DiscardReason),
    exec (.frameDiscarded why) s =
      .next { s with dev := { s.dev with lnk := { s.dev.lnk with
        receiver := if why = .lateByte 0xA5 then .length else .hunt
        lastByte := s.dev.sns.ms } } }) ∧
  (∀ (s : State) (kind tag check : Byte) (body : List Byte) (l : List (Nat × Byte)),
    s.dev.lnk.receiver = .hunt → body.length ≤ 60 →
    BitVec.ofNat 8 (body.length + 2) + kind + tag + body.sum + check = 0 →
    l.map (·.2) = 0xA5 :: BitVec.ofNat 8 (body.length + 2) :: kind :: tag :: body ++ [check] →
    (∀ x ∈ l.tail, x.1 ≤ 20) →
    ∃ u : State, bytesAfter l s = some u ∧ u.pending = s.pending ∧
      u.dev = { s.dev with
        sns := { s.dev.sns with ms := s.dev.sns.ms + (l.map (·.1)).sum }
        lnk := { heard { s.dev with sns := { s.dev.sns with ms := s.dev.sns.ms + (l.map (·.1)).sum } }
                  { kind := kind, tag := tag, body := body } with
          receiver := .hunt
          lastByte := s.dev.sns.ms + (l.map (·.1)).sum } }) ∧
  (∀ (s : State) (b : Byte) (stop : Bool),
    (stop = false ∨
     (stop = true ∧ s.dev.lnk.receiver = .hunt) ∨
     (stop = true ∧ s.dev.lnk.lastByte + 20 < s.dev.sns.ms) ∨
     (s.dev.lnk.receiver = .length ∧ (b.toNat < 2 ∨ 62 < b.toNat)) ∨
     (∃ len got, s.dev.lnk.receiver = .check len got ∧ BitVec.ofNat 8 len + got.sum + b ≠ 0)) →
    exec (.byteReceived b stop) s =
      .next { s with dev := { s.dev with lnk := { s.dev.lnk with
        receiver :=
          if stop = true ∧ b = 0xA5 ∧ (s.dev.lnk.receiver = .hunt ∨ s.dev.lnk.lastByte + 20 < s.dev.sns.ms) then .length
          else .hunt
        lastByte := s.dev.sns.ms } } })

/-- The code table of R186: every request with its kind code. HEATER_CONFIG has one command for each part (R76, R77). -/
def Sys2Proof.Stated.requestTable : List (Byte × (Byte → List Byte → Instr)) :=
  [(0x01, .identify), (0x02, .restart), (0x03, .getStatus), (0x04, .linkConfig), (0x08, .setClock), (0x09, .setSensorTable),
   (0x0A, .readSensors), (0x0B, .inputConfig), (0x0C, .inputForce), (0x0D, .inputRelease), (0x10, .busConfig),
   (0x11, .busSlotSet), (0x12, .busBind), (0x13, .readVehicle), (0x14, .batteryConfig), (0x15, .setCharge), (0x16, .readCharge),
   (0x18, .budgetConfig), (0x19, .readBudget), (0x1A, .outletSet), (0x1C, .planSet), (0x1D, .planCancel), (0x1E, .quietSet),
   (0x1F, .readPlan), (0x20, .heaterConfigLevelTable), (0x20, .heaterConfigSequence), (0x20, .heaterConfigLimits),
   (0x21, .heaterStart), (0x22, .heaterStop), (0x23, .heaterUnlock), (0x24, .heaterServiceClear), (0x25, .readHeater),
   (0x28, .fridgeConfig), (0x29, .fridgeEnable), (0x2A, .fridgeDisable), (0x2B, .fridgeClear), (0x2C, .readFridge),
   (0x30, .lightSet), (0x31, .lightGroup), (0x32, .sceneSet), (0x33, .sceneRecall), (0x34, .lightConfig), (0x35, .readLights),
   (0x38, .restRules), (0x39, .declareActivity), (0x3A, .ackWarning), (0x3B, .readRest), (0x3C, .readTimeline)]

/-- R185, R186, log 5. First: while another request is in hand, a request frame of any kind waits its turn in the queue (a fifth
is lost) and has no other effect: it wakes the link and restarts the idle timer, as every valid frame does. Second: the two ways
in which a request comes about agree: a frame received on a link with no request in hand and then answered as the request in hand
ends in the state that the request command makes of the first state at once. -/
def Obligations.RequestsWaitTheirTurn : Prop :=
  (∀ r ∈ requestTable, ∀ (tag : Byte) (body : List Byte) (s : State),
    s.dev.lnk.queue ≠ [] → s.dev.lnk.queue.head? ≠ some { kind := r.1, tag := tag, body := body } →
    exec (r.2 tag body) s =
      .next { s with dev := { s.dev with lnk := heard s.dev { kind := r.1, tag := tag, body := body } } }) ∧
  (∀ (kind tag : Byte) (body : List Byte) (s t : State), noneInHand s.dev →
    exec (.frameReceived kind tag body) s = .next t →
    exec (requestOf { kind := kind, tag := tag, body := body }) t = exec (requestOf { kind := kind, tag := tag, body := body }) s)

/-- The requests whose body has one length, with that length (R186, R188, and the rule of each request). -/
def Sys2Proof.Stated.fixedLength : List (Byte × Nat × (Byte → List Byte → Instr)) :=
  [(0x01, 0, .identify), (0x02, 0, .restart), (0x03, 0, .getStatus), (0x04, 4, .linkConfig), (0x08, 4, .setClock), (0x09, 37, .setSensorTable),
   (0x0A, 0, .readSensors), (0x0B, 5, .inputConfig), (0x0C, 2, .inputForce), (0x0D, 1, .inputRelease), (0x10, 8, .busConfig),
   (0x11, 13, .busSlotSet), (0x12, 22, .busBind), (0x13, 1, .readVehicle), (0x14, 16, .batteryConfig), (0x15, 2, .setCharge),
   (0x16, 0, .readCharge), (0x18, 32, .budgetConfig), (0x19, 0, .readBudget), (0x1A, 1, .outletSet), (0x1C, 8, .planSet),
   (0x1D, 0, .planCancel), (0x1E, 1, .quietSet), (0x1F, 0, .readPlan), (0x21, 6, .heaterStart), (0x22, 0, .heaterStop),
   (0x23, 0, .heaterUnlock), (0x24, 0, .heaterServiceClear), (0x25, 1, .readHeater), (0x28, 10, .fridgeConfig),
   (0x29, 0, .fridgeEnable), (0x2A, 0, .fridgeDisable), (0x2B, 0, .fridgeClear), (0x2C, 0, .readFridge), (0x30, 5, .lightSet),
   (0x31, 5, .lightGroup), (0x32, 17, .sceneSet), (0x33, 1, .sceneRecall), (0x34, 21, .lightConfig), (0x35, 0, .readLights),
   (0x38, 24, .restRules), (0x39, 1, .declareActivity), (0x3A, 3, .ackWarning), (0x3B, 0, .readRest), (0x3C, 1, .readTimeline)]

/-- The commands of HEATER_CONFIG, one for each part (R76, R77). -/
def Sys2Proof.Stated.heaterConfigs : List (Byte → List Byte → Instr) :=
  [.heaterConfigLevelTable, .heaterConfigSequence, .heaterConfigLimits]

/-- The parts of HEATER_CONFIG, each with the length of its body, the part's byte among it (R76, R77, R188). -/
def Sys2Proof.Stated.partLengths : List (Nat × Nat) := [(0, 49), (1, 31), (2, 4)]

/-- R76, R77, R186, R188, R189. First: the length of the body is checked first: a body of the wrong length is answered BAD_LENGTH,
one byte, and changes nothing but the link that hears it and answers. HEATER_CONFIG's length goes by the part its first byte names,
whichever of its commands carries it: a body without a part or not of its part's length is answered BAD_LENGTH, one with a part
above 2 BAD_VALUE. Second: a request that is refused changes nothing in the part: with no request in hand, either the reply's
result is OK, or nothing but the link has changed, and of the link nothing but what hearing a request and answering it takes.
Third: a KIND that is no request kind of the code table is answered UNKNOWN_KIND with reply KIND 0xFF, and changes nothing but the
link that hears it and answers. Fourth: whatever the result and the contents, the frames formed for a reply are a run as R189
describes it: a REFUSED reply's reason is the first byte after the result code. -/
def Obligations.RefusalsChangeNothingAndRepliesAreRuns : Prop :=
  (∀ r ∈ fixedLength, ∀ (tag : Byte) (body : List Byte) (s : State), noneInHand s.dev → body.length ≠ r.2.1 →
    Runs (r.2.2 tag body) s fun t =>
      RepliedQuietly s.dev t r.1 tag body 0x03 [] ∧ t = { s.dev with lnk := t.lnk }) ∧
  (∀ c ∈ heaterConfigs, ∀ (tag : Byte) (body : List Byte) (s : State), noneInHand s.dev →
    (body = [] → Refused (c tag body) s 0x20 tag body 0x03) ∧
    (∀ p ∈ partLengths, body ≠ [] → num1 body 0 = p.1 → body.length ≠ p.2 → Refused (c tag body) s 0x20 tag body 0x03) ∧
    (3 ≤ num1 body 0 → Refused (c tag body) s 0x20 tag body 0x04)) ∧
  (∀ r ∈ requestTable, ∀ (tag : Byte) (body : List Byte) (s : State), noneInHand s.dev →
    Runs (r.2 tag body) s fun t =>
      ∃ code contents restart, Answers s.dev t r.1 tag body (r.1 + 0x80) code contents restart ∧
        (code = 0x00 ∨
          (t = { s.dev with lnk := t.lnk } ∧ t.lnk.notices = s.dev.lnk.notices ∧ t.lnk.enables = s.dev.lnk.enables ∧
            t.lnk.idleTime = s.dev.lnk.idleTime))) ∧
  (∀ (kind tag : Byte) (body : List Byte) (s : State), noneInHand s.dev → (∀ r ∈ requestTable, r.1 ≠ kind) →
    Runs (.unknownKind kind tag body) s fun t =>
      Answers s.dev t kind tag body 0xFF 0x05 [] false ∧ t = { s.dev with lnk := t.lnk } ∧ t.lnk.notices = s.dev.lnk.notices ∧
        t.lnk.enables = s.dev.lnk.enables ∧ t.lnk.idleTime = s.dev.lnk.idleTime) ∧
  (∀ (kind tag : Byte) (r : Result) (contents : List Byte),
      ∃ code after, r.bytes = code :: after ∧ replyFrames kind tag r contents ≠ [] ∧
        isRun kind tag code (after ++ contents) (replyFrames kind tag r contents))

/-- R185, R189 to R191, R193. First: at the end of a frame the transmitter goes on. While a run has frames left the next of them
begins at once; after the last frame the request in hand leaves the queue; then, with no request left and the link AWAKE, the head
of the notice table is sent, with KIND 0xC0 + its number, TAG 0 and a body of the merge count and its owner's snapshot as the part
stands at that moment (what each holds: NoticesCarrySnapshots), and leaves the table, and its owner's causes are emptied; in DROWSY,
or with an empty table, the transmitter is idle. At the end of a notice, and from an idle transmitter, the same holds, and a reply
that is ready goes first. That the transmitter stays idle while a further request waits (it is answered, at
this moment, before a notice is chosen) and when a frame ends are this model's readings (log 6). Second, R191: a posting of a
disabled kind changes nothing; of an enabled kind without an entry it appends one with merge count 1; of an enabled kind with an
entry, that entry keeps its place and its merge count is raised by 1, saturating at 255. Nothing else of the part changes. -/
def Obligations.NoticesArePostedAndSent : Prop :=
  (∀ s : State,
      (∀ f g rest run, s.dev.lnk.tx = .reply f → s.dev.lnk.out = some run → run.rest = g :: rest →
        Runs .transmitterFree s fun t =>
          t = { s.dev with
            sns := { s.dev.sns with ms := max s.dev.sns.ms s.dev.lnk.sendEnd }
            lnk := { s.dev.lnk with
              tx := .reply g, out := some { run with rest := rest }
              sendEnd := max s.dev.sns.ms s.dev.lnk.sendEnd + airtime g } }) ∧
      (∀ f, s.dev.lnk.tx = .reply f → s.dev.lnk.out = some { rest := [], restart := false } →
        (s.dev.lnk.queue.tail ≠ [] ∨ s.dev.lnk.awake = false ∨ s.dev.lnk.notices = []) →
        Runs .transmitterFree s fun t =>
          t = { s.dev with
            sns := { s.dev.sns with ms := max s.dev.sns.ms s.dev.lnk.sendEnd }
            lnk := { s.dev.lnk with tx := .idle, out := none, queue := s.dev.lnk.queue.tail } }) ∧
      (∀ f g rest run, s.dev.lnk.tx = .notice f → s.dev.lnk.out = some run → run.rest = g :: rest →
        Runs .transmitterFree s fun t =>
          t = { s.dev with
            sns := { s.dev.sns with ms := max s.dev.sns.ms s.dev.lnk.sendEnd }
            lnk := { s.dev.lnk with
              tx := .reply g, out := some { run with rest := rest }
              sendEnd := max s.dev.sns.ms s.dev.lnk.sendEnd + airtime g } }) ∧
      (∀ g rest run, s.dev.lnk.tx = .idle → s.dev.lnk.out = some run → run.rest = g :: rest →
        Runs .transmitterFree s fun t =>
          t = { s.dev with lnk := { s.dev.lnk with
            tx := .reply g, out := some { run with rest := rest }, sendEnd := s.dev.sns.ms + airtime g } }) ∧
      (s.dev.lnk.out = none → (s.dev.lnk.queue ≠ [] ∨ s.dev.lnk.awake = false ∨ s.dev.lnk.notices = []) →
        (∀ f, s.dev.lnk.tx = .notice f → Runs .transmitterFree s fun t =>
          t = { s.dev with
            sns := { s.dev.sns with ms := max s.dev.sns.ms s.dev.lnk.sendEnd }, lnk := { s.dev.lnk with tx := .idle } }) ∧
        (s.dev.lnk.tx = .idle → Runs .transmitterFree s fun t => t = s.dev)) ∧
      (∀ n rest, (s.dev.lnk.tx = .idle ∧ s.dev.lnk.out = none ∧ s.dev.lnk.queue = [] ∨
            (∃ f, s.dev.lnk.tx = .notice f ∧ s.dev.lnk.out = none ∧ s.dev.lnk.queue = []) ∨
            (∃ f, s.dev.lnk.tx = .reply f ∧ s.dev.lnk.out = some { rest := [], restart := false } ∧ s.dev.lnk.queue.tail = [])) →
        s.dev.lnk.awake = true → s.dev.lnk.notices = n :: rest →
        Runs .transmitterFree s fun t =>
          ∃ f, t.lnk.tx = .notice f ∧ t.lnk.notices = rest ∧ t.lnk.queue = [] ∧ t.lnk.out = none ∧
            f.kind = 0xC0 + BitVec.ofNat 8 n.kind.number ∧ f.tag = 0 ∧ f.body = BitVec.ofNat 8 n.merge :: snapshot n { s.dev with sns := t.sns } ∧
            t.lnk.sendEnd = t.sns.ms + airtime f ∧
            t = { s.dev with sns := t.sns, chg := t.chg, rtm := t.rtm, npl := t.npl, lnk := t.lnk } ∧
            t.sns = { s.dev.sns with
              ms := if s.dev.lnk.tx = .idle then s.dev.sns.ms else max s.dev.sns.ms s.dev.lnk.sendEnd } ∧
            t.chg = (if n.kind = .chargeState then { s.dev.chg with causes := [] } else s.dev.chg) ∧
            t.rtm = (if n.kind = .restState then { s.dev.rtm with causes := [] } else s.dev.rtm) ∧
            t.npl = (if n.kind = .planState then { s.dev.npl with causes := [] } else s.dev.npl))) ∧
  (∀ (k : NoticeKind) (d : Device),
      (noticeEnabled d k = false → post k d = d) ∧
      (noticeEnabled d k = true → (∀ n ∈ d.lnk.notices, n.kind ≠ k) →
        post k d = { d with lnk := { d.lnk with notices := d.lnk.notices ++ [{ kind := k, merge := 1, lines := [] }] } }) ∧
      (∀ before n after, noticeEnabled d k = true → d.lnk.notices = before ++ n :: after → n.kind = k →
        (∀ x ∈ before, x.kind ≠ k) →
        post k d = { d with lnk := { d.lnk with
          notices := before ++ { n with merge := min 255 (n.merge + 1) } :: after } }))

/-- R193: the idle timer's expiry makes the link DROWSY and stops the timer, and ATTN is then active exactly when the table is not
empty; no notice then begins to be sent from an idle transmitter until a frame is heard. R192, R195: a LINK_CONFIG whose mask has
bits 0 and 15 clear and whose idle time lies in 1,000 to 60,000 replaces both settings, restarts the idle timer at the new time,
removes the entries of disabled kinds from the table, whose owners empty their causes (the others keep theirs), and is answered OK
with the settings in force; any other of that length is answered BAD_VALUE and changes nothing but the link that answers. The
timer's command acts at the timer's own time (log 2). -/
def Obligations.IdleExpiryAndLinkConfigAct : Prop :=
  (∀ (s : State) (at_ : Nat), s.dev.lnk.idle = some at_ →
    Runs .idleTimerExpiry s fun t =>
      t = { s.dev with
        sns := { s.dev.sns with ms := max s.dev.sns.ms at_ }
        lnk := { s.dev.lnk with awake := false, idle := none } } ∧
      (attnActive t = true ↔ s.dev.lnk.notices ≠ []) ∧
      (t.lnk.tx = .idle → t.lnk.out = none → ∀ p, exec .transmitterFree { dev := t, pending := p } = .next { dev := t, pending := p })) ∧
  (∀ (s : State) (tag b0 b1 b2 b3 : Byte), noneInHand s.dev →
    (b1 ++ b0 : BitVec 16).getLsbD 0 = false → (b1 ++ b0 : BitVec 16).getLsbD 15 = false →
    1000 ≤ b2.toNat + 256 * b3.toNat → b2.toNat + 256 * b3.toNat ≤ 60000 →
    Runs (.linkConfig tag [b0, b1, b2, b3]) s fun t =>
      t.lnk.enables = (b1 ++ b0 : BitVec 16) ∧ t.lnk.idleTime = b2.toNat + 256 * b3.toNat ∧
      t.lnk.notices = s.dev.lnk.notices.filter (fun n => (b1 ++ b0 : BitVec 16).getLsbD n.kind.number) ∧
      Answers s.dev t 0x04 tag [b0, b1, b2, b3] 0x84 0x00 [b0, b1, b2, b3] false ∧
      (∀ n ∈ s.dev.lnk.notices, (b1 ++ b0 : BitVec 16).getLsbD n.kind.number = false →
        (n.kind = .chargeState → t.chg.causes = []) ∧ (n.kind = .restState → t.rtm.causes = []) ∧
        (n.kind = .planState → t.npl.causes = [])) ∧
      (let gone := fun k : NoticeKind => ∃ n ∈ s.dev.lnk.notices, n.kind = k ∧ (b1 ++ b0 : BitVec 16).getLsbD k.number = false
       (¬gone .chargeState → t.chg.causes = s.dev.chg.causes) ∧ (¬gone .restState → t.rtm.causes = s.dev.rtm.causes) ∧
       (¬gone .planState → t.npl.causes = s.dev.npl.causes)) ∧
      t = { s.dev with chg := { s.dev.chg with causes := t.chg.causes }, rtm := { s.dev.rtm with causes := t.rtm.causes },
                       npl := { s.dev.npl with causes := t.npl.causes }, lnk := t.lnk }) ∧
  (∀ (s : State) (tag b0 b1 b2 b3 : Byte), noneInHand s.dev →
    (b1 ++ b0 : BitVec 16).getLsbD 0 = true ∨ (b1 ++ b0 : BitVec 16).getLsbD 15 = true ∨
      ¬liesIn 1000 60000 (b2.toNat + 256 * b3.toNat) →
    Refused (.linkConfig tag [b0, b1, b2, b3]) s 0x04 tag [b0, b1, b2, b3] 0x04)

/-! ## Sensing Unit (chapter 1) -/

namespace Sys2Proof.Stated

/-- The raw code a sweep brings for a channel. -/
def codeOf (codes : SweepCodes) : AnalogChannel → RawCode
  | .batv => codes.batv
  | .bati => codes.bati
  | .tCab => codes.tCab
  | .tExch => codes.tExch
  | .tFridge => codes.tFridge
  | .tBatt => codes.tBatt

/-- The table of a temperature channel. -/
def tableOf (t : SensorTables) : AnalogChannel → List (Nat × Int)
  | .tCab => t.cab
  | .tExch => t.exch
  | .tFridge => t.fridge
  | .tBatt => t.batt
  | .batv | .bati => []

/-- R1 to R4: what a sweep's raw code makes of a channel `old` that becomes `new`. -/
def sweptChannel (f : Factory) (tables : SensorTables) (c : AnalogChannel) (code : RawCode) (old new : Channel) : Prop :=
  new.history =
    (if old.history.length < 4 then old.history ++ [code.toNat] else (old.history ++ [code.toNat]).drop 1) ∧
  (new.history.length ≠ 4 →
    new.status = .notReady ∧ new.average = 0 ∧ new.value = 0 ∧ new.lastGood = old.lastGood) ∧
  (new.history.length = 4 → new.average = new.history.sum / 4 ∧
    match c with
    | .batv => new.status = .ok ∧ new.value =
        max 0 (min 40000 (10000 + (((new.average : Int) - f.raw10) * 20000).tdiv ((f.raw30 : Int) - f.raw10)))
    | .bati => new.status = .ok ∧ new.value =
        max (-20000) (min 20000 ((((new.average : Int) - f.raw0) * 5000).tdiv ((f.raw50 : Int) - f.raw0)))
    | _ =>
      (new.average < 40 → new.status = .shortCircuit ∧ new.value = old.lastGood ∧ new.lastGood = old.lastGood) ∧
      (4055 < new.average → new.status = .openCircuit ∧ new.value = old.lastGood ∧ new.lastGood = old.lastGood) ∧
      (40 ≤ new.average → new.average ≤ 4055 →
        new.status = .ok ∧ new.value = tableLookup (tableOf tables c) new.average ∧ new.lastGood = new.value))

/-- R10: what one sample of the raw level `raw` makes of a line. -/
def sampled (l : InputLine) (raw : Bool) : InputLine :=
  if l.startAfresh = true then { l with real := raw, run := 0, startAfresh := false }
  else if raw = l.real then { l with run := 0 }
  else if l.run + 1 < l.filter then { l with run := l.run + 1 }
  else { l with real := raw, run := 0 }

/-- R14, R15: from `d` to `t`, a request has changed the forcing of line `n`, and the change of its delivered level to `level` has
been delivered; the link beside its notice table is left to the statement. -/
def changeDelivered (d t : Device) (n : Nat) (level : Bool) : Prop :=
  let u := deliveredChange n level true { d with sns := { d.sns with lines := t.sns.lines } }
  t = { u with lnk := t.lnk } ∧ t.lnk.notices = u.lnk.notices

/-- R6: a table that may be loaded for a channel: nine points whose codes rise strictly up to 4,095 and whose temperatures lie in
the channel's range. -/
def loadable (c : AnalogChannel) (table : List (Nat × Int)) : Prop :=
  table.length = 9 ∧ (table.map (·.1)).Pairwise (· < ·) ∧
  ∀ p ∈ table, p.1 ≤ 4095 ∧ -400 ≤ p.2 ∧ p.2 ≤ (if c = .tExch then 2500 else 1250)

/-- R6: the table of SET_SENSOR_TABLE may not be loaded now: T_EXCH's, while the heater is in a state other than OFF and LOCKOUT. -/
def tableBusy (d : Device) (c : AnalogChannel) : Prop := c = .tExch ∧ d.htr.state ≠ .off ∧ d.htr.state ≠ .lockout

end Sys2Proof.Stated

/-- R1 to R4, R7: a measurement sweep, at its own time (log 2), adds each raw code to its channel's history of four and publishes
all six channels by their rules. With BATI OK the published pair joins CHG's history of ten samples (R3, R36). SENSOR_FAULT is
posted once for each temperature channel whose status changed among OK, OPEN and SHORT, or was failed at its first full sweep; each
channel that failed from OK is a new occurrence of SNS, whose severity is 1 while a channel is OPEN or SHORT, else 0. What is
published then reaches the heater and the compressor, in this order (log 26; SweepMovesHeater, SweepMovesCompressor). The quotient
of R2 alone is truncated (log 42). -/
def Obligations.SweepPublishesChannels : Prop :=
  ∀ (s : State) (codes : SweepCodes), Runs (.measurementSweep codes) s fun t =>
    let was := fun c => (s.dev.sns.analog.get c).status
    let now := fun c => (t.sns.analog.get c).status
    let temps : List AnalogChannel := [.tCab, .tExch, .tFridge, .tBatt]
    let posts := temps.filter fun c =>
      bif decide (was c = .notReady) then (now c).failed else decide (was c ≠ now c ∧ now c ≠ .notReady)
    let finds := temps.filter fun c => decide (was c = .ok) && (now c).failed
    let severity := if (temps.any fun c => (now c).failed) = true then 1 else 0
    let d0 := { s.dev with sns := { s.dev.sns with ms := max s.dev.sns.ms s.dev.sched.nextSweep } }
    let shown := if finds = [] ∧ severity ≠ (s.dev.lgt.sources.get .sns).severity then postIndication .sns severity false d0
      else Nat.repeat (postIndication .sns severity true) finds.length d0
    let sample := (t.sns.analog.bati.value, t.sns.analog.batv.value.toNat)
    let joined := s.dev.chg.history ++ [sample]
    (∀ c, sweptChannel s.dev.factory s.dev.sns.tables c (codeOf codes c) (s.dev.sns.analog.get c) (t.sns.analog.get c)) ∧
    t = compSweep (heaterSweep (decide (was .tExch = .ok)) { d0 with
      pins := { s.dev.pins with analog := codes }
      sns := { d0.sns with analog := t.sns.analog }
      sched := { s.dev.sched with nextSweep := s.dev.sched.nextSweep + 100 }
      chg := { s.dev.chg with history :=
        if t.sns.analog.bati.status = .ok then (if 10 < joined.length then joined.drop 1 else joined) else s.dev.chg.history }
      lgt := shown.lgt
      lnk := { s.dev.lnk with notices := (Nat.repeat (post .sensorFault) posts.length d0).lnk.notices } }) ∧
    (t.lgt.sources.get .sns).severity = severity ∧
    t.sns = { d0.sns with analog := t.sns.analog, current := t.sns.current } ∧
    t.sched = { s.dev.sched with nextSweep := s.dev.sched.nextSweep + 100 } ∧
    t.pins = { s.dev.pins with analog := codes } ∧ t.factory = s.dev.factory ∧ t.vbl = s.dev.vbl ∧ t.rtm = s.dev.rtm ∧
    t.lnk = { s.dev.lnk with notices := t.lnk.notices }

/-- R5: for a table of points whose codes rise, the temperature of an averaged raw value is the first point's at or below its code,
the last point's at or above its code, a point's at its code, and between two adjacent points the value interpolated exactly and
rounded half away from zero: `r`, the temperature, is the whole number nearest to num / den, the exact temperature, a tie going away
from zero. -/
def Obligations.TableLookupInterpolates : Prop :=
  ∀ (table : List (Nat × Int)) (raw : Nat), (table.map (·.1)).Pairwise (· < ·) →
    (∀ p rest, table = p :: rest → raw ≤ p.1 → tableLookup table raw = p.2) ∧
    (∀ p front, table = front ++ [p] → p.1 ≤ raw → tableLookup table raw = p.2) ∧
    (∀ p ∈ table, raw = p.1 → tableLookup table raw = p.2) ∧
    (∀ front p q rest, table = front ++ p :: q :: rest → p.1 < raw → raw < q.1 →
      let den : Int := (q.1 : Int) - p.1
      let num : Int := den * p.2 + ((raw : Int) - p.1) * (q.2 - p.2)
      let r := tableLookup table raw
      2 * den * |r| ≤ 2 * |num| + den ∧ 2 * |num| + den < 2 * den * (|r| + 1) ∧ (0 < r → 0 < num) ∧ (r < 0 → num < 0))

/-- R10, R11: an input sample, at its own time (log 2), takes every line's pin through its polarity and filter. A forced line, and a
line whose sample is not accepted, delivers nothing: when that is so of every line and the protection lines' raw levels are
inactive, only the pins, the lines and the time base have changed. R11: an accepted change of a line gives it the new real level
with its run at 0 (its pin then stands at that level, log 1). A line that is forced, or is at that level already, delivers nothing,
so that for a line other than DIN5 and DIN6 nothing else changes; the others' delivered level changes, with the protection lines
acting at once (`protect`: OutputGatesFollowTheirHolds); the same when a sample makes one line's filter accept. A changed delivered
level first posts INPUT_CHANGE for a line with the also-report mark (before the owner acts: log 40), and then, where its direction
matches the edge sense, delivers the input event to the line's owner (what it does there: EventsReachLightsAndRest,
EventsReachDrives). -/
def Obligations.LineFiltersAcceptChanges : Prop :=
  (∀ (s : State) (pins : BitVec 8), s.dev.sns.lines.length = 8 →
    Runs (.inputSample pins) s fun t =>
      t.sns.lines.length = 8 ∧
      (∀ n, n < 8 → lineOf t n = sampled (lineOf s.dev n) ((lineOf s.dev n).polarity.active (pins.getLsbD n))) ∧
      t.pins = { s.dev.pins with din := pins } ∧ t.factory = s.dev.factory ∧
      t.sns = { s.dev.sns with
        ms := max s.dev.sns.ms s.dev.sched.nextSample, lines := t.sns.lines, current := t.sns.current } ∧
      t.sched = { s.dev.sched with nextSample := s.dev.sched.nextSample + 5 } ∧ t.chg = s.dev.chg ∧ t.npl.state = s.dev.npl.state ∧
      t.lnk = { s.dev.lnk with notices := t.lnk.notices } ∧
      ((∀ n, n < 8 → (lineOf s.dev n).forced ≠ none ∨ (lineOf s.dev n).startAfresh = true ∨
          (lineOf t n).real = (lineOf s.dev n).real) → rawOf t 5 = false → rawOf t 6 = false →
        t = { s.dev with pins := t.pins, sns := { s.dev.sns with ms := t.sns.ms, lines := t.sns.lines }, sched := t.sched }) ∧
      (∀ n, n < 8 → (lineOf s.dev n).forced = none → (lineOf s.dev n).startAfresh = false →
        (lineOf t n).real ≠ (lineOf s.dev n).real →
        (∀ m, m < 8 → m ≠ n → (lineOf s.dev m).forced ≠ none ∨ (lineOf s.dev m).startAfresh = true ∨
          (lineOf t m).real = (lineOf s.dev m).real) →
        t = deliveredChange n (lineOf t n).real false (protect { s.dev with
          pins := t.pins, sns := { s.dev.sns with ms := t.sns.ms, lines := t.sns.lines }, sched := t.sched }))) ∧
  (∀ (s : State) (n : Fin 8) (level : Bool), s.dev.sns.lines.length = 8 →
    Runs (.acceptedChange n level) s fun t =>
      lineOf t n = { lineOf s.dev n with real := level, run := 0 } ∧ rawOf t n = level ∧
      (∀ m : Nat, m < 8 → m ≠ n.val → lineOf t m = lineOf s.dev m ∧ rawOf t m = rawOf s.dev m) ∧
      ((lineOf s.dev n).forced ≠ none ∨ (lineOf s.dev n).real = level →
        (n.val ≠ 5 → rawOf s.dev 5 = false) → (n.val ≠ 6 → rawOf s.dev 6 = false) → n.val ≠ 5 ∧ n.val ≠ 6 →
        t = { s.dev with pins := t.pins, sns := { s.dev.sns with lines := t.sns.lines } }) ∧
      ((lineOf s.dev n).forced = none → (lineOf s.dev n).real ≠ level →
        t = deliveredChange n level false (protect { s.dev with
          pins := t.pins, sns := { s.dev.sns with lines := t.sns.lines } }))) ∧
  (∀ (n : Nat) (level forcing : Bool) (d : Device),
    let l := lineOf d n
    let u := if l.report = true then postInputChange n forcing d else d
    let matched := l.edge = .both ∨ (l.edge = .rising ∧ level = true) ∨ (l.edge = .falling ∧ level = false)
    (matched → deliveredChange n level forcing d = deliverEvent n level u) ∧ (¬matched → deliveredChange n level forcing d = u)) ∧
  (∀ (n : Nat) (forcing : Bool) (d : Device),
    (noticeEnabled d .inputChange = false → postInputChange n forcing d = d) ∧
    (noticeEnabled d .inputChange = true → (∀ x ∈ d.lnk.notices, x.kind ≠ .inputChange) →
      postInputChange n forcing d = { d with lnk := { d.lnk with
        notices := d.lnk.notices ++ [{ kind := .inputChange, merge := 1, lines := [(n, forcing)] }] } }) ∧
    (∀ before x after, noticeEnabled d .inputChange = true → d.lnk.notices = before ++ x :: after → x.kind = .inputChange →
      (∀ y ∈ before, y.kind ≠ .inputChange) → ∃ lines : List (Nat × Bool),
      (∀ p, p ∈ lines ↔ p = (n, forcing) ∨ (p ∈ x.lines ∧ p.1 ≠ n)) ∧
      postInputChange n forcing d = { d with lnk := { d.lnk with
        notices := before ++ { x with merge := min 255 (x.merge + 1), lines := lines } :: after } }))

/-- R12, R14, R15: a good INPUT_CONFIG sets the line (a changed polarity starts it afresh, a changed filter length returns its run
to 0); a good INPUT_FORCE makes its level the delivered one while the real level goes on; INPUT_RELEASE ends forcing. Each is
answered OK. A changed delivered level is delivered as a change that came from forcing (what that does: EventsReachLightsAndRest,
EventsReachDrives). A line number above 7, and a setting or level outside its range, is answered BAD_VALUE; forcing DIN5 or DIN6,
and giving them a filter length or an edge sense other than theirs, PROTECTED; each with nothing changed but the link. -/
def Obligations.InputRequestsSetLines : Prop :=
  ∀ (s : State) (tag : Byte), noneInHand s.dev → s.dev.sns.lines.length = 8 →
    (∀ (n pol len edge rep : Byte), n.toNat < 8 → pol.toNat ≤ 1 → 1 ≤ len.toNat → len.toNat ≤ 15 → edge.toNat ≤ 2 → rep.toNat ≤ 1 →
      (n.toNat = 5 ∨ n.toNat = 6 → len = 2 ∧ edge = 2) →
      Runs (.inputConfig tag [n, pol, len, edge, rep]) s fun t =>
        RepliedQuietly s.dev t 0x0B tag [n, pol, len, edge, rep] 0x00 [] ∧
        (let l := lineOf s.dev n.toNat
         let p := if pol = 0 then Polarity.high else Polarity.low
         lineOf t n.toNat =
          { l with
            polarity := p
            filter := len.toNat
            edge := if edge = 0 then .rising else if edge = 1 then .falling else .both
            report := decide (rep = 1)
            run := if p = l.polarity ∧ len.toNat = l.filter then l.run else 0
            startAfresh := l.startAfresh || decide (p ≠ l.polarity) }) ∧
        (∀ m, m < 8 → m ≠ n.toNat → lineOf t m = lineOf s.dev m) ∧
        t = { s.dev with
          sns := { s.dev.sns with lines := t.sns.lines }, htr := t.htr, cmp := t.cmp, lnk := t.lnk } ∧
        (rawOf t 5 = false → t.htr = s.dev.htr) ∧ (rawOf t 6 = false → t.cmp = s.dev.cmp)) ∧
    (∀ (n level : Byte), n.toNat < 8 → n.toNat ≠ 5 → n.toNat ≠ 6 → level.toNat ≤ 1 →
      Runs (.inputForce tag [n, level]) s fun t =>
        Replied s.dev t 0x0C tag [n, level] 0x00 [] ∧
        lineOf t n.toNat = { lineOf s.dev n.toNat with forced := some (decide (level = 1)) } ∧
        deliveredOf t n.toNat = decide (level = 1) ∧ (∀ m, m < 8 → m ≠ n.toNat → lineOf t m = lineOf s.dev m) ∧
        (deliveredOf s.dev n.toNat = decide (level = 1) →
          t = { s.dev with sns := { s.dev.sns with lines := t.sns.lines }, lnk := t.lnk } ∧ t.lnk.notices = s.dev.lnk.notices) ∧
        (deliveredOf s.dev n.toNat ≠ decide (level = 1) →
          changeDelivered s.dev t n.toNat (decide (level = 1)))) ∧
    (∀ (n : Byte), n.toNat < 8 →
      Runs (.inputRelease tag [n]) s fun t =>
        Replied s.dev t 0x0D tag [n] 0x00 [] ∧
        lineOf t n.toNat = { lineOf s.dev n.toNat with forced := none } ∧
        deliveredOf t n.toNat = (lineOf s.dev n.toNat).real ∧ (∀ m, m < 8 → m ≠ n.toNat → lineOf t m = lineOf s.dev m) ∧
        (deliveredOf s.dev n.toNat = (lineOf s.dev n.toNat).real →
          t = { s.dev with sns := { s.dev.sns with lines := t.sns.lines }, lnk := t.lnk } ∧ t.lnk.notices = s.dev.lnk.notices) ∧
        (deliveredOf s.dev n.toNat ≠ (lineOf s.dev n.toNat).real →
          changeDelivered s.dev t n.toNat (lineOf s.dev n.toNat).real)) ∧
    (∀ (n pol len edge rep : Byte),
      let bad := 8 ≤ n.toNat ∨ 2 ≤ pol.toNat ∨ len.toNat = 0 ∨ 16 ≤ len.toNat ∨ 3 ≤ edge.toNat
      bad ∨ (n.toNat = 5 ∨ n.toNat = 6) ∧ (len ≠ 2 ∨ edge ≠ 2) →
      Runs (.inputConfig tag [n, pol, len, edge, rep]) s fun t =>
        RepliedQuietly s.dev t 0x0B tag [n, pol, len, edge, rep] (if bad then 0x04 else 0x08) [] ∧ t = { s.dev with lnk := t.lnk }) ∧
    (∀ (n : Byte), 8 ≤ n.toNat →
      Runs (.inputRelease tag [n]) s fun t => RepliedQuietly s.dev t 0x0D tag [n] 0x04 [] ∧ t = { s.dev with lnk := t.lnk }) ∧
    (∀ (n level : Byte), (8 ≤ n.toNat ∨ 2 ≤ level.toNat) ∨ n.toNat = 5 ∨ n.toNat = 6 →
      Runs (.inputForce tag [n, level]) s fun t =>
        RepliedQuietly s.dev t 0x0C tag [n, level] (if 8 ≤ n.toNat ∨ 2 ≤ level.toNat then 0x04 else 0x08) [] ∧
        t = { s.dev with lnk := t.lnk })

/-- R16: the place of a pair state in the cycle 00, 01, 11, 10. -/
def Sys2Proof.Stated.place : Bool × Bool → Nat
  | (false, false) => 0
  | (false, true) => 1
  | (true, true) => 2
  | (true, false) => 3

/-- R17: the multiplier and the direction-change mark of a detent after `last`. -/
def Sys2Proof.Stated.marksAfter (last : Option LastDetent) (dir : DialDir) (ms : Nat) : Nat × Bool :=
  match last with
  | none => (1, false)
  | some l => if l.dir ≠ dir then (1, true) else if ms < l.time + 40 then (4, false) else (1, false)

/-- R16, R17: a change of the dial's filtered pair state counts: no change leaves all as it was; both lines together take the pair
and empty the count; a step forward or backward counts one, discarding a count of the other sign, and the fourth count delivers a
detent. DIAL_COUNT is such a change, at whose pair the dial's lines then stand (log 1). A detent empties the count and becomes the
last detent, with its multiplier and direction-change mark; it leaves every other part of SNS, the vehicle bus, the heater, the
compressor, the charge and the rest monitor as they were (its effect on the lights: EventsReachLightsAndRest). -/
def Obligations.DialCountsDetents : Prop :=
  (∀ (a b : Bool) (d : Device),
    let x := d.sns.dial
    let c := x.count
    let here := place (x.a, x.b)
    let counted := fun n : Int => { d with sns := { d.sns with dial := { x with a := a, b := b, count := n } } }
    let t := turnDial a b d
    (place (a, b) = here → t = d) ∧
    (place (a, b) = (here + 2) % 4 → t = counted 0) ∧
    (place (a, b) = (here + 1) % 4 → c ≠ 3 → t = counted (if c < 0 then 1 else c + 1)) ∧
    (place (a, b) = (here + 3) % 4 → c ≠ -3 → t = counted (if 0 < c then -1 else c - 1)) ∧
    (∀ dir p, (place (a, b) = (here + 1) % 4 ∧ c = 3 ∧ dir = .plus) ∨ (place (a, b) = (here + 3) % 4 ∧ c = -3 ∧ dir = .minus) →
      exec (.detent dir) { dev := counted c, pending := p } = .next { dev := t, pending := p })) ∧
  (∀ (a b : Bool) (s : State), exec (.dialCount a b) s =
    .next { s with dev := turnDial a b { s.dev with
      pins := { s.dev.pins with dialA := a, dialB := b }
      sns := { s.dev.sns with dial := { s.dev.sns.dial with runA := false, runB := false } } } }) ∧
  (∀ (s : State) (dir : DialDir), Runs (.detent dir) s fun t =>
    t.sns = { s.dev.sns with dial := { s.dev.sns.dial with
        count := 0
        last := some { dir := dir, time := s.dev.sns.ms, multiplier := (marksAfter s.dev.sns.dial.last dir s.dev.sns.ms).1,
                       directionChange := (marksAfter s.dev.sns.dial.last dir s.dev.sns.ms).2 } } } ∧
    t = { s.dev with sns := t.sns, bgt := t.bgt, lgt := t.lgt, lnk := t.lnk })

/-- R18, R19, R32, R57: the second boundary adds 1 to uptime, modulo 2^32 (log 13), and at each multiple of 10 s triggers a budget
pass (log 17); while the parking brake source is WIRED, PARKING_BRAKE becomes FRESH with DIN7's delivered level (the marks of the
second's work and tests, the accounting and rest ticks, the lead, the run-until, the wake and the pre-warm time, each of which
idling takes once for the second, are this model's, log 2). SET_CLOCK with a wall time of at least the uptime makes the offset
their difference, the state SET, and takes a CLOCK_NEEDED entry from the table; one with less is answered BAD_VALUE and changes
nothing but the link. R6: a SET_SENSOR_TABLE of nine points whose codes rise strictly up to 4,095 and whose temperatures lie in the
channel's range replaces that channel's whole table and is answered OK, but that T_EXCH's is answered BUSY and left in place while
the heater is in any state but OFF or LOCKOUT. A channel that is none of the four is answered BAD_VALUE, and so, after BUSY, is any
other table; neither changes anything but the link. -/
def Obligations.ClockAndTablesAreSet : Prop :=
  (∀ s : State,
    Runs .uptimeSecond s (fun t =>
      t.sns = { s.dev.sns with
        ms := max s.dev.sns.ms s.dev.sched.nextSecond, uptime := (s.dev.sns.uptime + 1) % 4294967296 } ∧
      t.bgt = { s.dev.bgt with
        passesDue := s.dev.bgt.passesDue + (if (s.dev.sns.uptime + 1) % 4294967296 % 10 = 0 then 1 else 0) } ∧
      t.sched = { s.dev.sched with
        nextSecond := s.dev.sched.nextSecond + 1000, chgTick := true, restTick := true
        leadTick := s.dev.sched.leadTick || decide ((s.dev.sns.uptime + 1) % 4294967296 % 60 = 0)
        runUntilTick := true, wakeTick := true, prewarmTick := true } ∧
      t = { s.dev with sns := t.sns, bgt := t.bgt, sched := t.sched, vbl := t.vbl } ∧
      (s.dev.vbl.source = .bus → t.vbl = s.dev.vbl) ∧
      (s.dev.vbl.source = .wired → t.vbl = { s.dev.vbl with signals := { s.dev.vbl.signals with
        parkingBrake := { s.dev.vbl.signals.parkingBrake with
          value := if deliveredOf s.dev 7 = true then 1 else 0, status := .fresh, lastUpdate := t.sns.uptime, updated := true } } })) ∧
    (∀ tag b0 b1 b2 b3 : Byte, noneInHand s.dev →
      let wall := b0.toNat + 256 * b1.toNat + 65536 * b2.toNat + 16777216 * b3.toNat
      (s.dev.sns.uptime ≤ wall →
        Runs (.setClock tag [b0, b1, b2, b3]) s fun t =>
          Replied s.dev t 0x08 tag [b0, b1, b2, b3] 0x00 [] ∧
          t = { s.dev with sns := { s.dev.sns with clockSet := true, clockOffset := wall - s.dev.sns.uptime }, lnk := t.lnk } ∧
          t.lnk.notices = s.dev.lnk.notices.filter fun n => decide (n.kind ≠ .clockNeeded)) ∧
      (wall < s.dev.sns.uptime →
        Runs (.setClock tag [b0, b1, b2, b3]) s fun t =>
          RepliedQuietly s.dev t 0x08 tag [b0, b1, b2, b3] 0x04 [] ∧ t = { s.dev with lnk := t.lnk }))) ∧
  (∀ (s : State) (tag : Byte), noneInHand s.dev →
    (∀ (c : AnalogChannel) (table : List (Nat × Int)), c ≠ .batv → c ≠ .bati → loadable c table →
      let body := u8 c.code ++ table.flatMap fun p => u16 p.1 ++ i16 p.2
      Runs (.setSensorTable tag body) s fun t =>
        (tableBusy s.dev c → RepliedQuietly s.dev t 0x09 tag body 0x01 [] ∧ t = { s.dev with lnk := t.lnk }) ∧
        (¬tableBusy s.dev c → RepliedQuietly s.dev t 0x09 tag body 0x00 [] ∧ tableOf t.sns.tables c = table ∧
          (∀ c', c' ≠ c → tableOf t.sns.tables c' = tableOf s.dev.sns.tables c') ∧
          t = { s.dev with sns := { s.dev.sns with tables := t.sns.tables }, lnk := t.lnk })) ∧
    (∀ body : List Byte, body.length = 37 →
      let points := (List.range 9).map fun k => (num2 body (1 + 4 * k), int2 body (3 + 4 * k))
      let answers := Refused (.setSensorTable tag body) s 0x09 tag body
      ((∀ c : AnalogChannel, c ≠ .batv → c ≠ .bati → c.code ≠ num1 body 0) → answers 0x04) ∧
      (∀ c : AnalogChannel, c ≠ .batv → c ≠ .bati → c.code = num1 body 0 →
        (tableBusy s.dev c → answers 0x01) ∧ (¬tableBusy s.dev c → ¬loadable c points → answers 0x04))))
/-! ## Vehicle Bus Listener (chapter 2) -/

namespace Sys2Proof.Stated

/-- The highest bit of a format's identifiers, plus one (R24). -/
def identWidth : FrameFormat → Nat
  | .standard => 11
  | .extended => 29

/-- R24: slot `n` accepts an identifier of a format: it is enabled, of that format, and agrees with the identifier wherever its mask
holds a 1; slots 0 to 9 use the common mask, 10 and 11 their own. -/
def accepts (v : Vehicle) (format : FrameFormat) (ident : Nat) (n : Nat) : Prop :=
  let s := v.slots.getD n coldSlot
  s.enabled = true ∧ s.format = format ∧
    ∀ i, i < identWidth format → (if n < 10 then v.mask else s.ownMask).testBit i = true → ident.testBit i = s.ident.testBit i

/-- R30: what a frame's data makes of a signal with binding `b`, at an uptime. -/
def evaluatedBy (b : Binding) (data : List Byte) (uptime : Nat) (r r' : SignalRec) : Prop :=
  let raw := rawField b data
  let candidate : Int := ((raw * b.num / b.den : Nat) : Int) + b.offset
  r'.binding = r.binding ∧ r'.lastUpdate = uptime ∧
  (if fieldPresent b data = false ∨ (2 ≤ b.length ∧ raw = 2 ^ b.length - 1) then r'.status = .notAvailable ∧ r'.value = r.value
   else if candidate < b.vmin ∨ b.vmax < candidate then r'.status = .outOfRange ∧ r'.value = r.value
   else r'.status = .fresh ∧ r'.value = candidate)

/-- Whether frames and slots act on a signal: on all but PARKING_BRAKE while its source is WIRED. -/
def onBus (v : Vehicle) (g : Signal) : Prop := g ≠ .parkingBrake ∨ v.source = .bus

/-- The signal is bound to slot `n`. -/
def bound (r : SignalRec) (n : Nat) : Prop := ∃ b, r.binding = some b ∧ b.slot = n

/-- R22, R26: STALE, but for a signal in NEVER. -/
def staleStatus (st : SignalStatus) : SignalStatus := if st = .never then .never else .stale

/-- Bytes read as one number, the first least significant. -/
def firstLow : List Byte → Nat
  | [] => 0
  | b :: l => b.toNat + 256 * firstLow l

/-- Bytes read as one number, the first most significant. -/
def firstHigh (l : List Byte) : Nat := firstLow l.reverse

/-- R31: a binding that BUS_BIND takes: every field in its range, the minimum not above the maximum, and the field within eight
bytes. -/
def bindable (b : Binding) : Prop :=
  b.slot ≤ 11 ∧ b.start ≤ 63 ∧ 1 ≤ b.length ∧ b.length ≤ 16 ∧ 1 ≤ b.num ∧ b.num ≤ 1000 ∧ 1 ≤ b.den ∧ b.den ≤ 1000 ∧
  -1000000 ≤ b.offset ∧ b.offset ≤ 1000000 ∧ -1000000 ≤ b.vmin ∧ b.vmin ≤ b.vmax ∧ b.vmax ≤ 1000000 ∧
  (b.order = .firstLsb → b.start + b.length ≤ 64) ∧
  (b.order = .firstMsb → (7 - b.start / 8) * 8 + b.start % 8 + b.length ≤ 64)

/-- A binding's fields as BUS_BIND's body carries them (R31, R188). -/
def bindingBytes (b : Binding) : List Byte :=
  u8 b.slot ++ u8 b.start ++ u8 b.length ++ u8 (if b.order = .firstLsb then 0 else 1) ++ u16 b.num ++ u16 b.den ++
    i32 b.offset ++ i32 b.vmin ++ i32 b.vmax

/-- R31: the binding that BUS_BIND's body carries. -/
def bindingIn (body : List Byte) : Binding :=
  { slot := num1 body 2, start := num1 body 3, length := num1 body 4, order := if num1 body 5 = 0 then .firstLsb else .firstMsb,
    num := num2 body 6, den := num2 body 8, offset := int4 body 10, vmin := int4 body 14, vmax := int4 body 18 }

/-- R23: a body of BUS_CONFIG is out of range: enable, bit rate, source, common mask. -/
def badBusConfig (body : List Byte) : Prop :=
  1 < num1 body 0 ∨ (num2 body 1 ≠ 250 ∧ num2 body 1 ≠ 500) ∨ 1 < num1 body 3 ∨ 2 ^ 29 ≤ num4 body 4

/-- R27: a body of BUS_SLOT_SET is out of range: slot, format, identifier, freshness limit, own mask of slots 10 and 11. -/
def badSlot (body : List Byte) : Prop :=
  let top := if num1 body 2 = 0 then 2 ^ 11 else 2 ^ 29
  11 < num1 body 0 ∨ 1 < num1 body 2 ∨ top ≤ num4 body 3 ∨ ¬liesIn 50 10000 (num2 body 11) ∨ (10 ≤ num1 body 0 ∧ top ≤ num4 body 7)

/-- R31: a body of BUS_BIND is out of range: signal, set code, and with set equal to yes the binding. -/
def badBinding (body : List Byte) : Prop :=
  5 < num1 body 0 ∨ 1 < num1 body 1 ∨ (num1 body 1 = 1 ∧ (1 < num1 body 5 ∨ ¬bindable (bindingIn body)))

end Sys2Proof.Stated

/-- R29: for a field that is present, the raw field is the number its bits form: with FIRST_LSB the bits from the start bit up of
the bytes read first least significant; with FIRST_MSB those from bit s mod 8 up of bytes 0 to s div 8 read first most
significant. A FIRST_LSB field is present when its last bit lies within the received bytes, a FIRST_MSB field when byte s div 8
does. -/
def Obligations.RawFieldFollowsByteOrder : Prop :=
  ∀ (b : Binding) (data : List Byte), bindable b →
    (b.order = .firstLsb → (fieldPresent b data = true ↔ b.start + b.length ≤ 8 * data.length)) ∧
    (b.order = .firstMsb → (fieldPresent b data = true ↔ b.start / 8 < data.length)) ∧
    (b.order = .firstLsb → fieldPresent b data = true → rawField b data = firstLow data / 2 ^ b.start % 2 ^ b.length) ∧
    (b.order = .firstMsb → fieldPresent b data = true →
      rawField b data = firstHigh (data.take (b.start / 8 + 1)) / 2 ^ (b.start % 8) % 2 ^ b.length)

/-- R20, R21, R24, R25, R30, R33: a valid frame has no effect on a listener that is OFF; otherwise it makes the listener LISTENING
and restarts the silence timer at 2,000 ms, and a listener that was SILENT posts BUS_STATE; the first slot that accepts it takes
its data and is FRESH, every other slot stays; every signal bound to that slot is evaluated, every other signal stays. Then the
changes are handed on: a changed status or value of ENGINE_RUNNING triggers one budget pass (it falls due and is taken by
BUDGET_PASS, log 17); IGNITION become FRESH and 1 is handed to the lights (EventsReachLightsAndRest), FUEL_LOW become FRESH and 1
to the heater (EventsReachDrives), in this model's order (log 40). -/
def Obligations.FrameUpdatesSlotAndSignals : Prop :=
  ∀ (s : State) (format : FrameFormat) (ident : Ident) (dlc : BitVec 4) (data : List Byte), s.dev.vbl.slots.length = 12 →
    let id := ident.toNat % 2 ^ identWidth format
    let bytes := data.take (min 8 dlc.toNat)
    Runs (.canFrame format ident dlc data) s fun t =>
      (s.dev.vbl.listener = .off → t = s.dev) ∧
      (s.dev.vbl.listener ≠ .off →
        t.vbl.listener = .listening ∧ t.vbl.silence = some (s.dev.sns.ms + 2000) ∧
        (∀ n, n < 12 → accepts s.dev.vbl format id n → (∀ m, m < n → ¬accepts s.dev.vbl format id m) →
          slotOf t n = { slotOf s.dev n with
            data := bytes, arrival := s.dev.sns.ms, status := .fresh, timer := some (s.dev.sns.ms + (slotOf s.dev n).limit) } ∧
          (∀ m, m < 12 → m ≠ n → slotOf t m = slotOf s.dev m) ∧
          (∀ g b, (s.dev.vbl.signals.get g).binding = some b → b.slot = n → onBus s.dev.vbl g →
            evaluatedBy b bytes s.dev.sns.uptime (s.dev.vbl.signals.get g) (t.vbl.signals.get g)) ∧
          (∀ g, ¬bound (s.dev.vbl.signals.get g) n ∨ ¬onBus s.dev.vbl g → t.vbl.signals.get g = s.dev.vbl.signals.get g)) ∧
        ((∀ n, n < 12 → ¬accepts s.dev.vbl format id n) →
          t.vbl = { s.dev.vbl with listener := .listening, silence := some (s.dev.sns.ms + 2000) } ∧
          t = { s.dev with vbl := t.vbl, lnk := { s.dev.lnk with notices := t.lnk.notices } } ∧
          (s.dev.vbl.listener = .listening → t.lnk = s.dev.lnk)) ∧
        (let was := s.dev.vbl.signals
         let now := t.vbl.signals
         let moved := (was.get .engineRunning).status ≠ (now.get .engineRunning).status ∨
           (was.get .engineRunning).value ≠ (now.get .engineRunning).value
         let comesOn := fun g => ¬((was.get g).status = .fresh ∧ (was.get g).value = 1) ∧
           (now.get g).status = .fresh ∧ (now.get g).value = 1
         let d0 : Device := { s.dev with vbl := t.vbl }
         let d1 := if s.dev.vbl.listener = .silent then post .busState d0 else d0
         let d2 : Device := if moved then { d1 with bgt := { d1.bgt with passesDue := d1.bgt.passesDue + 1 } } else d1
         let d3 := if comesOn .ignition then lightsIgnitionOn d2 else d2
         (¬comesOn .fuelLow → t = d3) ∧ (comesOn .fuelLow → t = heaterFuelLow d3)) ∧
        t.vbl = { s.dev.vbl with
          listener := .listening, silence := some (s.dev.sns.ms + 2000), slots := t.vbl.slots, signals := t.vbl.signals } ∧
        t.sns = s.dev.sns ∧ t.pins = s.dev.pins ∧ t.chg = s.dev.chg ∧ t.rtm = s.dev.rtm)

/-- R21, R26: the silence timer's expiry in LISTENING makes the listener SILENT and posts BUS_STATE; a slot's freshness timer's
expiry makes the slot STALE with its data kept, and every signal bound to it STALE, but those in NEVER and a wired PARKING_BRAKE;
an ENGINE_RUNNING changed so triggers one budget pass (R33, log 17). A timer's command acts at the timer's own time (log 2). -/
def Obligations.BusTimersExpire : Prop :=
  ∀ s : State,
    (∀ at_, s.dev.vbl.silence = some at_ → s.dev.vbl.listener = .listening →
      Runs .silenceTimerExpiry s fun t =>
        t = { s.dev with
          sns := { s.dev.sns with ms := max s.dev.sns.ms at_ }
          vbl := { s.dev.vbl with listener := .silent, silence := none }
          lnk := { s.dev.lnk with notices := t.lnk.notices } } ∧
        t.lnk.notices = (post .busState s.dev).lnk.notices) ∧
    (∀ (n : Fin 12) at_, s.dev.vbl.slots.length = 12 → (slotOf s.dev n).timer = some at_ →
      Runs (.freshnessTimerExpiry n) s fun t =>
        t.sns = { s.dev.sns with ms := max s.dev.sns.ms at_ } ∧
        slotOf t n = { slotOf s.dev n with status := .stale, timer := none } ∧
        (∀ m, m < 12 → m ≠ n.val → slotOf t m = slotOf s.dev m) ∧
        (∀ g, t.vbl.signals.get g =
          { s.dev.vbl.signals.get g with status := (t.vbl.signals.get g).status }) ∧
        (∀ g, bound (s.dev.vbl.signals.get g) n → onBus s.dev.vbl g →
          (t.vbl.signals.get g).status = staleStatus (s.dev.vbl.signals.get g).status) ∧
        (∀ g, ¬bound (s.dev.vbl.signals.get g) n ∨ ¬onBus s.dev.vbl g → t.vbl.signals.get g = s.dev.vbl.signals.get g) ∧
        t = { s.dev with
          sns := t.sns
          vbl := { s.dev.vbl with slots := t.vbl.slots, signals := t.vbl.signals }
          bgt := { s.dev.bgt with passesDue := s.dev.bgt.passesDue +
            (if (t.vbl.signals.get .engineRunning).status ≠ (s.dev.vbl.signals.get .engineRunning).status then 1 else 0) } })

/-- R21 to R23, R27, R28, R31 to R33: a good BUS_CONFIG sets enable, bit rate, source and common mask, moves the listener with the
enable, a change posting BUS_STATE (going OFF, every FRESH slot becomes STALE and its timer stops, and every signal but a wired
PARKING_BRAKE and those in NEVER becomes STALE with its value kept), empties slots 0 to 9 when the mask changes, the signals bound
to them becoming NEVER while slots 10 and 11 and the other signals stand, and switches PARKING_BRAKE's source (its last update
time: log 32); a good BUS_SLOT_SET writes the slot and empties it, its signals becoming NEVER; a good BUS_BIND replaces or clears
the binding (log 30), its signal becoming NEVER but for a wired PARKING_BRAKE. Each is answered OK, and none of them touches what
another block owns but the pass that a changed ENGINE_RUNNING triggers (log 17). A body of the right length with a field outside
its range, or a field that does not fit within eight bytes, is answered BAD_VALUE and changes nothing but the link. -/
def Obligations.BusRequestsSetListener : Prop :=
  ∀ (s : State) (tag : Byte), noneInHand s.dev → s.dev.vbl.slots.length = 12 →
    (∀ (on : Bool) (rate : Nat) (source : BrakeSource) (mask : Nat), rate = 250 ∨ rate = 500 → mask < 536870912 →
      let body := mark8 on ++ u16 rate ++ u8 source.code ++ u32 mask
      Runs (.busConfig tag body) s fun t =>
        Replied s.dev t 0x10 tag body 0x00 [] ∧
        t.vbl = { s.dev.vbl with
          enable := on, bitRate := rate, source := source, mask := mask
          listener := if on = s.dev.vbl.enable then s.dev.vbl.listener else if on = true then .silent else .off
          silence := if on = s.dev.vbl.enable then s.dev.vbl.silence else none
          slots := t.vbl.slots, signals := t.vbl.signals } ∧
        t.lnk.notices = (if t.vbl.listener = s.dev.vbl.listener then s.dev.lnk.notices
          else (post .busState s.dev).lnk.notices) ∧
        t.vbl.slots.length = 12 ∧ (on = s.dev.vbl.enable → mask = s.dev.vbl.mask → t.vbl.slots = s.dev.vbl.slots) ∧
        (let off := on = false ∧ s.dev.vbl.enable = true
         let remasked := mask ≠ s.dev.vbl.mask
         (∀ n, n < 12 →
           (n < 10 ∧ remasked → slotOf t n =
             { slotOf s.dev n with data := [], arrival := 0, status := .empty, timer := none }) ∧
           (10 ≤ n ∨ ¬remasked → off → slotOf t n = { slotOf s.dev n with
             status := if (slotOf s.dev n).status = .fresh then .stale else (slotOf s.dev n).status, timer := none }) ∧
           (10 ≤ n ∨ ¬remasked → ¬off → slotOf t n = slotOf s.dev n)) ∧
         (∀ g, g ≠ .parkingBrake ∨ (source = .bus ∧ s.dev.vbl.source = .bus) →
           let r := s.dev.vbl.signals.get g
           let emptied := remasked ∧ ∃ b, r.binding = some b ∧ b.slot < 10
           (emptied → t.vbl.signals.get g = { r with status := .never }) ∧
           (¬emptied → off → t.vbl.signals.get g = { r with status := staleStatus r.status }) ∧
           (¬emptied → ¬off → t.vbl.signals.get g = r))) ∧
        (let r := s.dev.vbl.signals.get .parkingBrake
         let r' := t.vbl.signals.get .parkingBrake
         (source = .wired → s.dev.vbl.source = .bus →
           r'.binding = r.binding ∧ r'.status = .fresh ∧ r'.value = if deliveredOf s.dev 7 = true then 1 else 0) ∧
         (source = .wired → s.dev.vbl.source = .wired → r' = r) ∧
         (source = .bus → s.dev.vbl.source = .wired → r' = { r with status := .never })) ∧
        t = { s.dev with
          vbl := t.vbl
          bgt := { s.dev.bgt with passesDue := s.dev.bgt.passesDue +
            (if (t.vbl.signals.get .engineRunning).status ≠ (s.dev.vbl.signals.get .engineRunning).status then 1 else 0) }
          lnk := t.lnk }) ∧
    (∀ (n : Nat) (on : Bool) (format : FrameFormat) (ident own limit : Nat), n < 12 → ident < 2 ^ identWidth format →
      (10 ≤ n → own < 2 ^ identWidth format) → own < 4294967296 → 50 ≤ limit → limit ≤ 10000 →
      let body := u8 n ++ mark8 on ++ u8 (FrameFormat.code format) ++ u32 ident ++ u32 own ++ u16 limit
      Runs (.busSlotSet tag body) s fun t =>
        RepliedQuietly s.dev t 0x11 tag body 0x00 [] ∧
        slotOf t n =
          { enabled := on, format := format, ident := ident, ownMask := if 10 ≤ n then own else (slotOf s.dev n).ownMask,
            limit := limit, data := [], arrival := 0, status := .empty, timer := none } ∧
        (∀ m, m < 12 → m ≠ n → slotOf t m = slotOf s.dev m) ∧
        (∀ g, bound (s.dev.vbl.signals.get g) n → onBus s.dev.vbl g →
          t.vbl.signals.get g = { s.dev.vbl.signals.get g with status := .never }) ∧
        (∀ g, ¬bound (s.dev.vbl.signals.get g) n ∨ ¬onBus s.dev.vbl g → t.vbl.signals.get g = s.dev.vbl.signals.get g) ∧
        t = { s.dev with
          vbl := { s.dev.vbl with slots := t.vbl.slots, signals := t.vbl.signals }
          bgt := { s.dev.bgt with passesDue := s.dev.bgt.passesDue +
            (if (t.vbl.signals.get .engineRunning).status ≠ (s.dev.vbl.signals.get .engineRunning).status then 1 else 0) }
          lnk := t.lnk }) ∧
    (∀ (g : Signal) (binding : Option Binding) (rest : List Byte), (∀ b, binding = some b → bindable b) → rest.length = 20 →
      let body := u8 g.code ++ match binding with
        | some b => 0x01 :: bindingBytes b
        | none => 0x00 :: rest
      Runs (.busBind tag body) s fun t =>
        RepliedQuietly s.dev t 0x12 tag body 0x00 [] ∧
        t.vbl.signals.get g = { s.dev.vbl.signals.get g with
          binding := binding
          status := if g = .parkingBrake ∧ s.dev.vbl.source = .wired then (s.dev.vbl.signals.get g).status else .never } ∧
        (∀ h, h ≠ g → t.vbl.signals.get h = s.dev.vbl.signals.get h) ∧
        t = { s.dev with
          vbl := { s.dev.vbl with signals := t.vbl.signals }
          bgt := { s.dev.bgt with passesDue := s.dev.bgt.passesDue +
            (if g = .engineRunning ∧ (s.dev.vbl.signals.get g).status ≠ .never then 1 else 0) }
          lnk := t.lnk }) ∧
    (∀ body : List Byte,
      (body.length = 8 → badBusConfig body → Refused (.busConfig tag body) s 0x10 tag body 0x04) ∧
      (body.length = 13 → badSlot body → Refused (.busSlotSet tag body) s 0x11 tag body 0x04) ∧
      (body.length = 22 → badBinding body → Refused (.busBind tag body) s 0x12 tag body 0x04))

/-! ## Charge Counter (chapter 3) -/

namespace Sys2Proof.Stated

/-- Section 3.6: the thresholds in force, a 0 following the default of the system voltage. -/
def warnOf (b : Battery) : Nat := if b.vWarn = 0 then (if b.system = 12 then 11800 else 23600) else b.vWarn
def cutOf (b : Battery) : Nat := if b.vCut = 0 then (if b.system = 12 then 11400 else 22800) else b.vCut
def fullOf (b : Battery) : Nat := if b.vFull = 0 then (if b.system = 12 then 14200 else 28400) else b.vFull
def tailOf (b : Battery) : Nat := if b.tail = 0 then 200 else b.tail

/-- R37: from `q`, `acc` a tick current of `current` (10 mA) leads to `q'`, `acc'`: `n` whole mAh are carried, as many as leave less
than one in the accumulator on the side it was on; then the clamps to 0 and `cn`. -/
def countedTo (cn q : Nat) (acc current : Int) (q' : Nat) (acc' : Int) : Prop :=
  ∃ n left : Int, acc + current * 10 = 3600 * n + left ∧
    (0 ≤ acc + current * 10 → 0 ≤ n ∧ 0 ≤ left ∧ left < 3600) ∧
    (acc + current * 10 ≤ 0 → n ≤ 0 ∧ -3600 < left ∧ left ≤ 0) ∧
    (if (cn : Int) < q + n then (q' : Int) = cn ∧ acc' = min left 0
     else if (q : Int) + n < 0 then q' = 0 ∧ acc' = max left 0
     else (q' : Int) = q + n ∧ acc' = left)

/-- R40, R41: the derate, Qmin, SoC and S of a charge record are those of its own T_b, Q and battery description. -/
def derivedFits (c : Charge) : Prop :=
  (c.derate : Int) = (if 200 ≤ c.temp then 1000 else max 550 (1000 - ((200 - c.temp) * 8 + 9) / 10)) ∧
  c.qmin = (c.battery.capacity * c.battery.reserve + 999) / 1000 ∧ c.soc = c.q * 1000 / c.battery.capacity ∧
  c.spendable = (if c.qmin < c.q then (c.q - c.qmin) * c.derate / 1000 else 0)

/-- R43: the four runs after a tick with compensated voltage `v`. -/
def runsAfter (uv : Undervoltage) (r : GradingRuns) (v : Int) (warn cut : Nat) : GradingRuns :=
  { fallToLow := if uv = .normal ∧ v < warn then r.fallToLow + 1 else 0
    fallToCritical := if uv ≠ .critical ∧ v < cut then r.fallToCritical + 1 else 0
    riseToLow := if uv = .critical ∧ (cut : Int) + 200 ≤ v then r.riseToLow + 1 else 0
    riseToNormal := if uv = .low ∧ (warn : Int) + 200 ≤ v then r.riseToNormal + 1 else 0 }

/-- R44: the undervoltage state once the runs stand at `r`. -/
def gradedState (uv : Undervoltage) (r : GradingRuns) : Undervoltage :=
  match uv with
  | .normal => if 5 ≤ r.fallToCritical then .critical else if 10 ≤ r.fallToLow then .low else .normal
  | .low => if 5 ≤ r.fallToCritical then .critical else if 30 ≤ r.riseToNormal then .normal else .low
  | .critical => if 30 ≤ r.riseToLow then .low else .critical

/-- R44: the runs after a change of state: all 0, but that a change from NORMAL to LOW keeps fall-to-CRITICAL. -/
def runsGraded (uv uv' : Undervoltage) (r : GradingRuns) : GradingRuns :=
  if uv = uv' then r
  else if uv = .normal ∧ uv' = .low then { r with fallToLow := 0 }
  else { fallToLow := 0, fallToCritical := 0, riseToLow := 0, riseToNormal := 0 }

/-- R50: CHG's severity in each state. -/
def chargeSeverity : Undervoltage → Nat
  | .normal => 0
  | .low => 2
  | .critical => 3

/-- R42: the tick's mean current of a full history, in units of 10 mA, and its mean voltage in mV. -/
def meanCurrent (c : Charge) : Int := (c.history.map fun p : Int × Nat => p.1).sum.tdiv 10
def meanVoltage (c : Charge) : Nat := (c.history.map fun p : Int × Nat => p.2).sum / 10

/-- R45: a tick with a full history meets the full-charge condition. -/
abbrev looksCharged (c : Charge) : Prop :=
  fullOf c.battery ≤ meanVoltage c ∧ 0 ≤ meanCurrent c ∧ meanCurrent c ≤ tailOf c.battery

/-- R41, R44, R49, R50, R67: from `d` to `t` the accounting has changed the charge record, with a full-charge detection where `full`
holds: each detection and each change of the undervoltage state posts CHARGE_STATE with its cause; a changed charge status and a
changed undervoltage state trigger a pass each (log 17); a changed undervoltage state is shown, a worse one as a new occurrence; a
change into CRITICAL flushes the allowance (AnswersReachTheirLoads). -/
def handsOn (d t : Device) (full : Prop) [Decidable full] : Prop :=
  let moved := t.chg.uv ≠ d.chg.uv
  let severity := chargeSeverity t.chg.uv
  let d1 := { d with
    chg := t.chg
    sched := t.sched
    bgt := { d.bgt with
      passesDue := d.bgt.passesDue + (if t.chg.known = d.chg.known then 0 else 1) + (if moved then 1 else 0) }
    lgt := if moved then (postIndication .chg severity (decide (chargeSeverity d.chg.uv < severity)) d).lgt else d.lgt
    lnk := { d.lnk with
      notices := (Nat.repeat (post .chargeState) ((if full then 1 else 0) + (if moved then 1 else 0)) d).lnk.notices } }
  (∀ x, x ∈ t.chg.causes ↔
    x ∈ d.chg.causes ∨ noticeEnabled d .chargeState = true ∧ (full ∧ x = .full ∨ moved ∧ x = .grade)) ∧
  t = if moved ∧ t.chg.uv = .critical then flushAllowance d1 else d1

/-- R46: a battery description that may be taken: every part in its range, a threshold given as 0 or within the system's range, and
the thresholds in force rising from V_cut by V_warn to V_full. -/
def describable (b : Battery) : Prop :=
  (b.system = 12 ∨ b.system = 24) ∧ liesIn 10000 400000 b.capacity ∧ liesIn 300 800 b.reserve ∧ b.resistance ≤ 50 ∧ b.tail ≤ 2000 ∧
  (∀ v ∈ [b.vWarn, b.vCut, b.vFull],
    v = 0 ∨ (b.system = 12 ∧ liesIn 9000 16000 v) ∨ (b.system = 24 ∧ liesIn 18000 32000 v)) ∧
  cutOf b < warnOf b ∧ warnOf b < fullOf b

/-- R46: the description that BATTERY_CONFIG's body carries. -/
def batteryIn (body : List Byte) : Battery :=
  { system := num1 body 0, capacity := num4 body 1, reserve := num2 body 5, resistance := num1 body 7, vWarn := num2 body 8,
    vCut := num2 body 10, vFull := num2 body 12, tail := num2 body 14 }

/-- R49: from `d` to `t`, CHARGE_STATE has been posted once with a cause, which joins the causes while the kind is enabled. -/
def chargePosted (d t : Device) (cause : ChargeCause) : Prop :=
  t.lnk.notices = (post .chargeState d).lnk.notices ∧
  (∀ x, x ∈ t.chg.causes ↔ x ∈ d.chg.causes ∨ noticeEnabled d .chargeState = true ∧ x = cause)

end Sys2Proof.Stated

/-- R36, R37, R40, R41, R42, R45: the accounting tick. With ten pairs in the history it takes their means, counts them while the
charge is KNOWN, tests for a full charge and works out V_comp; with fewer it keeps I_s, V_s, V_comp, Q, A and both kinds of run.
Either way T_b is T_BATT's temperature, or 0 while that is not OK, and the derate, Qmin, SoC and S published are those of the
results. -/
def Obligations.AccountingTickCountsCharge : Prop :=
  ∀ s : State, Runs .chgAccountingTick s fun t =>
    let c := s.dev.chg
    let is := meanCurrent c
    let vs := meanVoltage c
    let meets : Prop := looksCharged c
    let detects : Prop := meets ∧ 600 ≤ c.fullRun + 1
    t.chg.temp = (if s.dev.sns.analog.tBatt.status = .ok then s.dev.sns.analog.tBatt.value else 0) ∧
    t.chg.tempFallback = decide (s.dev.sns.analog.tBatt.status ≠ .ok) ∧
    t.chg.battery = c.battery ∧ t.chg.history = c.history ∧ derivedFits t.chg ∧
    (c.history.length = 10 →
      t.chg.current = is ∧ t.chg.voltage = vs ∧ t.chg.vcomp = vs - (is * 10 * c.battery.resistance).tdiv 1000 ∧
      t.chg.lastFullTick = some s.dev.sns.uptime ∧
      (detects → t.chg.q = c.battery.capacity ∧ t.chg.acc = 0 ∧ t.chg.known = true ∧ t.chg.fullRun = 0 ∧
        t.chg.lastFull = some s.dev.sns.uptime) ∧
      (¬detects → t.chg.known = c.known ∧ t.chg.lastFull = c.lastFull ∧
        (meets → t.chg.fullRun = c.fullRun + 1) ∧ (¬meets → t.chg.fullRun = 0) ∧
        (c.known = true → countedTo c.battery.capacity c.q c.acc is t.chg.q t.chg.acc) ∧
        (c.known = false → t.chg.q = c.q ∧ t.chg.acc = c.acc))) ∧
    (c.history.length ≠ 10 →
      t.chg = { c with
        temp := t.chg.temp, tempFallback := t.chg.tempFallback, derate := t.chg.derate, qmin := t.chg.qmin, soc := t.chg.soc,
        spendable := t.chg.spendable }) ∧
    t.sns = s.dev.sns ∧ t.vbl = s.dev.vbl ∧ t.rtm = s.dev.rtm ∧ t.pins = s.dev.pins

/-- R41, R43 to R45, R49, R50, R67: a tick with a full history steps the four runs by V_comp and grades the undervoltage state by
them; what changed is handed on, a pass trigger as one pass that falls due (log 17), and a tick with a shorter history hands nothing
on. GRADING_RUN_COMPLETE makes the same test on the runs as they stand, and with no run at its length changes nothing (log 1);
FULL_CHARGE_DETECTION makes R45's likewise. -/
def Obligations.GradingFollowsRuns : Prop :=
  ∀ s : State,
    Runs .chgAccountingTick s (fun t =>
      t.sched = { s.dev.sched with chgTick := false } ∧
      (s.dev.chg.history.length = 10 →
        let r := runsAfter s.dev.chg.uv s.dev.chg.runs t.chg.vcomp (warnOf s.dev.chg.battery) (cutOf s.dev.chg.battery)
        t.chg.uv = gradedState s.dev.chg.uv r ∧ t.chg.runs = runsGraded s.dev.chg.uv t.chg.uv r ∧
        handsOn s.dev t (looksCharged s.dev.chg ∧ 600 ≤ s.dev.chg.fullRun + 1)) ∧
      (s.dev.chg.history.length ≠ 10 → t = { s.dev with chg := t.chg, sched := t.sched })) ∧
    Runs .gradingRunComplete s (fun t =>
      t.chg.uv = gradedState s.dev.chg.uv s.dev.chg.runs ∧
      (t.chg.uv = s.dev.chg.uv → t = s.dev) ∧
      (t.chg.uv ≠ s.dev.chg.uv →
        t.chg = { s.dev.chg with
          uv := t.chg.uv
          runs := runsGraded s.dev.chg.uv t.chg.uv s.dev.chg.runs
          causes := t.chg.causes
          derate := t.chg.derate, qmin := t.chg.qmin, soc := t.chg.soc, spendable := t.chg.spendable } ∧
        derivedFits t.chg ∧ t.sched = s.dev.sched ∧ handsOn s.dev t False)) ∧
    Runs .fullChargeDetection s (fun t =>
      (s.dev.chg.fullRun < 600 → t = s.dev) ∧
      (600 ≤ s.dev.chg.fullRun →
        t.chg = { s.dev.chg with
          q := s.dev.chg.battery.capacity
          acc := 0
          known := true
          fullRun := 0
          lastFull := some s.dev.sns.uptime
          causes := t.chg.causes
          derate := t.chg.derate, qmin := t.chg.qmin, soc := t.chg.soc, spendable := t.chg.spendable } ∧
        derivedFits t.chg ∧ t.sched = s.dev.sched ∧ handsOn s.dev t True))

/-- R38, R39, R46, R47, R49: a SET_CHARGE of 0 to 1,000 ‰ sets Q to that share of Cn, A to 0 and the status KNOWN, and posts
CHARGE_STATE with cause SET; a good BATTERY_CONFIG replaces the whole description, a changed Cn making the status UNKNOWN with Q and
A 0, changed thresholds clearing the grading runs and changed full-charge settings the full-charge run; where the status becomes
UNKNOWN by it, CHARGE_STATE is posted with cause CAPACITY. Both are answered OK, work out the derived values afresh, leave every
other part of the charge record, and hand on a changed status as one pass trigger (log 17). A SET_CHARGE above 1,000, and a
description with a part out of its range or thresholds that do not rise, are answered BAD_VALUE and change nothing but the link. -/
def Obligations.ChargeRequestsSetCount : Prop :=
  ∀ (s : State) (tag : Byte), noneInHand s.dev →
    (∀ soc : Nat, soc ≤ 1000 →
      Runs (.setCharge tag (u16 soc)) s fun t =>
        Replied s.dev t 0x15 tag (u16 soc) 0x00 [] ∧
        t.chg = { s.dev.chg with
          q := s.dev.chg.battery.capacity * soc / 1000, acc := 0, known := true
          derate := t.chg.derate, qmin := t.chg.qmin, soc := t.chg.soc, spendable := t.chg.spendable, causes := t.chg.causes } ∧
        derivedFits t.chg ∧ chargePosted s.dev t .set ∧
        t = { s.dev with
          chg := t.chg
          bgt := { s.dev.bgt with passesDue := s.dev.bgt.passesDue + (if s.dev.chg.known = true then 0 else 1) }
          lnk := t.lnk }) ∧
    (∀ b : Battery, describable b →
      let body := u8 b.system ++ u32 b.capacity ++ u16 b.reserve ++ u8 b.resistance ++ u16 b.vWarn ++ u16 b.vCut ++ u16 b.vFull ++
        u16 b.tail
      Runs (.batteryConfig tag body) s fun t =>
        let old := s.dev.chg
        let same := b.capacity = old.battery.capacity
        Replied s.dev t 0x14 tag body 0x00 [] ∧
        t.chg = { old with
          battery := b
          known := if same then old.known else false
          q := if same then old.q else 0
          acc := if same then old.acc else 0
          runs := if warnOf b = warnOf old.battery ∧ cutOf b = cutOf old.battery then old.runs
            else { fallToLow := 0, fallToCritical := 0, riseToLow := 0, riseToNormal := 0 }
          fullRun := if fullOf b = fullOf old.battery ∧ tailOf b = tailOf old.battery then old.fullRun else 0
          derate := t.chg.derate, qmin := t.chg.qmin, soc := t.chg.soc, spendable := t.chg.spendable, causes := t.chg.causes } ∧
        derivedFits t.chg ∧
        (t.chg.known ≠ old.known → chargePosted s.dev t .capacity) ∧
        (t.chg.known = old.known → t.chg.causes = old.causes ∧ t.lnk.notices = s.dev.lnk.notices) ∧
        t = { s.dev with
          chg := t.chg
          bgt := { s.dev.bgt with passesDue := s.dev.bgt.passesDue + (if t.chg.known = old.known then 0 else 1) }
          lnk := t.lnk }) ∧
    (∀ body : List Byte,
      (body.length = 2 → 1000 < num2 body 0 → Refused (.setCharge tag body) s 0x15 tag body 0x04) ∧
      (body.length = 16 → ¬describable (batteryIn body) → Refused (.batteryConfig tag body) s 0x14 tag body 0x04))
/-! ## Load Budget (chapter 4) -/

namespace Sys2Proof.Stated

/-- R56: the demand of the table with each load at the step `at_ l`, over `h` seconds, each load's share rounded up. -/
def demand (t : LoadTable) (at_ : Load → Nat) (h : Nat) : Nat :=
  let share := fun l => ((t.get l).steps.getD (at_ l) 0 * h + 3599) / 3600
  share .base + share .heater + share .compressor + share .lights + share .outlet + share .warning

/-- A table's grants. -/
def grants (t : LoadTable) : Load → Nat := fun l => (t.get l).granted

/-- A table's grants with one load's changed. -/
def withGrant (t : LoadTable) (l : Load) (n : Nat) : Load → Nat := fun k => if k = l then n else grants t k

/-- R56: H from the horizon source. -/
def horizon (d : Device) : Nat :=
  match d.bgt.horizonSource with
  | none => d.bgt.defaultHorizon
  | some wake => max 3600 (min 57600 (wake - d.sns.uptime))

/-- R57: the policy, the first of the table that applies. -/
def policy (d : Device) : Policy :=
  let engine := d.vbl.signals.engineRunning
  if engine.status = .fresh ∧ engine.value = 1 ∧ 0 < d.chg.current ∧ d.chg.uv = .normal then .exempt
  else if d.chg.uv = .critical then .critical
  else if d.chg.known = false then (if d.chg.uv = .normal then .unknownNormal else .unknownLow)
  else (if d.chg.uv = .normal then .knownNormal else .knownLow)

/-- R59: the grants at the point of the reduction walk at which load `m` is at step `n`: the loads of worse rank are at their
floors, those of better rank as the pass found them. -/
def walkPoint (t : LoadTable) (m : Load) (n : Nat) : Load → Nat := fun k =>
  if k = m then n
  else if (t.get m).rank.getD 0 < (t.get k).rank.getD 0 then (t.get k).floor
  else grants t k

/-- R59: what the reduction walk makes of the grants of `t` when their demand is above `usable`: `g` lies between the floors and the
grants; a load is lowered only once every load of worse rank is at its floor; every point that the walk has left, in rank order and
one step at a time, had its demand above `usable`; and either all are at their floors with the demand still above, and `short` is
set, or the demand is `usable` or less. -/
def walked (t : LoadTable) (h usable : Nat) (g : Load → Nat) (short : Bool) : Prop :=
  (∀ l ∈ sheddable, (t.get l).floor ≤ g l ∧ g l ≤ (t.get l).granted) ∧
  (∀ l ∈ sheddable, ∀ m ∈ sheddable, (t.get m).rank.getD 0 < (t.get l).rank.getD 0 →
    g m < (t.get m).granted → g l = (t.get l).floor) ∧
  (∀ m ∈ sheddable, ∀ n ≤ (t.get m).granted, g m < n → usable < demand t (walkPoint t m n) h) ∧
  (short = true → usable < demand t g h ∧ ∀ l ∈ sheddable, g l = (t.get l).floor) ∧
  (short = false → demand t g h ≤ usable)

/-- R60: one raise, when the demand of the grants is `usable` or less: the load of best rank below its request gains a step if the
demand then is at most nine tenths of `usable`. -/
def raised (t : LoadTable) (h usable : Nat) (g : Load → Nat) : Prop :=
  (∀ l ∈ sheddable, (t.get l).granted < (t.get l).requested →
    (∀ m ∈ sheddable, (t.get m).rank.getD 0 < (t.get l).rank.getD 0 → (t.get m).requested ≤ (t.get m).granted) →
    ∀ k, g k = if demand t (withGrant t l ((t.get l).granted + 1)) h ≤ usable * 900 / 1000 then
      withGrant t l ((t.get l).granted + 1) k else grants t k) ∧
  ((∀ l ∈ sheddable, (t.get l).requested ≤ (t.get l).granted) → ∀ k, g k = grants t k)

/-- R61: the stage of a KNOWN pass. -/
def stage (t : LoadTable) (g : Load → Nat) : Nat :=
  if ∃ l ∈ sheddable, g l = 0 ∧ 0 < (t.get l).requested then 2
  else if ∃ l ∈ sheddable, g l < (t.get l).requested then 1
  else 0

/-- R58 to R61: the grants `g`, the stage and the flag that a pass with a policy decides on the table `t`. -/
def decided (p : Policy) (t : LoadTable) (h usable : Nat) (g : Load → Nat) (st : Nat) (short : Bool) : Prop :=
  g .base = (t.get .base).granted ∧ g .warning = (t.get .warning).granted ∧
  match p with
  | .exempt | .unknownNormal => (∀ l ∈ sheddable, g l = (t.get l).requested) ∧ st = 0 ∧ short = false
  | .critical => (∀ l ∈ sheddable, g l = (t.get l).floor) ∧ st = 3 ∧ short = false
  | .unknownLow =>
    (∀ l ∈ sheddable, g l = if (t.get l).rank.getD 0 ≤ 2 then (t.get l).requested else (t.get l).floor) ∧ st = 2 ∧ short = false
  | .knownNormal | .knownLow =>
    (demand t (grants t) h ≤ usable → raised t h usable g ∧ short = false) ∧
    (usable < demand t (grants t) h → walked t h usable g short) ∧ st = stage t g

/-- R57, R61, R62: the part after a pass has published its results, before the changed grants are handed over: the grants `g`, the
since times of those that changed, the results with the stage `st` and the flag `short`, BUDGET_STATE and BGT's indication. A load
left with a grant of 0 leaves the waiting list, and one pass fewer is due. -/
def passPublished (d : Device) (g : Load → Nat) (st : Nat) (short : Bool) : Device :=
  let p := policy d
  let h := horizon d
  let stamped := fun l : Load =>
    let e := d.bgt.table.get l
    { e with granted := g l, since := if g l = e.granted then e.since else d.sns.uptime }
  { d with
    bgt := { d.bgt with
      table := { base := stamped .base, heater := stamped .heater, compressor := stamped .compressor
                 lights := stamped .lights, outlet := stamped .outlet, warning := stamped .warning }
      last :=
        { policy := p, stage := st, short := short, horizon := h, fromWake := d.bgt.horizonSource.isSome
          usable := match p with
            | .knownNormal => d.chg.spendable
            | .knownLow => d.chg.spendable / 2
            | _ => 0
          demand := demand d.bgt.table g h, uptime := d.sns.uptime }
      allowance := { d.bgt.allowance with waiting := d.bgt.allowance.waiting.filter fun l => decide (0 < g l) }
      passesDue := d.bgt.passesDue - 1 }
    lgt := if short = d.bgt.last.short then d.lgt
      else (postIndication .bgt (if short = true then 2 else 0) short d).lgt
    lnk := { d.lnk with notices :=
      if st = d.bgt.last.stage ∧ short = d.bgt.last.short then d.lnk.notices else (post .budgetState d).lnk.notices } }

/-- R54: an entry after its owner writes a requested step and a floor. -/
def writtenEntry (e : Entry) (requested floor uptime : Nat) : Entry :=
  let last := e.steps.length - 1
  let f := min floor last
  let r := max (min requested last) f
  let g := if e.granted < f then f else if r < e.granted then r else e.granted
  { e with requested := r, floor := f, granted := g, since := if g = e.granted then e.since else uptime }

/-- R65: the allowance after the outlet's release at `ms`. -/
def outletReleased (a : Allowance) (ms : Nat) : Allowance :=
  if a.state = .held .outlet then { a with state := .settling, hold := none, settle := some (ms + 2000) } else a

/-- R68: the Load Budget after its outlet moves from OFF to WAIT_GRANT, asking for step 1. A changed request or floor triggers one
pass (log 17). -/
def outletWanted (d : Device) : Budget :=
  let e := d.bgt.table.outlet
  let e' := writtenEntry e 1 0 d.sns.uptime
  { d.bgt with
    outlet := { state := .waitGrant, closing := none }
    table := { d.bgt.table with outlet := e' }
    passesDue := d.bgt.passesDue + (if e'.requested = e.requested ∧ e'.floor = e.floor then 0 else 1) }

/-- R68: the Load Budget after its outlet is switched off: it asks for nothing, no longer waits for the allowance, and releases it
in WAIT_TOKEN and CLOSING. A changed request or floor triggers one pass (log 17). -/
def outletDropped (d : Device) : Budget :=
  let e := d.bgt.table.outlet
  let e' := writtenEntry e 0 0 d.sns.uptime
  let o := d.bgt.outlet.state
  let a := d.bgt.allowance
  { d.bgt with
    outlet := { state := .off, closing := none }
    table := { d.bgt.table with outlet := e' }
    passesDue := d.bgt.passesDue + (if e'.requested = e.requested ∧ e'.floor = e.floor then 0 else 1)
    allowance := { (if o = .waitToken ∨ o = .closing then outletReleased a d.sns.ms else a) with
      waiting := a.waiting.filter fun l => decide (l ≠ .outlet) } }

/-- R71: a budget configuration that may be taken: the ranks are 1 to 4 in some order, no step current is above 20,000 mA or below
that of the step beneath it, and the default horizon is in its range. -/
def budgetable (ranks : List Nat) (lists : List (List Nat)) (h : Nat) : Prop :=
  ranks.Perm [1, 2, 3, 4] ∧ (∀ l ∈ lists, l.Pairwise (· ≤ ·) ∧ ∀ x ∈ l, x ≤ 20000) ∧ liesIn 3600 57600 h

end Sys2Proof.Stated

/-- R55 to R62: a budget pass takes the first policy that applies, works out H and S′, decides the grants by that policy, takes one
of the passes due (log 17), and publishes policy, stage, flag, H, S′, the demand at the new grants and the uptime; BUDGET_STATE is
posted when stage or flag changed, and BGT's severity is 2 while the flag is set. Then each changed grant is handed to its owner
(GrantsReachTheirLoads), in table order (log 40). LIGHTS and OUTLET, whose owners write no entry at a hand-off, and the protected
entries hold exactly the grants decided. -/
def Obligations.BudgetPassDecidesGrants : Prop :=
  ∀ s : State, s.dev.bgt.table.sound →
    Runs .budgetPass s fun t =>
      let p := policy s.dev
      let h := horizon s.dev
      let usable := match p with
        | .knownNormal => s.dev.chg.spendable
        | .knownLow => s.dev.chg.spendable / 2
        | _ => 0
      ∃ g st short, decided p s.dev.bgt.table h usable g st short ∧
        (let changed := [Load.heater, .compressor, .lights, .outlet].filter fun l => decide (g l ≠ (s.dev.bgt.table.get l).granted)
         t = changed.foldl (fun d l => handGrant l d) (passPublished s.dev g st short)) ∧
        t.bgt.last = (passPublished s.dev g st short).bgt.last ∧
        (∀ l, l = .lights ∨ l = .outlet ∨ l = .base ∨ l = .warning →
          t.bgt.table.get l = (passPublished s.dev g st short).bgt.table.get l) ∧
        (short ≠ s.dev.bgt.last.short → (t.lgt.sources.get .bgt).severity = if short = true then 2 else 0) ∧
        t.sns.uptime = s.dev.sns.uptime ∧ t.vbl = s.dev.vbl ∧ t.chg = s.dev.chg ∧ t.rtm = s.dev.rtm

/-- R54, R64, R65, R67. First: a write of a requested step and floor cuts both to the load's last step, raises the request to the
floor, and brings the grant into the range between them; a changed request or floor triggers one pass, which falls due and is
taken by BUDGET_PASS (log 17); a load whose grant falls to 0 leaves the waiting list. No other entry and nothing else of the part
changes (its owner takes note of the grant by itself: RAMP and RUN follow it). Second: a request by the holder or by a
waiting load is ignored; one made while CRITICAL or with a grant of 0 is denied; one that finds the allowance FREE is granted and
starts the hold timer at the load's limit; any other is appended to the list. The holder's release starts the settling time of
2,000 ms, another's is ignored; a waiting load's withdrawal takes it from the list. -/
def Obligations.LoadsWriteEntriesAndAskAllowance : Prop :=
  (∀ (l : Load) (requested floor : Nat) (d : Device),
      let e := d.bgt.table.get l
      let e' := writtenEntry e requested floor d.sns.uptime
      let t := writeEntry l requested floor d
      t.bgt.table.get l = e' ∧ (∀ m, m ≠ l → t.bgt.table.get m = d.bgt.table.get m) ∧
      e'.floor ≤ e'.granted ∧ e'.granted ≤ e'.requested ∧
      t.bgt.passesDue = d.bgt.passesDue + (if e'.requested = e.requested ∧ e'.floor = e.floor then 0 else 1) ∧
      t.bgt.allowance.waiting = (if e'.granted = 0 ∧ e.granted ≠ 0 then d.bgt.allowance.waiting.filter (fun m => decide (m ≠ l))
        else d.bgt.allowance.waiting) ∧
      t = { d with bgt := { d.bgt with
        table := t.bgt.table, passesDue := t.bgt.passesDue
        allowance := { d.bgt.allowance with waiting := t.bgt.allowance.waiting } } }) ∧
  (∀ (l : Load) (d : Device), l ∈ inrushLoads →
      let a := d.bgt.allowance
      let limit := match l with
        | .heater => 90000
        | .compressor => 5000
        | _ => 2000
      (a.state = .held l ∨ l ∈ a.waiting → requestAllowance l d = (d, none)) ∧
      (a.state ≠ .held l → l ∉ a.waiting → d.chg.uv = .critical ∨ (d.bgt.table.get l).granted = 0 →
        requestAllowance l d = (d, some .denied)) ∧
      (a.state = .free → l ∉ a.waiting → d.chg.uv ≠ .critical → (d.bgt.table.get l).granted ≠ 0 →
        requestAllowance l d =
          ({ d with bgt := { d.bgt with allowance :=
              { a with state := .held l, hold := some (d.sns.ms + limit), settle := none } } }, some .granted)) ∧
      (a.state ≠ .free → a.state ≠ .held l → l ∉ a.waiting → d.chg.uv ≠ .critical → (d.bgt.table.get l).granted ≠ 0 →
        requestAllowance l d =
          ({ d with bgt := { d.bgt with allowance := { a with waiting := a.waiting ++ [l] } } }, none)) ∧
      (a.state = .held l →
        releaseAllowance l d = { d with bgt := { d.bgt with allowance :=
          { a with state := .settling, hold := none, settle := some (d.sns.ms + 2000) } } } ∧
        withdrawAllowance l d = releaseAllowance l d) ∧
      (a.state ≠ .held l → releaseAllowance l d = d ∧
        withdrawAllowance l d = { d with bgt := { d.bgt with allowance :=
          { a with waiting := a.waiting.filter (fun m => decide (m ≠ l)) } } }))

/-- R65, R66, R69: the hold timer's expiry leaves the allowance SETTLING for 2,000 ms and answers its holder "revoked"; the
settling timer's expiry leaves an allowance that nobody waits for FREE, and otherwise gives it to the first load of the list, one
of the three of section 4.4 (Allowance.sound, kept by every step: BudgetStaysSound), answered "granted", with the hold timer at its
limit (AnswersReachTheirLoads says what the answers do). The closing timer's expiry leaves the outlet ON and releases the
allowance. Each acts at its timer's own time (log 2). -/
def Obligations.AllowanceTimersExpire : Prop :=
  ∀ s : State,
    let a := s.dev.bgt.allowance
    let given := fun (a' : Allowance) (ms : Nat) =>
      { s.dev with sns := { s.dev.sns with ms := ms }, bgt := { s.dev.bgt with allowance := a' } }
    (∀ l at_, a.state = .held l → a.hold = some at_ → Runs .holdTimerExpiry s fun t =>
      let ms := max s.dev.sns.ms at_
      let released := { a with state := .settling, hold := none, settle := some (ms + 2000) }
      t = answerRevoked l (given released ms) ∧ (a.sound s.dev.bgt.table → t.bgt.allowance = released)) ∧
    (∀ at_, a.settle = some at_ → a.waiting = [] → Runs .settlingTimerExpiry s fun t =>
      t = given { a with state := .free, settle := none } (max s.dev.sns.ms at_)) ∧
    (∀ l at_ rest, a.settle = some at_ → a.waiting = l :: rest → l ∈ inrushLoads → Runs .settlingTimerExpiry s fun t =>
      let ms := max s.dev.sns.ms at_
      let limit := match l with
        | .heater => 90000
        | .compressor => 5000
        | _ => 2000
      t = answerGranted l (given { state := .held l, hold := some (ms + limit), settle := none, waiting := rest } ms)) ∧
    (∀ at_, s.dev.bgt.outlet.closing = some at_ → s.dev.bgt.outlet.state = .closing → Runs .closingTimerExpiry s fun t =>
      let ms := max s.dev.sns.ms at_
      t = { s.dev with
        sns := { s.dev.sns with ms := ms }
        bgt := { s.dev.bgt with
          outlet := { state := .on, closing := none }
          allowance := outletReleased a ms }
        lnk := { s.dev.lnk with notices := (post .budgetState s.dev).lnk.notices } })

/-- R68, R70, R71, R73: OUTLET_SET ON takes an OFF outlet to WAIT_GRANT with a requested step of 1, requests the allowance again in
DENIED, and changes nothing of an outlet that is on otherwise; OFF takes it to OFF with a requested step of 0, out of the waiting
list and without the allowance. The reply carries outlet state, relay and grant, and a changed outlet state posts BUDGET_STATE once.
A good BUDGET_CONFIG replaces ranks, step lists but HEATER's, and the default horizon, keeps every step and triggers one pass. A
pass falls due and is taken by BUDGET_PASS (log 17). A switch code other than ON and OFF, and a configuration out of its ranges or
its order, are answered BAD_VALUE and change nothing but the link. -/
def Obligations.BudgetRequestsAreTaken : Prop :=
  ∀ (s : State) (tag : Byte), noneInHand s.dev → s.dev.bgt.table.sound → s.dev.bgt.allowance.sound s.dev.bgt.table →
    (∀ on : Bool, Runs (.outletSet tag [if on = true then 0x01 else 0x00]) s fun t =>
      Replied s.dev t 0x1A tag [if on = true then 0x01 else 0x00] 0x00
        [BitVec.ofNat 8 t.bgt.outlet.state.code,
         (if t.bgt.outlet.state = .closing ∨ t.bgt.outlet.state = .on then 0x01 else 0x00),
         BitVec.ofNat 8 (t.bgt.table.get .outlet).granted] ∧
      (on = true → s.dev.bgt.outlet.state = .off → t.bgt = outletWanted s.dev) ∧
      (on = true → s.dev.bgt.outlet.state = .denied →
        let a := s.dev.bgt.allowance
        let ms := s.dev.sns.ms
        let apart := a.state ≠ .held .outlet ∧ .outlet ∉ a.waiting
        let denied := s.dev.chg.uv = .critical ∨ (s.dev.bgt.table.get .outlet).granted = 0
        let moves := fun (o : Outlet) (a' : Allowance) => t.bgt = { s.dev.bgt with outlet := o, allowance := a' }
        (¬apart → moves { state := .waitToken, closing := none } a) ∧
        (apart → denied → moves { state := .denied, closing := none } a) ∧
        (apart → ¬denied → a.state = .free → moves { state := .closing, closing := some (ms + 2000) }
          { a with state := .held .outlet, hold := some (ms + 2000), settle := none }) ∧
        (apart → ¬denied → a.state ≠ .free → moves { state := .waitToken, closing := none }
          { a with waiting := a.waiting ++ [.outlet] })) ∧
      (on = true → s.dev.bgt.outlet.state ≠ .off → s.dev.bgt.outlet.state ≠ .denied → t.bgt = s.dev.bgt) ∧
      (on = false → s.dev.bgt.outlet.state = .off → t.bgt = s.dev.bgt) ∧
      (on = false → s.dev.bgt.outlet.state ≠ .off → t.bgt = outletDropped s.dev) ∧
      t.lnk.notices = (if t.bgt.outlet.state = s.dev.bgt.outlet.state then s.dev.lnk.notices
        else (post .budgetState s.dev).lnk.notices) ∧
      (∀ l, l ≠ .outlet → t.bgt.table.get l = s.dev.bgt.table.get l) ∧
      t = { s.dev with bgt := t.bgt, lnk := t.lnk }) ∧
    (∀ (ranks base comp lights outlet warning : List Nat) (h : Nat),
      base.length = 1 → comp.length = 5 → lights.length = 4 → outlet.length = 2 → warning.length = 1 →
      budgetable ranks [base, comp, lights, outlet, warning] h →
      let body := ranks.flatMap u8 ++ base.flatMap u16 ++ comp.flatMap u16 ++ lights.flatMap u16 ++ outlet.flatMap u16 ++
        warning.flatMap u16 ++ u16 h
      Runs (.budgetConfig tag body) s fun t =>
        let old := s.dev.bgt.table
        RepliedQuietly s.dev t 0x18 tag body 0x00 [] ∧
        t = { s.dev with
          bgt := { s.dev.bgt with
            table :=
              { base := { old.base with steps := base }
                heater := { old.heater with rank := ranks[0]? }
                compressor := { old.compressor with rank := ranks[1]?, steps := comp }
                lights := { old.lights with rank := ranks[2]?, steps := lights }
                outlet := { old.outlet with rank := ranks[3]?, steps := outlet }
                warning := { old.warning with steps := warning } }
            defaultHorizon := h
            passesDue := s.dev.bgt.passesDue + 1 }
          lnk := t.lnk }) ∧
    (∀ n : Byte, 1 < n.toNat → Refused (.outletSet tag [n]) s 0x1A tag [n] 0x04) ∧
    (∀ body : List Byte, body.length = 32 →
      ¬budgetable ((List.range 4).map (num1 body))
        [words body 4 1, words body 6 5, words body 16 4, words body 24 2, words body 28 1] (num2 body 30) →
      Refused (.budgetConfig tag body) s 0x18 tag body 0x04)

/-! ## Heater Sequencer (chapter 5) -/

namespace Sys2Proof.Stated

/-- The present severity of HTR's indication entry. -/
def heaterSeverity (d : Device) : Nat := (d.lgt.sources.get .htr).severity

/-- What a step of the heater may touch, beside its own record and the indications: the time base, which reads `ms`, HEATER's entry,
the passes due, the allowance, and the link. -/
def heaterFrame (d t : Device) (ms : Nat) : Prop :=
  t = { d with
    sns := { d.sns with ms := ms }
    bgt := { d.bgt with
      table := { d.bgt.table with heater := t.bgt.table.heater }
      passesDue := t.bgt.passesDue
      allowance := t.bgt.allowance }
    htr := t.htr
    lgt := t.lgt
    npl := t.npl
    lnk := { t.lnk with enables := d.lnk.enables, idleTime := d.lnk.idleTime } }

/-- No fault: the indications and the Night Plan stay. -/
def calm (d t : Device) : Prop := t.lgt = d.lgt ∧ t.npl = d.npl

/-- R78, R87: the heater in a state without fuel and without a level: blower duty and glow output as given, the train stopped and
its stage empty, the timers given and no others. R103: a change of the state carries its cause, where no rule gives one the model's
(log 46). R105: a pending table default is applied on entry to OFF or LOCKOUT. -/
def heaterTo (h : Heater) (st : HeaterState) (duty : Nat) (glow : Option Nat) (cause : HeaterCause) (timers : HeaterTimers)
    (ms : Nat) : Heater :=
  { h with
    state := st
    level := 0
    fuel := { h.fuel with running := false, staged := none, gate := false }
    glowSince := glow
    blower := { h.blower with
      duty := duty
      dutySince := if h.blower.duty = 0 ∧ 0 < duty then ms else h.blower.dutySince }
    timers := timers
    cause := if st = h.state then h.cause else cause
    table := if (st = .off ∨ st = .lockout) ∧ h.marks.tableDefault = true then defaultHeatTable else h.table
    marks := if st = .off ∨ st = .lockout then { h.marks with tableDefault := false } else h.marks }

/-- R79: the entry written with a request and a floor (a pending table default, applied, brings its currents, R105), and the pass
that a changed request or floor triggers (log 17). -/
def heaterWrote (d t : Device) (request floor : Nat) (home : Bool) : Prop :=
  let e := d.bgt.table.heater
  let e' := writtenEntry e request floor d.sns.uptime
  t.bgt.table.heater =
    (if home = true ∧ d.htr.marks.tableDefault = true then { e' with steps := 0 :: defaultHeatTable.map (·.current) } else e') ∧
  t.bgt.passesDue = d.bgt.passesDue + (if e'.requested = e.requested ∧ e'.floor = e.floor then 0 else 1)

/-- R65: the allowance after the heater's release at `ms`: SETTLING where the heater held it. -/
def heaterReleased (a : Allowance) (ms : Nat) : Allowance :=
  if a.state = .held .heater then { a with state := .settling, hold := none, settle := some (ms + 2000) } else a

/-- R65: the allowance after the heater's withdrawal at `ms`. -/
def heaterWithdrawn (a : Allowance) (ms : Nat) : Allowance :=
  { heaterReleased a ms with waiting := a.waiting.filter fun l => decide (l ≠ .heater) }

/-- The notice table after HEATER_STATE is posted once, when the state has changed. -/
def heaterPosted (d t : Device) : Prop :=
  t.lnk.notices = (if t.htr.state = d.htr.state then d.lnk.notices else (post .heaterState d).lnk.notices)

/-- R99: from `d` with the heater record `h`, COOLDOWN is entered with a cause, its settings captured. -/
def coolsDown (d t : Device) (h : Heater) (cause : CooldownCause) (ms : Nat) : Prop :=
  let q := h.seq
  t.htr =
    { heaterTo h .cooldown q.coolDuty none (.cooling cause)
        { noHeaterTimers with coolMin := some (ms + 1000 * q.coolMin), coolMax := some (ms + 1000 * q.coolMax) } ms with
      cool := some { cause := cause, duty := q.coolDuty, endTemp := q.coolEnd, minTime := q.coolMin, maxTime := q.coolMax } } ∧
  heaterWrote d t 1 1 false ∧ t.bgt.allowance = heaterReleased d.bgt.allowance ms

/-- R100: from `d` with the heater record `h`, LOCKOUT is entered. -/
def locksOut (d t : Device) (h : Heater) (cause : HeaterCause) (ms : Nat) : Prop :=
  t.htr =
    { heaterTo h .lockout 0 none cause noHeaterTimers ms with
      runUntil := none
      marks := { restartPending := false, lockoutPending := false, forcedPurge := false, tableDefault := false }
      lockouts := min 255 (h.lockouts + 1) } ∧
  heaterWrote d t 0 0 true ∧ t.bgt.allowance = heaterWithdrawn d.bgt.allowance ms

/-- R102: the fault list after a fault of a kind. -/
def faultsWith (d : Device) (k : FaultKind) : List FaultRec :=
  let all := d.htr.faults ++
    [{ kind := k, state := d.htr.state, tExch := d.sns.analog.tExch.value, tCab := d.sns.analog.tCab.value,
       voltage := d.sns.analog.batv.value, uptime := d.sns.uptime }]
  if 8 < all.length then all.drop 1 else all

/-- R102: a fault of severity `n` is shown at `ms`: a new occurrence, which does not lower an entry that stands higher; HTR's
posting clears the pre-warm indication mark (R176). -/
def faultShownAs (n : Nat) (d t : Device) (ms : Nat) : Prop :=
  t.lgt = (postIndication .htr (max n (heaterSeverity d)) true (reach ms d)).lgt ∧ t.npl = { d.npl with prewarmMark := false }

/-- R102: a fault of severity 2 is shown. -/
def faultShown (d t : Device) (ms : Nat) : Prop := faultShownAs 2 d t ms

/-- R102: the notice table after HEATER_FAULT, and after a changed state's HEATER_STATE. -/
def faultNoticed (d t : Device) : Prop :=
  t.lnk.notices = (if t.htr.state = d.htr.state then (post .heaterFault d).lnk.notices
    else (post .heaterState (post .heaterFault d)).lnk.notices)

/-- The heater neither holds the allowance nor waits for it. -/
def heaterApart (d : Device) : Prop := d.bgt.allowance.state ≠ .held .heater ∧ .heater ∉ d.bgt.allowance.waiting

/-- R82, R83, R86: from `d` with the heater record `h` (its settings and wished level as the start leaves them), the entry asks for
the wished level with a floor of 1 and the allowance is requested: FREE, the heater enters GLOW at once; taken, it waits in
WAIT_INRUSH; CRITICAL, it is denied and goes to OFF with reason INRUSH. A request by a heater that holds it or waits already is
ignored. -/
def lightsUp (d t : Device) (h : Heater) (ms : Nat) : Prop :=
  let a := d.bgt.allowance
  let e := d.bgt.table.heater
  let e' := writtenEntry e h.wished 1 d.sns.uptime
  let wait := heaterTo h .waitInrush 0 none .none { noHeaterTimers with wait := some (ms + 120000) } ms
  (heaterApart d → d.chg.uv ≠ .critical → a.state = .free →
    t.htr = heaterTo wait .glow h.seq.ignDuty (some ms) .none { noHeaterTimers with glow := some (ms + 1000 * h.seq.glowTime) } ms ∧
    heaterWrote d t h.wished 1 false ∧
    t.bgt.allowance = { a with state := .held .heater, hold := some (ms + 90000), settle := none } ∧
    t.lnk.notices = (post .heaterState (post .heaterState d)).lnk.notices) ∧
  (heaterApart d → d.chg.uv ≠ .critical → a.state ≠ .free →
    t.htr = wait ∧ heaterWrote d t h.wished 1 false ∧ t.bgt.allowance = { a with waiting := a.waiting ++ [.heater] } ∧
    t.lnk.notices = (post .heaterState d).lnk.notices) ∧
  (¬heaterApart d →
    t.htr = wait ∧ heaterWrote d t h.wished 1 false ∧ t.bgt.allowance = a ∧ t.lnk.notices = (post .heaterState d).lnk.notices) ∧
  (heaterApart d → d.chg.uv = .critical →
    t.htr = heaterTo wait .off 0 none (.refusal .inrush) noHeaterTimers ms ∧
    t.bgt.table.heater.requested = 0 ∧ t.bgt.table.heater.floor = 0 ∧ t.bgt.table.heater.granted = 0 ∧
    t.bgt.table.heater.steps = (if d.htr.marks.tableDefault = true then 0 :: defaultHeatTable.map (·.current) else e'.steps) ∧
    t.bgt.allowance = a ∧ t.lnk.notices = (post .heaterState (post .heaterState d)).lnk.notices)

/-- R80, check 6: a grant of step 1 can stand, by the step currents as they stand, those taken since the last pass among them (the
model's choice, log 48; under CRITICAL the manual does not say, log 10). -/
def stepOneMayStand (d : Device) : Prop :=
  let need := demand d.bgt.table
    (fun l => match l with
      | .heater => 1
      | .base | .warning => 0
      | .compressor => d.bgt.table.compressor.floor
      | .lights => d.bgt.table.lights.floor
      | .outlet => d.bgt.table.outlet.floor) d.bgt.last.horizon
  match d.bgt.last.policy with
  | .exempt | .unknownNormal | .unknownLow => True
  | .knownNormal | .knownLow => need ≤ d.bgt.last.usable
  | .critical => Config.budgetCheckUnderCritical need d.bgt.last.usable = true

/-- R80: the seven conditions of a new start, in order, each with the reason of its failure. -/
def startConditions (d : Device) : List (Prop × Reason) :=
  [(d.sns.analog.tExch.status = .ok, .sensor), (d.htr.latch = false, .overheat), (d.htr.state ≠ .lockout, .locked),
   (∀ at_, d.htr.blower.lastTach = some at_ → at_ + 2000 ≤ d.sns.ms, .blowerTurning), (d.chg.uv ≠ .critical, .undervoltage),
   (stepOneMayStand d, .noBudget), (¬(d.vbl.signals.fuelLow.status = .fresh ∧ d.vbl.signals.fuelLow.value = 1), .fuelLow)]

/-- R80: `r` is the reason of the first condition that fails. -/
def startFailsWith (d : Device) (r : Reason) : Prop :=
  ∃ before c after, startConditions d = before ++ (c, r) :: after ∧ (∀ p ∈ before, p.1) ∧ ¬c

/-- R80: every condition holds. -/
def startMayBeMade (d : Device) : Prop := ∀ p ∈ startConditions d, p.1

/-- R82: the maximum allowed level. -/
def topLevel (d : Device) : Nat :=
  if d.npl.quiet = true then min d.htr.limits.hostMax d.htr.limits.quietMax else d.htr.limits.hostMax

/-- R82: the wished level of the start rule for a setpoint. -/
def startLevel (d : Device) (setpoint : Int) : Nat :=
  let cab := d.sns.analog.tCab
  let e := setpoint - cab.value
  min (topLevel d) (if cab.status ≠ .ok then d.htr.limits.fallback else if 30 ≤ e then topLevel d else if 10 ≤ e then 2 else 1)

/-- R98: what a stop makes of the heater, by state. -/
def heaterStops (d t : Device) : Prop :=
  let h := { d.htr with runUntil := none }
  let marked := d.htr.marks.lockoutPending = true ∨ d.htr.marks.forcedPurge = true
  (d.htr.state = .glow ∨ d.htr.state = .ignite ∨ d.htr.state = .ramp ∨ d.htr.state = .run ∨ d.htr.state = .purge ∧ ¬marked →
    coolsDown d t h .stop d.sns.ms) ∧
  (d.htr.state = .waitInrush ∨ d.htr.state = .paused →
    t.htr = heaterTo h .off 0 none (.cooling .stop) noHeaterTimers d.sns.ms ∧ heaterWrote d t 0 0 true ∧
    t.bgt.allowance = (if d.htr.state = .waitInrush then heaterWithdrawn d.bgt.allowance d.sns.ms
      else { d.bgt.allowance with waiting := d.bgt.allowance.waiting.filter fun l => decide (l ≠ .heater) })) ∧
  (d.htr.state = .cooldown → t.htr = { h with marks := { h.marks with restartPending := false } } ∧ t.bgt = d.bgt) ∧
  (d.htr.state = .purge ∧ marked ∨ d.htr.state = .off ∨ d.htr.state = .lockout → t.htr = h ∧ t.bgt = d.bgt) ∧
  heaterPosted d t ∧ heaterFrame d t d.sns.ms ∧ calm d t

end Sys2Proof.Stated

/-- R80 to R82, R98, R99, R187: HEATER_START with a good body. In OFF and PAUSED the seven conditions are tried in order (the sixth
by the step currents as they stand, log 48): the first that fails gives the reason of the REFUSED answer, and nothing else changes;
when all hold, the attempt counter, the marks, the setpoints and the run-until are set, the wished level is worked out, and the
heater lights up. In LOCKOUT, and in a cooldown or purge that ends in one, it is refused; in a COOLDOWN otherwise it waits with the
restart-pending mark; in every other state setpoint and run-until are replaced (neither touches the last setpoint, log 20). A taken
start is answered OK with the heater state after it. Before all that, a setpoint outside 50 to 300 is answered BAD_VALUE, a
run-until with the clock UNSET NO_CLOCK, and one that is not later than the present wall time BAD_VALUE, with nothing changed but
the link. HEATER_STOP, answered OK, and the run-until when it has been reached, stop the heater; before that, and with no run-until
set, RUN_UNTIL_REACHED changes nothing but the mark of the second's test (log 2). The causes of lighting up, none, and of a stop in
WAIT_INRUSH or PAUSED, STOP, are log 46's. -/
def Obligations.HeaterStartAndStopAreTaken : Prop :=
  (∀ (s : State) (tag : Byte) (setpoint : Int) (wall : Nat), noneInHand s.dev → budgetSound s.dev →
     50 ≤ setpoint → setpoint ≤ 300 → wall < 4294967296 →
     (wall ≠ 0 → s.dev.sns.clockSet = true ∧ (s.dev.sns.uptime + s.dev.sns.clockOffset) % 4294967296 < wall) →
     let h := s.dev.htr
     let body := i16 setpoint ++ u32 wall
     let till := if wall = 0 then none else some ((wall + (4294967296 - s.dev.sns.clockOffset)) % 4294967296)
     let marked := h.marks.lockoutPending = true ∨ h.marks.forcedPurge = true
     Runs (.heaterStart tag body) s fun t =>
       let refused := fun r : Reason =>
         RepliedQuietly s.dev t 0x21 tag body 0x02 [BitVec.ofNat 8 r.code] ∧ t = { s.dev with lnk := t.lnk }
       let updated := fun h' : Heater =>
         RepliedQuietly s.dev t 0x21 tag body 0x00 [BitVec.ofNat 8 h.state.code] ∧ t = { s.dev with htr := h', lnk := t.lnk }
       (h.state = .off ∨ h.state = .paused → (∀ r, startFailsWith s.dev r → refused r) ∧
         (startMayBeMade s.dev →
           Replied s.dev t 0x21 tag body 0x00 [BitVec.ofNat 8 t.htr.state.code] ∧
           lightsUp s.dev t
             { h with
               attempts := 0
               marks := { h.marks with restartPending := false, lockoutPending := false }
               setpoint := setpoint
               lastSetpoint := setpoint
               runUntil := till
               wished := startLevel s.dev setpoint } s.dev.sns.ms ∧
           heaterFrame s.dev t s.dev.sns.ms ∧ calm s.dev t)) ∧
       (h.state = .lockout → refused (if h.latch = true then .overheat else .locked)) ∧
       (h.state = .cooldown ∨ h.state = .purge → marked → refused .locked) ∧
       (h.state = .cooldown → ¬marked →
         updated { h with setpoint := setpoint, runUntil := till, marks := { h.marks with restartPending := true } }) ∧
       (h.state = .waitInrush ∨ h.state = .glow ∨ h.state = .ignite ∨ h.state = .ramp ∨ h.state = .run ∨
           h.state = .purge ∧ ¬marked →
         updated { h with setpoint := setpoint, runUntil := till })) ∧
  (∀ (s : State) (tag : Byte) (body : List Byte), noneInHand s.dev → body.length = 6 →
     let wall := num4 body 2
     let good := 50 ≤ int2 body 0 ∧ int2 body 0 ≤ 300
     let answers := Refused (.heaterStart tag body) s 0x21 tag body
     (¬good → answers 0x04) ∧ (good → wall ≠ 0 → s.dev.sns.clockSet = false → answers 0x06) ∧
     (good → wall ≠ 0 → s.dev.sns.clockSet = true → wall ≤ (s.dev.sns.uptime + s.dev.sns.clockOffset) % 4294967296 →
       answers 0x04)) ∧
  (∀ (s : State) (tag : Byte), budgetSound s.dev →
     let tested := { s.dev with sched := { s.dev.sched with runUntilTick := false } }
     (noneInHand s.dev → Runs (.heaterStop tag []) s fun t => Replied s.dev t 0x22 tag [] 0x00 [] ∧ heaterStops s.dev t) ∧
     (∀ u, s.dev.htr.runUntil = some u → u ≤ s.dev.sns.uptime →
       Runs .runUntilReached s fun t => heaterStops tested t ∧ t.lnk = { s.dev.lnk with notices := t.lnk.notices }) ∧
     ((∀ u, s.dev.htr.runUntil = some u → s.dev.sns.uptime < u) → Runs .runUntilReached s fun t => t = tested))

/-- R83 to R86, R102: the timers of the lighting sequence, each at its own time (log 2). The wait timer withdraws the heater to OFF
with reason INRUSH; the glow time leads to IGNITE, where the pulse train starts at once and T_EXCH becomes the flame base; the glow
one-shot and the flame window end the attempt in PURGE, counted once (the window's end releases the allowance); the purge time
leads to LOCKOUT with the forced purge or lockout-on-completion mark set, else to a further attempt, else to NO_FLAME and LOCKOUT.
That these moves report no cause, but for a refusal, is the model's choice (log 46). -/
def Obligations.LightingTimersMoveHeater : Prop :=
  ∀ (s : State) (at_ : Nat), budgetSound s.dev →
    let h := s.dev.htr
    let ms := max s.dev.sns.ms at_
    let purged := fun t : Device =>
      t.htr = { heaterTo h .purge (if h.marks.forcedPurge = true then 1000 else h.seq.purgeDuty) none .none
        { noHeaterTimers with purge := some (ms + 1000 * h.seq.purgeTime) } ms with attempts := h.attempts + 1 } ∧
      heaterWrote s.dev t 1 1 false
    let framed := fun t : Device => heaterFrame s.dev t ms ∧ calm s.dev t ∧ t.lnk = { s.dev.lnk with notices := t.lnk.notices }
    (h.state = .waitInrush → h.timers.wait = some at_ → Runs .waitTimerExpiry s fun t =>
      t.htr = heaterTo h .off 0 none (.refusal .inrush) noHeaterTimers ms ∧ heaterWrote s.dev t 0 0 true ∧
      t.bgt.allowance = heaterWithdrawn s.dev.bgt.allowance ms ∧ heaterPosted s.dev t ∧ framed t) ∧
    (h.state = .glow → h.timers.glow = some at_ → Runs .glowTimeExpiry s fun t =>
      t.htr = { h with
        state := .ignite
        level := 0
        fuel := { running := true, interval := h.seq.ignInterval, staged := none, lastStart := ms,
                  gate := decide (rawOf s.dev 5 = false ∧ h.latch = false) }
        blower := { h.blower with
          duty := h.seq.ignDuty
          dutySince := if h.blower.duty = 0 ∧ 0 < h.seq.ignDuty then ms else h.blower.dutySince }
        flameBase := s.dev.sns.analog.tExch.value
        timers := { noHeaterTimers with window := some (ms + 1000 * h.seq.flameWindow) }
        cause := .none } ∧
      heaterWrote s.dev t h.wished 1 false ∧ t.bgt.allowance = s.dev.bgt.allowance ∧
      heaterPosted s.dev t ∧ framed t) ∧
    (h.state = .glow ∨ h.state = .ignite → ∀ on, h.glowSince = some on → at_ = on + 90000 → Runs .glowOneShotExpiry s fun t =>
      purged t ∧ t.bgt.allowance = s.dev.bgt.allowance ∧ heaterPosted s.dev t ∧ framed t) ∧
    (h.state = .ignite → h.timers.window = some at_ → Runs .flameWindowExpiry s fun t =>
      purged t ∧ t.bgt.allowance = heaterReleased s.dev.bgt.allowance ms ∧ heaterPosted s.dev t ∧ framed t) ∧
    (h.state = .purge → h.timers.purge = some at_ → Runs .purgeTimeExpiry s fun t =>
      heaterFrame s.dev t ms ∧ t.lnk = { s.dev.lnk with notices := t.lnk.notices } ∧
      (h.marks.forcedPurge = true ∨ h.marks.lockoutPending = true →
        locksOut s.dev t h .none ms ∧ heaterPosted s.dev t ∧ calm s.dev t) ∧
      (h.marks.forcedPurge = false → h.marks.lockoutPending = false → h.attempts < h.seq.attempts →
        lightsUp s.dev t h ms ∧ calm s.dev t) ∧
      (h.marks.forcedPurge = false → h.marks.lockoutPending = false → h.seq.attempts ≤ h.attempts →
        locksOut s.dev t { h with faults := faultsWith s.dev .noFlame } .none ms ∧ faultNoticed s.dev t ∧ faultShown s.dev t ms))

/-- R88, R90, R91, R93: a ramp step raises the level by one within the grant and the maximum allowed level, sets the blower duty,
stages the interval and restarts the flame reference; the heater is in RUN, with its dwell started, once the level is at the least
of the wished level, the grant and the maximum, and in RAMP, with the next step 20 s on, otherwise. The flame reference restarts
from the T_EXCH published last (R89, log 23). On entry to RUN the entry asks for the wished level (R79). The dwell's end moves the
level one step toward the wished level, a raise only within the grant and the maximum, and starts the next dwell. The pause timer's
end enters COOLDOWN with cause PAUSE. That the entry to RUN reports no cause is log 46. Each acts at its timer's own time (log
2). -/
def Obligations.LevelMovesStepByStep : Prop :=
  ∀ (s : State) (at_ : Nat), budgetSound s.dev →
    let h := s.dev.htr
    let ms := max s.dev.sns.ms at_
    let grant := s.dev.bgt.table.heater.granted
    let record := fun n : Nat => h.table.getD (n - 1) { interval := 0, duty := 0, minRpm := 0, current := 0 }
    (h.state = .ramp → h.timers.ramp = some at_ → Runs .rampStep s fun t =>
      let n := min (h.level + 1) (max 1 (min grant (topLevel s.dev)))
      let ends := min h.wished (min grant (topLevel s.dev)) ≤ n
      t.htr.state = (if ends then .run else .ramp) ∧ t.htr.level = n ∧ t.htr.blower.duty = (record n).duty ∧
      t.htr.fuel = { h.fuel with staged := some (record n).interval } ∧ t.htr.flameRef = s.dev.sns.analog.tExch.value ∧
      (ends → t.htr.timers = { noHeaterTimers with dwell := some (ms + 1000 * h.seq.dwell) } ∧
        heaterWrote s.dev t h.wished 1 false ∧ t.bgt.allowance = s.dev.bgt.allowance) ∧
      (¬ends → t.htr.timers = { h.timers with ramp := some (at_ + 20000), lowSpeed := none } ∧ t.bgt = s.dev.bgt) ∧
      t.htr = { h with
        state := t.htr.state, level := n, fuel := t.htr.fuel, glowSince := t.htr.glowSince
        blower := { h.blower with duty := t.htr.blower.duty, dutySince := t.htr.blower.dutySince }
        flameRef := t.htr.flameRef, timers := t.htr.timers, cause := t.htr.cause } ∧
      heaterPosted s.dev t ∧ heaterFrame s.dev t ms ∧ calm s.dev t ∧ t.lnk = { s.dev.lnk with notices := t.lnk.notices }) ∧
    (h.state = .run → h.timers.dwell = some at_ → Runs .levelDwellExpiry s fun t =>
      let moved := fun n : Nat =>
        t = { s.dev with
          sns := { s.dev.sns with ms := ms }
          htr := { h with
            level := n
            blower := { h.blower with
              duty := (record n).duty
              dutySince := if h.blower.duty = 0 ∧ 0 < (record n).duty then ms else h.blower.dutySince }
            fuel := { h.fuel with staged := some (record n).interval }
            flameRef := s.dev.sns.analog.tExch.value
            timers := { h.timers with lowSpeed := none, dwell := some (ms + 1000 * h.seq.dwell) } } }
      let waits :=
        t = { s.dev with sns := { s.dev.sns with ms := ms }, htr := { h with timers := { h.timers with dwell := none } } }
      (h.level < h.wished → h.level < grant → h.level < topLevel s.dev → moved (h.level + 1)) ∧
      (h.level < h.wished → grant ≤ h.level ∨ topLevel s.dev ≤ h.level → waits) ∧
      (h.wished < h.level → moved (h.level - 1)) ∧ (h.wished = h.level → waits)) ∧
    (h.state = .run → h.timers.pause = some at_ → Runs .pauseTimerExpiry s fun t =>
      coolsDown s.dev t h .pause ms ∧ heaterPosted s.dev t ∧ heaterFrame s.dev t ms ∧ calm s.dev t ∧
      t.lnk = { s.dev.lnk with notices := t.lnk.notices })

/-- R97, R102: a tach pulse captures its period and its speed, 30,000,000 / period truncated, 0 from 2,000 ms on (the first pulse
of all captures none, log 12; a period of 0 gives no stated speed, log 11). A tach silent for 2,000 ms since the later of the last
pulse and the duty's rise, and a speed low for 5 s, are blower faults while supervision applies: fault BLOWER, the forced purge
mark, and PURGE at 1,000 ‰ with the purge time started afresh; in a forced purge, or with the blower commanded to stand, nothing
happens. The supervision times act at their own time (log 2). That the entry to this PURGE reports no cause is the model's choice
(log 46). -/
def Obligations.BlowerIsSupervised : Prop :=
  ∀ s : State, budgetSound s.dev →
    let h := s.dev.htr
    let watched := 0 < h.blower.duty ∧ ¬(h.state = .purge ∧ h.marks.forcedPurge = true)
    let fails := fun (t : Device) (ms : Nat) =>
      t.htr = heaterTo { h with faults := faultsWith s.dev .blower, marks := { h.marks with forcedPurge := true } } .purge 1000 none
        .none { noHeaterTimers with purge := some (ms + 1000 * h.seq.purgeTime) } ms ∧
      heaterWrote s.dev t 1 1 false ∧ t.bgt.allowance = heaterReleased s.dev.bgt.allowance ms ∧
      faultNoticed s.dev t ∧ faultShown s.dev t ms ∧ heaterFrame s.dev t ms ∧ t.lnk = { s.dev.lnk with notices := t.lnk.notices }
    (∀ period, period ≠ 0 → Runs (.tachPulse period) s fun t =>
      t = { s.dev with htr := { h with blower := { h.blower with
        lastTach := some s.dev.sns.ms
        period := if h.blower.lastTach = none then h.blower.period else period
        rpm := if h.blower.lastTach = none then h.blower.rpm else if 2000000 ≤ period then 0 else 30000000 / period } } }) ∧
    (∃ free, Runs (.tachPulse 0) s fun t =>
      t = { s.dev with htr := { h with blower := { h.blower with
        lastTach := some s.dev.sns.ms
        period := if h.blower.lastTach = none then h.blower.period else 0
        rpm := if h.blower.lastTach = none then h.blower.rpm else free } } }) ∧
    (watched → Runs .tachTimeout s fun t =>
      fails t (max s.dev.sns.ms (max h.blower.dutySince (match h.blower.lastTach with
        | none => 0
        | some at_ => at_) + 2000))) ∧
    (¬watched → Runs .tachTimeout s fun t => t = s.dev) ∧
    (∀ at_, h.timers.lowSpeed = some at_ → watched → Runs .blowerSpeedTimeout s fun t => fails t (max s.dev.sns.ms at_))

/-- R99 to R101: the minimum cooldown's end lets the end test be met from then on; the maximum cooldown's end records SENSOR where
T_EXCH is not OK, else COOLDOWN_LONG, and locks the heater out. HEATER_UNLOCK and HEATER_SERVICE_CLEAR are PROTECTED while DIN5 is
active; they release a LOCKOUT, and a latch in OFF, but HEATER_UNLOCK answers LOCKED from the third lockout on, and
HEATER_SERVICE_CLEAR sets the counter to 0; both are BUSY before a lockout that is coming; otherwise only the counter is cleared.
The cooldown times act at their own time (log 2). That the report of such a LOCKOUT carries the cooldown's cause, and that of a
release none (log 46), and that the cooldown record is kept (log 41), are the model's choices. -/
def Obligations.LockoutIsEnteredAndReleased : Prop :=
  ∀ (s : State) (tag : Byte) (service : Bool), budgetSound s.dev →
    let h := s.dev.htr
    let h0 := if service = true then { h with lockouts := 0 } else h
    let kind : Byte := if service = true then 0x24 else 0x23
    let command := if service = true then Instr.heaterServiceClear tag [] else Instr.heaterUnlock tag []
    let din5 := (lineOf s.dev 5).real
    let marked := h.marks.lockoutPending = true ∨ h.marks.forcedPurge = true
    (∀ at_, h.timers.coolMin = some at_ → Runs .minimumCooldownExpiry s fun t =>
      t = { s.dev with
        sns := { s.dev.sns with ms := max s.dev.sns.ms at_ }, htr := { h with timers := { h.timers with coolMin := none } } }) ∧
    (∀ at_ c, h.state = .cooldown → h.timers.coolMax = some at_ → h.cool = some c → Runs .maximumCooldownExpiry s fun t =>
      let ms := max s.dev.sns.ms at_
      let k : FaultKind := if s.dev.sns.analog.tExch.status = .ok then .cooldownLong else .sensor
      locksOut s.dev t { h with faults := faultsWith s.dev k } (.cooling c.cause) ms ∧ faultNoticed s.dev t ∧ faultShown s.dev t ms ∧
      heaterFrame s.dev t ms ∧ t.lnk = { s.dev.lnk with notices := t.lnk.notices }) ∧
    (noneInHand s.dev → Runs command s fun t =>
      let answers := fun code : Byte => RepliedQuietly s.dev t kind tag [] code [] ∧ t = { s.dev with lnk := t.lnk }
      (din5 = true → answers 0x08) ∧
      (din5 = false → h.state = .lockout ∨ h.state = .off ∧ h.latch = true → service = false → 3 ≤ h.lockouts → answers 0x09) ∧
      (din5 = false → h.state = .cooldown ∨ h.state = .purge → marked → answers 0x01) ∧
      (din5 = false → h.state = .lockout → service = true ∨ h.lockouts < 3 →
        Replied s.dev t kind tag [] 0x00 [] ∧
        t.htr = { heaterTo { h0 with flameLoss := none } .off 0 none .none noHeaterTimers s.dev.sns.ms with latch := false } ∧
        heaterWrote s.dev t 0 0 true ∧ t.lgt = (postIndication .htr 0 false s.dev).lgt ∧
        t.npl = { s.dev.npl with prewarmMark := false } ∧ heaterPosted s.dev t ∧ heaterFrame s.dev t s.dev.sns.ms) ∧
      (din5 = false → h.state = .off → h.latch = true → service = true ∨ h.lockouts < 3 →
        RepliedQuietly s.dev t kind tag [] 0x00 [] ∧
        t = { s.dev with
          htr := { h0 with latch := false }
          lgt := (postIndication .htr 0 false s.dev).lgt
          npl := { s.dev.npl with prewarmMark := false }
          lnk := t.lnk }) ∧
      (din5 = false → h.state ≠ .lockout → ¬(h.state = .off ∧ h.latch = true) →
          ¬((h.state = .cooldown ∨ h.state = .purge) ∧ marked) →
        RepliedQuietly s.dev t kind tag [] 0x00 [] ∧ t = { s.dev with htr := h0, lnk := t.lnk }))

/-! ## A published sweep reaches the heater (chapter 5) -/

namespace Sys2Proof.Stated

/-- A record of the heat level table. -/
def levelRecord (h : Heater) (n : Nat) : HeatLevel :=
  h.table.getD (n - 1) { interval := 0, duty := 0, minRpm := 0, current := 0 }

/-- R90: the heater at level `n`, a change of its level at `ms`: blower duty at once, interval staged, flame reference restarted
from the T_EXCH published last (log 23), in RUN the dwell restarted. -/
def atLevel (h : Heater) (n : Nat) (exch : Int) (ms : Nat) : Heater :=
  { h with
    level := n
    blower := { h.blower with
      duty := (levelRecord h n).duty
      dutySince := if h.blower.duty = 0 ∧ 0 < (levelRecord h n).duty then ms else h.blower.dutySince }
    fuel := { h.fuel with staged := some (levelRecord h n).interval }
    flameRef := exch
    timers := { h.timers with
      lowSpeed := none
      dwell := if h.state = .run then some (ms + 1000 * h.seq.dwell) else h.timers.dwell } }

/-- R91: the heater with a level above `n` lowered to `n` at `ms`. -/
def lowered (h : Heater) (n : Nat) (exch : Int) (ms : Nat) : Heater := if n < h.level then atLevel h n exch ms else h

/-- R88: the heater enters RUN from RAMP at `ms`, at the level it is at, with its dwell started. -/
def intoRun (h : Heater) (exch : Int) (ms : Nat) : Heater :=
  { h with
    state := .run
    glowSince := none
    blower := { h.blower with
      duty := (levelRecord h h.level).duty
      dutySince := if h.blower.duty = 0 ∧ 0 < (levelRecord h h.level).duty then ms else h.blower.dutySince }
    flameRef := exch
    timers := { noHeaterTimers with lowSpeed := h.timers.lowSpeed, dwell := some (ms + 1000 * h.seq.dwell) }
    cause := .none }

/-- R97: the speed watch at a published sweep: a speed below the level's minimum starts the 5 s of a slow blower, another ends
them. -/
def speedWatched (h : Heater) (ms : Nat) : Heater :=
  let rpm := match h.blower.lastTach with
    | none => h.blower.rpm
    | some at_ => if at_ + 2000 ≤ ms then 0 else h.blower.rpm
  { h with timers := { h.timers with
    lowSpeed := if rpm < (levelRecord h h.level).minRpm then some (h.timers.lowSpeed.getD (ms + 5000)) else none } }

/-- R90, R92: the wished level in RUN. -/
def runLevel (d : Device) : Nat :=
  let cab := d.sns.analog.tCab
  let e := d.htr.setpoint - cab.value
  let n := d.htr.level
  if cab.status ≠ .ok then min d.htr.limits.fallback (topLevel d)
  else if 30 ≤ e then topLevel d
  else if 10 ≤ e then min (n + 1) (topLevel d)
  else if -9 ≤ e then n
  else max 1 (n - 1)

/-- R54: HEATER's grant after its entry is written with a request. -/
def grantAfter (d : Device) (request : Nat) : Nat := (writtenEntry d.bgt.table.heater request 1 d.sns.uptime).granted

/-- R54: HEATER's entry already asks for `request` with a floor of 1, so that a write of these changes nothing. -/
def asksAlready (d : Device) (request : Nat) : Prop :=
  d.bgt.table.heater.requested = request ∧ d.bgt.table.heater.floor = 1

/-- R94 to R96: the states a failed or overheated exchanger ends in a cooldown: a burn, or a purge that is not forced. -/
def burns (h : Heater) : Prop :=
  h.state = .glow ∨ h.state = .ignite ∨ h.state = .ramp ∨ h.state = .run ∨ h.state = .purge ∧ h.marks.forcedPurge = false

/-- R54, R79, R88, R91: a wished level `w` set in RAMP: the entry asks for it, the level is held within the grant that this write
leaves, which no longer stands above a fallen wish (log 14), and the ramp ends once the level is at or above the least of the wished
level, the grant and the maximum allowed level. `watch` is what the sweep does beside. -/
def rampWishes (d t : Device) (w : Nat) (watch : Heater → Heater) : Prop :=
  let exch := d.sns.analog.tExch.value
  let bound := min (grantAfter d w) (topLevel d)
  let h := lowered { d.htr with wished := w } (max 1 bound) exch d.sns.ms
  let ends := min w bound ≤ h.level
  t.htr = watch (if ends then intoRun h exch d.sns.ms else h) ∧
  heaterWrote d t w 1 false ∧ (asksAlready d w → t.bgt = d.bgt) ∧
  t.bgt.allowance = d.bgt.allowance ∧ heaterPosted d t ∧ calm d t

/-- R85: the flame is proved: the allowance is released and the heater enters RAMP at level 1, and RUN at once where the ramp has
nothing to raise, by the wished level that stands (log 45). The proof reports no cause (log 46). -/
def flameProved (d t : Device) : Prop :=
  let ms := d.sns.ms
  let exch := d.sns.analog.tExch.value
  let h0 := { d.htr with
    state := .ramp, glowSince := none, cause := .none
    timers := { noHeaterTimers with ramp := some (ms + 20000) } }
  let h := { h0 with
    level := 1
    blower := (atLevel h0 1 exch ms).blower
    fuel := { d.htr.fuel with staged := some (levelRecord d.htr 1).interval } }
  let grant := (writtenEntry d.bgt.table.heater d.htr.wished 1 d.sns.uptime).granted
  let ends := min d.htr.wished (min grant (topLevel d)) ≤ 1
  t.htr = speedWatched (if ends then intoRun h exch ms else h) ms ∧
  heaterWrote d t d.htr.wished 1 false ∧ t.bgt.allowance = heaterReleased d.bgt.allowance ms ∧
  t.lnk.notices = (if ends then post .heaterState (post .heaterState d) else post .heaterState d).lnk.notices ∧ calm d t

/-- R89: a flame loss: a second within 1,800 s is the fault and leads to a lockout; else one more attempt is given. -/
def lossActs (d t : Device) : Prop :=
  let h := d.htr
  let ms := d.sns.ms
  let recent := ∃ u, h.flameLoss = some u ∧ (d.sns.uptime + (4294967296 - u)) % 4294967296 ≤ 1800
  let purged := fun (h' : Heater) (cause : HeaterCause) =>
    t.htr = heaterTo h' .purge (if h.marks.forcedPurge = true then 1000 else h.seq.purgeDuty) none cause
      { noHeaterTimers with purge := some (ms + 1000 * h.seq.purgeTime) } ms ∧
    heaterWrote d t 1 1 false ∧ t.bgt.allowance = d.bgt.allowance
  (recent → purged { h with faults := faultsWith d .flameLoss, marks := { h.marks with lockoutPending := true } } .none ∧
    faultNoticed d t ∧ faultShown d t ms) ∧
  (¬recent → purged { h with flameLoss := some d.sns.uptime, attempts := h.seq.attempts - 1 } .flameRelight ∧
    heaterPosted d t ∧ calm d t)

/-- R54, R79, R89 to R93: a published sweep in RUN without a flame loss: the entry asks for the wished level; one below the level
lowers the grant with it, and the lowered grant the level, at once (log 14); a level below it is raised under the dwell, within the
grant and the maximum allowed level. -/
def runs (d t : Device) : Prop :=
  let ms := d.sns.ms
  let exch := d.sns.analog.tExch
  let cab := d.sns.analog.tCab
  let e := d.htr.setpoint - cab.value
  let w := runLevel d
  let h := { d.htr with wished := w, flameRef := if exch.status = .ok then max d.htr.flameRef exch.value else d.htr.flameRef }
  let due := ∀ at_, h.timers.dwell = some at_ → at_ ≤ ms
  let n := if w < h.level then w
    else if due ∧ h.level < w ∧ h.level < d.bgt.table.heater.granted ∧ h.level < topLevel d then h.level + 1 else h.level
  let h' := if n = h.level then h else atLevel h n exch.value ms
  let pause := if n = 1 ∧ e ≤ -20 then some (h.timers.pause.getD (ms + 1000 * h.seq.pauseDelay)) else none
  t.htr = speedWatched
    { h' with timers := { h'.timers with pause := if cab.status = .ok then pause else h.timers.pause } } ms ∧
  heaterWrote d t w 1 false ∧ (asksAlready d w → t.bgt = d.bgt) ∧
  t.bgt.allowance = d.bgt.allowance ∧ t.lnk = d.lnk ∧ calm d t

/-- R105: a pending return of the heat level table to its defaults, made. -/
def tableReturned (d : Device) : Device :=
  if d.htr.marks.tableDefault = true then
    { d with
      htr := { d.htr with table := defaultHeatTable, marks := { d.htr.marks with tableDefault := false } }
      bgt := { d.bgt with table := { d.bgt.table with
        heater := { d.bgt.table.heater with steps := 0 :: defaultHeatTable.map (·.current) } } } }
  else d

/-- R82: the heater record with which a start that keeps its setpoint begins. -/
def startedAgain (d : Device) : Heater :=
  { d.htr with
    attempts := 0
    marks := { d.htr.marks with restartPending := false, lockoutPending := false }
    wished := startLevel d d.htr.setpoint }

/-- R99: a cooldown of cause `cause` that ends normally completes. Its restart leaves out the check of the turning blower. -/
def coolingEnds (d t : Device) (cause : CooldownCause) : Prop :=
  let h := d.htr
  let ms := d.sns.ms
  let d1 := tableReturned d
  let checks := (startConditions d1).eraseIdx 3
  (h.marks.lockoutPending = true → locksOut d t h (.cooling cause) ms ∧ heaterPosted d t) ∧
  (h.marks.lockoutPending = false → h.marks.restartPending = true →
    ((∀ p ∈ checks, p.1) → lightsUp d1 t (startedAgain d1) ms) ∧
    (∀ r, (∃ before c after, checks = before ++ (c, r) :: after ∧ (∀ p ∈ before, p.1) ∧ ¬c) →
      t.htr = heaterTo h .off 0 none (.refusal r) noHeaterTimers ms ∧ heaterWrote d t 0 0 true ∧ heaterPosted d t)) ∧
  (h.marks.lockoutPending = false → h.marks.restartPending = false →
    (cause = .pause → t.htr = { heaterTo h .paused 0 none (.cooling cause) noHeaterTimers ms with lastRestart := none } ∧
      heaterWrote d t 0 0 false) ∧
    (cause ≠ .pause → t.htr = heaterTo h .off 0 none (.cooling cause) noHeaterTimers ms ∧ heaterWrote d t 0 0 true) ∧
    heaterPosted d t) ∧
  calm d t

/-- R76: a heat level table that may be loaded. -/
def tableFits (table : List HeatLevel) : Prop :=
  table.length = 6 ∧
  (∀ l ∈ table, liesIn 300 5000 l.interval ∧ liesIn 100 1000 l.duty ∧ l.minRpm ≤ 10000 ∧ l.current ≤ 20000) ∧
  (table.map (·.interval)).Pairwise (· > ·) ∧ (table.map (·.duty)).Pairwise (· < ·)

/-- R77 and section 5.1: sequence settings that may be taken. -/
def sequenceFits (q : SeqSettings) : Prop :=
  liesIn 20 80 q.pulseWidth ∧ liesIn 10 60 q.glowTime ∧ liesIn 300 5000 q.ignInterval ∧ liesIn 100 1000 q.ignDuty ∧
  liesIn 50 500 q.flameRise ∧ liesIn 30 90 q.flameWindow ∧ liesIn 1 3 q.attempts ∧ liesIn 500 1000 q.purgeDuty ∧
  liesIn 30 300 q.purgeTime ∧ liesIn 300 1000 q.coolDuty ∧ liesIn 200 1500 q.coolEnd ∧ liesIn 60 600 q.coolMin ∧
  liesIn 300 1800 q.coolMax ∧ liesIn 1500 2500 q.softLimit ∧ liesIn 50 500 q.lossDrop ∧ liesIn 10 600 q.dwell ∧
  liesIn 60 1800 q.pauseDelay ∧ q.coolMin < q.coolMax ∧ q.pulseWidth < q.ignInterval

/-- R77 and section 5.1: level limits that may be taken. -/
def limitsFit (q : LevelLimits) : Prop := liesIn 1 6 q.hostMax ∧ liesIn 1 6 q.quietMax ∧ liesIn 1 6 q.fallback

/-- R76, R77: what the bodies of HEATER_CONFIG's parts carry. -/
def tableIn (body : List Byte) : List HeatLevel :=
  (List.range 6).map fun k =>
    { interval := num2 body (1 + 8 * k), duty := num2 body (3 + 8 * k), minRpm := num2 body (5 + 8 * k)
      current := num2 body (7 + 8 * k) }
def sequenceIn (body : List Byte) : SeqSettings :=
  { pulseWidth := num1 body 1, glowTime := num1 body 2, ignInterval := num2 body 3, ignDuty := num2 body 5
    flameRise := num2 body 7, flameWindow := num1 body 9, attempts := num1 body 10, purgeDuty := num2 body 11
    purgeTime := num2 body 13, coolDuty := num2 body 15, coolEnd := num2 body 17, coolMin := num2 body 19
    coolMax := num2 body 21, softLimit := num2 body 23, lossDrop := num2 body 25, dwell := num2 body 27
    pauseDelay := num2 body 29 }
def limitsIn (body : List Byte) : LevelLimits :=
  { hostMax := num1 body 1, quietMax := num1 body 2, fallback := num1 body 3 }

/-- R91: from `d`, whose level limits are the new ones, to `t`: in RAMP and RUN the level stays, or is lowered to the maximum
allowed level at once, the flame reference restarting from the T_EXCH published last (log 23), as it does where the ramp ends; the
wished level is worked out afresh, and the entry asks for it; one below the level lowers grant and level with it (log 14). -/
def limitsAct (d t : Device) : Prop :=
  let h := d.htr
  let exch := d.sns.analog.tExch.value
  let h' := lowered h (max 1 (topLevel d)) exch d.sns.ms
  let u := { d with htr := h' }
  (h.state = .ramp → rampWishes u t (startLevel d h.setpoint) id) ∧
  (h.state = .run →
    let w := runLevel u
    t.htr = lowered { h' with wished := w } w exch d.sns.ms ∧ heaterWrote d t w 1 false ∧ t.bgt.allowance = d.bgt.allowance ∧
    (asksAlready d w → t.bgt = d.bgt) ∧ t.lnk.notices = d.lnk.notices)

end Sys2Proof.Stated

/-- R76, R77, R88, R89, R91: a good HEATER_CONFIG is answered OK. Part 0, in OFF or LOCKOUT, replaces the heat level table and
copies its currents into HEATER's step list as steps 1 to 6; part 1, in OFF, PAUSED or LOCKOUT, replaces the sequence settings; in
any other state they are answered BUSY and change nothing. Part 2 replaces the level limits in every state; in RAMP and RUN a level
above the maximum allowed level is lowered to it at once, with its blower duty, staged interval and, in RUN, dwell, and the wished
level is worked out afresh, ends a ramp and goes into the entry, a fall below the level lowering grant and level with it (log 14).
A lowered level, and the end of a ramp, restart the flame reference (R89), here between sweeps from the T_EXCH published last (log
23). In the other states nothing else changes. A part out of its ranges is answered BAD_VALUE, parts 0 and 1 after the check of the
state, with nothing changed but the link. -/
def Obligations.HeaterConfigReplacesSettings : Prop :=
  ∀ (s : State) (tag : Byte), noneInHand s.dev →
    let h := s.dev.htr
    let tables := h.state = .off ∨ h.state = .lockout
    let sequences := tables ∨ h.state = .paused
    (∀ table : List HeatLevel, tableFits table →
      let body := 0x00 :: table.flatMap fun l => u16 l.interval ++ u16 l.duty ++ u16 l.minRpm ++ u16 l.current
      tables → Runs (.heaterConfigLevelTable tag body) s fun t =>
        RepliedQuietly s.dev t 0x20 tag body 0x00 [] ∧
        t = { s.dev with
          htr := { h with table := table, marks := { h.marks with tableDefault := false } }
          bgt := { s.dev.bgt with table := { s.dev.bgt.table with
            heater := { s.dev.bgt.table.heater with steps := 0 :: table.map (·.current) } } }
          lnk := t.lnk }) ∧
    (∀ q : SeqSettings, sequenceFits q →
      let body := 0x01 :: (u8 q.pulseWidth ++ u8 q.glowTime ++ u16 q.ignInterval ++ u16 q.ignDuty ++ u16 q.flameRise ++
        u8 q.flameWindow ++ u8 q.attempts ++ u16 q.purgeDuty ++ u16 q.purgeTime ++ u16 q.coolDuty ++ u16 q.coolEnd ++
        u16 q.coolMin ++ u16 q.coolMax ++ u16 q.softLimit ++ u16 q.lossDrop ++ u16 q.dwell ++ u16 q.pauseDelay)
      sequences → Runs (.heaterConfigSequence tag body) s fun t =>
        RepliedQuietly s.dev t 0x20 tag body 0x00 [] ∧ t = { s.dev with htr := { h with seq := q }, lnk := t.lnk }) ∧
    (∀ q : LevelLimits, limitsFit q →
      let body := 0x02 :: (u8 q.hostMax ++ u8 q.quietMax ++ u8 q.fallback)
      let d1 := { s.dev with htr := { h with limits := q } }
      Runs (.heaterConfigLimits tag body) s fun t =>
        Replied s.dev t 0x20 tag body 0x00 [] ∧ t.htr.limits = q ∧
        (h.state = .ramp ∨ h.state = .run → budgetSound s.dev → levelHeld s.dev → limitsAct d1 t ∧ t.htr.level ≤ topLevel t) ∧
        (h.state ≠ .ramp → h.state ≠ .run → t = { d1 with lnk := t.lnk } ∧ t.lnk.notices = s.dev.lnk.notices) ∧
        heaterFrame s.dev t s.dev.sns.ms ∧ calm s.dev t) ∧
    (∀ c ∈ heaterConfigs, ∀ body : List Byte,
      let answers := Refused (c tag body) s 0x20 tag body
      (body.length = 49 → num1 body 0 = 0 →
        (¬tables → answers 0x01) ∧ (tables → ¬tableFits (tableIn body) → answers 0x04)) ∧
      (body.length = 31 → num1 body 0 = 1 →
        (¬sequences → answers 0x01) ∧ (sequences → ¬sequenceFits (sequenceIn body) → answers 0x04)) ∧
      (body.length = 4 → num1 body 0 = 2 → ¬limitsFit (limitsIn body) → answers 0x04))

/-- R85, R88 to R90, R92 to R95, R97, R99: what a published sweep does to the heater, taken as MEASUREMENT_SWEEP hands it over
(SweepPublishesChannels), in this model's order (log 18). T_EXCH failing from OK, and an exchanger at its soft limit, are faults: a
burn or a purge that is not forced ends in a COOLDOWN with lockout-on-completion, a forced purge or a cooldown takes the mark alone
(the overheat), and a wait ends in OFF with the reason SENSOR (the failure). Otherwise the sweep tests the flame in IGNITE; works
out the wished level in RAMP and RUN, which goes into the entry as the request, raises no level but under the dwell, and by a fall
below the level lowers grant and level with it (log 14); finds a flame loss and watches for the pause in RUN (a pause timer that
runs is left while T_CAB is not OK, log 19); ends a COOLDOWN (a refused restart leaves its mark, log 29); and starts again from
PAUSED when the cab wants heat (the sixth check by the step currents as they stand, log 48), a refusal being posted when its reason
is new. In RAMP and RUN the blower speed is watched, last, against the new level's minimum (log 18). That the test on entry to RAMP
uses the wished level that stands (log 45), that the entries to RAMP and RUN report no cause and a completed cooldown its own (log
46), and that the cooldown record is kept (log 41), are the model's choices. -/
def Obligations.SweepMovesHeater : Prop :=
  ∀ (d : Device) (wasOk : Bool), budgetSound d → levelHeld d → 1 ≤ d.htr.seq.coolMin →
    let t := heaterSweep wasOk d
    let h := d.htr
    let ms := d.sns.ms
    let exch := d.sns.analog.tExch
    let cab := d.sns.analog.tCab
    let fails := wasOk = true ∧ exch.status.failed = true
    let hot := exch.status = .ok ∧ (h.seq.softLimit : Int) ≤ exch.value ∧ h.marks.lockoutPending = false
    let marks := { h.marks with lockoutPending := true }
    let passed := ∀ at_, h.timers.coolMin = some at_ → at_ ≤ ms
    let cold := fun c : Cooldown => passed ∧ exch.status = .ok ∧ exch.value < c.endTemp
    heaterFrame d t ms ∧ t.lnk = { d.lnk with notices := t.lnk.notices } ∧
    (fails → burns h → coolsDown d t { h with faults := faultsWith d .sensor, marks := marks } .sensor ms ∧
      faultNoticed d t ∧ faultShown d t ms) ∧
    (fails → h.state = .waitInrush → t.htr = heaterTo h .off 0 none (.refusal .sensor) noHeaterTimers ms ∧ heaterWrote d t 0 0 true ∧
      t.bgt.allowance = heaterWithdrawn d.bgt.allowance ms ∧ heaterPosted d t ∧ calm d t) ∧
    (hot → burns h → coolsDown d t { h with faults := faultsWith d .overheatSoft, marks := marks } .overheat ms ∧
      faultNoticed d t ∧ faultShownAs 3 d t ms) ∧
    (hot → h.state = .purge ∧ h.marks.forcedPurge = true ∨ h.state = .cooldown ∧ (∀ c, h.cool = some c → ¬cold c) ∧ h.cool ≠ none →
      t.htr = { h with faults := faultsWith d .overheatSoft, marks := marks } ∧ t.bgt = d.bgt ∧
      faultNoticed d t ∧ faultShownAs 3 d t ms) ∧
    (¬fails → ¬hot → h.state = .glow ∨ h.state = .purge ∨ h.state = .waitInrush → t = d) ∧
    (h.state = .off ∨ h.state = .lockout → t = d) ∧
    (¬fails → ¬hot → h.state = .ignite →
      let proved := exch.status = .ok ∧ h.flameBase + (h.seq.flameRise : Int) ≤ exch.value
      (proved → flameProved d t) ∧ (¬proved → t = d)) ∧
    (¬fails → ¬hot → h.state = .ramp → rampWishes d t (startLevel d h.setpoint) fun x => speedWatched x ms) ∧
    (¬fails → ¬hot → h.state = .run →
      let lost := exch.status = .ok ∧ exch.value < h.flameRef - (h.seq.lossDrop : Int)
      (lost → lossActs d t) ∧ (¬lost → runs d t)) ∧
    (∀ c, ¬hot ∧ h.state = .cooldown → h.cool = some c → (cold c → coolingEnds d t c.cause) ∧ (¬cold c → t = d)) ∧
    (h.state = .paused →
      let wants := cab.status ≠ .ok ∨ 10 ≤ h.setpoint - cab.value
      (wants → startMayBeMade d → lightsUp d t (startedAgain d) ms ∧ calm d t) ∧
      (∀ r, wants → startFailsWith d r →
        (h.lastRestart = some r → t = d) ∧
        (h.lastRestart ≠ some r → t =
          post .heaterState { d with htr := { h with lastRestart := some r, cause := .refusal r } })) ∧
      (¬wants → t = d))

/-! ## Compressor Drive (chapter 6) -/

namespace Sys2Proof.Stated

/-- What a step of the compressor may touch, beside its own record and the indications: the time base, which reads `ms`, the current
path, the Hall code, COMPRESSOR's entry, the passes due, the allowance, and the link. -/
def compFrame (d t : Device) (ms : Nat) (hall : HallCode) : Prop :=
  t = { d with
    pins := { d.pins with hall := hall }
    sns := { d.sns with ms := ms, current := t.sns.current }
    bgt := { d.bgt with
      table := { d.bgt.table with compressor := t.bgt.table.compressor }
      passesDue := t.bgt.passesDue
      allowance := t.bgt.allowance }
    cmp := t.cmp
    lgt := t.lgt
    lnk := { t.lnk with enables := d.lnk.enables, idleTime := d.lnk.idleTime } }

/-- R126: the notice table after FRIDGE_STATE has been posted `n` times, once for each ground (log 40). -/
def fridgePosted (d t : Device) (n : Nat) : Prop := t.lnk.notices = (Nat.repeat (post .fridgeState) n d).lnk.notices

/-- R108: the entry written with a request and a floor of 0, and the pass that a changed request or floor triggers (log 17). -/
def compWrote (d t : Device) (request : Nat) : Prop :=
  let e := d.bgt.table.compressor
  let e' := writtenEntry e request 0 d.sns.uptime
  t.bgt.table.compressor = e' ∧
  t.bgt.passesDue = d.bgt.passesDue + (if e'.requested = e.requested ∧ e'.floor = e.floor then 0 else 1)

/-- R65: the allowance after the compressor's release at `ms`. -/
def compReleased (a : Allowance) (ms : Nat) : Allowance :=
  if a.state = .held .compressor then { a with state := .settling, hold := none, settle := some (ms + 2000) } else a

/-- R65: the allowance after the compressor's withdrawal at `ms`. -/
def compWithdrawn (a : Allowance) (ms : Nat) : Allowance :=
  { compReleased a ms with waiting := a.waiting.filter fun l => decide (l ≠ .compressor) }

/-- The timers of a state in which the bridge is off: the phase timer and the off timer, which an exit from START or RUN starts. -/
def restTimers (c : Compressor) (ms : Nat) : CompTimers :=
  { noCompTimers with
    phase := c.timers.phase
    offSince := if c.state = .start ∨ c.state = .run then some ms else c.timers.offSince }

/-- R118: a leg given a role, with the bridge held off or not: a gate is on only when its role asks for it, nothing holds the
bridge, and the dead time that the other gate's turning off has begun is over. -/
def legBecomes (g : LegState) (role : LegRole) (held : Bool) : LegState :=
  let high := decide (role = .pwm ∧ held = false)
  let low := decide (role = .low ∧ held = false)
  { role := role
    waitHigh := g.waitHigh || (g.low && !low)
    waitLow := g.waitLow || (g.high && !high)
    high := high && !(g.waitHigh || (g.low && !low))
    low := low && !(g.waitLow || (g.high && !high)) }

/-- R118: the bridge held off: each leg keeps its role with its gates off, and a gate whose partner the hold turned off waits for
its dead time, which counts once nothing holds the bridge (log 22). -/
def bridgeStopped (b : Bridge) : Bridge :=
  { u := legBecomes b.u b.u.role true, v := legBecomes b.v b.v.role true, w := legBecomes b.w b.w.role true }

/-- R118: the bridge in a state that does not drive it: every gate off; while the overcurrent latch or DIN6's raw level holds it, no
dead time counts, so a gate that had to wait still has to; else nothing waits (log 22). -/
def bridgeParked (b : Bridge) (held : Bool) : Bridge :=
  if held = true then { u := legBecomes b.u .float true, v := legBecomes b.v .float true, w := legBecomes b.w .float true }
  else idleBridge

/-- R108, R110 to R114, R123: from `d` with the compressor record `c`, a state in which the bridge is off is entered, with the
timers given: all six gates are off (R118) and rpm is 0; with demand absent W is 0 in STOPPING, STALL_BACKOFF and BLOCKED; the entry
is written, C is the lesser of W and the grant. `a` is the allowance before the write, which takes a load with a grant of 0 off the
waiting list. -/
def compRests (d t : Device) (c : Compressor) (st : CompState) (timers : CompTimers) (a : Allowance) : Prop :=
  let w := if c.demand = false ∧ (st = .stopping ∨ st = .stallBackoff ∨ st = .blocked) then 0 else c.wished
  let asks := if st = .disabled ∨ st = .stopping ∨ st = .stallBackoff ∨ st = .blocked then 0 else w
  t.cmp = { c with
    state := st
    wished := w
    commanded := min w t.bgt.table.compressor.granted
    deferred := false
    bridge := bridgeParked c.bridge (c.latch || rawOf d 6)
    window := { c.window with rpm := 0 }
    timers := timers } ∧
  compWrote d t asks ∧
  t.bgt.allowance = { a with waiting :=
    if t.bgt.table.compressor.granted = 0 then a.waiting.filter fun l => decide (l ≠ .compressor) else a.waiting } ∧
  t.sns.current = (if c.state = .run then { sum := 0, count := 0 } else d.sns.current) ∧ fridgePosted d t (if st = c.state then 0 else 1)

/-- R114: from `d` with the compressor record `c`, STOPPING is entered. -/
def compStops (d t : Device) (c : Compressor) (a : Allowance) (ms : Nat) : Prop :=
  compRests d t c .stopping { restTimers c ms with coast := some (ms + 1000) } a

/-- R123, R126: a failure of a kind, from START or RUN with the compressor record `c`: it is posted, and so is the change of state.
-/
def compFailsWith (d t : Device) (c : Compressor) (k : FailKind) (ms : Nat) : Prop :=
  let n := min 255 (c.failures + 1)
  let c' := { c with failures := n, lastFailure := some { kind := k, uptime := d.sns.uptime } }
  let a := compReleased d.bgt.allowance ms
  let d1 := post .fridgeState d
  (n < 3 → compRests d1 t c' .stallBackoff { restTimers c ms with backoff := some (ms + 60000) } a ∧ t.lgt = d.lgt) ∧
  (3 ≤ n → compRests d1 t c' .blocked { restTimers c ms with blocked := some (ms + 1800000) } a ∧
    t.lgt = (postIndication .cmp 1 true (reach ms d)).lgt)

/-- R109, R113: from `d` with the compressor record `c`, a cut-out: a run that counts, ended within 600 s of its cut-in, lowers L by
1, down to 1; STOPPING is entered. -/
def compCutsOut (d t : Device) (c : Compressor) (ms : Nat) : Prop :=
  let short := ∃ u, c.cutIn = some u ∧ (d.sns.uptime + (4294967296 - u)) % 4294967296 < 600
  t.lgt = d.lgt ∧
  (c.learning = true ∧ short → compStops d t { c with learned := max 1 (c.learned - 1) } d.bgt.allowance ms) ∧
  (c.learning = false ∨ ¬short → compStops d t c d.bgt.allowance ms)

/-- R116: the PWM leg and the low leg of a Hall code in order A; codes 0 and 7 have none. -/
def legsA (code : Nat) : Option (Leg × Leg) :=
  match code with
  | 1 => some (.u, .v)
  | 3 => some (.u, .w)
  | 2 => some (.v, .w)
  | 6 => some (.v, .u)
  | 4 => some (.w, .u)
  | 5 => some (.w, .v)
  | _ => none

/-- R116: the role of a leg in the pattern of a Hall code; order B exchanges the high and low legs. -/
def roleIn (o : CommOrder) (code : Nat) (l : Leg) : LegRole :=
  match legsA code with
  | none => .float
  | some (x, y) =>
    let pwm := if o = .a then x else y
    let low := if o = .a then y else x
    if l = pwm then .pwm else if l = low then .low else .float

/-- The bridge given the pattern of a Hall code. -/
def bridgeBecomes (b : Bridge) (o : CommOrder) (code : Nat) (held : Bool) : Bridge :=
  { u := legBecomes b.u (roleIn o code .u) held
    v := legBecomes b.v (roleIn o code .v) held
    w := legBecomes b.w (roleIn o code .w) held }

/-- A valid Hall code (R115). -/
def hallValid (code : Nat) : Prop := 1 ≤ code ∧ code ≤ 6

/-- R112: the compressor record on entry to START at `ms` with a grant, the overcurrent latch as DIN6's raw level leaves it. -/
def startRecord (c : Compressor) (granted ms : Nat) (latch : Bool) : Compressor :=
  { c with
    state := .start
    commanded := min c.wished granted
    deferred := false
    grantTime := some ms
    latch := latch
    window := { intervals := [], edges := 0, rpm := 0, first := true }
    staged := 100
    orderNow := c.settings.order
    deadTimeNow := c.settings.deadTime
    polePairsNow := c.settings.polePairs
    timers := { noCompTimers with
      phase := c.timers.phase, offSince := c.timers.offSince
      stall := some (ms + 250), start := some (ms + 3000), dutyRamp := some (ms + 200) } }

/-- R66, R108, R126: `d` on entry to START at `ms`: the allowance held, the entry written, FRIDGE_STATE posted. -/
def startWritten (d : Device) (c : Compressor) (ms : Nat) : Device :=
  let e := d.bgt.table.compressor
  let e' := writtenEntry e c.wished 0 d.sns.uptime
  { d with
    bgt := { d.bgt with
      table := { d.bgt.table with compressor := e' }
      passesDue := d.bgt.passesDue + (if e'.requested = e.requested ∧ e'.floor = e.floor then 0 else 1)
      allowance := { d.bgt.allowance with state := .held .compressor, hold := some (ms + 5000), settle := none } }
    lnk := (post .fridgeState d).lnk }

/-- R112: from `d` with the compressor record `c`, the allowance being granted, START is entered; with DIN6's raw level active it
fails at once with OVERCURRENT, with a Hall code of 0 or 7 with HALL, and the failure releases the allowance. Gates that the hold
kept waiting wait on for their dead time, which counts now that the latch is cleared (R118, log 22). -/
def compStarts (d t : Device) (c : Compressor) (ms : Nat) : Prop :=
  let hall := d.pins.hall.toNat
  let u := startWritten d c ms
  let c' := startRecord c u.bgt.table.compressor.granted ms (rawOf d 6)
  (rawOf d 6 = true → compFailsWith u t c' .overcurrent ms) ∧
  (rawOf d 6 = false → ¬hallValid hall → compFailsWith u t c' .hall ms) ∧
  (rawOf d 6 = false → hallValid hall →
    t.cmp = { c' with bridge := bridgeBecomes c.bridge c.settings.order hall false } ∧
    t.bgt = u.bgt ∧ t.sns.current = d.sns.current ∧ t.lgt = d.lgt ∧ t.lnk.notices = u.lnk.notices)

/-- R110, R111: from `d` with the compressor record `c`, WAIT_INRUSH is entered and the allowance requested: FREE, it is granted
at once and START follows; taken, the compressor waits; CRITICAL, or with the grant cut to 0, it is denied, the off timer starts,
and the compressor is back in OFF_HOLD. A request by a compressor that holds it or waits already is ignored. -/
def compRequests (d t : Device) (c : Compressor) (ms : Nat) : Prop :=
  let a := d.bgt.allowance
  let apart := a.state ≠ .held .compressor ∧ .compressor ∉ a.waiting
  let granted := (writtenEntry d.bgt.table.compressor c.wished 0 d.sns.uptime).granted
  let denied := d.chg.uv = .critical ∨ granted = 0
  let d1 := post .fridgeState d
  (apart → ¬denied → a.state = .free →
    compStarts d1 t { c with bridge := bridgeParked c.bridge (c.latch || rawOf d 6) } ms) ∧
  (apart → ¬denied → a.state ≠ .free →
    compRests d t c .waitInrush (restTimers c ms) { a with waiting := a.waiting ++ [.compressor] }) ∧
  (apart → denied → compRests d1 t { c with state := .waitInrush } .offHold { restTimers c ms with offSince := some ms } a) ∧
  (¬apart → granted ≠ 0 → compRests d t c .waitInrush (restTimers c ms) a)

/-- R110: from `d` with the compressor record `c`, OFF_HOLD is entered, and left in the same moment when its conditions hold. -/
def compHolds (d t : Device) (c : Compressor) (ms : Nat) : Prop :=
  let passed := ∀ since, c.timers.offSince = some since → since + 180000 ≤ ms
  let granted := (writtenEntry d.bgt.table.compressor c.wished 0 d.sns.uptime).granted
  let d1 := if c.state = .offHold then d else post .fridgeState d
  let c1 := { c with state := .offHold }
  (¬passed ∨ c.demand = true ∧ granted = 0 → compRests d t c .offHold (restTimers c ms) d.bgt.allowance) ∧
  (passed → c.demand = false → compRests d1 t c1 .idle (restTimers c ms) d.bgt.allowance) ∧
  (passed → c.demand = true → granted ≠ 0 → compRequests d1 t c1 ms)

/-- R108: the quiet cap on a wished step. -/
def capped (d : Device) (cap w : Nat) : Nat := if d.npl.quiet = true then min w cap else w

/-- R108, R124: W while the quiet flag of `d` or the quiet cap has changed: 2 in TIMED mode, L before the demand's first cut-in,
else what it was (log 21), within the cap while quiet hours are active. -/
def wishUnderCap (d : Device) (cap : Nat) : Nat :=
  let c := d.cmp
  capped d cap
    (if c.demand = true ∧ c.mode = .timed then 2 else if c.demand = true ∧ c.hadCutIn = false then c.learned else c.wished)

/-- R54, R108: from `d` with the compressor record `c`, W becomes `w` and the state stays: a changed W is written, 0 being asked
for in DISABLED, STOPPING, STALL_BACKOFF and BLOCKED; C is the lesser of W and the grant. -/
def compWished (d t : Device) (c : Compressor) (w : Nat) : Prop :=
  let asks := if c.state = .disabled ∨ c.state = .stopping ∨ c.state = .stallBackoff ∨ c.state = .blocked then 0 else w
  let a := d.bgt.allowance
  t.cmp = { c with wished := w, commanded := min w t.bgt.table.compressor.granted } ∧
  (w ≠ c.wished → compWrote d t asks ∧ t.bgt.allowance = { a with
    waiting := if t.bgt.table.compressor.granted = 0 then a.waiting.filter fun l => decide (l ≠ .compressor) else a.waiting }) ∧
  (w = c.wished → t.bgt = d.bgt)

/-- R108: the same, and nothing else of the sensors, the lights or the link. -/
def compWishes (d t : Device) (c : Compressor) (w : Nat) : Prop :=
  compWished d t c w ∧ t.sns = d.sns ∧ t.lgt = d.lgt ∧ t.lnk = d.lnk

/-- Whether the minimum off has passed (R110). -/
def offPassed (c : Compressor) (ms : Nat) : Prop := ∀ since, c.timers.offSince = some since → since + 180000 ≤ ms

/-- R106 to R113: from `d`, demand has become present: W is 2 in TIMED mode, L before the demand's first cut-in, else what it was,
within the quiet cap; IDLE is left for OFF_HOLD, and OFF_HOLD for WAIT_INRUSH once the minimum off has passed and a grant stands. -/
def demandArrives (d t : Device) : Prop :=
  let c := { d.cmp with demand := true, deferred := false, hadCutIn := decide (d.cmp.state = .run) }
  let ms := d.sns.ms
  let w := capped d c.settings.quietCap (if c.mode = .timed then 2 else if c.state = .run then c.wished else c.learned)
  let granted := if w = c.wished then d.bgt.table.compressor.granted
    else (writtenEntry d.bgt.table.compressor w 0 d.sns.uptime).granted
  (c.state = .idle → compHolds d t { c with wished := w } ms) ∧
  (c.state = .offHold → offPassed c ms ∧ granted ≠ 0 → compRequests d t { c with wished := w } ms) ∧
  (c.state = .offHold → ¬(offPassed c ms ∧ granted ≠ 0) → compWishes d t c w) ∧
  (c.state ≠ .idle → c.state ≠ .offHold → compWishes d t c w)

/-- R106 to R113: from `d`, demand has become absent: W is 0; OFF_HOLD ends in IDLE with the minimum off passed, WAIT_INRUSH
withdraws and ends in IDLE; START goes on; RUN cuts out once its minimum has passed, and bears the deferred cut-out mark before. -/
def demandLeaves (d t : Device) : Prop :=
  let c := { d.cmp with demand := false }
  let ms := d.sns.ms
  let ran := ∀ u, c.timers.minRun = some u → u ≤ ms
  (c.state = .offHold → offPassed c ms → compRests d t { c with wished := 0 } .idle (restTimers c ms) d.bgt.allowance) ∧
  (c.state = .waitInrush →
    compRests d t { c with wished := 0 } .idle (restTimers c ms) (compWithdrawn d.bgt.allowance ms)) ∧
  (c.state = .start → t = { d with cmp := c }) ∧ (c.state = .run → ¬ran → t = { d with cmp := { c with deferred := true } }) ∧
  (c.state = .run → ran → compCutsOut d t c ms) ∧
  (c.state = .offHold ∧ ¬offPassed c ms ∨ c.state = .disabled ∨ c.state = .idle ∨ c.state = .stopping ∨ c.state = .stallBackoff ∨
    c.state = .blocked → compWishes d t c 0)

/-- R124 and section 6.7: compressor settings that may be taken. -/
def fridgeFits (q : FridgeSettings) : Prop :=
  -200 ≤ q.setpoint ∧ q.setpoint ≤ 100 ∧ liesIn 10 50 q.differential ∧ liesIn 500 4000 q.deadTime ∧ liesIn 2 4 q.polePairs ∧
  liesIn 2000 20000 q.currentLimit ∧ liesIn 1 4 q.quietCap

/-- R124: the settings that FRIDGE_CONFIG's body carries. -/
def fridgeIn (body : List Byte) : FridgeSettings :=
  { setpoint := int2 body 0, differential := num1 body 2, order := if num1 body 3 = 0 then .a else .b, deadTime := num2 body 4
    polePairs := num1 body 6, currentLimit := num2 body 7, quietCap := num1 body 9 }

/-- R120: the target rpm of a commanded step. -/
def stepRpm (c : Nat) : Nat := if c = 0 then 0 else if c = 1 then 2000 else if c = 2 then 2500 else if c = 3 then 3000 else 3500

end Sys2Proof.Stated

/-- R110 to R112, R114, R121, R123: the timers that end a compressor state, each at its own time (log 2). The minimum off lets
OFF_HOLD be left, for IDLE with demand absent; the coast, the backoff and the BLOCKED timer end in OFF_HOLD (where a backoff or
BLOCKED ends with demand absent and the minimum off passed, OFF_HOLD is left for IDLE in the same moment, log 28), in IDLE where a
coast ends with demand absent, and in DISABLED with the enable OFF; BLOCKED leaves a failure count of 2 and severity 0. The start
timer in START and the stall timer in START and RUN are the failures START_FAIL and STALL. That the deferred cut-out mark is clear
outside RUN is the model's choice (log 41). -/
def Obligations.CompressorTimersEndStates : Prop :=
  ∀ (s : State) (at_ : Nat), budgetSound s.dev →
    let c := s.dev.cmp
    let ms := max s.dev.sns.ms at_
    let framed := fun t : Device =>
      compFrame s.dev t ms s.dev.pins.hall ∧ t.lnk = { s.dev.lnk with notices := t.lnk.notices }
    let goesOn := fun (d t : Device) (c' : Compressor) =>
      (c.enable = true → compHolds d t c' ms) ∧
      (c.enable = false → compRests d t { c' with wished := 0 } .disabled (restTimers c ms) s.dev.bgt.allowance)
    (∀ since, c.timers.offSince = some since → at_ = since + 180000 → Runs .minimumOffPassed s fun t =>
      let c' := { c with timers := { c.timers with offSince := none } }
      framed t ∧ (t.cmp.state ≠ .blocked → t.lgt = s.dev.lgt) ∧
      (c.state = .offHold → c.demand = true → s.dev.bgt.table.compressor.granted ≠ 0 → compRequests s.dev t c' ms) ∧
      (c.state = .offHold → c.demand = false → compRests s.dev t c' .idle (restTimers c' ms) s.dev.bgt.allowance) ∧
      (c.state ≠ .offHold ∨ c.demand = true ∧ s.dev.bgt.table.compressor.granted = 0 →
        t = { s.dev with sns := { s.dev.sns with ms := ms }, cmp := c' })) ∧
    (c.state = .stopping → c.timers.coast = some at_ → Runs .stoppingCoastEnd s fun t =>
      framed t ∧ (t.cmp.state ≠ .blocked → t.lgt = s.dev.lgt) ∧
      (c.enable = true → c.demand = true → compHolds s.dev t c ms) ∧
      (c.enable = true → c.demand = false → compRests s.dev t c .idle (restTimers c ms) s.dev.bgt.allowance) ∧
      (c.enable = false → compRests s.dev t { c with wished := 0 } .disabled (restTimers c ms) s.dev.bgt.allowance)) ∧
    (c.state = .stallBackoff → c.timers.backoff = some at_ → Runs .backoffExpiry s fun t =>
      framed t ∧ goesOn s.dev t c ∧ (t.cmp.state ≠ .blocked → t.lgt = s.dev.lgt)) ∧
    (c.state = .blocked → c.timers.blocked = some at_ → Runs .blockedTimerExpiry s fun t =>
      let lgt := (postIndication .cmp 0 false (reach at_ s.dev)).lgt
      framed t ∧ goesOn { s.dev with lgt := lgt } t { c with failures := 2 } ∧ (t.cmp.state ≠ .blocked → t.lgt = lgt)) ∧
    (c.state = .start → c.timers.start = some at_ → Runs .startTimerExpiry s fun t =>
      framed t ∧ compFailsWith s.dev t c .startFail ms) ∧
    (c.state = .start ∨ c.state = .run → c.timers.stall = some at_ → Runs .stallTimerExpiry s fun t =>
      framed t ∧ compFailsWith s.dev t c .stall ms)

/-- R107 to R109, R112, R113: the timers within START and RUN, and the timed phase, each at its own time (log 2). A duty ramp step
adds 50 ‰ to the staged duty, within 100 to 950; the minimum run's end makes a deferred cut-out, which lowers L after a THERMOSTAT
run shorter than 600 s; the 60 s timer clears the failure counter; the raise timer raises L and, within the quiet cap, W. The
timed phase's end turns a demand phase of 600 s into a rest phase of 1,200 s, and back, and demand with it, which acts on the
state in force (a demand that returns in RUN keeps its cut-in, log 21). That the deferred cut-out mark is clear outside RUN is the
model's choice (log 41). -/
def Obligations.CompressorRunTimersAct : Prop :=
  ∀ (s : State) (at_ : Nat), budgetSound s.dev →
    let c := s.dev.cmp
    let ms := max s.dev.sns.ms at_
    let sns := { s.dev.sns with ms := ms }
    let quietly := fun (t : Device) (c' : Compressor) => t = { s.dev with sns := sns, cmp := c' }
    let framed := fun t : Device =>
      compFrame s.dev t ms s.dev.pins.hall ∧ t.lnk = { s.dev.lnk with notices := t.lnk.notices }
    let stop := fun (t : Device) (c' : Compressor) => framed t ∧ compCutsOut s.dev t c' ms
    (c.state = .start → c.timers.dutyRamp = some at_ → Runs .dutyRampStep s fun t =>
      quietly t { c with
        staged := max 100 (min 950 (c.staged + 50)), timers := { c.timers with dutyRamp := some (at_ + 200) } }) ∧
    (c.timers.minRun = some at_ → Runs .minimumRunExpiry s fun t =>
      let c' := { c with timers := { c.timers with minRun := none } }
      (c.state = .run → c.deferred = true → stop t c') ∧ (c.state ≠ .run ∨ c.deferred = false → quietly t c')) ∧
    (c.timers.failReset = some at_ → Runs .failureCounterResetTimer s fun t =>
      quietly t { c with
        failures := if c.state = .run then 0 else c.failures, timers := { c.timers with failReset := none } }) ∧
    (c.state = .run → c.timers.raise = some at_ → Runs .raiseTimerExpiry s fun t =>
      let w := max c.wished (capped s.dev c.settings.quietCap (min 4 (c.wished + 1)))
      framed t ∧ t.sns = sns ∧ t.lgt = s.dev.lgt ∧ t.lnk = s.dev.lnk ∧
      compWished s.dev t
        { c with learned := min 4 (c.learned + 1), timers := { c.timers with raise := some (at_ + 900000) } } w) ∧
    (c.timers.phase = some at_ → Runs .timedPhaseExpiry s fun t =>
      framed t ∧ t.cmp.enable = c.enable ∧ t.cmp.mode = c.mode ∧ t.cmp.settings = c.settings ∧
      (c.state = .blocked ∨ t.cmp.state ≠ .blocked → t.lgt = s.dev.lgt) ∧
      (c.phase = .demand → t.cmp.phase = .rest ∧ t.cmp.timers.phase = some (at_ + 1200000) ∧ t.cmp.demand = false ∧
        (let d := { s.dev with
           sns := sns, cmp := { c with phase := .rest, timers := { c.timers with phase := some (at_ + 1200000) } } }
         (c.demand = true → demandLeaves d t) ∧ (c.demand = false → t = d))) ∧
      (c.phase = .rest → t.cmp.phase = .demand ∧ t.cmp.timers.phase = some (at_ + 600000) ∧ t.cmp.demand = true ∧
        (let d := { s.dev with
           sns := sns, cmp := { c with phase := .demand, timers := { c.timers with phase := some (at_ + 600000) } } }
         (c.demand = false → demandArrives d t) ∧ (c.demand = true → t = d))))

/-- R9, R115 to R122: a Hall edge. Outside START and RUN the code is followed and drives no gate. In START and RUN it applies the
new code's pattern within the dead time, retriggers the stall timer, and adds its interval to the window of six, the first edge
after START adding none. The sixth new interval completes the window: rpm is 60,000,000 / (sum × pole pairs), free for a sum of 0
(log 11); in START 1,500 rpm or more enter RUN with the allowance released; in RUN the staged duty follows the mean current, the
current limit and the target of the commanded step. A change to an invalid code is the failure HALL in START and RUN and ignored
elsewhere. A code that is the present one is no change, and neither command takes it for one (log 36). That a revolution without
samples keeps the last mean current, and that the deferred cut-out mark is clear outside RUN, are the model's choices (log 41). -/
def Obligations.HallEdgeCommutatesAndRegulates : Prop :=
  ∀ (s : State) (code : HallCode) (us : Nat), budgetSound s.dev →
    let c := s.dev.cmp
    let ms := s.dev.sns.ms
    let pins := { s.dev.pins with hall := code }
    let drives := c.state = .start ∨ c.state = .run
    let held := c.latch || rawOf s.dev 6
    let all := c.window.intervals ++ [us]
    let kept := if 6 < all.length then all.drop 1 else all
    let bridge := bridgeBecomes c.bridge c.orderNow code.toNat held
    let timers := { c.timers with stall := some (ms + 250) }
    let pairs := c.polePairsNow
    let path := s.dev.sns.current
    let mean := if path.count = 0 then none else some (path.sum / path.count)
    (code = s.dev.pins.hall → Runs (.hallEdge code us) s (fun t => t = s.dev) ∧ Runs (.hallCodeInvalid code) s (fun t => t = s.dev)) ∧
    (hallValid code.toNat → code ≠ s.dev.pins.hall → Runs (.hallEdge code us) s fun t =>
      (¬drives → t = { s.dev with pins := pins }) ∧
      (drives → c.window.first = true → c.window.edges ≠ 6 →
        t = { s.dev with pins := pins
                         cmp := { c with bridge := bridge, window := { c.window with first := false }, timers := timers } }) ∧
      (drives → c.window.first = false → c.window.edges ≠ 5 →
        t = { s.dev with pins := pins
                         cmp := { c with bridge := bridge, timers := timers
                                         window := { c.window with intervals := kept, edges := c.window.edges + 1 } } }) ∧
      (drives → c.window.first = false → c.window.edges = 5 → ∃ rpm, (kept.sum * pairs ≠ 0 → rpm = 60000000 / (kept.sum * pairs)) ∧
        let done := { c.window with intervals := kept, edges := 0, rpm := rpm }
        (c.state = .start → rpm < 1500 →
          t = { s.dev with pins := pins, cmp := { c with bridge := bridge, timers := timers, window := done } }) ∧
        (c.state = .start → 1500 ≤ rpm →
          t.cmp = { c with
            state := .run
            window := done
            bridge := bridge
            cutIn := some s.dev.sns.uptime
            learning := decide (c.mode = .thermostat)
            deferred := !c.demand
            hadCutIn := c.demand || c.hadCutIn
            wished := if c.demand = true ∧ c.mode = .thermostat then capped s.dev c.settings.quietCap c.learned else c.wished
            commanded := min t.cmp.wished t.bgt.table.compressor.granted
            timers := { noCompTimers with
              phase := c.timers.phase, offSince := c.timers.offSince, stall := some (ms + 250), minRun := some (ms + 120000)
              failReset := some (ms + 60000), raise := if c.mode = .thermostat then some (ms + 900000) else none } } ∧
          compWrote s.dev t t.cmp.wished ∧
          (let a := compReleased s.dev.bgt.allowance ms
           t.bgt.allowance = { a with waiting :=
             if t.bgt.table.compressor.granted = 0 then a.waiting.filter fun l => decide (l ≠ .compressor) else a.waiting }) ∧
          t.sns.current = { sum := 0, count := 0 } ∧ fridgePosted s.dev t 1 ∧ t.lgt = s.dev.lgt ∧ compFrame s.dev t ms code) ∧
        (c.state = .run →
          t = { s.dev with
            pins := pins
            sns := { s.dev.sns with current := { sum := 0, count := 0 } }
            cmp := { c with
              bridge := bridge
              timers := timers
              window := done
              lastMean := if path.count = 0 then c.lastMean else mean
              staged :=
                if mean.any (fun m => decide (c.settings.currentLimit < m)) = true then max 100 (min 950 (c.staged - 20))
                else if rpm + 50 < stepRpm c.commanded then max 100 (min 950 (c.staged + 5))
                else if stepRpm c.commanded + 50 < rpm then max 100 (min 950 (c.staged - 5))
                else c.staged } }))) ∧
    (¬hallValid code.toNat → code ≠ s.dev.pins.hall → Runs (.hallCodeInvalid code) s fun t =>
      let c' := { c with window := { c.window with first := true } }
      compFrame s.dev t ms code ∧ (¬drives → t = { s.dev with pins := pins, cmp := c' }) ∧
      (drives → compFailsWith s.dev t c' .hall ms)) ∧
    (∀ raw : RawCode, Runs (.compressorCurrentSample raw) s fun t =>
      t = { s.dev with sns := { s.dev.sns with
        current := if c.state = .run then { sum := path.sum + 5 * raw.toNat, count := path.count + 1 } else path } })

/-- R13, R78, R87, R117, R118, R122: the output gates and what holds them off. First, the raw levels of DIN5 and DIN6 act at once,
at each pin change and wherever they are looked at (`protect`): DIN5 active ends the fuel pulse in progress; DIN6 active turns all
six gates off and sets the overcurrent latch, each leg keeping its role and a gate whose partner turned off waiting for a dead
time that counts once the hold lifts (log 22); going inactive either changes nothing but the pin. Only that pin changes. The GLOW
output is on while HTR commands it, the heater holds the allowance, DIN5's raw level is inactive and the overheat latch is clear:
DIN5 active turns it off, and inactive gives it back to the command. Second, while the fuel train runs, a pulse starts when the
interval in force has elapsed since the last start (its command moves the time base there, log 2): a staged interval comes into
force and the stage is emptied, and the pump receives the pulse unless DIN5's raw level or the overheat latch holds the gate off;
a pulse in progress ends after the pulse width. A train that stands still, and a gate that is off, do nothing. Third, at a carrier
valley the duty in force becomes the staged duty. A leg's dead time over, its gates take what its role asks for, in START and RUN
with neither the overcurrent latch nor DIN6's raw level holding the bridge; otherwise the wait goes on (log 22), and for a leg
that waits for no dead time nothing changes. -/
def Obligations.OutputGatesFollowTheirHolds : Prop :=
  (∀ s : State,
      Runs .din5RawActive s (fun t =>
        rawOf t 5 = true ∧ glowGate t = false ∧ (∀ m, m < 8 → m ≠ 5 → t.pins.din.getLsbD m = s.dev.pins.din.getLsbD m) ∧
        t = { s.dev with
          pins := { s.dev.pins with din := t.pins.din }
          htr := { s.dev.htr with fuel := { s.dev.htr.fuel with gate := false } } }) ∧
      Runs .din5RawInactive s (fun t =>
        rawOf t 5 = false ∧
        (glowGate t = true ↔
          s.dev.htr.glowSince ≠ none ∧ s.dev.bgt.allowance.state = .held .heater ∧ s.dev.htr.latch = false) ∧
        (∀ m, m < 8 → m ≠ 5 → t.pins.din.getLsbD m = s.dev.pins.din.getLsbD m) ∧
        t = { s.dev with pins := { s.dev.pins with din := t.pins.din } }) ∧
      Runs .din6RawActive s (fun t =>
        rawOf t 6 = true ∧ (∀ m, m < 8 → m ≠ 6 → t.pins.din.getLsbD m = s.dev.pins.din.getLsbD m) ∧
        t.cmp.bridge.isOff ∧
        t = { s.dev with
          pins := { s.dev.pins with din := t.pins.din }
          cmp := { s.dev.cmp with latch := true, bridge := bridgeStopped s.dev.cmp.bridge } }) ∧
      Runs .din6RawInactive s (fun t =>
        rawOf t 6 = false ∧ (∀ m, m < 8 → m ≠ 6 → t.pins.din.getLsbD m = s.dev.pins.din.getLsbD m) ∧
        t = { s.dev with pins := { s.dev.pins with din := t.pins.din } })) ∧
  (∀ d : Device,
    glowGate d = true ↔
      d.htr.glowSince ≠ none ∧ d.bgt.allowance.state = .held .heater ∧ rawOf d 5 = false ∧ d.htr.latch = false) ∧
  (∀ d : Device,
    let t := protect d
    (rawOf d 6 = true → t.cmp.bridge.isOff ∧ t.cmp = { d.cmp with latch := true, bridge := bridgeStopped d.cmp.bridge }) ∧
    (rawOf d 6 = false → t.cmp = d.cmp) ∧
    (rawOf d 5 = true → t.htr = { d.htr with fuel := { d.htr.fuel with gate := false } }) ∧ (rawOf d 5 = false → t.htr = d.htr) ∧
    t = { d with htr := t.htr, cmp := t.cmp }) ∧
  (∀ s : State,
      let f := s.dev.htr.fuel
      (f.running = true → Runs .fuelPulseStart s fun t =>
        t = { s.dev with
          sns := { s.dev.sns with ms := max s.dev.sns.ms (f.lastStart + f.interval) }
          htr := { s.dev.htr with fuel :=
            { running := true
              interval := match f.staged with
                | none => f.interval
                | some n => n
              staged := none
              lastStart := f.lastStart + f.interval
              gate := decide (rawOf s.dev 5 = false ∧ s.dev.htr.latch = false) } } }) ∧
      (f.running = false → Runs .fuelPulseStart s fun t => t = s.dev) ∧
      (f.gate = true → Runs .fuelPulseEnd s fun t =>
        t = { s.dev with
          sns := { s.dev.sns with ms := max s.dev.sns.ms (f.lastStart + s.dev.htr.seq.pulseWidth) }
          htr := { s.dev.htr with fuel := { f with gate := false } } }) ∧
      (f.gate = false → Runs .fuelPulseEnd s fun t => t = s.dev)) ∧
  (∀ (s : State) (leg : Leg),
      let c := s.dev.cmp
      let freed := fun (l : Leg) (g : LegState) =>
        if l = leg ∧ (g.waitHigh = true ∨ g.waitLow = true) then
          ({ role := g.role, waitHigh := false, waitLow := false
             high := decide (g.role = .pwm), low := decide (g.role = .low) } : LegState)
        else g
      let free := (c.state = .start ∨ c.state = .run) ∧ c.latch = false ∧ rawOf s.dev 6 = false
      Runs .carrierValley s (fun t => t = { s.dev with cmp := { c with duty := c.staged } }) ∧
      (free → Runs (.deadTimeExpiry leg) s fun t =>
        t = { s.dev with cmp := { c with
          bridge := { u := freed .u c.bridge.u, v := freed .v c.bridge.v, w := freed .w c.bridge.w } } }) ∧
      (¬free → Runs (.deadTimeExpiry leg) s fun t => t = s.dev))

/-- R124, R125: the compressor's requests are answered OK. A good FRIDGE_CONFIG replaces the settings (BUSY in START and RUN where
the order, dead time or pole pairs differ from those in force; a body with a setting out of its range is answered BAD_VALUE first,
and neither changes anything but the link). In quiet hours W is worked out afresh within the new quiet cap, from 2 in TIMED mode,
from L before the demand's first cut-in and else from what it was, and a changed W is written, C following. FRIDGE_ENABLE leads
from DISABLED to IDLE. FRIDGE_DISABLE takes demand away and brings the compressor to DISABLED, from START and RUN by way of
STOPPING; a state that runs on to DISABLED keeps its timer, and W becomes 0, written with a request of 0. FRIDGE_CLEAR sets the
failure counter to 0 and ends BLOCKED, in OFF_HOLD or, with demand absent and the minimum off passed, in IDLE (log 28). Which W
quiet hours cap turns on whether the present demand has had its cut-in (log 21). That the deferred cut-out mark is clear outside
RUN is the model's choice (log 41). -/
def Obligations.FridgeRequestsSetCompressor : Prop :=
  ∀ (s : State) (tag : Byte), noneInHand s.dev → budgetSound s.dev →
    let c := s.dev.cmp
    let ms := s.dev.sns.ms
    let a := s.dev.bgt.allowance
    let framed := fun t : Device => compFrame s.dev t ms s.dev.pins.hall
    let drives := c.state = .start ∨ c.state = .run
    (∀ q : FridgeSettings, fridgeFits q →
      let body := i16 q.setpoint ++ u8 q.differential ++ u8 (if q.order = .a then 0 else 1) ++ u16 q.deadTime ++ u8 q.polePairs ++
        u16 q.currentLimit ++ u8 q.quietCap
      let same := q.order = c.orderNow ∧ q.deadTime = c.deadTimeNow ∧ q.polePairs = c.polePairsNow
      Runs (.fridgeConfig tag body) s fun t =>
        (drives ∧ ¬same → RepliedQuietly s.dev t 0x28 tag body 0x01 [] ∧ t = { s.dev with lnk := t.lnk }) ∧
        (¬drives ∨ same → RepliedQuietly s.dev t 0x28 tag body 0x00 [] ∧ t.cmp.settings = q ∧
          (s.dev.npl.quiet = false → t = { s.dev with cmp := { c with settings := q }, lnk := t.lnk }) ∧
          (s.dev.npl.quiet = true → framed t ∧ t.sns = s.dev.sns ∧ t.lgt = s.dev.lgt ∧
            compWished s.dev t { c with settings := q } (wishUnderCap s.dev q.quietCap)))) ∧
    (∀ body : List Byte, body.length = 10 → 1 < num1 body 3 ∨ ¬fridgeFits (fridgeIn body) →
      Refused (.fridgeConfig tag body) s 0x28 tag body 0x04) ∧
    Runs (.fridgeEnable tag []) s (fun t =>
      Replied s.dev t 0x29 tag [] 0x00 [] ∧ framed t ∧ t.lgt = s.dev.lgt ∧
      (c.state = .disabled → compRests s.dev t { c with enable := true } .idle (restTimers c ms) a) ∧
      (c.state ≠ .disabled → t = { s.dev with cmp := { c with enable := true }, lnk := t.lnk } ∧
        t.lnk.notices = s.dev.lnk.notices)) ∧
    Runs (.fridgeDisable tag []) s (fun t =>
      let c' := { c with enable := false, demand := false, timers := { c.timers with phase := none } }
      Replied s.dev t 0x2A tag [] 0x00 [] ∧ framed t ∧ t.lgt = s.dev.lgt ∧
      (c.state = .idle ∨ c.state = .offHold → compRests s.dev t { c' with wished := 0 } .disabled (restTimers c' ms) a) ∧
      (c.state = .waitInrush → compRests s.dev t { c' with wished := 0 } .disabled (restTimers c' ms) (compWithdrawn a ms)) ∧
      (c.state = .start → compStops s.dev t c' (compReleased a ms) ms) ∧ (c.state = .run → compStops s.dev t c' a ms) ∧
      (c.state = .stopping ∨ c.state = .stallBackoff ∨ c.state = .blocked →
        compWished s.dev t c' 0 ∧ t.sns = s.dev.sns ∧ t.lnk.notices = s.dev.lnk.notices) ∧
      (c.state = .disabled → t = { s.dev with cmp := c', lnk := t.lnk } ∧ t.lnk.notices = s.dev.lnk.notices)) ∧
    Runs (.fridgeClear tag []) s (fun t =>
      let c' := { c with failures := 0 }
      let lgt := (postIndication .cmp 0 false s.dev).lgt
      Replied s.dev t 0x2B tag [] 0x00 [] ∧ framed t ∧
      (c.state ≠ .blocked → t = { s.dev with cmp := c', lnk := t.lnk } ∧ t.lnk.notices = s.dev.lnk.notices) ∧
      (c.state = .blocked → c.enable = true → compHolds { s.dev with lgt := lgt } t c' ms) ∧
      (c.state = .blocked → c.enable = false → compRests s.dev t { c' with wished := 0 } .disabled (restTimers c ms) a) ∧
      (c.state = .blocked → t.cmp.state ≠ .blocked → t.lgt = lgt))

/-! ## A published sweep reaches the compressor (chapter 6) -/

/-- R106 to R111, R113: what a published sweep does to the compressor, taken as MEASUREMENT_SWEEP hands it over
(SweepPublishesChannels). With the enable OFF nothing. In THERMOSTAT mode T_FRIDGE at or above the setpoint plus the differential
makes demand present, at or below the setpoint absent, and between them it stays. A T_FRIDGE that is not OK enters TIMED mode, or
starts its timetable afresh where the enable had stopped it: a demand phase of 600 s, demand present with W 2. T_FRIDGE OK again
returns to THERMOSTAT mode, a present demand taking W from L, and the thresholds then decide at the same sweep. Each change of mode
posts FRIDGE_STATE, TIMED entered afresh none (log 37). Demand acts on the state in force: one that returns in RUN counts as cut in
and keeps W in THERMOSTAT mode, before its cut-in W is L (log 21), and an OFF_HOLD whose minimum off has passed is left at once (log
28). That the deferred cut-out mark is clear outside RUN is the model's choice (log 41). -/
def Obligations.SweepMovesCompressor : Prop :=
  ∀ d : Device, budgetSound d →
    let t := compSweep d
    let c := d.cmp
    let ms := d.sns.ms
    let fridge := d.sns.analog.tFridge
    let framed := compFrame d t ms d.pins.hall ∧ t.lnk = { d.lnk with notices := t.lnk.notices } ∧
      (c.state = .blocked ∨ t.cmp.state ≠ .blocked → t.lgt = d.lgt) ∧
      t.lnk.notices.filter (fun n => decide (n.kind ≠ .fridgeState)) = d.lnk.notices.filter (fun n => decide (n.kind ≠ .fridgeState))
    framed ∧
    (c.enable = false → t = d) ∧
    (c.enable = true → fridge.status = .ok → c.mode = .thermostat →
      (c.demand = false → c.settings.setpoint + (c.settings.differential : Int) ≤ fridge.value → demandArrives d t) ∧
      (c.demand = true → fridge.value ≤ c.settings.setpoint → 0 < c.settings.differential → demandLeaves d t) ∧
      (c.demand = true → c.settings.setpoint < fridge.value → t = d) ∧
      (c.demand = false → fridge.value < c.settings.setpoint + (c.settings.differential : Int) → t = d)) ∧
    (c.enable = true → fridge.status = .ok → c.mode = .timed → ∃ u : Device, t = compSweep u ∧
      (let d1 := post .fridgeState { d with cmp :=
        { c with mode := .thermostat, timers := { c.timers with phase := none } } }
       u = { d1 with cmp := u.cmp, bgt := u.bgt } ∧ (c.demand = false → u = d1) ∧
       (c.demand = true → compWishes d1 u d1.cmp (capped d c.settings.quietCap c.learned)))) ∧
    (c.enable = true → fridge.status ≠ .ok → c.mode = .timed → c.timers.phase ≠ none → t = d) ∧
    (c.enable = true → fridge.status ≠ .ok → c.mode = .thermostat ∨ c.timers.phase = none →
      let d0 := { d with cmp := { c with
        mode := .timed, phase := .demand, timers := { c.timers with phase := some (ms + 600000), raise := none } } }
      let d1 := if c.mode = .timed then d0 else post .fridgeState d0
      (c.demand = false → demandArrives d1 t) ∧
      (c.demand = true → compWishes d1 t d1.cmp (capped d c.settings.quietCap 2)))

/-! ## Light Controller (chapter 7) -/

namespace Sys2Proof.Stated

/-- R129: the present level at `ms` of a fade from s to t over F, the quotient truncated toward s. -/
def levelAt (c : LightChannel) (ms : Nat) : Nat :=
  if c.fading = false ∨ c.fadeMs ≤ ms - c.fadeAt then c.target
  else ((c.fadeFrom : Int) + (((c.target : Int) - c.fadeFrom) * ((ms - c.fadeAt : Nat) : Int)).tdiv c.fadeMs).toNat

/-- R134: a channel at `ms` with a fade that has run out ended; at target 0 both its marks are cleared. -/
def rested (ms : Nat) (c : LightChannel) : LightChannel :=
  if c.fading = true ∧ c.fadeAt + c.fadeMs ≤ ms then
    { c with
      fading := false
      hold := if c.target = 0 then false else c.hold
      courtesy := if c.target = 0 then false else c.courtesy }
  else c

/-- R129, R134: a target set by hand with a fade at `ms`: the fade starts from the present level, manual hold is set and the
courtesy-lit mark cleared; a channel at target and level 0 at once has no hold. -/
def handSet (target fade ms : Nat) (c : LightChannel) : LightChannel :=
  { c with
    target := target
    fadeFrom := levelAt c ms
    fadeAt := ms
    fadeMs := fade
    fading := decide (fade ≠ 0 ∧ levelAt c ms ≠ target)
    hold := decide (¬(target = 0 ∧ (fade = 0 ∨ levelAt c ms = 0)))
    courtesy := false }

/-- R140: a courtesy-lit channel without manual hold fades to 0 in 5,000 ms, and loses its mark if it stands at 0 already. -/
def courtesyOut (ms : Nat) (c : LightChannel) : LightChannel :=
  if c.courtesy = true ∧ c.hold = false then
    { c with
      target := 0
      fadeFrom := levelAt c ms
      fadeAt := ms
      fadeMs := 5000
      fading := decide (levelAt c ms ≠ 0)
      courtesy := decide (levelAt c ms ≠ 0) }
  else c

/-- Section 7.2: the cap of a step. -/
def capAt (step : Nat) (essential : Bool) : Nat :=
  if essential = true then (if step = 0 then 200 else 1000)
  else if step = 0 then 0 else if step = 1 then 300 else if step = 2 then 600 else 1000

/-- R132: `n` is the requested step of the channels: its caps admit every target, and those of no lower step do. -/
def stepNeeded (chs : List LightChannel) (settings : List ChannelSetting) (n : Nat) : Prop :=
  let admits := fun step => ∀ p ∈ chs.zip settings, p.1.target ≤ capAt step p.2.essential
  n ≤ 3 ∧ admits n ∧ ∀ m, m < n → ¬admits m

/-- R131, R134: a channel at `ms` under an old and a new cap: a rise lets a channel that the old cap held below its present level
fade up from that cap to its target in 1,000 ms; a channel whose target is the old cap is at its target at once, and at target 0
loses both its marks. -/
def recappedTo (old new ms : Nat) (c : LightChannel) : LightChannel :=
  if old < new ∧ old < levelAt c ms then
    { c with
      fadeFrom := old
      fadeAt := ms
      fadeMs := 1000
      fading := decide (c.target ≠ old)
      hold := if c.target = 0 ∧ old = 0 then false else c.hold
      courtesy := if c.target = 0 ∧ old = 0 then false else c.courtesy }
  else c

/-- R131, R132: from `d`, with the channel records `chs` at `ms` and the settings of `t`: the requested step is worked out and,
where it differs from the step last written, written; the cap step is the lesser of the requested and granted steps; the channels
take their new caps, changed once from the caps of `d` to those of `t` (that a changed essential flag and the cap step it moves are
one such change is the model's choice, log 47). A changed request or floor triggers one pass (log 17). -/
def lightsCapped (d t : Device) (chs : List LightChannel) (ms : Nat) : Prop :=
  ∃ n, stepNeeded chs t.lgt.chSettings n ∧
    (let e := d.bgt.table.lights
     let e' := if n = d.lgt.written then e else writtenEntry e n 0 d.sns.uptime
     t.lgt.written = n ∧ t.bgt.table.lights = e' ∧ t.lgt.capStep = min e'.requested e'.granted ∧
     t.bgt.passesDue = d.bgt.passesDue + (if e'.requested = e.requested ∧ e'.floor = e.floor then 0 else 1)) ∧
    t.lgt.channels = (List.range 7).map (fun k =>
      recappedTo (capAt d.lgt.capStep ((d.lgt.chSettings.map (·.essential)).getD k false))
        (capAt t.lgt.capStep ((t.lgt.chSettings.map (·.essential)).getD k false)) ms (chs.getD k darkChannel))

/-- R146: the notice table after the lights have followed: LIGHT_STATE is posted once for a changed cap step and once where `moved`
holds (log 40). -/
def lightsPosted (d t : Device) (moved : Prop) : Prop :=
  let once := post .lightState d
  (t.lgt.capStep = d.lgt.capStep → ¬moved → t.lnk.notices = d.lnk.notices) ∧
  (t.lgt.capStep = d.lgt.capStep → moved → t.lnk.notices = once.lnk.notices) ∧
  (t.lgt.capStep ≠ d.lgt.capStep → ¬moved → t.lnk.notices = once.lnk.notices) ∧
  (t.lgt.capStep ≠ d.lgt.capStep → moved → t.lnk.notices = (post .lightState once).lnk.notices)

/-- R131, R132, R146: the lights follow the channel records `chs` at `ms`, and post what has changed; `moved` says that a target has
been changed otherwise than by a request. -/
def lightsFollow (d t : Device) (chs : List LightChannel) (moved : Prop) (ms : Nat) : Prop :=
  lightsCapped d t chs ms ∧ lightsPosted d t moved

/-- What a setting of the lights may touch: the time base, which reads `ms`, LIGHTS' entry, the passes due, the lights and the
link. -/
def lightsFrame (d t : Device) (ms : Nat) : Prop :=
  t = { d with
    sns := { d.sns with ms := ms }
    bgt := { d.bgt with table := { d.bgt.table with lights := t.bgt.table.lights }, passesDue := t.bgt.passesDue }
    lgt := t.lgt
    lnk := { t.lnk with enables := d.lnk.enables, idleTime := d.lnk.idleTime } }

/-- A setting of the lights touches the channels, the cap step and the step last written. -/
def lightsKept (d t : Device) : Prop :=
  t.lgt = { d.lgt with channels := t.lgt.channels, capStep := t.lgt.capStep, written := t.lgt.written }

end Sys2Proof.Stated

/-- R129, R131 to R136, R146: the lights' requests, answered OK. LIGHT_SET sets the target of one channel, LIGHT_GROUP of every
member of a group, SCENE_RECALL of every channel for which the scene has a level, all at once and by hand; the requested step, the
cap step and the caps follow, a changed cap step posting LIGHT_STATE once, and the reply of the first two carries the cap step and
for each channel concerned the level that the cap allows: in the model the new target within the cap, whatever the fade (log 49).
SCENE_SET replaces scenes 1 to 5 and no channel. CH7 and scene 0 are PROTECTED. R145: a good LIGHT_CONFIG is answered OK and
replaces every setting: no target changes, a channel that changes its group loses its saved level, and changed essential flags act
on the requested step and the caps, with the cap step as one change of each cap (log 47). A running courtesy timer keeps its
expiry. A body of the right length with a field out of its range is answered BAD_VALUE first, and changes nothing but the link. -/
def Obligations.LightRequestsAreTaken : Prop :=
  (∀ (s : State) (tag : Byte), noneInHand s.dev → budgetSound s.dev → lightsSound s.dev →
    let ms := s.dev.sns.ms
    let now := s.dev.lgt.channels.map (rested ms)
    let allowed := fun (t : Device) (level k : Nat) =>
      u16 (min level (capAt t.lgt.capStep ((s.dev.lgt.chSettings.map (·.essential)).getD k false)))
    (∀ level fade : Nat, level ≤ 1000 → fade ≤ 10000 →
      (∀ n, n < 7 → let body := u8 n ++ u16 level ++ u16 fade
        Runs (.lightSet tag body) s fun t =>
          Replied s.dev t 0x30 tag body 0x00 (u8 t.lgt.capStep ++ allowed t level n) ∧
          lightsFollow s.dev t (now.set n (handSet level fade ms (now.getD n darkChannel))) False ms ∧
          lightsFrame s.dev t ms ∧ lightsKept s.dev t) ∧
      (let body := u8 7 ++ u16 level ++ u16 fade
       Runs (.lightSet tag body) s fun t => RepliedQuietly s.dev t 0x30 tag body 0x08 [] ∧ t = { s.dev with lnk := t.lnk }) ∧
      (∀ g, g ≠ .none → let body := u8 (if g = .a then 0 else 1) ++ u16 level ++ u16 fade
        let inGroup := fun k => decide ((s.dev.lgt.chSettings.map (·.group)).getD k .none = g)
        let members := (List.range 7).filter inGroup
        Runs (.lightGroup tag body) s fun t =>
          Replied s.dev t 0x31 tag body 0x00 (u8 t.lgt.capStep ++ members.flatMap (allowed t level)) ∧
          (members ≠ [] → lightsFollow s.dev t ((List.range 7).map fun k =>
            if inGroup k = true then handSet level fade ms (now.getD k darkChannel) else now.getD k darkChannel) False ms) ∧
          (members = [] → t.lgt = s.dev.lgt ∧ t.bgt = s.dev.bgt ∧ t.lnk.notices = s.dev.lnk.notices) ∧
          lightsFrame s.dev t ms ∧ lightsKept s.dev t)) ∧
    (∀ (n fade : Nat) (levels : List (Option Nat)), n < 6 → fade ≤ 10000 → levels.length = 7 →
      (∀ l ∈ levels, ∀ x, l = some x → x ≤ 1000) → let body := u8 n ++ levels.flatMap opt16 ++ u16 fade
      Runs (.sceneSet tag body) s fun t =>
        (n ≠ 0 → RepliedQuietly s.dev t 0x32 tag body 0x00 [] ∧
          t = { s.dev with
            lgt := { s.dev.lgt with scenes := s.dev.lgt.scenes.set n { levels := levels, fade := fade } }, lnk := t.lnk }) ∧
        (n = 0 → RepliedQuietly s.dev t 0x32 tag body 0x08 [] ∧ t = { s.dev with lnk := t.lnk })) ∧
    (∀ (n : Nat) (r : Scene), n < 6 → s.dev.lgt.scenes[n]? = some r →
      Runs (.sceneRecall tag (u8 n)) s fun t =>
        Replied s.dev t 0x33 tag (u8 n) 0x00 [] ∧
        lightsFollow s.dev t ((List.range 7).map fun k =>
          match r.levels.getD k none with
          | none => now.getD k darkChannel
          | some level => handSet level r.fade ms (now.getD k darkChannel)) False ms ∧
        lightsFrame s.dev t ms ∧ lightsKept s.dev t)) ∧
  (∀ (s : State) (tag : Byte) (body : List Byte), noneInHand s.dev →
    let faded := liesIn 0 1000 (num2 body 1) ∧ liesIn 0 10000 (num2 body 3)
    (body.length = 5 → 7 < num1 body 0 ∨ ¬faded → Refused (.lightSet tag body) s 0x30 tag body 0x04) ∧
    (body.length = 5 → 1 < num1 body 0 ∨ ¬faded → Refused (.lightGroup tag body) s 0x31 tag body 0x04) ∧
    (body.length = 17 → 5 < num1 body 0 ∨ (∃ x ∈ words body 1 7, 1000 < x ∧ x ≠ 65535) ∨ 10000 < num2 body 15 →
      Refused (.sceneSet tag body) s 0x32 tag body 0x04) ∧
    (body.length = 1 → 5 < num1 body 0 → Refused (.sceneRecall tag body) s 0x33 tag body 0x04) ∧
    (body.length = 21 →
      (∃ n ∈ List.range 7, 2 < num1 body n ∨ 1 < num1 body (7 + n)) ∨ 1 < num1 body 14 ∨ ¬liesIn 10 3600 (num2 body 15) ∨
        ¬liesIn 50 1000 (num2 body 17) ∨ ¬liesIn 10 1000 (num2 body 19) →
      Refused (.lightConfig tag body) s 0x34 tag body 0x04)) ∧
  (∀ (s : State) (tag : Byte) (groups : List LightGroup) (flags : List Bool) (dial : LightGroup) (time level night : Nat),
    noneInHand s.dev → budgetSound s.dev → lightsSound s.dev → groups.length = 7 → flags.length = 7 → dial ≠ .none →
    10 ≤ time → time ≤ 3600 → 50 ≤ level → level ≤ 1000 → 10 ≤ night → night ≤ 1000 →
    let code := fun g : LightGroup => if g = .a then 0 else if g = .b then 1 else 2
    let body := groups.flatMap (fun g => u8 (code g)) ++ flags.flatMap (fun f => u8 (if f = true then 1 else 0)) ++ u8 (code dial) ++
      u16 time ++ u16 level ++ u16 night
    let ms := s.dev.sns.ms
    Runs (.lightConfig tag body) s fun t =>
      Replied s.dev t 0x34 tag body 0x00 [] ∧
      t.lgt.chSettings = groups.zipWith (fun g f => { group := g, essential := f }) flags ∧
      t.lgt.settings = { dialGroup := dial, courtesyTime := time, courtesyLevel := level, nightLevel := night } ∧
      lightsFollow s.dev t ((List.range 7).map fun k =>
        let c := rested ms (s.dev.lgt.channels.getD k darkChannel)
        if (s.dev.lgt.chSettings.map (·.group)).getD k .none = groups.getD k .none then c else { c with saved := none }) False ms ∧
      lightsFrame s.dev t ms ∧
      t.lgt = { s.dev.lgt with
        channels := t.lgt.channels, capStep := t.lgt.capStep, written := t.lgt.written
        chSettings := t.lgt.chSettings, settings := t.lgt.settings })

/-- R129 to R131, R134, R140, R142: the courtesy timer's end puts out every courtesy-lit channel without manual hold; a fade's end
leaves the channel at its target, and at target 0 without its marks; a PWM period begins with the applied level of each channel at
the lesser of its present level and its cap, and with CH7 at its overlay level. The duty of an applied level a is a² × 65,535 /
1,000,000, rounded half up. Each acts at its own time (log 2). -/
def Obligations.LampTimersAct : Prop :=
  ∀ (s : State), budgetSound s.dev → lightsSound s.dev →
    (∀ at_, s.dev.lgt.courtesyTimer = some at_ → Runs .courtesyTimerExpiry s fun t =>
      let ms := max s.dev.sns.ms at_
      let now := s.dev.lgt.channels.map (rested ms)
      lightsFollow s.dev t (now.map (courtesyOut ms)) ((now.map (courtesyOut ms)).map (·.target) ≠ now.map (·.target)) ms ∧
      lightsFrame s.dev t ms ∧ t.lnk = { s.dev.lnk with notices := t.lnk.notices } ∧
      t.lgt = { s.dev.lgt with
        channels := t.lgt.channels, capStep := t.lgt.capStep, written := t.lgt.written, courtesyTimer := none }) ∧
    (∀ n : Fin 7, Runs (.fadeEnd n) s fun t =>
      let c := s.dev.lgt.channels.getD n.val darkChannel
      let still := { c with
        fading := false
        hold := if c.target = 0 then false else c.hold
        courtesy := if c.target = 0 then false else c.courtesy }
      (c.fading = true →
        t = { s.dev with
          sns := { s.dev.sns with ms := max s.dev.sns.ms (c.fadeAt + c.fadeMs) }
          lgt := { s.dev.lgt with channels := s.dev.lgt.channels.set n.val still } }) ∧
      (c.fading = false → t = s.dev)) ∧
    Runs .lampPwmBoundary s (fun t =>
      let ms := max s.dev.sns.ms s.dev.sched.nextPwm
      let shown := displayed s.dev.lgt.sources
      t = { s.dev with
        sns := { s.dev.sns with ms := ms }
        lgt := { s.dev.lgt with
          channels := s.dev.lgt.channels.zipWith
            (fun c q => { c with applied := min (levelAt c ms) (capAt s.dev.lgt.capStep q.essential) }) s.dev.lgt.chSettings
          ch7Applied := if shown = 0 then 0 else if shown = 1 then 300 else if s.dev.lgt.ch7On = true then 1000 else 0 }
        sched := { s.dev.sched with nextPwm := s.dev.sched.nextPwm + 2 } }) ∧
    (∀ a, 1000000 * pwmDuty a ≤ a * a * 65535 + 500000 ∧ a * a * 65535 + 500000 < 1000000 * (pwmDuty a + 1))

/-- R141 to R144: a source's posting of a severity sets its entry, its occurrence count and its sounding mark; the displayed
severity is the highest of the list; CH7's pattern restarts when that changes, and at a new occurrence at that severity; a mark set
begins a burst of three beats, or makes three beats follow; with no mark left a burst stops. CH7's timer turns its pattern over
every 500 or 125 ms; a beat is 200 ms on and 300 ms off, and the last one's end clears every mark (each at its own time, log 2).
RTM's acknowledgement, and quiet hours beginning, clear marks alone. -/
def Obligations.IndicationFollowsPostings : Prop :=
  let parts := fun n : Nat => if n = 2 then some 500 else if n = 3 then some 125 else none
  let stops := fun (b : Buzzer) (l : SourceList) => if b.burst = true ∧ (allSources.any fun g => (l.get g).sounding) = false then idleBuzzer else b
  (∀ l : SourceList, (∀ g, (l.get g).severity ≤ displayed l) ∧ ∃ g, (l.get g).severity = displayed l) ∧
  (∀ (g : Source) (n : Nat) (new : Bool) (d : Device), n ≤ 3 →
    let e := d.lgt.sources.get g
    let b := d.lgt.buzzer
    let t := postIndication g n new d
    let calls := 0 < n ∧ (new = true ∨ e.severity < n)
    let muted := d.npl.quiet = true ∧ n < 3
    let l := t.lgt.sources
    l.get g =
      { severity := n
        occurrence := if new = true then (e.occurrence + 1) % 65536 else e.occurrence
        sounding := if n = 0 ∨ muted then false else if calls then true else e.sounding } ∧
    (∀ k, k ≠ g → l.get k = d.lgt.sources.get k) ∧
    (let restarts := displayed l ≠ displayed d.lgt.sources ∨ new = true ∧ n = displayed l
     t.lgt.ch7On = (if restarts then true else d.lgt.ch7On) ∧
     t.lgt.ch7Timer = (if restarts then (parts (displayed l)).map (d.sns.ms + ·) else d.lgt.ch7Timer)) ∧
    t.lgt.buzzer =
      (if calls ∧ ¬muted then
        (if b.burst = true then { b with remaining := 3, counted := false }
         else { burst := true, remaining := 3, counted := true, on := true, timer := some (d.sns.ms + 200) })
      else stops b l) ∧
    t = { d with lgt := { d.lgt with sources := l, ch7On := t.lgt.ch7On, ch7Timer := t.lgt.ch7Timer, buzzer := t.lgt.buzzer } }) ∧
  (∀ d : Device,
    (let t := ackIndication d
     let l := { d.lgt.sources with rtm := { d.lgt.sources.rtm with sounding := false } }
     t = { d with lgt := { d.lgt with sources := l, buzzer := stops d.lgt.buzzer l } }) ∧
    (let t := muteForQuiet d
     (∀ g, t.lgt.sources.get g = { d.lgt.sources.get g with
       sounding := (d.lgt.sources.get g).sounding && decide ((d.lgt.sources.get g).severity = 3) }) ∧
     t = { d with lgt := { d.lgt with sources := t.lgt.sources, buzzer := stops d.lgt.buzzer t.lgt.sources } })) ∧
  (∀ (s : State) (at_ : Nat),
    let sns := { s.dev.sns with ms := max s.dev.sns.ms at_ }
    let b := s.dev.lgt.buzzer
    (s.dev.lgt.ch7Timer = some at_ → Runs .ch7PatternPhase s fun t =>
      t = { s.dev with
        sns := sns
        lgt := { s.dev.lgt with
          ch7On := !s.dev.lgt.ch7On, ch7Timer := (parts (displayed s.dev.lgt.sources)).map (at_ + ·) } }) ∧
    (b.timer = some at_ → Runs .buzzerBeatPhase s fun t =>
      let left := if b.counted = true then b.remaining - 1 else b.remaining
      (b.on = true →
        t = { s.dev with
          sns := sns, lgt := { s.dev.lgt with buzzer := { b with on := false, timer := some (at_ + 300) } } }) ∧
      (b.on = false → left ≠ 0 →
        t = { s.dev with
          sns := sns
          lgt := { s.dev.lgt with
            buzzer := { b with remaining := left, counted := true, on := true, timer := some (at_ + 200) } } }) ∧
      (b.on = false → left = 0 →
        (∀ g, t.lgt.sources.get g = { s.dev.lgt.sources.get g with sounding := false }) ∧
        t = { s.dev with sns := sns, lgt := { s.dev.lgt with sources := t.lgt.sources, buzzer := idleBuzzer } })))

/-! ## Grants and answers reach their loads (R55, R64 to R67) -/

/-- R55, R69, R88, R89, R91, R108, R110 to R113, R131: a changed grant handed to its owner. In RAMP and RUN the heater's level is
held at or below the grant and the maximum allowed level, at once, and in RAMP the ramp's end is tested, the entry asking for the
wished level on entry to RUN (R79); a lowered level and the ramp's end restart the flame reference from the T_EXCH published last
(R89, log 23). The compressor's C follows the grant; OFF_HOLD is tested; a grant of 0 sends WAIT_INRUSH to OFF_HOLD with the off
timer started, and START and RUN to STOPPING, START with the allowance released, a RUN with the deferred cut-out mark as its
cut-out. The lights' cap step and caps follow. The outlet requests the allowance in WAIT_GRANT, and goes back there with a grant of
0. That the compressor's deferred mark is clear outside RUN (log 41) is the model's choice. -/
def Obligations.GrantsReachTheirLoads : Prop :=
  ∀ d : Device, budgetSound d →
    let ms := d.sns.ms
    let h := d.htr
    let c := d.cmp
    let a := d.bgt.allowance
    let lights := d.bgt.table.lights
    let grant := fun l => (d.bgt.table.get l).granted
    let links := fun t : Device => t.lnk = { d.lnk with notices := t.lnk.notices }
    (let t := handGrant .heater d
     let exch := d.sns.analog.tExch.value
     let top := min (grant .heater) (topLevel d)
     let h' := lowered h (max 1 top) exch ms
     let ends := min h.wished top ≤ h'.level
     (h.state ≠ .ramp → h.state ≠ .run → t = d) ∧ (h.state = .run → t = { d with htr := h' }) ∧
     (h.state = .ramp → ¬ends → t = d) ∧
     (h.state = .ramp → ends → t.htr = intoRun h' exch ms ∧ heaterWrote d t h.wished 1 false ∧ t.bgt.allowance = a ∧
       heaterPosted d t ∧ heaterFrame d t ms ∧ calm d t ∧ links t)) ∧
    (let t := handGrant .compressor d
     let passed := ∀ since, c.timers.offSince = some since → since + 180000 ≤ ms
     let none' := grant .compressor = 0
     compFrame d t ms d.pins.hall ∧ links t ∧ (c.state = .blocked ∨ t.cmp.state ≠ .blocked → t.lgt = d.lgt) ∧
     (c.state = .offHold → passed → c.demand = true → ¬none' → compRequests d t c ms) ∧
     (c.state = .offHold → passed → c.demand = false → compRests d t c .idle (restTimers c ms) a) ∧
     (c.state = .waitInrush → none' → compRests d t c .offHold { restTimers c ms with offSince := some ms } a) ∧
     (c.state = .start → none' → compStops d t c (compReleased a ms) ms) ∧
     (c.state = .run → none' → c.deferred = true → compCutsOut d t c ms) ∧
     (c.state = .run → none' → c.deferred = false → compStops d t c a ms) ∧
     (c.state = .offHold ∧ (¬passed ∨ c.demand = true ∧ none') ∨ (c.state = .waitInrush ∨ c.state = .start ∨ c.state = .run) ∧ ¬none' ∨
       (c.state = .disabled ∨ c.state = .idle ∨ c.state = .stopping ∨ c.state = .stallBackoff ∨ c.state = .blocked) →
       t = { d with cmp := { c with commanded := min c.wished (grant .compressor) } })) ∧
    (d.lgt.channels.length = 7 → d.lgt.chSettings.length = 7 →
     let t := handGrant .lights d
     let step := min lights.requested lights.granted
     let cap := fun (n k : Nat) => capAt n ((d.lgt.chSettings.map (·.essential)).getD k false)
     let now := d.lgt.channels.map (rested ms)
     t = { d with
       lgt := { d.lgt with
         capStep := step
         channels := (List.range 7).map fun k => recappedTo (cap d.lgt.capStep k) (cap step k) ms (now.getD k darkChannel) }
       lnk := { d.lnk with
         notices := if step = d.lgt.capStep then d.lnk.notices else (post .lightState d).lnk.notices } }) ∧
    (let t := handGrant .outlet d
     let o := d.bgt.outlet
     let none' := grant .outlet = 0
     let moves := fun (o' : Outlet) (a' : Allowance) =>
       t = { d with
         bgt := { d.bgt with outlet := o', allowance := a' }
         lnk := { d.lnk with
           notices := if o'.state = o.state then d.lnk.notices else (post .budgetState d).lnk.notices } }
     (o.state = .off ∨ o.state = .waitGrant ∧ none' ∨ o.state ≠ .waitGrant ∧ ¬none' → t = d) ∧
     (none' → o.state = .waitToken ∨ o.state = .on ∨ o.state = .denied → moves { state := .waitGrant, closing := none } a) ∧
     (none' → o.state = .closing → moves { state := .waitGrant, closing := none } (outletReleased a ms)) ∧
     (¬none' → o.state = .waitGrant → a.state ≠ .held .outlet → .outlet ∉ a.waiting →
       (d.chg.uv = .critical → moves { state := .denied, closing := none } a) ∧
       (d.chg.uv ≠ .critical → a.state = .free → moves { state := .closing, closing := some (ms + 2000) }
         { a with state := .held .outlet, hold := some (ms + 2000), settle := none }) ∧
       (d.chg.uv ≠ .critical → a.state ≠ .free → moves { state := .waitToken, closing := none }
         { a with waiting := a.waiting ++ [.outlet] }))) ∧
    handGrant .base d = d ∧ handGrant .warning d = d

/-- R65 to R67, R83, R84, R111, R112: the allowance's answers. "granted" takes a waiting heater to GLOW, a waiting compressor to
START and a waiting outlet to CLOSING. "denied" takes them to OFF with reason INRUSH, to OFF_HOLD with the off timer started, and
to DENIED. "revoked" ends a heater's attempt in GLOW or IGNITE in PURGE, counted once; it is a failed start of a compressor that
has had the allowance for 5 s, and before that a stop without a failure; a closing outlet is ON. An answer that finds its load in
another state changes nothing. The flush denies the waiting loads in list order, then revokes the holder, and leaves no load
waiting: SETTLING after a holder, as it was without one. That the compressor's deferred mark is clear outside RUN (log 41), and
that the heater's entries to GLOW and PURGE report no cause (log 46), are the model's choices. -/
def Obligations.AnswersReachTheirLoads : Prop :=
  (∀ d : Device, budgetSound d →
    let ms := d.sns.ms
    let h := d.htr
    let c := d.cmp
    let a := d.bgt.allowance
    let links := fun t : Device => t.lnk = { d.lnk with notices := t.lnk.notices }
    let framed := fun t : Device => heaterPosted d t ∧ heaterFrame d t ms ∧ calm d t ∧ links t
    let outlet := fun (t : Device) (o : Outlet) =>
      t = { d with bgt := { d.bgt with outlet := o }, lnk := { d.lnk with notices := (post .budgetState d).lnk.notices } }
    (h.state = .waitInrush →
      (let t := answerGranted .heater d
       t.htr = heaterTo h .glow h.seq.ignDuty (some ms) .none { noHeaterTimers with glow := some (ms + 1000 * h.seq.glowTime) } ms ∧
       heaterWrote d t h.wished 1 false ∧ t.bgt.allowance = a ∧ framed t) ∧
      (let t := answerDenied .heater d
       t.htr = heaterTo h .off 0 none (.refusal .inrush) noHeaterTimers ms ∧ heaterWrote d t 0 0 true ∧
       t.bgt.allowance = { a with waiting := a.waiting.filter fun l => decide (l ≠ .heater) } ∧ framed t)) ∧
    (h.state ≠ .waitInrush → answerGranted .heater d = d ∧ answerDenied .heater d = d) ∧
    (h.state = .glow ∨ h.state = .ignite →
      let t := answerRevoked .heater d
      t.htr = { heaterTo h .purge (if h.marks.forcedPurge = true then 1000 else h.seq.purgeDuty) none .none
        { noHeaterTimers with purge := some (ms + 1000 * h.seq.purgeTime) } ms with attempts := h.attempts + 1 } ∧
      heaterWrote d t 1 1 false ∧ t.bgt.allowance = a ∧ framed t) ∧
    (h.state ≠ .glow → h.state ≠ .ignite → answerRevoked .heater d = d) ∧
    (c.state = .waitInrush →
      (let t := answerGranted .compressor d
       (a.state = .held .compressor → a.hold = some (ms + 5000) → a.settle = none → compStarts d t c ms) ∧
       (fridgePosted d t 1 ∨ fridgePosted d t 3) ∧ compFrame d t ms d.pins.hall ∧ links t ∧ (t.cmp.state ≠ .blocked → t.lgt = d.lgt)) ∧
      (let t := answerDenied .compressor d
       compRests d t c .offHold { restTimers c ms with offSince := some ms } a ∧ t.lgt = d.lgt ∧
       compFrame d t ms d.pins.hall ∧ links t)) ∧
    (c.state ≠ .waitInrush → answerGranted .compressor d = d ∧ answerDenied .compressor d = d) ∧
    (c.state = .start →
      let t := answerRevoked .compressor d
      (c.grantTime.getD 0 + 5000 ≤ ms → compFailsWith d t c .startFail ms) ∧
      (ms < c.grantTime.getD 0 + 5000 → compStops d t c a ms ∧ t.lgt = d.lgt) ∧ compFrame d t ms d.pins.hall ∧ links t) ∧
    (c.state ≠ .start → answerRevoked .compressor d = d) ∧
    (d.bgt.outlet.state = .waitToken →
      outlet (answerGranted .outlet d) { state := .closing, closing := some (ms + 2000) } ∧
      outlet (answerDenied .outlet d) { state := .denied, closing := none }) ∧
    (d.bgt.outlet.state ≠ .waitToken → answerGranted .outlet d = d ∧ answerDenied .outlet d = d) ∧
    (d.bgt.outlet.state = .closing → outlet (answerRevoked .outlet d) { state := .on, closing := none }) ∧
    (d.bgt.outlet.state ≠ .closing → answerRevoked .outlet d = d)) ∧
  (∀ d : Device, budgetSound d →
    let a := d.bgt.allowance
    let t := flushAllowance d
    let denied := a.waiting.foldl (fun x l => answerDenied l x)
      { d with bgt := { d.bgt with allowance := { a with waiting := [] } } }
    t.bgt.allowance.waiting = [] ∧
    (∀ l, a.state = .held l → t.bgt.allowance.state = .settling ∧ t.bgt.allowance.settle = some (d.sns.ms + 2000)) ∧
    ((∀ l, a.state ≠ .held l) → t = denied) ∧
    (∀ l, a.state = .held l → t = answerRevoked l { denied with bgt := { denied.bgt with
      allowance := { denied.bgt.allowance with state := .settling, hold := none, settle := some (d.sns.ms + 2000) } } }) ∧
    (.heater ∈ a.waiting → d.htr.state = .waitInrush → t.htr.state = .off ∧ t.htr.cause = .refusal .inrush) ∧
    (.compressor ∈ a.waiting → d.cmp.state = .waitInrush → t.cmp.state = .offHold ∧ t.cmp.timers.offSince = some d.sns.ms) ∧
    (.outlet ∈ a.waiting → d.bgt.outlet.state = .waitToken → t.bgt.outlet = { state := .denied, closing := none }) ∧
    (a.state = .held .heater → d.htr.state = .glow ∨ d.htr.state = .ignite →
      t.htr.state = .purge ∧ t.htr.attempts = d.htr.attempts + 1) ∧
    (a.state = .held .compressor → d.cmp.state = .start → d.sns.ms < d.cmp.grantTime.getD 0 + 5000 →
      t.cmp.state = .stopping ∧ t.cmp.failures = d.cmp.failures) ∧
    (a.state = .held .outlet → d.bgt.outlet.state = .closing → t.bgt.outlet = { state := .on, closing := none }))

/-! ## Input events reach their owners (R11) -/

/-- R32, R137 to R140, R149: what an input event does to the lights, the rest monitor and the parking brake. The door, opening,
starts the courtesy timer and, without manual hold, fades the courtesy channel (CH6 in quiet hours) up in 500 ms with its mark;
DIN1 restarts the courtesy timer and records the change for the rest monitor; a push of the dial toggles its group by hand in 400
ms, targets above 0 being saved, the saved level or 500 coming back, and its release restarts the courtesy timer; DIN7 is the
parking brake while the source is WIRED (its last update time: log 32). A detent moves each target of the dial group by 25 ‰ times
its multiplier, by hand in 150 ms from the present level (log 41); IGNITION on puts the courtesy light out at once and stops its
timer. -/
def Obligations.EventsReachLightsAndRest : Prop :=
  ∀ d : Device, budgetSound d → lightsSound d →
    let ms := d.sns.ms
    let now := d.lgt.channels.map (rested ms)
    let chan := fun k : Nat => now.getD k darkChannel
    let full := some (ms + 1000 * d.lgt.settings.courtesyTime)
    let inGroup := fun k => decide ((d.lgt.chSettings.map (·.group)).getD k .none = d.lgt.settings.dialGroup)
    let ofGroup := fun (f : LightChannel → LightChannel) =>
      (List.range 7).map fun k => if inGroup k = true then f (chan k) else chan k
    let follows := fun (t : Device) (chs : List LightChannel) (moved : Prop) (timer : Option Nat) =>
      lightsFollow d t chs moved ms ∧ lightsFrame d t ms ∧ t.lnk = { d.lnk with notices := t.lnk.notices } ∧
      t.lgt = { d.lgt with channels := t.lgt.channels, capStep := t.lgt.capStep, written := t.lgt.written, courtesyTimer := timer }
    let differs := fun chs : List LightChannel => chs.map (·.target) ≠ now.map (·.target)
    (let t := deliverEvent 0 true d
     let n := if d.npl.quiet = true then 6 else 3
     let level := if d.npl.quiet = true then d.lgt.settings.nightLevel else d.lgt.settings.courtesyLevel
     ((chan n).hold = true → t = { d with lgt := { d.lgt with channels := now, courtesyTimer := full } }) ∧
     ((chan n).hold = false → follows t
       (now.set n { chan n with
         target := level, fadeFrom := levelAt (chan n) ms, fadeAt := ms, fadeMs := 500
         fading := decide (levelAt (chan n) ms ≠ level), courtesy := true }) True full)) ∧
    deliverEvent 0 false d = d ∧
    (∀ rising, deliverEvent 1 rising d =
      { d with rtm := { d.rtm with lastBunk := some d.sns.uptime }, lgt := { d.lgt with courtesyTimer := full } }) ∧
    (let lit := ∃ k ∈ List.range 7, inGroup k = true ∧ 0 < (chan k).target
     follows (deliverEvent 4 true d) (ofGroup fun c =>
       if lit then handSet 0 400 ms { c with saved := some c.target } else handSet (c.saved.getD 500) 400 ms c) True full) ∧
    deliverEvent 4 false d = { d with lgt := { d.lgt with courtesyTimer := full } } ∧
    (∀ rising, deliverEvent 7 rising d = if d.vbl.source = .wired then
      { d with vbl := { d.vbl with signals := { d.vbl.signals with
        parkingBrake := { d.vbl.signals.parkingBrake with
          value := if deliveredOf d 7 = true then 1 else 0, status := .fresh, lastUpdate := d.sns.uptime, updated := true } } } }
      else d) ∧
    (∀ (dir : DialDir) (multiplier : Nat),
      let chs := ofGroup fun c =>
        handSet (if dir = .plus then min 1000 (c.target + 25 * multiplier) else c.target - 25 * multiplier) 150 ms c
      follows (lightsDetent dir multiplier d) chs (differs chs) full) ∧
    (let chs := now.map fun c => if c.courtesy = true ∧ c.hold = false then
       { c with
         target := 0, fadeFrom := levelAt c ms, fadeAt := ms, fadeMs := 0, fading := false, courtesy := false }
       else c
     follows (lightsIgnitionOn d) chs (differs chs) none)

/-- R68, R80, R83, R96, R98, R122: what an input event does to the outlet and the drives. DIN2 switches the outlet on from OFF and
off from every other state. DIN3 starts an OFF heater with the last setpoint, which stays (log 20), the sixth start check going by
the step currents as they stand (log 48) and a refusal being posted as the cause in HEATER_STATE; it does nothing in LOCKOUT and
stops the heater elsewhere. DIN5's filtered trip sets the overheat latch and is the fault OVERHEAT_TRIP, of severity 3: a burn or a
purge that is not forced ends in a COOLDOWN with lockout-on-completion, a COOLDOWN takes that mark, OFF, PAUSED and WAIT_INRUSH
lead to LOCKOUT, reported without a cause (log 46). DIN6's filtered edge is the failure OVERCURRENT in START and RUN. Falling edges
of these lines do nothing. FUEL_LOW stops the heater in a burn, a purge that does not end in a lockout, and WAIT_INRUSH, where the
run-until stays (log 38). That the compressor's deferred mark is clear outside RUN is the model's choice (log 41). -/
def Obligations.EventsReachDrives : Prop :=
  ∀ d : Device, budgetSound d →
    let ms := d.sns.ms
    let h := d.htr
    let c := d.cmp
    let marked := h.marks.lockoutPending = true ∨ h.marks.forcedPurge = true
    let burning := h.state = .glow ∨ h.state = .ignite ∨ h.state = .ramp ∨ h.state = .run
    let links := fun t : Device => t.lnk = { d.lnk with notices := t.lnk.notices }
    (∀ line, line = 2 ∨ line = 3 ∨ line = 5 ∨ line = 6 ∨ 7 < line → deliverEvent line false d = d) ∧
    deliverEvent 2 true d =
      { d with
        bgt := if d.bgt.outlet.state = .off then outletWanted d else outletDropped d
        lnk := { d.lnk with notices := (post .budgetState d).lnk.notices } } ∧
    (let t := deliverEvent 3 true d
     (h.state = .off →
       (startMayBeMade d → lightsUp d t
         { h with
           attempts := 0
           marks := { h.marks with restartPending := false, lockoutPending := false }
           setpoint := h.lastSetpoint
           wished := startLevel d h.lastSetpoint } ms ∧ heaterFrame d t ms ∧ calm d t ∧ links t) ∧
       (∀ r, startFailsWith d r → t = post .heaterState { d with htr := { h with cause := .refusal r } })) ∧
     (h.state = .lockout → t = d) ∧ (h.state ≠ .off → h.state ≠ .lockout → heaterStops d t ∧ links t)) ∧
    (let t := deliverEvent 5 true d
     let h' := { h with latch := true, faults := faultsWith d .overheatTrip }
     let noted := { h' with marks := { h.marks with lockoutPending := true } }
     faultNoticed d t ∧ faultShownAs 3 d t ms ∧ heaterFrame d t ms ∧ links t ∧
     (burning ∨ h.state = .purge ∧ h.marks.forcedPurge = false → coolsDown d t noted .overheat ms) ∧
     (h.state = .cooldown → t.htr = noted ∧ t.bgt = d.bgt) ∧
     (h.state = .waitInrush ∨ h.state = .off ∨ h.state = .paused → locksOut d t h' .none ms) ∧
     (h.state = .lockout ∨ h.state = .purge ∧ h.marks.forcedPurge = true → t.htr = h' ∧ t.bgt = d.bgt)) ∧
    (let t := deliverEvent 6 true d
     (c.state = .start ∨ c.state = .run → compFailsWith d t c .overcurrent ms ∧ compFrame d t ms d.pins.hall ∧ links t) ∧
     (c.state ≠ .start → c.state ≠ .run → t = d)) ∧
    (let t := heaterFuelLow d
     let h' := { h with runUntil := none }
     (burning ∨ h.state = .purge ∧ ¬marked → coolsDown d t h' .fuelLow ms ∧ heaterPosted d t ∧ heaterFrame d t ms ∧ calm d t ∧ links t) ∧
     (h.state = .purge → marked → t = { d with htr := h' }) ∧
     (h.state = .waitInrush → t.htr = heaterTo h .off 0 none (.refusal .fuelLow) noHeaterTimers ms ∧ heaterWrote d t 0 0 true ∧
       t.bgt.allowance = heaterWithdrawn d.bgt.allowance ms ∧ heaterPosted d t ∧ heaterFrame d t ms ∧ calm d t ∧ links t) ∧
     (h.state = .off ∨ h.state = .paused ∨ h.state = .lockout ∨ h.state = .cooldown → t = d))

/-! ## Rest-Time Monitor (chapter 8) -/

namespace Sys2Proof.Stated

/-- ROAD_SPEED is FRESH and above the moving threshold. -/
def moves (d : Device) : Prop :=
  d.vbl.signals.roadSpeed.status = .fresh ∧ (d.rtm.rules.moving : Int) < d.vbl.signals.roadSpeed.value

/-- R149: the raw class of the second, and whether it comes from a declaration, the first row that applies deciding. -/
def rawClass (d : Device) (cls : ActClass) (declared : Bool) : Prop :=
  let brake := d.vbl.signals.parkingBrake
  (moves d → cls = .drive ∧ declared = false) ∧
  (¬moves d →
    (d.rtm.declaration = .work → cls = .work ∧ declared = true) ∧
    (d.rtm.declaration = .available → cls = .available ∧ declared = true) ∧
    (d.rtm.declaration = .rest → cls = .rest ∧ declared = true) ∧
    (d.rtm.declaration = .auto → declared = false ∧
      cls = if d.vbl.signals.roadSpeed.status ≠ .fresh then .unknown
        else if brake.status = .fresh ∧ brake.value = 1 ∧ deliveredOf d 1 = true then .rest
        else .available))

/-- R152, R156: the second counted under the current class, and the speed-stale flag. -/
def secondCounted (r : Rest) (fresh : Bool) : Rest :=
  let n := if r.current.cls = .drive then 1 else 0
  { r with
    driveSinceBreak := min 2147483647 (r.driveSinceBreak + n)
    driveInDay := min 2147483647 (r.driveInDay + n)
    current := { r.current with stale := r.current.stale || !fresh } }

/-- R151: the settling run after a tick at `uptime` with a raw class. -/
def runAfter (r : Rest) (raw : ActClass) (declared fresh : Bool) (uptime : Nat) : Option SettlingRun :=
  let started : SettlingRun := { candidate := raw, start := uptime - 1, length := 1, declared := declared, stale := !fresh }
  if raw = r.current.cls then none
  else match r.settling with
    | none => some started
    | some s =>
      if s.candidate = raw then some { s with length := s.length + 1, declared := declared, stale := s.stale || !fresh }
      else some started

/-- R151: the run `s` has settled. -/
def settled (r : Rest) (s : SettlingRun) : Prop :=
  r.settling = some s ∧ (if s.candidate = .drive then 10 else 60) ≤ s.length

/-- R153 to R155: the class of a run taken: the open segment is closed at the run's start, the new one opened there, the marks
cleared, the run's seconds counted again under the new class; of 48 segments the oldest leaves. -/
def classTaken (r : Rest) (s : SettlingRun) : Rest :=
  let counted := fun n : Nat =>
    if r.current.cls = .drive then n - s.length else if s.candidate = .drive then min 2147483647 (n + s.length) else n
  let closed := r.closed ++ [{ r.current with stop := some s.start }]
  { r with
    closed := if 47 < closed.length then closed.drop 1 else closed
    current := { number := r.nextNumber, cls := s.candidate, start := s.start, stop := none, declared := s.declared, stale := s.stale }
    nextNumber := (r.nextNumber + 1) % 4294967296
    settling := none
    marks := { first := false, second := false, full := false, daily := false }
    driveSinceBreak := counted r.driveSinceBreak
    driveInDay := counted r.driveInDay
    dayClosed := r.dayClosed && decide (s.candidate ≠ .drive) }

/-- R157: the rest run of an open REST segment. -/
def restRunOf (r : Rest) (uptime : Nat) : Option Nat :=
  if r.current.cls = .rest then
    match r.settling with
    | none => some (uptime - r.current.start)
    | some s => some (s.start - r.current.start)
  else none

/-- R157: whether a threshold is crossed: its mark is clear and the rest run has reached it. -/
def crossed (mark : Bool) (threshold : Nat) (run : Option Nat) : Bool :=
  match run with
  | none => false
  | some n => !mark && decide (threshold ≤ n)

/-- R158: the second part completes a break: a credit stands, once the first part has been looked at, from an earlier segment. -/
def splitBreak (r : Rest) (uptime : Nat) : Bool :=
  let run := restRunOf r uptime
  crossed r.marks.second r.rules.secondPart run &&
    match r.credit with
    | some u => decide (u < r.current.start)
    | none => false

/-- R158: a break is satisfied. -/
def breakMade (r : Rest) (uptime : Nat) : Bool :=
  splitBreak r uptime || crossed r.marks.full r.rules.fullBreak (restRunOf r uptime)

/-- R159: the day closes. -/
def dayMade (r : Rest) (uptime : Nat) : Bool := crossed r.marks.daily r.rules.dailyRest (restRunOf r uptime)

/-- R157 to R159: the rest record after the crossings. -/
def afterCrossings (r : Rest) (uptime : Nat) : Rest :=
  let run := restRunOf r uptime
  let first := crossed r.marks.first r.rules.firstPart run
  let day := dayMade r uptime
  { r with
    marks :=
      { first := r.marks.first || first
        second := r.marks.second || crossed r.marks.second r.rules.secondPart run
        full := r.marks.full || crossed r.marks.full r.rules.fullBreak run
        daily := r.marks.daily || day }
    credit :=
      if breakMade r uptime || day then none
      else match r.credit with
        | none => if first then some r.current.start else none
        | some u => some u
    driveSinceBreak := if breakMade r uptime || day then 0 else r.driveSinceBreak
    driveInDay := if day then 0 else r.driveInDay
    dayCounter := if day then (r.dayCounter + 1) % 65536 else r.dayCounter
    dayClosed := r.dayClosed || day }

/-- R160: the rest-complete projection. -/
def projectionFor (r : Rest) : Option Nat :=
  if r.current.cls = .rest ∧ r.marks.daily = false then some (r.current.start + r.rules.dailyRest) else none

/-- Section 8.6: the condition of a warning on the rest record `r`. -/
def warns (d : Device) (r : Rest) (k : WarnKind) : Bool :=
  match k with
  | .contPre => decide (r.rules.contLimit - r.rules.preLead ≤ r.driveSinceBreak)
  | .contLimit => decide (r.rules.contLimit ≤ r.driveSinceBreak)
  | .dayPre => decide (r.rules.dailyLimit - r.rules.preLead ≤ r.driveInDay)
  | .dayLimit => decide (r.rules.dailyLimit ≤ r.driveInDay)
  | .unknown => decide (r.current.cls = .unknown ∧ r.rules.unknownAlarm ≤ d.sns.uptime - r.current.start)
  | .declConflict => decide ((r.declaration = .work ∨ r.declaration = .rest) ∧ d.vbl.signals.roadSpeed.status = .fresh ∧
      (r.rules.moving : Int) < d.vbl.signals.roadSpeed.value)
  | .restComplete => r.dayClosed

/-- R163: a limit's repeat interval has elapsed since its raise. -/
def repeatDue (d : Device) (r : Rest) (k : WarnKind) : Bool :=
  (decide (k = .contLimit) || decide (k = .dayLimit)) &&
    decide (r.rules.repeatInterval ≤ (d.sns.uptime + (4294967296 - (r.warnings.get k).raised)) % 4294967296)

/-- R162, R163: a record raised. -/
def raisedAt (w : Warning) (uptime : Nat) : Warning :=
  { state := .active, occurrence := (w.occurrence + 1) % 65536, raised := uptime }

/-- R162, R163: a warning record after its condition is evaluated on `r`. -/
def warned (d : Device) (r : Rest) (k : WarnKind) : Warning :=
  let w := r.warnings.get k
  if warns d r k then (if w.state = .clear ∨ repeatDue d r k = true then raisedAt w d.sns.uptime else w)
  else { w with state := .clear }

/-- R165: the highest severity of the records that stand. -/
def standing (t : Warnings) : Nat :=
  let share := fun k n => if (t.get k).state = .clear then 0 else n
  max (share .contPre 1) (max (share .contLimit 3) (max (share .dayPre 1) (max (share .dayLimit 3)
    (max (share .unknown 2) (share .declConflict 1)))))

/-- R162, R163, R165: the records of severity above 0 that are raised or raised again when the conditions are evaluated on `r`. -/
def raisedNow (d : Device) (r : Rest) : List WarnKind :=
  [.contPre, .contLimit, .dayPre, .dayLimit, .unknown, .declConflict].filter fun k =>
    warns d r k && (decide ((r.warnings.get k).state = .clear) || repeatDue d r k)

/-- R141, R165: the indications once the records read `w` and those of `raises` have been raised: each raise posts RTM's severity
as a new occurrence; without one, a severity that has changed is posted without; nothing else of the lights changes. -/
def restShown (d : Device) (w : Warnings) (raises : List WarnKind) : Lights :=
  if raises = [] then
    (if standing w = (d.lgt.sources.get .rtm).severity then d else postIndication .rtm (standing w) false d).lgt
  else (raises.foldl (fun d' _ => postIndication .rtm (standing w) true d') d).lgt

/-- R166: the notice causes after some events. -/
def causesAfter (d : Device) (took brk day : Bool) (t : Rest) : Prop :=
  ∀ c : RestCause, c ∈ t.causes ↔ c ∈ d.rtm.causes ∨ noticeEnabled d .restState = true ∧
    (took = true ∧ c = .cls ∨ brk = true ∧ c = .brk ∨ day = true ∧ c = .day)

/-- R161 and section 8.5: rest rules that may be taken: each in its range, and in agreement with the others. -/
def rulesFit (q : RestRules) : Prop :=
  liesIn 1800 43200 q.contLimit ∧ liesIn 300 14400 q.fullBreak ∧ liesIn 60 14400 q.firstPart ∧ liesIn 60 14400 q.secondPart ∧
  liesIn 1800 86400 q.dailyLimit ∧ liesIn 3600 86400 q.dailyRest ∧ liesIn 60 7200 q.preLead ∧ liesIn 60 7200 q.repeatInterval ∧
  liesIn 60 7200 q.unknownAlarm ∧ liesIn 10 300 q.moving ∧ q.firstPart < q.fullBreak ∧ q.secondPart < q.fullBreak ∧
  q.fullBreak < q.dailyRest ∧ q.preLead < q.contLimit ∧ q.contLimit ≤ q.dailyLimit

/-- R161: the rules that REST_RULES' body carries. -/
def rulesIn (body : List Byte) : RestRules :=
  { contLimit := num2 body 0, fullBreak := num2 body 2, firstPart := num2 body 4, secondPart := num2 body 6
    dailyLimit := num4 body 8, dailyRest := num4 body 12, preLead := num2 body 16, repeatInterval := num2 body 18
    unknownAlarm := num2 body 20, moving := num2 body 22 }

/-- R157 to R166, R173: the rest of a tick, from the rest record `r` that its take (`took`) has left: crossings, projection,
warnings, RTM's indication and the notices (REST_STATE for a take, each break satisfied and a day closing, REST_WARNING for each
record that changes), which touch RTM, its indication and the link alone; then, in the model's order (log 40), so that REST_STATE
comes before REST_WARNING and that before the PLAN_STATE of the same tick, a class taken or a changed projection is handed to the
Night Plan (HandOffsMovePlanAndQuietHours). -/
def tickEnds (d t : Device) (r : Rest) (took : Bool) : Prop :=
  let at_ := d.sns.uptime
  let r1 := afterCrossings r at_
  let r2 := { r1 with projection := projectionFor r1 }
  ∃ u : Device,
    t = (if took = true ∨ r2.projection ≠ d.rtm.handed then planHandoff r2.current.cls r2.projection u else u) ∧
    u = { d with rtm := t.rtm, lgt := u.lgt, sched := t.sched, lnk := { d.lnk with notices := u.lnk.notices } } ∧
    t.rtm = { r2 with handed := r2.projection, warnings := t.rtm.warnings, causes := t.rtm.causes } ∧
    (∀ k, t.rtm.warnings.get k = warned d r2 k) ∧
    causesAfter d took (breakMade r at_) (dayMade r at_) t.rtm ∧
    u.lgt = restShown d t.rtm.warnings (raisedNow d r2) ∧ (u.lgt.sources.get .rtm).severity = standing t.rtm.warnings ∧
    (let full := crossed r.marks.full r.rules.fullBreak (restRunOf r at_)
     let states := [took, splitBreak r at_, full, dayMade r at_].filter id
     let changed := allWarnings.filter fun k => decide (t.rtm.warnings.get k ≠ d.rtm.warnings.get k)
     u.lnk.notices =
       (Nat.repeat (post .restWarning) changed.length (Nat.repeat (post .restState) states.length d)).lnk.notices)

end Sys2Proof.Stated

/-- R149 to R153, R156: RTM's tick takes the raw class of the second, counts it under the current class, advances the settling run,
and takes the class of a run that has settled, 10 s for DRIVE and 60 s for the others; crossings, projection, warnings and the
hand-off to the Night Plan follow. RTM's severity is the highest that stands, each raise of a severity above 0 a new occurrence of
its indication. At a tick without a FRESH ROAD_SPEED the segment open before the take is flagged (log 41). CLASS_TAKE does the same
for a run that has settled, and nothing without one (log 1). That the tick's work waits for REST_TICK is log 2; that REST_STATE
comes before REST_WARNING and that before the hand-off, and that every posting carries the severity after all of the tick's
changes, are log 40; that its times are plain numbers across a wrap of uptime is log 13. -/
def Obligations.RestTickSettlesAndCounts : Prop :=
  ∀ s : State,
    let r := s.dev.rtm
    let u := s.dev.sns.uptime
    let fresh := decide (s.dev.vbl.signals.roadSpeed.status = .fresh)
    (Runs .restTick s fun t => ∃ raw declared, rawClass s.dev raw declared ∧
      (let r1 := { secondCounted r fresh with raw := raw, settling := runAfter r raw declared fresh u }
       (∀ run, settled r1 run → tickEnds s.dev t (classTaken r1 run) true) ∧
       ((∀ run, ¬settled r1 run) → tickEnds s.dev t r1 false)) ∧
      t.sched = { s.dev.sched with restTick := false }) ∧
    (∀ run, settled r run → Runs .classTake s fun t => tickEnds s.dev t (classTaken r run) true ∧ t.sched = s.dev.sched) ∧
    ((∀ run, ¬settled r run) → Runs .classTake s fun t => t = s.dev)

/-- R157 to R160, R163: a threshold that the rest run has reached, its mark clear, is crossed, with the rest of its tick; with none
there is no change (log 1). A limit warning that stands, its condition true and its repeat interval elapsed, is raised again as
ACTIVE with the next occurrence, and each such raise is a new occurrence of RTM's indication; with none due there is no change.
That every posting carries the severity after all the changes of one moment, before the hand-off, and that REST_STATE comes before
REST_WARNING, are log 40; plain times across a wrap of uptime are log 13. -/
def Obligations.RestCrossingsAndRepeatsAct : Prop :=
  ∀ s : State,
    let r := s.dev.rtm
    let run := restRunOf r s.dev.sns.uptime
    let any := crossed r.marks.first r.rules.firstPart run || crossed r.marks.second r.rules.secondPart run ||
      crossed r.marks.full r.rules.fullBreak run || crossed r.marks.daily r.rules.dailyRest run
    let due := fun k => warns s.dev r k && repeatDue s.dev r k && decide ((r.warnings.get k).state ≠ .clear)
    (any = true → Runs .restCrossing s fun t => tickEnds s.dev t r false ∧ t.sched = s.dev.sched) ∧
    (any = false → Runs .restCrossing s fun t => t = s.dev) ∧
    ((due .contLimit || due .dayLimit) = true → Runs .repeatRaise s fun t =>
      (∀ k, t.rtm.warnings.get k =
        if due k = true then raisedAt (r.warnings.get k) s.dev.sns.uptime else r.warnings.get k) ∧
      t.lnk.notices = (Nat.repeat (post .restWarning) ([.contLimit, .dayLimit].filter due).length s.dev).lnk.notices ∧
      t.lgt = restShown s.dev t.rtm.warnings ([.contLimit, .dayLimit].filter due) ∧
      (t.lgt.sources.get .rtm).severity = standing t.rtm.warnings ∧
      t = { s.dev with
        rtm := { r with warnings := t.rtm.warnings }, lgt := t.lgt, lnk := { s.dev.lnk with notices := t.lnk.notices } }) ∧
    ((due .contLimit || due .dayLimit) = false → Runs .repeatRaise s fun t => t = s.dev)

/-- R150, R161, R164: a good REST_RULES replaces the ten rules and nothing else; DECLARE_ACTIVITY sets the declaration, its reply
carrying the current class and the raw class of the last tick; ACK_WARNING acknowledges an ACTIVE record whose occurrence it
names, which clears RTM's sounding mark, is answered OK for an ACKNOWLEDGED one, STALE_OCCURRENCE for another occurrence and
BAD_VALUE for a CLEAR record; its reply carries the record's state and occurrence after it. Rules out of their ranges or in
disagreement, an unknown declaration and an unknown warning kind are answered BAD_VALUE and change nothing but the link. -/
def Obligations.RestRequestsAreTaken : Prop :=
  ∀ (s : State) (tag : Byte), noneInHand s.dev →
    let r := s.dev.rtm
    (∀ q : RestRules, rulesFit q →
      let body := u16 q.contLimit ++ u16 q.fullBreak ++ u16 q.firstPart ++ u16 q.secondPart ++ u32 q.dailyLimit ++
        u32 q.dailyRest ++ u16 q.preLead ++ u16 q.repeatInterval ++ u16 q.unknownAlarm ++ u16 q.moving
      Runs (.restRules tag body) s fun t =>
        RepliedQuietly s.dev t 0x38 tag body 0x00 [] ∧ t = { s.dev with rtm := { r with rules := q }, lnk := t.lnk }) ∧
    (∀ a : Declaration, Runs (.declareActivity tag (u8 a.code)) s fun t =>
      RepliedQuietly s.dev t 0x39 tag (u8 a.code) 0x00 [BitVec.ofNat 8 r.current.cls.code, BitVec.ofNat 8 r.raw.code] ∧
      t = { s.dev with rtm := { r with declaration := a }, lnk := t.lnk }) ∧
    (∀ (n : Nat) (k : WarnKind) (occurrence : Nat), allWarnings[n]? = some k → occurrence < 65536 →
      let w := r.warnings.get k
      let body := u8 n ++ u16 occurrence
      let fields := fun st : WarnState => BitVec.ofNat 8 st.code :: u16 w.occurrence
      Runs (.ackWarning tag body) s fun t =>
        let unchanged := fun code : Byte =>
          RepliedQuietly s.dev t 0x3A tag body code (fields w.state) ∧ t = { s.dev with lnk := t.lnk }
        (w.state = .clear → unchanged 0x04) ∧ (w.state ≠ .clear → occurrence ≠ w.occurrence → unchanged 0x07) ∧
        (w.state = .acknowledged → occurrence = w.occurrence → unchanged 0x00) ∧
        (w.state = .active → occurrence = w.occurrence →
          RepliedQuietly s.dev t 0x3A tag body 0x00 (fields .acknowledged) ∧
          t = { s.dev with
            rtm := { r with warnings := r.warnings.put k { w with state := .acknowledged } }
            lgt := (ackIndication s.dev).lgt
            lnk := t.lnk })) ∧
    (∀ body : List Byte,
      (body.length = 24 → ¬rulesFit (rulesIn body) → Refused (.restRules tag body) s 0x38 tag body 0x04) ∧
      (body.length = 1 → 3 < num1 body 0 → Refused (.declareActivity tag body) s 0x39 tag body 0x04) ∧
      (body.length = 3 → 6 < num1 body 0 → Refused (.ackWarning tag body) s 0x3A tag body 0x04))

/-! ## Night Plan (chapter 9) -/

namespace Sys2Proof.Stated

/-- The plan is ARMED or PREWARM. -/
def live (p : Plan) : Prop := p.state = .armed ∨ p.state = .prewarm

/-- R178: quiet hours, by the plan and the host's mark. -/
def quietBy (p : Plan) : Bool := decide ((p.state = .armed ∨ p.state = .prewarm) ∧ p.lastClass = .rest) || p.hostQuiet

/-- R174: the lead for a pre-warm setpoint. -/
def leadFor (d : Device) (setpoint : Int) : Nat :=
  let lead := fun ambient : Int => (max 600 (min 3600 (600 + (max 0 (setpoint - ambient)) * 3))).toNat
  if d.vbl.signals.ambientTemp.status = .fresh then lead d.vbl.signals.ambientTemp.value
  else if d.sns.analog.tCab.status = .ok then lead d.sns.analog.tCab.value
  else 3600

/-- R180: the notice causes with one more, while PLAN_STATE is enabled. -/
def withCause (d : Device) (c : PlanCause) : List PlanCause :=
  if noticeEnabled d .planState = true ∧ c ∉ d.npl.causes then d.npl.causes ++ [c] else d.npl.causes

/-- R175: the pre-warm time of a plan has been reached: ARMED, with a known wake no further than the lead ahead. -/
def prewarmDue (d : Device) (p : Plan) : Prop :=
  p.state = .armed ∧ ∃ w, p.wake = some w ∧ w ≤ d.sns.uptime + p.lead

/-- R175, R176: from `d`, the plan enters PREWARM and hands the heater a start with its setpoint; the heater's answer, by its state,
is recorded and posted. That a refusal which finds the entry above severity 0 leaves the mark clear, whatever it was, is log 39. -/
def prewarms (d t : Device) : Prop :=
  let h := d.htr
  let p := d.npl
  let marked := h.marks.lockoutPending = true ∨ h.marks.forcedPurge = true
  let plan := { p with state := .prewarm, result := .taken, causes := withCause d .prewarm }
  let takes := fun h' : Heater => t = { d with htr := h', npl := plan, lnk := (post .planState d).lnk }
  let refused := fun r : Reason =>
    let shown := if heaterSeverity d = 0 then 1 else heaterSeverity d
    t = { d with
      npl := { p with
        state := .prewarm
        result := .refused r
        causes := withCause d .prewarmFailed
        prewarmMark := decide (heaterSeverity d = 0) }
      lgt := (postIndication .htr shown true d).lgt
      lnk := (post .planState d).lnk }
  (h.state = .off ∨ h.state = .paused → (∀ r, startFailsWith d r → refused r) ∧
    (startMayBeMade d → ∃ u,
      lightsUp d u
        { h with
          attempts := 0
          marks := { h.marks with restartPending := false, lockoutPending := false }
          setpoint := p.setpoint
          wished := startLevel d p.setpoint } d.sns.ms ∧
      heaterFrame d u d.sns.ms ∧ calm d u ∧ t = { u with npl := plan, lnk := (post .planState u).lnk })) ∧
  (h.state = .lockout → refused (if h.latch = true then .overheat else .locked)) ∧
  (h.state = .cooldown ∨ h.state = .purge → marked → refused .locked) ∧
  (h.state = .cooldown → ¬marked → takes { h with setpoint := p.setpoint, marks := { h.marks with restartPending := true } }) ∧
  (h.state = .waitInrush ∨ h.state = .glow ∨ h.state = .ignite ∨ h.state = .ramp ∨ h.state = .run ∨
      h.state = .purge ∧ ¬marked →
    takes { h with setpoint := max h.setpoint p.setpoint })

/-- The part with a pre-warm mark resolved (R176): a mark that stands clears the heater's entry. -/
def markResolved (d : Device) : Device :=
  if d.npl.prewarmMark = true then { d with npl := { d.npl with prewarmMark := false }, lgt := (postIndication .htr 0 false d).lgt }
  else d

/-- R56, R173: the part with a horizon handed to the Load Budget; a change of its source triggers a pass. -/
def horizonGiven (d : Device) (wake : Option Nat) : Device :=
  { d with bgt := { d.bgt with
    horizonSource := wake
    passesDue := d.bgt.passesDue + (if wake = d.bgt.horizonSource then 0 else 1) } }

/-- R173, R174: the part after the wake of a live plan has become `wake`: the lead follows a known wake, the plan is ARMED, and the
horizon is handed where it differs from the one handed last. -/
def wakeMovedTo (d : Device) (wake : Option Nat) : Device :=
  let p := { d.npl with
    state := .armed, wake := wake, horizonHanded := wake
    lead := if wake = none then d.npl.lead else leadFor d d.npl.setpoint }
  let d1 := { d with npl := p }
  if wake = d.npl.horizonHanded then d1 else horizonGiven d1 wake

/-- R180: PLAN_STATE posted with a cause. -/
def planPosted (d : Device) (c : PlanCause) : Device :=
  { d with npl := { d.npl with causes := withCause d c }, lnk := (post .planState d).lnk }

/-- R177: the wake is carried out: the host's quiet mark is cleared and the quiet flag follows; scene 5 comes up by hand where wake
lights are set; PLAN_STATE is posted with cause WAKE, the horizon becomes none, a pre-warm mark is resolved, and no plan is left. -/
def wakes (d t : Device) : Prop :=
  let u := refreshQuiet { d with npl := { d.npl with state := .ended, hostQuiet := false } }
  let ms := d.sns.ms
  let scene := d.lgt.scenes.getD 5 { levels := List.replicate 7 none, fade := 0 }
  let now := u.lgt.channels.map (rested ms)
  ∃ v : Device,
    (d.npl.wakeLights = false → v = u) ∧
    (d.npl.wakeLights = true → lightsSound d →
      lightsFollow u v ((List.range 7).map fun k =>
        match scene.levels.getD k none with
        | none => now.getD k darkChannel
        | some level => handSet level scene.fade ms (now.getD k darkChannel)) True ms ∧
      lightsFrame u v ms ∧ lightsKept u v ∧ v.lnk = { u.lnk with notices := v.lnk.notices }) ∧
    (let x := markResolved (horizonGiven (planPosted v .wake) none)
     t = { x with npl := { x.npl with state := .none, wake := none, horizonHanded := none } })

end Sys2Proof.Stated

/-- R171 to R175, R178, R179: PLAN_SET with a good body replaces the plan, ARMED, its wake the host's wall time as an uptime or the
last projection; lead, quiet flag and horizon follow, PLAN_STATE is posted, and the pre-warm is tested once (log 34; its start by
log 48). PLAN_CANCEL ends the plan, the host's quiet mark and the horizon handed. QUIET_SET sets the mark, its reply carrying the
quiet flag and the plan's own condition. A quiet flag that changes is handed on (HandOffsMovePlanAndQuietHours). Times are worked
modulo 2^32, and PLAN_SET's reply carries the wake's wall time beside its uptime only while the clock is SET (log 24). A PLAN_SET
with a field out of its range is answered BAD_VALUE, one for a wall time with the clock UNSET NO_CLOCK, and one for a wall time
less than 600 s or more than 86,400 s ahead BAD_VALUE; a QUIET_SET of another code than ON and OFF is answered BAD_VALUE: each
changes nothing but the link. -/
def Obligations.PlanRequestsSetPlan : Prop :=
  ∀ (s : State) (tag : Byte), noneInHand s.dev →
    let p := s.dev.npl
    let mark : Device → List Byte := fun t => [if t.npl.quiet = true then 0x01 else 0x00]
    (∀ (source : WakeSource) (wall setpoint : Nat) (lights : Bool), wall < 4294967296 →
      setpoint = 0 ∨ 50 ≤ setpoint ∧ setpoint ≤ 300 →
      (source = .hostTime → s.dev.sns.clockSet = true ∧
        (let now := (s.dev.sns.uptime + s.dev.sns.clockOffset) % 4294967296
         now + 600 ≤ wall ∧ wall ≤ now + 86400)) →
      let body := u8 source.code ++ u32 wall ++ u16 setpoint ++ u8 (if lights = true then 1 else 0)
      Runs (.planSet tag body) s fun t =>
        let wake := if source = .hostTime then some ((wall + (4294967296 - s.dev.sns.clockOffset)) % 4294967296)
          else p.lastProjection
        let sp : Int := if setpoint = 0 then 210 else setpoint
        let p1 := { p with
          state := .armed, source := source, wake := wake, setpoint := sp, wakeLights := lights, horizonHanded := wake
          lead := if wake = none then p.lead else leadFor s.dev sp
          result := .none }
        let horizon := if wake = p.horizonHanded then s.dev.bgt.horizonSource else wake
        Replied s.dev t 0x1C tag body 0x00 (opt32 wake ++ if s.dev.sns.clockSet = true then
          opt32 (wake.map fun w => (w + s.dev.sns.clockOffset) % 4294967296) else []) ∧
        t.npl = { p1 with
          state := t.npl.state, result := t.npl.result, quiet := quietBy p1, causes := t.npl.causes
          prewarmMark := t.npl.prewarmMark } ∧
        (prewarmDue s.dev p1 → t.npl.state = .prewarm ∧ t.npl.result ≠ .none) ∧
        (¬prewarmDue s.dev p1 → t.npl.state = .armed ∧ t.npl.result = .none ∧ t.npl.prewarmMark = false) ∧
        t.bgt.horizonSource = horizon ∧
        (noticeEnabled s.dev .planState = true → .set ∈ t.npl.causes ∧ ∃ n ∈ t.lnk.notices, n.kind = .planState) ∧
        (let d0 := markResolved s.dev
         let d1 := { d0 with npl := { p1 with quiet := p.quiet, prewarmMark := false } }
         let v := planPosted (refreshQuiet (if wake = p.horizonHanded then d1 else horizonGiven d1 wake)) .set
         let u := { t with lnk := { s.dev.lnk with notices := t.lnk.notices } }
         (prewarmDue s.dev p1 → budgetSound v → prewarms v u) ∧ (¬prewarmDue s.dev p1 → u = v))) ∧
    Runs (.planCancel tag []) s (fun t =>
      let p1 := { p with state := .none, wake := none, hostQuiet := false, horizonHanded := none, quiet := false, prewarmMark := false }
      let horizon := if p.horizonHanded = none then s.dev.bgt.horizonSource else none
      Replied s.dev t 0x1D tag [] 0x00 [] ∧ t.npl = { p1 with causes := t.npl.causes } ∧ t.bgt.horizonSource = horizon ∧
      (live p → noticeEnabled s.dev .planState = true → .cancel ∈ t.npl.causes ∧ ∃ n ∈ t.lnk.notices, n.kind = .planState) ∧
      (let d1 := refreshQuiet { s.dev with npl := { p with state := .none, wake := none, hostQuiet := false } }
       let d2 := if p.horizonHanded = none then d1
         else horizonGiven { d1 with npl := { d1.npl with horizonHanded := none } } none
       let d3 := markResolved d2
       { t with lnk := { s.dev.lnk with notices := t.lnk.notices } } =
         if p.state = .armed ∨ p.state = .prewarm then planPosted d3 .cancel else d3)) ∧
    (∀ on : Bool, let body : List Byte := [if on = true then 0x01 else 0x00]
      Runs (.quietSet tag body) s fun t =>
        let p1 := { p with hostQuiet := on }
        Replied s.dev t 0x1E tag body 0x00
          (mark t ++ [if (p.state = .armed ∨ p.state = .prewarm) ∧ p.lastClass = .rest then 0x01 else 0x00]) ∧
        t.npl = { p1 with quiet := quietBy p1, causes := t.npl.causes } ∧
        (quietBy p1 = p.quiet → t = { s.dev with npl := p1, lnk := t.lnk } ∧ t.lnk.notices = s.dev.lnk.notices) ∧
        { t with lnk := { s.dev.lnk with notices := t.lnk.notices } } = refreshQuiet { s.dev with npl := p1 } ∧
        (quietBy p1 ≠ p.quiet → noticeEnabled s.dev .planState = true →
          .quiet ∈ t.npl.causes ∧ ∃ n ∈ t.lnk.notices, n.kind = .planState)) ∧
    (∀ n : Byte, 1 < n.toNat → Refused (.quietSet tag [n]) s 0x1E tag [n] 0x04) ∧
    (∀ body : List Byte, body.length = 8 →
      let good := num1 body 0 ≤ 1 ∧ num1 body 7 ≤ 1 ∧ (num2 body 5 = 0 ∨ liesIn 50 300 (num2 body 5))
      let now := (s.dev.sns.uptime + s.dev.sns.clockOffset) % 4294967296
      let answers := Refused (.planSet tag body) s 0x1C tag body
      (¬good → answers 0x04) ∧ (good → num1 body 0 = 0 → s.dev.sns.clockSet = false → answers 0x06) ∧
      (good → num1 body 0 = 0 → s.dev.sns.clockSet = true → ¬liesIn (now + 600) (now + 86400) (num4 body 1) → answers 0x04))

/-- R174 to R177: at an uptime second that is a multiple of 60 an ARMED plan with a known wake works its lead out again and tests
the pre-warm; the pre-warm time, once reached, gives the heater its start (its sixth check by the step
currents as they stand, log 48); the wake, once reached, ends quiet hours, recalls scene
5 where wake lights are set, takes the horizon back and leaves no plan. Otherwise nothing changes. That the work of a second waits
for LEAD_RECOMPUTE, PREWARM_TIME_REACHED and WAKE, each of which takes the second's mark with it, is log 2. -/
def Obligations.PlanTimesAct : Prop :=
  ∀ s : State, budgetSound s.dev →
    let p := s.dev.npl
    let d1 := { s.dev with sched := { s.dev.sched with leadTick := false } }
    let dp := { s.dev with sched := { s.dev.sched with prewarmTick := false } }
    let dw := { s.dev with sched := { s.dev.sched with wakeTick := false } }
    let again := p.state = .armed ∧ p.wake ≠ none ∧ s.dev.sns.uptime % 60 = 0
    let d2 := { d1 with npl := { p with lead := leadFor s.dev p.setpoint } }
    (again → Runs .leadRecompute s fun t => (prewarmDue d2 d2.npl → prewarms d2 t) ∧ (¬prewarmDue d2 d2.npl → t = d2)) ∧
    (¬again → Runs .leadRecompute s fun t => t = d1) ∧
    (prewarmDue s.dev p → Runs .prewarmTimeReached s fun t => prewarms dp t) ∧
    (¬prewarmDue s.dev p → Runs .prewarmTimeReached s fun t => t = dp) ∧
    (let reached := live p ∧ ∃ w, p.wake = some w ∧ w ≤ s.dev.sns.uptime
     (¬reached → Runs .wake s fun t => t = dw) ∧
     (reached → Runs .wake s fun t =>
        wakes dw t ∧ t.sched = dw.sched ∧
        t.npl = { p with
          state := .none, wake := none, hostQuiet := false, quiet := false, horizonHanded := none, prewarmMark := false
          causes := t.npl.causes } ∧
        t.bgt.horizonSource = none ∧
        (noticeEnabled s.dev .planState = true → .wake ∈ t.npl.causes ∧ ∃ n ∈ t.lnk.notices, n.kind = .planState) ∧
        (p.wakeLights = true → lightsSound s.dev → ∀ k, k < 7 →
          (t.lgt.channels.getD k darkChannel).target =
            match ((s.dev.lgt.scenes.getD 5 { levels := [], fade := 0 }).levels).getD k none with
            | none => (s.dev.lgt.channels.getD k darkChannel).target
            | some level => level) ∧
        (p.wakeLights = false → t.lgt.channels.map (·.target) = s.dev.lgt.channels.map (·.target)) ∧
        t.sns = s.dev.sns ∧ t.vbl = s.dev.vbl ∧ t.chg = s.dev.chg ∧ t.rtm = s.dev.rtm))

/-- R91, R108, R144, R173, R178, R180: the quiet flag, and the Rest-Time Monitor's hand-off to the plan. A flag that keeps its
value changes nothing. A change is handed, in this model's order (log 27), to the compressor, whose W is worked out afresh within
the quiet cap (from L before the demand's first cut-in, kept after it: log 21); to the heater, whose level in RAMP and RUN is
lowered to the maximum allowed level (its flame reference restarting from the T_EXCH published last, log 23) and whose wished level
is worked out afresh and goes into the entry, a fall below the level lowering grant and level with it (log 14); and to the lights,
whose marks below severity 3 quiet hours clear (IndicationFollowsPostings); and PLAN_STATE is posted with cause QUIET. A hand-off
sets the last class and the last projection and works the flag out. Where the projection changes (log 33), a live REST_COMPLETE
plan takes it: a known one becomes the wake, none while at REST is the day closing, which carries the wake out, and none otherwise
leaves the wake unknown. A moved wake posts WAKE_MOVED and tests the pre-warm (its start by log 48). -/
def Obligations.HandOffsMovePlanAndQuietHours : Prop :=
  (∀ d : Device, budgetSound d → levelHeld d →
    let t := refreshQuiet d
    let q := quietBy d.npl
    let d1 := { d with npl := { d.npl with quiet := q } }
    let c := d.cmp
    let h := d.htr
    let exch := d.sns.analog.tExch.value
    let h' := if h.state = .ramp ∨ h.state = .run then lowered h (max 1 (topLevel d1)) exch d.sns.ms else h
    (q = d.npl.quiet → t = d) ∧
    (q ≠ d.npl.quiet → ∃ u v : Device,
      compWishes d1 u c (wishUnderCap d1 c.settings.quietCap) ∧ compFrame d1 u d.sns.ms d.pins.hall ∧
      (h.state ≠ .ramp → h.state ≠ .run → v = u) ∧
      (let u' := { u with htr := h' }
       (h.state = .ramp → rampWishes u' v (startLevel u h.setpoint) id) ∧
       (h.state = .run →
         let w := runLevel u'
         v.htr = lowered { h' with wished := w } w exch d.sns.ms ∧ heaterWrote u v w 1 false ∧
         v.bgt.allowance = u.bgt.allowance ∧ (asksAlready u w → v.bgt = u.bgt) ∧ v.lnk = u.lnk ∧ calm u v)) ∧
      heaterFrame u v d.sns.ms ∧ v.lnk = { u.lnk with notices := v.lnk.notices } ∧
      t = planPosted (if q = true then muteForQuiet v else v) .quiet)) ∧
  (∀ (cls : ActClass) (projection : Option Nat) (d : Device), budgetSound d → lightsSound d →
    let t := planHandoff cls projection d
    let p := d.npl
    let d1 := refreshQuiet { d with npl := { p with lastClass := cls, lastProjection := projection } }
    let takes := projection ≠ p.lastProjection ∧ live p ∧ p.source = .restComplete
    let moved := planPosted (wakeMovedTo d1 projection) .wakeMoved
    (¬takes → t = d1) ∧
    (takes → projection = none → cls = .rest → wakes d1 t) ∧
    (takes → projection ≠ none ∨ cls ≠ .rest →
      (projection = p.wake → t = d1) ∧
      (projection ≠ p.wake → (prewarmDue moved moved.npl → prewarms moved t) ∧ (¬prewarmDue moved moved.npl → t = moved))))

/-! ## What the read requests report -/

/-- R188: a number in two bytes, least significant first. -/
def Sys2Proof.Stated.le2 (n : Nat) : List Byte := [BitVec.ofNat 8 n, BitVec.ofNat 8 (n / 256)]

/-- R188: a number in four bytes, least significant first. -/
def Sys2Proof.Stated.le4 (n : Nat) : List Byte := Sys2Proof.Stated.le2 n ++ Sys2Proof.Stated.le2 (n / 65536)

/-- R188: a signed number in two bytes, two's complement. -/
def Sys2Proof.Stated.signed2 (x : Int) : List Byte := Sys2Proof.Stated.le2 (BitVec.ofInt 16 x).toNat

/-- R188: a mark in one byte. -/
def Sys2Proof.Stated.yes (b : Bool) : List Byte := if b then [1] else [0]

/-- R188: a number in one byte. -/
def Sys2Proof.Stated.byte (n : Nat) : List Byte := [BitVec.ofNat 8 n]

/-- R188: a number that may be absent, in one, two and four bytes: all ones for none. -/
def Sys2Proof.Stated.opt1 (x : Option Nat) : List Byte := Sys2Proof.Stated.byte (x.getD 0xFF)

@[inherit_doc Sys2Proof.Stated.opt1]
def Sys2Proof.Stated.opt2 (x : Option Nat) : List Byte := Sys2Proof.Stated.le2 (x.getD 0xFFFF)

@[inherit_doc Sys2Proof.Stated.opt1]
def Sys2Proof.Stated.opt4 (x : Option Nat) : List Byte := Sys2Proof.Stated.le4 (x.getD (2 ^ 32 - 1))

/-- R188: a list of varying length: its number of items, then each. -/
def Sys2Proof.Stated.listed {α : Type} (item : α → List Byte) (l : List α) : List Byte :=
  Sys2Proof.Stated.byte l.length ++ l.flatMap item

/-- An uptime that may be absent, with its wall time beside it while the clock is SET (R19, log 24). -/
def Sys2Proof.Stated.timed (d : Device) (x : Option Nat) : List Byte :=
  Sys2Proof.Stated.opt4 x ++
    if d.sns.clockSet then Sys2Proof.Stated.opt4 (x.map fun u => (u + d.sns.clockOffset) % 2 ^ 32) else []

/-- The ms that a timer has left, all ones when it stands still. -/
def Sys2Proof.Stated.msLeft (d : Device) (timer : Option Nat) : List Byte :=
  Sys2Proof.Stated.opt4 (timer.map fun at_ => at_ - d.sns.ms)

/-- A read request: answered OK with contents that meet `P`, nothing changed but the link that hears it and answers. -/
def Sys2Proof.Stated.Reads (c : Instr) (s : State) (kind tag : Byte) (body : List Byte) (P : List Byte → Prop) : Prop :=
  Sys2Proof.Stated.Runs c s fun t =>
    ∃ contents, Sys2Proof.Stated.RepliedQuietly s.dev t kind tag body 0x00 contents ∧ P contents ∧ t = { s.dev with lnk := t.lnk }

/-- R8, R34, R48, R72, R181, R188, R194 (widths: log 7; wall times only while the clock is SET: log 24; the codes of chapter 9:
log 8): with no request in hand, IDENTIFY, GET_STATUS, READ_SENSORS, READ_VEHICLE, READ_CHARGE, READ_BUDGET and READ_PLAN are
answered OK and change nothing but the link, and their contents are the fields the rules name, in that order: the part code
0x0410, the hardware revision, the protocol version 1 and the four calibration points; the uptime, the clock, the link and every
block's state; the six channels, the eight lines and the clock; the listener and its signals (part 0) or an acceptance slot (parts
1 to 12); the charge, the battery description and the last tick of the full charge; the six entries, the last pass, the allowance
and the outlet; the plan. A READ_VEHICLE part above 12 is refused. -/
def Obligations.ReadsReportLinkAndSupply : Prop :=
  ∀ (s : State) (tag : Byte), noneInHand s.dev →
    let d := s.dev
    let signals := [Signal.roadSpeed, .engineRunning, .ignition, .parkingBrake, .ambientTemp, .fuelLow]
    let signed4 := fun x : Int => le4 (BitVec.ofInt 32 x).toNat
    let wall := if d.sns.clockSet then le4 ((d.sns.uptime + d.sns.clockOffset) % 2 ^ 32) else []
    Reads (.identify tag []) s 0x01 tag [] (fun r =>
      r = [0x10, 0x04] ++ le4 d.factory.revision ++ [0x01] ++ le2 d.factory.raw10 ++ le2 d.factory.raw30 ++ le2 d.factory.raw0 ++
        le2 d.factory.raw50) ∧
    Reads (.getStatus tag []) s 0x03 tag [] (fun r =>
      r = le4 d.sns.uptime ++ yes d.sns.clockSet ++ wall ++ [0x00] ++
        listed (fun n : Notice => byte n.kind.number) d.lnk.notices ++ byte d.vbl.listener.code ++ yes d.chg.known ++
        le2 d.chg.soc ++ byte d.chg.uv.code ++ byte d.bgt.last.stage ++ yes d.bgt.last.short ++ byte d.bgt.outlet.state.code ++
        byte d.htr.state.code ++ byte (if d.htr.level = 0 then 0xFF else d.htr.level) ++ byte d.cmp.state.code ++
        byte d.cmp.commanded ++ byte d.rtm.current.cls.code ++ byte d.npl.state.code ++ yes d.npl.quiet ++
        byte (displayed d.lgt.sources)) ∧
    Reads (.readSensors tag []) s 0x0A tag [] (fun r =>
      r = ([AnalogChannel.batv, .bati, .tCab, .tExch, .tFridge, .tBatt].flatMap fun c =>
            let x := d.sns.analog.get c
            byte x.status.code ++ le2 x.average ++ (if c = .batv then le2 x.value.toNat else signed2 x.value)) ++
          ((List.range 8).flatMap fun n =>
            yes (lineOf d n).real ++ yes ((lineOf d n).forced.getD (lineOf d n).real) ++ yes (lineOf d n).forced.isSome) ++
          le4 d.sns.uptime ++ yes d.sns.clockSet ++ wall) ∧
    (∀ part : Byte, part.toNat ≤ 12 →
      Reads (.readVehicle tag [part]) s 0x13 tag [part] fun r =>
        if part = 0 then
          r = byte d.vbl.listener.code ++ yes d.vbl.enable ++ le2 d.vbl.bitRate ++ byte d.vbl.source.code ++ le4 d.vbl.mask ++
            signals.flatMap fun g =>
              let x := d.vbl.signals.get g
              byte x.status.code ++ signed4 x.value ++
                le2 (if x.updated then min 65535 ((d.sns.uptime + (4294967296 - x.lastUpdate)) % 4294967296) else 65535)
        else
          let n := part.toNat - 1
          ∀ v, d.vbl.slots[n]? = some v →
            r = yes v.enabled ++ byte (if v.format = .standard then 0 else 1) ++ le4 v.ident ++
              le4 (if n < 10 then d.vbl.mask else v.ownMask) ++ le2 v.limit ++ byte v.status.code ++
              listed (fun x : Byte => [x]) v.data ++ le2 (min 65535 (d.sns.ms - v.arrival)) ++
              listed (fun g : Signal => byte g.code)
                (signals.filter fun g => (d.vbl.signals.get g).binding.any fun b => decide (b.slot = n))) ∧
    (∀ part : Byte, 12 < part.toNat →
      Runs (.readVehicle tag [part]) s fun t =>
        RepliedQuietly d t 0x13 tag [part] 0x04 [] ∧ t = { d with lnk := t.lnk }) ∧
    Reads (.readCharge tag []) s 0x16 tag [] (fun r =>
      let c := d.chg
      let q := c.battery
      r = yes c.known ++ le4 c.q ++ signed2 c.acc ++ le2 c.soc ++ le4 q.capacity ++ le2 q.reserve ++ le4 c.qmin ++
        signed2 c.temp ++ yes c.tempFallback ++ le2 c.derate ++ le4 c.spendable ++ signed2 c.current ++ le2 c.voltage ++
        signed4 c.vcomp ++ byte c.uv.code ++ le4 c.runs.fallToLow ++ le4 c.runs.fallToCritical ++ le4 c.runs.riseToLow ++
        le4 c.runs.riseToNormal ++ le2 c.fullRun ++ opt4 c.lastFull ++ byte q.system ++ le4 q.capacity ++ le2 q.reserve ++
        byte q.resistance ++ le2 q.vWarn ++ le2 (warnOf q) ++ le2 q.vCut ++ le2 (cutOf q) ++ le2 q.vFull ++
        le2 q.full ++ le2 q.tail ++ opt4 c.lastFullTick) ∧
    Reads (.readBudget tag []) s 0x19 tag [] (fun r =>
      let p := d.bgt.last
      let a := d.bgt.allowance
      let o := d.bgt.outlet
      r = ([Load.base, .heater, .compressor, .lights, .outlet, .warning].flatMap fun l =>
          let e := d.bgt.table.get l
          byte l.code ++ opt1 e.rank ++ listed le2 e.steps ++ byte e.requested ++ byte e.floor ++ byte e.granted ++
            byte (if e.granted = e.requested then 0 else if e.granted = 0 ∧ 0 < e.requested then 2 else 1) ++ le4 e.since) ++
        byte p.policy.code ++ byte p.stage ++ yes p.short ++ le4 p.uptime ++ le2 p.horizon ++ yes p.fromWake ++
        le4 p.usable ++ le4 p.demand ++ le2 d.bgt.defaultHorizon ++ byte a.state.code ++
        (match a.state with
          | .held l => byte l.code
          | _ => [0xFF]) ++ msLeft d a.hold ++ msLeft d a.settle ++ listed (fun l : Load => byte l.code) a.waiting ++
        byte o.state.code ++ yes (decide (o.state = .closing ∨ o.state = .on)) ++ msLeft d o.closing) ∧
    Reads (.readPlan tag []) s 0x1F tag [] (fun r =>
      let p := d.npl
      r = byte p.state.code ++ byte p.source.code ++ timed d p.wake ++ le2 p.lead ++
        timed d (p.wake.map fun w => (((w : Int) - p.lead) % 4294967296).toNat) ++ le2 p.setpoint.toNat ++ yes p.wakeLights ++
        byte (match p.result with
          | .none => 0
          | .taken => 1
          | .refused r => r.code) ++
        yes p.quiet ++ yes p.hostQuiet ++ timed d p.horizonHanded ++ byte p.lastClass.code ++ timed d p.lastProjection ++
        yes p.prewarmMark)

/-- R168: a timeline segment as READ_TIMELINE gives it: number, class, start, end or open (all ones), with wall times while the
clock is SET (log 24), and its two flags. -/
def Sys2Proof.Stated.segmentBytes (d : Device) (g : Segment) : List Byte :=
  le4 g.number ++ byte g.cls.code ++ timed d (some g.start) ++ timed d g.stop ++ yes g.declared ++ yes g.stale

/-- R103: the running timer of a heater state (log 7): in COOLDOWN the minimum's, then the maximum's. -/
def Sys2Proof.Stated.heaterTimer (d : Device) : Option Nat :=
  let t := d.htr.timers
  match d.htr.state with
  | .waitInrush => t.wait
  | .glow => t.glow
  | .ignite => t.window
  | .ramp => t.ramp
  | .run => t.dwell
  | .purge => t.purge
  | .cooldown => if (t.coolMin.all fun at_ => decide (at_ ≤ d.sns.ms)) = true then t.coolMax else t.coolMin
  | .off | .paused | .lockout => none

/-- R103, R126, R146, R167, R168, R188 (widths, codes, the timer of a state, which timers are time left, and their ms: log 7; wall
times: log 24; the rest run across a wrap of uptime: log 13): with no request in hand, READ_HEATER, READ_FRIDGE, READ_LIGHTS,
READ_REST and READ_TIMELINE are answered OK, change nothing but the link, and carry the fields the rules name, in that order: by
part the heater's state, marks, timer and outputs (level 0xFF with none in force), its table and settings, or four fault records;
the compressor; the eight channels, every fade that has run out ended, the lights' settings and steps, the six sources and the
buzzer; the rest record; the timeline's length, the index and up to eight segments from it. A READ_HEATER part above 3 and an
index above 47 are refused. -/
def Obligations.ReadsReportDrivesAndRest : Prop :=
  ∀ (s : State) (tag : Byte), noneInHand s.dev →
    let d := s.dev
    let ms := d.sns.ms
    let h := d.htr
    let q := h.seq
    let all := fun (f : FaultRec) =>
      byte f.kind.code ++ byte f.state.code ++ signed2 f.tExch ++ signed2 f.tCab ++ le2 f.voltage.toNat ++ le4 f.uptime
    (∀ part : Byte, part.toNat ≤ 3 →
      Reads (.readHeater tag [part]) s 0x25 tag [part] fun r =>
        if part = 0 then
          r = byte h.state.code ++ byte (if h.level = 0 then 0xFF else h.level) ++ byte h.wished ++ byte (topLevel d) ++
            le2 h.setpoint.toNat ++ le2 h.lastSetpoint.toNat ++
            opt4 (if d.sns.clockSet then h.runUntil.map fun u => (u + d.sns.clockOffset) % 2 ^ 32 else h.runUntil) ++
            yes h.marks.restartPending ++ yes h.marks.lockoutPending ++ yes h.marks.forcedPurge ++ yes h.marks.tableDefault ++
            opt1 (h.cool.map fun c => c.cause.code) ++ msLeft d (heaterTimer d) ++ le2 h.fuel.interval ++ opt2 h.fuel.staged ++
            yes h.glowSince.isSome ++ le4 ((h.glowSince.map fun at_ => ms - at_).getD 0) ++ le2 h.blower.duty ++
            le4 (match h.blower.lastTach with
              | none => h.blower.rpm
              | some at_ => if ms < at_ + 2000 then h.blower.rpm else 0) ++
            signed2 h.flameBase ++ signed2 h.flameRef ++ le4 h.attempts ++ byte h.lockouts ++ opt4 h.flameLoss ++ yes h.latch
        else if part = 1 then
          r = (h.table.flatMap fun l => le2 l.interval ++ le2 l.duty ++ le2 l.minRpm ++ le2 l.current) ++
            byte q.pulseWidth ++ byte q.glowTime ++ le2 q.ignInterval ++ le2 q.ignDuty ++ le2 q.flameRise ++ byte q.flameWindow ++
            byte q.attempts ++ le2 q.purgeDuty ++ le2 q.purgeTime ++ le2 q.coolDuty ++ le2 q.coolEnd ++ le2 q.coolMin ++
            le2 q.coolMax ++ le2 q.softLimit ++ le2 q.lossDrop ++ le2 q.dwell ++ le2 q.pauseDelay ++ byte h.limits.hostMax ++
            byte h.limits.quietMax ++ byte h.limits.fallback ++
            (match h.cool with
              | none => []
              | some c => if h.state = .cooldown then le2 c.duty ++ le2 c.endTemp ++ le2 c.minTime ++ le2 c.maxTime else [])
        else
          r.length = 48 ∧ ∀ n, n < 4 →
            (r.drop (12 * n)).take 12 =
              match h.faults[4 * (part.toNat - 2) + n]? with
              | none => List.replicate 12 0xFF
              | some f => all f) ∧
    (∀ part : Byte, 3 < part.toNat →
      Runs (.readHeater tag [part]) s fun t =>
        RepliedQuietly d t 0x25 tag [part] 0x04 [] ∧ t = { d with lnk := t.lnk }) ∧
    Reads (.readFridge tag []) s 0x2C tag [] (fun r =>
      let c := d.cmp
      let x := c.settings
      let t := c.timers
      r = byte c.state.code ++ yes c.enable ++ byte c.mode.code ++ yes (!c.demand) ++ byte c.wished ++ byte c.commanded ++
        byte c.learned ++ byte d.bgt.table.compressor.granted ++ le4 c.window.rpm ++ le2 c.duty ++ byte c.failures ++
        (match c.lastFailure with
          | none => List.replicate 5 0xFF
          | some f => byte f.kind.code ++ le4 f.uptime) ++
        yes c.latch ++ signed2 d.sns.analog.tFridge.value ++ byte d.sns.analog.tFridge.status.code ++
        signed2 x.setpoint ++ byte x.differential ++ byte (if x.order = .a then 0 else 1) ++ le2 x.deadTime ++ byte x.polePairs ++
        le2 x.currentLimit ++ byte x.quietCap ++
        msLeft d (match c.state with
          | .start => t.start
          | .stopping => t.coast
          | .stallBackoff => t.backoff
          | .blocked => t.blocked
          | _ => none) ++
        opt4 ((t.offSince.filter fun at_ => decide (ms < at_ + 180000)).map fun at_ => ms - at_) ++ msLeft d t.minRun ++
        yes c.deferred ++ msLeft d t.raise ++ opt4 c.cutIn ++ byte c.phase.code ++ msLeft d t.phase ++
        byte d.pins.hall.toNat ++ ((List.range 6).flatMap fun n => opt4 (c.window.intervals[n]?)) ++ opt2 c.lastMean) ∧
    Reads (.readLights tag []) s 0x35 tag [] (fun r =>
      let g := d.lgt
      let e := d.bgt.table.lights
      r = ((g.channels.map (rested ms)).flatMap fun c =>
          le2 c.target ++ le2 (levelAt c ms) ++ le2 c.applied ++
            le4 (if c.fading then c.fadeAt + c.fadeMs - ms else 0) ++ opt2 c.saved ++ yes c.hold ++ yes c.courtesy) ++
        le2 0 ++ le2 0 ++ le2 g.ch7Applied ++ le4 0 ++ [0xFF, 0xFF] ++ [0, 0] ++
        (g.chSettings.flatMap fun x => byte x.group.code) ++ (g.chSettings.flatMap fun x => yes x.essential) ++
        byte g.settings.dialGroup.code ++ le2 g.settings.courtesyTime ++ le2 g.settings.courtesyLevel ++
        le2 g.settings.nightLevel ++ byte e.requested ++ byte e.granted ++ byte g.capStep ++ msLeft d g.courtesyTimer ++
        yes d.npl.quiet ++
        ([Source.rtm, .htr, .cmp, .bgt, .chg, .sns].flatMap fun x =>
          let y := g.sources.get x
          byte y.severity ++ le2 y.occurrence ++ yes y.sounding) ++
        byte (displayed g.sources) ++ yes g.buzzer.burst ++ le4 g.buzzer.remaining) ∧
    Reads (.readRest tag []) s 0x3B tag [] (fun r =>
      let x := d.rtm
      let u := x.rules
      r = byte x.current.cls.code ++ byte x.raw.code ++ byte x.declaration.code ++
        (match x.settling with
          | none => [0xFF] ++ timed d none ++ le4 (2 ^ 32 - 1) ++ [0xFF, 0xFF]
          | some g => byte g.candidate.code ++ timed d (some g.start) ++ le4 g.length ++ yes g.declared ++ yes g.stale) ++
        le4 x.current.number ++ timed d (some x.current.start) ++ yes x.marks.first ++ yes x.marks.second ++ yes x.marks.full ++
        yes x.marks.daily ++ le4 x.driveSinceBreak ++ le4 x.driveInDay ++ opt4 (restRunOf x d.sns.uptime) ++ le2 x.dayCounter ++
        timed d x.credit ++ timed d x.projection ++ le2 u.contLimit ++ le2 u.fullBreak ++ le2 u.firstPart ++ le2 u.secondPart ++
        le4 u.dailyLimit ++ le4 u.dailyRest ++ le2 u.preLead ++ le2 u.repeatInterval ++ le2 u.unknownAlarm ++ le2 u.moving ++
        ([(WarnKind.contPre, 1), (.contLimit, 3), (.dayPre, 1), (.dayLimit, 3), (.unknown, 2), (.declConflict, 1),
            (.restComplete, 0)].flatMap fun p =>
          let w := x.warnings.get p.1
          byte w.state.code ++ le2 w.occurrence ++ timed d (some w.raised) ++ byte p.2) ++
        byte (standing x.warnings) ++ timed d x.lastBunk) ∧
    (∀ index : Byte, index.toNat ≤ 47 →
      Reads (.readTimeline tag [index]) s 0x3C tag [index] fun r =>
        let held := d.rtm.closed ++ [d.rtm.current]
        r = byte held.length ++ [index] ++ listed (segmentBytes d) ((held.drop index.toNat).take 8)) ∧
    (∀ index : Byte, 47 < index.toNat →
      Runs (.readTimeline tag [index]) s fun t =>
        RepliedQuietly d t 0x3C tag [index] 0x04 [] ∧ t = { d with lnk := t.lnk })

/-- R190: what a notice of a kind carries after its merge count, taken when its notice is sent (widths, and the order within
SENSOR_FAULT: log 7; the rest run across a wrap of uptime: log 13): the reset kind, its uptime and the clock; the clock and the
uptime; the six channels; the lines that changed and all eight delivered levels; the listener and the signals' statuses; the
charge; the budget; the heater, whose cause byte is a refusal's code or a cooldown's place and otherwise free (log 8); the newest
fault and the number held; the compressor; the lights with every fade that has run out ended; the rest record; the seven warnings;
the plan, whose pre-warm time is the wake less the lead. The causes that have gathered are a mask of their places. -/
def Obligations.NoticesCarrySnapshots : Prop :=
  ∀ (n : Notice) (d : Device),
    let body := snapshot n d
    let signed4 := fun x : Int => le4 (BitVec.ofInt 32 x).toNat
    let a := d.sns.analog
    let channels := [AnalogChannel.batv, .bati, .tCab, .tExch, .tFridge, .tBatt]
    let lines := fun l : List (Nat × Bool) => l.flatMap fun p => byte p.1 ++ yes (deliveredOf d p.1) ++ yes p.2
    (n.kind = .restarted → body = yes d.lnk.resetKind ++ le4 d.lnk.resetUptime ++ yes d.sns.clockSet) ∧
    (n.kind = .clockNeeded → body = yes d.sns.clockSet ++ le4 d.sns.uptime) ∧
    (n.kind = .sensorFault → body = channels.flatMap fun c =>
      byte (a.get c).status.code ++ if c = .batv then le2 (a.get c).value.toNat else signed2 (a.get c).value) ∧
    (n.kind = .inputChange → body = byte n.lines.length ++ lines n.lines ++ (List.range 8).flatMap fun k => yes (deliveredOf d k)) ∧
    (n.kind = .busState → body = byte d.vbl.listener.code ++ le2 d.vbl.bitRate ++ byte d.vbl.source.code ++
      [Signal.roadSpeed, .engineRunning, .ignition, .parkingBrake, .ambientTemp, .fuelLow].flatMap fun g =>
        byte (d.vbl.signals.get g).status.code) ∧
    (n.kind = .chargeState → ∃ mask, mask < 65536 ∧
      (∀ k, mask.testBit k = true ↔ ∃ c ∈ d.chg.causes, [ChargeCause.set, .capacity, .grade, .full][k]? = some c) ∧
      body = le2 mask ++ yes d.chg.known ++ le2 d.chg.soc ++ le4 d.chg.q ++ le4 d.chg.spendable ++ le2 d.chg.derate ++
        signed2 d.chg.temp ++ signed4 d.chg.vcomp ++ byte d.chg.uv.code ++ opt4 d.chg.lastFull) ∧
    (n.kind = .budgetState → body =
      let r := d.bgt.last
      byte r.policy.code ++ byte r.stage ++ yes r.short ++ le2 r.horizon ++ le4 r.usable ++
      ([Load.heater, .compressor, .lights, .outlet].flatMap fun l =>
        let e := d.bgt.table.get l
        byte e.requested ++ byte e.granted ++
          byte (if e.granted = e.requested then 0 else if e.granted = 0 ∧ 0 < e.requested then 2 else 1)) ++
      byte d.bgt.allowance.state.code ++ (match d.bgt.allowance.state with
        | .held l => byte l.code
        | _ => [0xFF]) ++ byte d.bgt.outlet.state.code) ∧
    (n.kind = .heaterState → ∃ cause : Byte,
      (∀ r, d.htr.cause = .refusal r → cause = BitVec.ofNat 8 r.code) ∧
      (∀ c, d.htr.cause = .cooling c → cause = BitVec.ofNat 8 c.code) ∧
      body = byte d.htr.state.code ++ [cause] ++ byte (if d.htr.level = 0 then 0xFF else d.htr.level) ++
        le2 d.htr.setpoint.toNat ++ signed2 a.tExch.value ++ signed2 a.tCab.value ++
        le4 (match d.htr.blower.lastTach with
          | none => d.htr.blower.rpm
          | some at_ => if d.sns.ms < at_ + 2000 then d.htr.blower.rpm else 0) ++
        byte d.bgt.table.heater.granted ++ le4 d.htr.attempts ++ byte d.htr.lockouts ++ yes d.htr.latch) ∧
    (n.kind = .heaterFault → body = (match d.htr.faults.getLast? with
      | none => List.replicate 12 0xFF
      | some f => byte f.kind.code ++ byte f.state.code ++ signed2 f.tExch ++ signed2 f.tCab ++ le2 f.voltage.toNat ++
          le4 f.uptime) ++ byte d.htr.faults.length) ∧
    (n.kind = .fridgeState → body =
      let c := d.cmp
      byte c.state.code ++ yes c.enable ++ byte c.mode.code ++ yes (!c.demand) ++ byte c.wished ++ byte c.commanded ++
      byte c.learned ++ byte d.bgt.table.compressor.granted ++ le4 c.window.rpm ++ le2 c.duty ++ byte c.failures ++
      (match c.lastFailure with
        | none => List.replicate 5 0xFF
        | some f => byte f.kind.code ++ le4 f.uptime) ++
      yes c.latch ++ signed2 a.tFridge.value ++ byte a.tFridge.status.code) ∧
    (n.kind = .lightState → body =
      ((d.lgt.channels.map (rested d.sns.ms)).flatMap fun c => le2 c.target ++ le2 c.applied ++ yes c.hold ++ yes c.courtesy) ++
      le2 0 ++ le2 d.lgt.ch7Applied ++ [0, 0] ++ byte d.lgt.capStep ++ byte (displayed d.lgt.sources)) ∧
    (n.kind = .restState → ∃ mask, mask < 65536 ∧
      (∀ k, mask.testBit k = true ↔ ∃ c ∈ d.rtm.causes, [RestCause.cls, .brk, .day][k]? = some c) ∧
      body =
        let r := d.rtm
        le2 mask ++ byte r.current.cls.code ++ le4 r.current.number ++ le4 r.current.start ++ byte r.declaration.code ++
        le4 r.driveSinceBreak ++ le4 r.driveInDay ++ opt4 (restRunOf r d.sns.uptime) ++ opt4 r.credit ++ le2 r.dayCounter ++
        opt4 r.projection) ∧
    (n.kind = .restWarning → body =
      [(WarnKind.contPre, 1), (.contLimit, 3), (.dayPre, 1), (.dayLimit, 3), (.unknown, 2), (.declConflict, 1),
        (.restComplete, 0)].flatMap fun p =>
        let w := d.rtm.warnings.get p.1
        byte w.state.code ++ le2 w.occurrence ++ le4 w.raised ++ byte p.2) ∧
    (n.kind = .planState → ∃ mask, mask < 65536 ∧
      (∀ k, mask.testBit k = true ↔ ∃ c ∈ d.npl.causes,
        [PlanCause.set, .cancel, .wakeMoved, .prewarm, .prewarmFailed, .wake, .quiet][k]? = some c) ∧
      body =
        let p := d.npl
        le2 mask ++ byte p.state.code ++ byte p.source.code ++ opt4 p.wake ++ le2 p.lead ++
        (match p.wake with
          | none => List.replicate 4 0xFF
          | some w => signed4 ((w : Int) - p.lead)) ++
        le2 p.setpoint.toNat ++ yes p.wakeLights ++
        byte (match p.result with
          | .none => 0
          | .taken => 1
          | .refused r => r.code) ++
        yes p.quiet ++ yes p.hostQuiet ++ opt4 p.horizonHanded)
/-! ## RESTART (R196 and the blocks' own rules) -/

namespace Sys2Proof.Stated

/-- R196, stages 1 to 4, from the end of the RESTART's reply: the queue and the table emptied, with the causes of the owners that
had an entry there; the link's settings at their defaults; the link AWAKE, its idle timer running from the last valid frame;
RESTARTED in the table. -/
def linkRestarted (d : Device) : Device :=
  let stood := fun k : NoticeKind => ∃ n ∈ d.lnk.notices, n.kind = k
  { d with
    sns := { d.sns with ms := max d.sns.ms d.lnk.sendEnd }
    chg := { d.chg with causes := if stood .chargeState then [] else d.chg.causes }
    rtm := { d.rtm with causes := if stood .restState then [] else d.rtm.causes }
    npl := { d.npl with causes := if stood .planState then [] else d.npl.causes }
    lnk := { d.lnk with
      queue := [], out := none, tx := .idle, notices := [{ kind := .restarted, merge := 1, lines := [] }]
      enables := 0x7FFE, idleTime := 5000, awake := true, idle := some (d.lnk.lastFrame + 5000)
      resetKind := true, resetUptime := d.sns.uptime } }

/-- R6, R9, R12, R15, R16: what a RESTART makes of the Sensing Unit; the defaults are those of the cold reset. -/
def sensingRestarts (d t : Device) : Prop :=
  (∀ n, n < 8 → lineOf t n =
    (let l := lineOf d n
     let q := lineOf State.reset.dev n
     { l with
       polarity := q.polarity, filter := q.filter, edge := q.edge, report := false, forced := none
       run := if q.polarity = l.polarity ∧ q.filter = l.filter then l.run else 0
       startAfresh := l.startAfresh || decide (q.polarity ≠ l.polarity) })) ∧
  t = protect { d with sns := { d.sns with
    tables := State.reset.dev.sns.tables
    lines := t.sns.lines
    dial := { a := d.pins.dialA, b := d.pins.dialB, runA := false, runB := false, count := 0, last := none }
    current := { sum := 0, count := 0 } } }

/-- R52: what a RESTART makes of the Charge Counter. -/
def chargeRestarts (d t : Device) : Prop :=
  derivedFits t.chg ∧
  t = { d with chg := { d.chg with
    battery := { State.reset.dev.chg.battery with system := d.chg.battery.system, capacity := d.chg.battery.capacity }
    runs := { fallToLow := 0, fallToCritical := 0, riseToLow := 0, riseToNormal := 0 }
    fullRun := 0
    derate := t.chg.derate, qmin := t.chg.qmin, soc := t.chg.soc, spendable := t.chg.spendable } }

/-- R183: what a RESTART makes of the Night Plan. -/
def planRestarts (d t : Device) : Prop :=
  let p := { d.npl with
    state := .none, wake := none, setpoint := 210, lead := 600, wakeLights := false, hostQuiet := false, result := .none, causes := [] }
  let d1 := refreshQuiet { d with npl := p }
  t = markResolved (if p.horizonHanded = none then d1
    else horizonGiven { d1 with npl := { d1.npl with horizonHanded := none } } none) ∧
  t.npl = { p with
    quiet := false, horizonHanded := none, prewarmMark := false
    causes := if d.npl.quiet = true ∧ noticeEnabled d .planState = true then [.quiet] else [] }

/-- R105, logs 43, 44: what a RESTART makes of the heater: its state moves as the table says, and the heat level table is at its
defaults in OFF and LOCKOUT, pending in every other state. -/
def heaterRestarts (d t : Device) : Prop :=
  let ms := d.sns.ms
  let h : Heater := { d.htr with
    setpoint := 200, lastSetpoint := 200, runUntil := none, seq := State.reset.dev.htr.seq, limits := State.reset.dev.htr.limits
    lastRestart := none, marks := { d.htr.marks with restartPending := false, tableDefault := true } }
  let d' := { d with htr := h }
  let marked := h.marks.lockoutPending = true ∨ h.marks.forcedPurge = true
  (h.state = .glow ∨ h.state = .ignite ∨ h.state = .ramp ∨ h.state = .run ∨ h.state = .purge ∧ ¬marked →
    coolsDown d' t h .restart ms) ∧
  (h.state = .purge → marked → t.htr = h ∧ t.bgt = d.bgt) ∧
  (h.state = .cooldown → t.bgt = d.bgt ∧
    t.htr = { h with cool := h.cool.map fun c => { c with cause := if c.cause = .pause then .restart else c.cause } }) ∧
  (h.state = .waitInrush ∨ h.state = .paused →
    t.htr = heaterTo h .off 0 none (.cooling .restart) noHeaterTimers ms ∧ heaterWrote d' t 0 0 true ∧
    t.bgt.allowance = (if h.state = .waitInrush then heaterWithdrawn d.bgt.allowance ms
      else { d.bgt.allowance with waiting := d.bgt.allowance.waiting.filter fun l => decide (l ≠ .heater) })) ∧
  (h.state = .off ∨ h.state = .lockout →
    t.htr = { h with table := State.reset.dev.htr.table, marks := { h.marks with tableDefault := false } } ∧
    t.bgt = { d.bgt with table := { d.bgt.table with heater := { d.bgt.table.heater with
      steps := 0 :: State.reset.dev.htr.table.map (·.current) } } }) ∧
  heaterPosted d t ∧ heaterFrame d t ms ∧ calm d t ∧ t.lnk = { d.lnk with notices := t.lnk.notices }

/-- R128, log 43: what a RESTART makes of the compressor. -/
def compRestarts (d t : Device) : Prop :=
  let ms := d.sns.ms
  let a := d.bgt.allowance
  let c : Compressor := { d.cmp with
    settings := State.reset.dev.cmp.settings, enable := false, demand := false, mode := .thermostat
    timers := { d.cmp.timers with phase := none } }
  let d1 := if d.cmp.mode = .thermostat then d else post .fridgeState d
  compFrame d t ms d.pins.hall ∧ t.lnk = { d.lnk with notices := t.lnk.notices } ∧
  t.lgt = (if c.state = .blocked then (postIndication .cmp 0 false d).lgt else d.lgt) ∧
  (c.state = .start → compStops d1 t c (compReleased a ms) ms) ∧ (c.state = .run → compStops d1 t c a ms) ∧
  (c.state = .waitInrush → compRests d1 t { c with wished := 0 } .disabled (restTimers c ms) (compWithdrawn a ms)) ∧
  (c.state = .idle ∨ c.state = .offHold ∨ c.state = .stallBackoff ∨ c.state = .blocked →
    compRests d1 t { c with wished := 0 } .disabled (restTimers c ms) a) ∧
  (c.state = .stopping → compWished d t c 0) ∧
  (c.state = .disabled → t.cmp = c ∧ t.bgt = d.bgt) ∧
  (c.state = .stopping ∨ c.state = .disabled → t.sns = d.sns ∧ t.lnk.notices = d1.lnk.notices)

/-- R148: what a RESTART makes of the lights: settings and scenes at their defaults, and scene 0 recalled with a fade of 0; flags
and cap step change each cap once (log 47). -/
def lightsRestart (d t : Device) : Prop :=
  let ms := d.sns.ms
  let moved := t.lgt.capStep ≠ d.lgt.capStep ∨ ∃ c ∈ d.lgt.channels, c.target ≠ 0
  lightsCapped d t (d.lgt.channels.map fun c => { handSet 0 0 ms (rested ms c) with saved := none }) ms ∧
  (moved → t.lnk.notices = (post .lightState d).lnk.notices) ∧ (¬moved → t.lnk.notices = d.lnk.notices) ∧
  t.lgt.written = 0 ∧ (∀ c ∈ t.lgt.channels, c.target = 0 ∧ c.fading = false ∧ c.hold = false ∧ c.courtesy = false) ∧
  lightsFrame d t ms ∧ t.lnk = { d.lnk with notices := t.lnk.notices } ∧
  t.lgt = { d.lgt with
    channels := t.lgt.channels, capStep := t.lgt.capStep, written := t.lgt.written, courtesyTimer := none
    chSettings := State.reset.dev.lgt.chSettings, scenes := State.reset.dev.lgt.scenes, settings := State.reset.dev.lgt.settings }

/-- R170: the part after a RESTART of the Rest-Time Monitor. -/
def restRestarted (d : Device) : Device :=
  { d with
    rtm := { d.rtm with rules := State.reset.dev.rtm.rules, declaration := .auto }
    lgt := (postIndication .rtm (standing d.rtm.warnings) false d).lgt }

/-- R75: what a RESTART makes of the Load Budget: the defaults, the allowance emptied, the outlet off, and a pass. -/
def budgetRestarts (d t : Device) : Prop :=
  let b := State.reset.dev.bgt.table
  let old := d.bgt.table
  let fresh := fun l : Load => { old.get l with rank := (b.get l).rank, steps := (b.get l).steps }
  let u := flushAllowance { d with bgt := { d.bgt with
    table := { base := fresh .base, heater := { old.heater with rank := b.heater.rank }, compressor := fresh .compressor
               lights := fresh .lights, outlet := fresh .outlet, warning := fresh .warning }
    defaultHorizon := 28800 } }
  let v := if u.bgt.outlet.state = .off then u
    else { u with bgt := outletDropped u, lnk := { u.lnk with notices := (post .budgetState u).lnk.notices } }
  exec .budgetPass { dev := { v with bgt := { v.bgt with passesDue := v.bgt.passesDue + 1 } }, pending := [] } =
    .next { dev := t, pending := [] }

end Sys2Proof.Stated

/-- R196: RESTART is answered OK, and acts when that reply has been sent in full: the receive queue and the notice table are
emptied, the link configuration returns to its defaults, the link is AWAKE with its idle timer at 5,000 ms, which this model lets
run from the last valid frame (log 6), and RESTARTED (reset kind REQUEST) is the first notice sent, the blocks' notices behind it.
Every block but the vehicle bus listener, which stays (R35), then takes the RESTART by its own rule, in the model's order (log 16):
R6, R9, R12, R15 and R16 for the sensors, the lines and the dial, R52 for the battery, R183 for the plan, R105 for the heater, R128
for the compressor, R148 for the lights, R170 for the rest monitor, R75 for the Load Budget, whose pass comes last (passes that the
blocks triggered stay due, logs 16, 17). The clock and its offset, the counted charge, the timeline, the fault list, the lockout
counter and the learned start step survive; the Night Plan and every forcing end. That the plan's wake source is kept, which R183
does not list, is log 35 (DEDUCED), the cause RESTART of a heater that leaves WAIT_INRUSH or PAUSED log 44, what R105 and R128 list
neither as kept nor as cleared (the attempt counter; the compressor's other readings), kept, log 43, and that the compressor's
deferred mark is clear outside RUN log 41. -/
def Obligations.RestartActsAfterItsReply : Prop :=
  (∀ (s : State) (tag : Byte), noneInHand s.dev →
    Runs (.restart tag []) s fun t =>
      Answers s.dev t 0x02 tag [] 0x82 0x00 [] true ∧ t = { s.dev with lnk := t.lnk } ∧ t.lnk.notices = s.dev.lnk.notices ∧
        t.lnk.enables = s.dev.lnk.enables ∧ t.lnk.idleTime = s.dev.lnk.idleTime) ∧
  (∀ (s : State) (f : Frame), s.dev.lnk.tx = .reply f → s.dev.lnk.out = some { rest := [], restart := true } →
    Runs .transmitterFree s fun t =>
      let u := restartBudget (restartRest (restartLights (restartComp (restartHeater (restartPlan (restartCharge (restartSensing
        (linkRestarted s.dev))))))))
      let g : Frame := { kind := 0xC1, tag := 0, body := 0x01 :: 0x01 :: u32 s.dev.sns.uptime ++ [if s.dev.sns.clockSet = true then 1 else 0] }
      (∃ behind, u.lnk.notices = { kind := .restarted, merge := 1, lines := [] } :: behind ∧
        t = { u with lnk := { (linkRestarted s.dev).lnk with
          notices := behind, tx := .notice g, sendEnd := (linkRestarted s.dev).sns.ms + airtime g } }) ∧
      t.sns.uptime = s.dev.sns.uptime ∧ t.sns.clockSet = s.dev.sns.clockSet ∧ t.sns.clockOffset = s.dev.sns.clockOffset ∧
      t.sns.analog = s.dev.sns.analog ∧ (∀ n, n < 8 → (lineOf t n).forced = none) ∧ t.vbl = s.dev.vbl ∧
      t.chg.q = s.dev.chg.q ∧ t.chg.acc = s.dev.chg.acc ∧ t.chg.known = s.dev.chg.known ∧
      t.htr.lockouts = s.dev.htr.lockouts ∧ t.htr.faults = s.dev.htr.faults ∧ t.cmp.learned = s.dev.cmp.learned ∧
      t.rtm.closed = s.dev.rtm.closed ∧ t.rtm.current = s.dev.rtm.current ∧
      t.rtm.driveSinceBreak = s.dev.rtm.driveSinceBreak ∧ t.rtm.driveInDay = s.dev.rtm.driveInDay ∧
      t.npl.state = .none ∧ t.npl.wake = none) ∧
  (∀ d : Device, budgetSound d → lightsSound d →
    sensingRestarts d (restartSensing d) ∧ chargeRestarts d (restartCharge d) ∧ planRestarts d (restartPlan d) ∧
    heaterRestarts d (restartHeater d) ∧ compRestarts d (restartComp d) ∧ lightsRestart d (restartLights d) ∧
    restartRest d = restRestarted d ∧ budgetRestarts d (restartBudget d))


/-! ## What every step keeps -/

/-- R185, R189 to R192: from every state whose link is sound, whatever the step runs, the link stays sound: at most four frames in
the receive queue, a reply ready or on its way only while a request is in hand, at most one notice of each kind, none of a
disabled kind, each with a merge count of 1 to 255. -/
def Obligations.LinkStaysSound : Prop :=
  ∀ s t : State, linkSound s.dev → step s = .next t → linkSound t.dev

/-- R53, R54, R63 to R67, R71: from every state whose Load Budget is sound, whatever the step runs, it stays sound: floor ≤
granted ≤ requested ≤ last step in every entry, the four sheddable loads share the ranks 1 to 4, and the allowance has at most one
holder, no load waiting twice, none that holds it or has a grant of 0, and the one timer its state calls for. And no load commands
more than its granted step (R55, R91): the heater's level, the compressor's C, the lights' cap step and the outlet's relay, while
HEATER's entry asks for what R79's table gives the heater's state, the wished level from WAIT_INRUSH to RUN. -/
def Obligations.BudgetStaysSound : Prop :=
  ∀ s t : State, budgetSound s.dev → step s = .next t → budgetSound t.dev ∧ (grantsObeyed s.dev → grantsObeyed t.dev)

/-- R13, R118, R122: no step turns both gates of a leg on, or a gate that waits for its dead time; and all six gates stay off
outside START and RUN, while the overcurrent latch is set, and while DIN6's raw level is active. -/
def Obligations.BridgeStaysSafe : Prop :=
  ∀ s t : State, bridgeSound s.dev.cmp s.dev.pins s.dev.sns.lines → step s = .next t →
    bridgeSound t.dev.cmp t.dev.pins t.dev.sns.lines

/-- R13, R78, R87, R96: no step feeds fuel outside IGNITE, RAMP and RUN, while the overheat latch is set, or while DIN5's raw
level is active; and after every step the GLOW output is on only in GLOW and IGNITE, while the heater holds the allowance, with
the latch clear and DIN5's raw level inactive. -/
def Obligations.FuelStaysSafe : Prop :=
  ∀ s t : State, fuelSound s.dev.htr s.dev.pins s.dev.sns.lines → step s = .next t →
    fuelSound t.dev.htr t.dev.pins t.dev.sns.lines ∧
    (glowGate t.dev = true → (t.dev.htr.state = .glow ∨ t.dev.htr.state = .ignite) ∧
      t.dev.bgt.allowance.state = .held .heater ∧ t.dev.htr.latch = false ∧ rawLevel t.dev.pins t.dev.sns.lines 5 = false)

/-- Sections 1.4, 2.2 and 7.1, R135, R145: every step keeps the eight lines and the twelve slots, the seven channels with their
seven settings and the six scenes of seven entries, and every light level within 0 to 1,000. -/
def Obligations.TablesKeepTheirShape : Prop :=
  ∀ s t : State, shapesSound s.dev ∧ lightsSound s.dev → step s = .next t → shapesSound t.dev ∧ lightsSound t.dev

/-- R197 and the initial states of the chapters: the part after reset meets each of the invariants above. -/
def Obligations.ResetIsSound : Prop :=
  let d := State.reset.dev
  linkSound d ∧ budgetSound d ∧ grantsObeyed d ∧ bridgeSound d.cmp d.pins d.sns.lines ∧ fuelSound d.htr d.pins d.sns.lines ∧ shapesSound d ∧
    lightsSound d
end

