-- ==== Sys2Proof/Laws/State.lean ====
section
/-! SUPPORT. What each update of the state and of its tables reads as afterwards: one lemma per update, so that no later proof
unfolds a record update. -/

namespace Sys2Proof.Machine

/-! ## Outcomes -/

/-- A command that runs answers the next state and leaves the commands that wait. -/
@[simp] theorem running_eq (s : State) (f : Device → Device) :
    running s f = .next { dev := f s.dev, pending := s.pending } := rfl

/-- The next state of a command that runs. -/
theorem running_next {s t : State} {f : Device → Device} (h : running s f = .next t) :
    t.dev = f s.dev ∧ t.pending = s.pending := by
  cases h; exact ⟨rfl, rfl⟩

/-! ## Updates of a block -/

@[simp] theorem reach_ms (t : Nat) (d : Device) : (reach t d).sns.ms = max d.sns.ms t := rfl
@[simp] theorem putCount_dial (n : Int) (d : Device) : (putCount n d).sns.dial = { d.sns.dial with count := n } := rfl
@[simp] theorem putLine_lines (n : Nat) (l : InputLine) (d : Device) : (putLine n l d).sns.lines = d.sns.lines.set n l := rfl
@[simp] theorem putReceiver_receiver (r : Receiver) (d : Device) : (putReceiver r d).lnk.receiver = r := rfl
@[simp] theorem putReceiver_lastByte (r : Receiver) (d : Device) : (putReceiver r d).lnk.lastByte = d.sns.ms := rfl
@[simp] theorem acceptFrame_awake (f : Frame) (d : Device) : (acceptFrame f d).lnk.awake = true := rfl
@[simp] theorem acceptFrame_idle (f : Frame) (d : Device) : (acceptFrame f d).lnk.idle = some (d.sns.ms + d.lnk.idleTime) := rfl
@[simp] theorem acceptFrame_lastFrame (f : Frame) (d : Device) : (acceptFrame f d).lnk.lastFrame = d.sns.ms := rfl
@[simp] theorem goDrowsy_awake (d : Device) : (goDrowsy d).lnk.awake = false := rfl
@[simp] theorem goDrowsy_idle (d : Device) : (goDrowsy d).lnk.idle = none := rfl
@[simp] theorem triggerPass_due (d : Device) : (triggerPass d).bgt.passesDue = d.bgt.passesDue + 1 := rfl
@[simp] theorem putAllowance_allowance (a : Allowance) (d : Device) : (putAllowance a d).bgt.allowance = a := rfl
@[simp] theorem leaveWaiting_waiting (l : Load) (d : Device) :
    (leaveWaiting l d).bgt.allowance.waiting = d.bgt.allowance.waiting.filter fun x => decide (x ≠ l) := rfl
@[simp] theorem leaveWaiting_state (l : Load) (d : Device) : (leaveWaiting l d).bgt.allowance.state = d.bgt.allowance.state := rfl
@[simp] theorem leaveWaiting_hold (l : Load) (d : Device) : (leaveWaiting l d).bgt.allowance.hold = d.bgt.allowance.hold := rfl
@[simp] theorem leaveWaiting_settle (l : Load) (d : Device) : (leaveWaiting l d).bgt.allowance.settle = d.bgt.allowance.settle := rfl
@[simp] theorem putSns_sns (x : Sensing) (d : Device) : (putSns x d).sns = x := rfl
@[simp] theorem putVbl_vbl (v : Vehicle) (d : Device) : (putVbl v d).vbl = v := rfl
@[simp] theorem putSlot_slots (n : Nat) (v : Slot) (d : Device) : (putSlot n v d).vbl.slots = d.vbl.slots.set n v := rfl
@[simp] theorem putSignals_signals (t : Signals) (d : Device) : (putSignals t d).vbl.signals = t := rfl
@[simp] theorem putChg_chg (c : Charge) (d : Device) : (putChg c d).chg = c := rfl
@[simp] theorem putHtrTimers_timers (t : HeaterTimers) (d : Device) : (putHtrTimers t d).htr.timers = t := rfl
@[simp] theorem putCmp_cmp (c : Compressor) (d : Device) : (putCmp c d).cmp = c := rfl
@[simp] theorem putCmpTimers_timers (t : CompTimers) (d : Device) : (putCmpTimers t d).cmp.timers = t := rfl
@[simp] theorem putChannels_channels (l : List LightChannel) (d : Device) : (putChannels l d).lgt.channels = l := rfl
@[simp] theorem putRest_rtm (r : Rest) (d : Device) : (putRest r d).rtm = r := rfl
@[simp] theorem putPlan_npl (p : Plan) (d : Device) : (putPlan p d).npl = p := rfl
@[simp] theorem restartPattern_ch7On (d : Device) : (restartPattern d).lgt.ch7On = true := rfl
@[simp] theorem restartPattern_buzzer (d : Device) : (restartPattern d).lgt.buzzer = d.lgt.buzzer := rfl
@[simp] theorem restartPattern_sources (d : Device) : (restartPattern d).lgt.sources = d.lgt.sources := rfl

/-! ## The allowance's own updates (R63, R65) -/

@[simp] theorem give_state (a : Allowance) (l : Load) (ms : Nat) : (a.give l ms).state = .held l := rfl
@[simp] theorem give_hold (a : Allowance) (l : Load) (ms : Nat) : (a.give l ms).hold = some (ms + holdLimit l) := rfl
@[simp] theorem give_settle (a : Allowance) (l : Load) (ms : Nat) : (a.give l ms).settle = none := rfl
@[simp] theorem give_waiting (a : Allowance) (l : Load) (ms : Nat) : (a.give l ms).waiting = a.waiting := rfl
@[simp] theorem release_state (a : Allowance) (ms : Nat) : (a.release ms).state = .settling := rfl
@[simp] theorem release_hold (a : Allowance) (ms : Nat) : (a.release ms).hold = none := rfl
@[simp] theorem release_settle (a : Allowance) (ms : Nat) : (a.release ms).settle = some (ms + 2000) := rfl
@[simp] theorem release_waiting (a : Allowance) (ms : Nat) : (a.release ms).waiting = a.waiting := rfl

/-! ## Tables by name -/

/-- Reading a Load Table after one entry is replaced. -/
@[simp] theorem loadTable_get_put (t : LoadTable) (l m : Load) (e : Entry) :
    (t.put l e).get m = if m = l then e else t.get m := by
  cases l <;> cases m <;> rfl

/-- Putting an entry back changes nothing. -/
@[simp] theorem loadTable_put_get (t : LoadTable) (l : Load) : t.put l (t.get l) = t := by cases l <;> rfl

/-- Two Load Tables with the same entries are the same. -/
theorem loadTable_ext {t u : LoadTable} (h : ∀ l, t.get l = u.get l) : t = u := by
  cases t; cases u
  simp only [LoadTable.mk.injEq]
  exact ⟨h .base, h .heater, h .compressor, h .lights, h .outlet, h .warning⟩

/-- Reading the signal table after one signal is replaced. -/
@[simp] theorem signals_get_put (t : Signals) (g k : Signal) (r : SignalRec) :
    (t.put g r).get k = if k = g then r else t.get k := by
  cases g <;> cases k <;> rfl

/-- Two signal tables with the same signals are the same. -/
theorem signals_ext {t u : Signals} (h : ∀ g, t.get g = u.get g) : t = u := by
  cases t; cases u
  simp only [Signals.mk.injEq]
  exact ⟨h .roadSpeed, h .engineRunning, h .ignition, h .parkingBrake, h .ambientTemp, h .fuelLow⟩

/-- Reading the source list after one entry is replaced. -/
@[simp] theorem sourceList_get_put (t : SourceList) (g k : Source) (e : SourceEntry) :
    (t.put g e).get k = if k = g then e else t.get k := by
  cases g <;> cases k <;> rfl

/-- Reading the silenced source list. -/
@[simp] theorem silenced_get (t : SourceList) (g : Source) : t.silenced.get g = { t.get g with sounding := false } := by
  cases g <;> rfl

/-- Reading the warning records after one is replaced. -/
@[simp] theorem warnings_get_put (t : Warnings) (k m : WarnKind) (w : Warning) :
    (t.put k w).get m = if m = k then w else t.get m := by
  cases k <;> cases m <;> rfl

end Sys2Proof.Machine
end

