-- ==== Sys2Proof/Laws/Frames.lean ====
section
/-! SUPPORT. One frame lemma per operation on the part: what it leaves as it was. Each is a conjunction of equations, so that
`simp` reads what an operation does not touch straight through it, without unfolding the operation. -/

namespace Sys2Proof.Machine

set_option maxRecDepth 4000
set_option linter.unusedTactic false
set_option linter.unreachableTactic false
set_option linter.unusedSimpArgs false

/-- A refused request leaves the part as it was (R186). -/
@[simp] theorem refuse_dev (r : Result) (d : Device) : (refuse r d).dev = d := rfl

/-- A request taken answers with the part it was given. -/
@[simp] theorem taken_dev (d : Device) (c : List Byte) : (taken d c).dev = d := rfl

/-- A read request leaves the part as it was. -/
@[simp] theorem readOnly_dev (f : Device → List Byte) (b : List Byte) (d : Device) : (readOnly f b d).dev = d := by
  unfold readOnly; split <;> rfl

/-! ## Ops -/

@[simp] theorem reach_frame (t : Nat) (d : Device) :
    (reach t d).pins = d.pins ∧ (reach t d).factory = d.factory ∧ (reach t d).sns.uptime = d.sns.uptime ∧
    (reach t d).sns.clockSet = d.sns.clockSet ∧ (reach t d).sns.clockOffset = d.sns.clockOffset ∧
    (reach t d).sns.analog = d.sns.analog ∧ (reach t d).sns.tables = d.sns.tables ∧ (reach t d).sns.lines = d.sns.lines ∧
    (reach t d).sns.dial = d.sns.dial ∧ (reach t d).sns.current = d.sns.current ∧ (reach t d).vbl = d.vbl ∧ (reach t d).chg = d.chg ∧
    (reach t d).bgt = d.bgt ∧ (reach t d).htr = d.htr ∧ (reach t d).cmp = d.cmp ∧ (reach t d).lgt = d.lgt ∧ (reach t d).rtm = d.rtm ∧
    (reach t d).npl = d.npl ∧ (reach t d).lnk = d.lnk ∧ (reach t d).sched = d.sched := by
  unfold reach
  (try simp)
  all_goals ((repeat' split) <;> (try simp))
  all_goals ((repeat' split) <;> simp_all)

@[simp] theorem putLine_frame (n : Nat) (l : InputLine) (d : Device) :
    (putLine n l d).pins = d.pins ∧ (putLine n l d).factory = d.factory ∧ (putLine n l d).sns.ms = d.sns.ms ∧
    (putLine n l d).sns.uptime = d.sns.uptime ∧ (putLine n l d).sns.clockSet = d.sns.clockSet ∧
    (putLine n l d).sns.clockOffset = d.sns.clockOffset ∧ (putLine n l d).sns.analog = d.sns.analog ∧
    (putLine n l d).sns.tables = d.sns.tables ∧ (putLine n l d).sns.dial = d.sns.dial ∧ (putLine n l d).sns.current = d.sns.current ∧
    (putLine n l d).vbl = d.vbl ∧ (putLine n l d).chg = d.chg ∧ (putLine n l d).bgt = d.bgt ∧ (putLine n l d).htr = d.htr ∧
    (putLine n l d).cmp = d.cmp ∧ (putLine n l d).lgt = d.lgt ∧ (putLine n l d).rtm = d.rtm ∧ (putLine n l d).npl = d.npl ∧
    (putLine n l d).lnk = d.lnk ∧ (putLine n l d).sched = d.sched := by
  unfold putLine
  (try simp)
  all_goals ((repeat' split) <;> (try simp))
  all_goals ((repeat' split) <;> simp_all)

@[simp] theorem post_frame (k : NoticeKind) (d : Device) :
    (post k d).pins = d.pins ∧ (post k d).factory = d.factory ∧ (post k d).sns = d.sns ∧ (post k d).vbl = d.vbl ∧
    (post k d).chg = d.chg ∧ (post k d).bgt = d.bgt ∧ (post k d).htr = d.htr ∧ (post k d).cmp = d.cmp ∧ (post k d).lgt = d.lgt ∧
    (post k d).rtm = d.rtm ∧ (post k d).npl = d.npl ∧ (post k d).lnk.receiver = d.lnk.receiver ∧
    (post k d).lnk.lastByte = d.lnk.lastByte ∧ (post k d).lnk.queue = d.lnk.queue ∧ (post k d).lnk.out = d.lnk.out ∧
    (post k d).lnk.tx = d.lnk.tx ∧ (post k d).lnk.sendEnd = d.lnk.sendEnd ∧ (post k d).lnk.awake = d.lnk.awake ∧
    (post k d).lnk.idle = d.lnk.idle ∧ (post k d).lnk.lastFrame = d.lnk.lastFrame ∧ (post k d).lnk.enables = d.lnk.enables ∧
    (post k d).lnk.idleTime = d.lnk.idleTime ∧ (post k d).lnk.resetKind = d.lnk.resetKind ∧
    (post k d).lnk.resetUptime = d.lnk.resetUptime ∧ (post k d).sched = d.sched := by
  unfold post
  (try simp)
  all_goals ((repeat' split) <;> (try simp))
  all_goals ((repeat' split) <;> simp_all)

@[simp] theorem posts_frame (l : List AnalogChannel) (d : Device) :
    (l.foldl (fun acc _ => post .sensorFault acc) d).pins = d.pins ∧
    (l.foldl (fun acc _ => post .sensorFault acc) d).factory = d.factory ∧
    (l.foldl (fun acc _ => post .sensorFault acc) d).sns = d.sns ∧ (l.foldl (fun acc _ => post .sensorFault acc) d).vbl = d.vbl ∧
    (l.foldl (fun acc _ => post .sensorFault acc) d).chg = d.chg ∧ (l.foldl (fun acc _ => post .sensorFault acc) d).bgt = d.bgt ∧
    (l.foldl (fun acc _ => post .sensorFault acc) d).htr = d.htr ∧ (l.foldl (fun acc _ => post .sensorFault acc) d).cmp = d.cmp ∧
    (l.foldl (fun acc _ => post .sensorFault acc) d).lgt = d.lgt ∧ (l.foldl (fun acc _ => post .sensorFault acc) d).rtm = d.rtm ∧
    (l.foldl (fun acc _ => post .sensorFault acc) d).npl = d.npl ∧
    (l.foldl (fun acc _ => post .sensorFault acc) d).lnk.receiver = d.lnk.receiver ∧
    (l.foldl (fun acc _ => post .sensorFault acc) d).lnk.lastByte = d.lnk.lastByte ∧
    (l.foldl (fun acc _ => post .sensorFault acc) d).lnk.queue = d.lnk.queue ∧
    (l.foldl (fun acc _ => post .sensorFault acc) d).lnk.out = d.lnk.out ∧
    (l.foldl (fun acc _ => post .sensorFault acc) d).lnk.tx = d.lnk.tx ∧
    (l.foldl (fun acc _ => post .sensorFault acc) d).lnk.sendEnd = d.lnk.sendEnd ∧
    (l.foldl (fun acc _ => post .sensorFault acc) d).lnk.awake = d.lnk.awake ∧
    (l.foldl (fun acc _ => post .sensorFault acc) d).lnk.idle = d.lnk.idle ∧
    (l.foldl (fun acc _ => post .sensorFault acc) d).lnk.lastFrame = d.lnk.lastFrame ∧
    (l.foldl (fun acc _ => post .sensorFault acc) d).lnk.enables = d.lnk.enables ∧
    (l.foldl (fun acc _ => post .sensorFault acc) d).lnk.idleTime = d.lnk.idleTime ∧
    (l.foldl (fun acc _ => post .sensorFault acc) d).lnk.resetKind = d.lnk.resetKind ∧
    (l.foldl (fun acc _ => post .sensorFault acc) d).lnk.resetUptime = d.lnk.resetUptime ∧
    (l.foldl (fun acc _ => post .sensorFault acc) d).sched = d.sched := by
  induction l generalizing d with
  | nil => simp
  | cons a l ih => simp [ih]

@[simp] theorem postInputChange_frame (line : Nat) (forcing : Bool) (d : Device) :
    (postInputChange line forcing d).pins = d.pins ∧ (postInputChange line forcing d).factory = d.factory ∧
    (postInputChange line forcing d).sns = d.sns ∧ (postInputChange line forcing d).vbl = d.vbl ∧
    (postInputChange line forcing d).chg = d.chg ∧ (postInputChange line forcing d).bgt = d.bgt ∧
    (postInputChange line forcing d).htr = d.htr ∧ (postInputChange line forcing d).cmp = d.cmp ∧
    (postInputChange line forcing d).lgt = d.lgt ∧ (postInputChange line forcing d).rtm = d.rtm ∧
    (postInputChange line forcing d).npl = d.npl ∧ (postInputChange line forcing d).lnk.receiver = d.lnk.receiver ∧
    (postInputChange line forcing d).lnk.lastByte = d.lnk.lastByte ∧ (postInputChange line forcing d).lnk.queue = d.lnk.queue ∧
    (postInputChange line forcing d).lnk.out = d.lnk.out ∧ (postInputChange line forcing d).lnk.tx = d.lnk.tx ∧
    (postInputChange line forcing d).lnk.sendEnd = d.lnk.sendEnd ∧ (postInputChange line forcing d).lnk.awake = d.lnk.awake ∧
    (postInputChange line forcing d).lnk.idle = d.lnk.idle ∧ (postInputChange line forcing d).lnk.lastFrame = d.lnk.lastFrame ∧
    (postInputChange line forcing d).lnk.enables = d.lnk.enables ∧ (postInputChange line forcing d).lnk.idleTime = d.lnk.idleTime ∧
    (postInputChange line forcing d).lnk.resetKind = d.lnk.resetKind ∧
    (postInputChange line forcing d).lnk.resetUptime = d.lnk.resetUptime ∧ (postInputChange line forcing d).sched = d.sched := by
  unfold postInputChange
  (try simp)
  all_goals ((repeat' split) <;> (try simp))
  all_goals ((repeat' split) <;> simp_all)

@[simp] theorem triggerPass_frame (d : Device) :
    (triggerPass d).pins = d.pins ∧ (triggerPass d).factory = d.factory ∧ (triggerPass d).sns = d.sns ∧ (triggerPass d).vbl = d.vbl ∧
    (triggerPass d).chg = d.chg ∧ (triggerPass d).bgt.table = d.bgt.table ∧ (triggerPass d).bgt.horizonSource = d.bgt.horizonSource ∧
    (triggerPass d).bgt.defaultHorizon = d.bgt.defaultHorizon ∧ (triggerPass d).bgt.last = d.bgt.last ∧
    (triggerPass d).bgt.allowance = d.bgt.allowance ∧ (triggerPass d).bgt.outlet = d.bgt.outlet ∧ (triggerPass d).htr = d.htr ∧
    (triggerPass d).cmp = d.cmp ∧ (triggerPass d).lgt = d.lgt ∧ (triggerPass d).rtm = d.rtm ∧ (triggerPass d).npl = d.npl ∧
    (triggerPass d).lnk = d.lnk ∧ (triggerPass d).sched = d.sched := by
  unfold triggerPass
  (try simp)
  all_goals ((repeat' split) <;> (try simp))
  all_goals ((repeat' split) <;> simp_all)

@[simp] theorem leaveWaiting_frame (l : Load) (d : Device) :
    (leaveWaiting l d).pins = d.pins ∧ (leaveWaiting l d).factory = d.factory ∧ (leaveWaiting l d).sns = d.sns ∧
    (leaveWaiting l d).vbl = d.vbl ∧ (leaveWaiting l d).chg = d.chg ∧ (leaveWaiting l d).bgt.table = d.bgt.table ∧
    (leaveWaiting l d).bgt.horizonSource = d.bgt.horizonSource ∧ (leaveWaiting l d).bgt.defaultHorizon = d.bgt.defaultHorizon ∧
    (leaveWaiting l d).bgt.last = d.bgt.last ∧ (leaveWaiting l d).bgt.outlet = d.bgt.outlet ∧
    (leaveWaiting l d).bgt.passesDue = d.bgt.passesDue ∧ (leaveWaiting l d).htr = d.htr ∧ (leaveWaiting l d).cmp = d.cmp ∧
    (leaveWaiting l d).lgt = d.lgt ∧ (leaveWaiting l d).rtm = d.rtm ∧ (leaveWaiting l d).npl = d.npl ∧
    (leaveWaiting l d).lnk = d.lnk ∧ (leaveWaiting l d).sched = d.sched := by
  unfold leaveWaiting
  (try simp)
  all_goals ((repeat' split) <;> (try simp))
  all_goals ((repeat' split) <;> simp_all)

@[simp] theorem writeEntry_frame (l : Load) (requested floor : Nat) (d : Device) :
    (writeEntry l requested floor d).pins = d.pins ∧ (writeEntry l requested floor d).factory = d.factory ∧
    (writeEntry l requested floor d).sns = d.sns ∧ (writeEntry l requested floor d).vbl = d.vbl ∧
    (writeEntry l requested floor d).chg = d.chg ∧ (writeEntry l requested floor d).bgt.horizonSource = d.bgt.horizonSource ∧
    (writeEntry l requested floor d).bgt.defaultHorizon = d.bgt.defaultHorizon ∧
    (writeEntry l requested floor d).bgt.last = d.bgt.last ∧ (writeEntry l requested floor d).bgt.outlet = d.bgt.outlet ∧
    (writeEntry l requested floor d).htr = d.htr ∧ (writeEntry l requested floor d).cmp = d.cmp ∧
    (writeEntry l requested floor d).lgt = d.lgt ∧ (writeEntry l requested floor d).rtm = d.rtm ∧
    (writeEntry l requested floor d).npl = d.npl ∧ (writeEntry l requested floor d).lnk = d.lnk ∧
    (writeEntry l requested floor d).sched = d.sched := by
  unfold writeEntry
  (try simp)
  all_goals ((repeat' split) <;> (try simp))
  all_goals ((repeat' split) <;> simp_all)

@[simp] theorem putAllowance_frame (a : Allowance) (d : Device) :
    (putAllowance a d).pins = d.pins ∧ (putAllowance a d).factory = d.factory ∧ (putAllowance a d).sns = d.sns ∧
    (putAllowance a d).vbl = d.vbl ∧ (putAllowance a d).chg = d.chg ∧ (putAllowance a d).bgt.table = d.bgt.table ∧
    (putAllowance a d).bgt.horizonSource = d.bgt.horizonSource ∧ (putAllowance a d).bgt.defaultHorizon = d.bgt.defaultHorizon ∧
    (putAllowance a d).bgt.last = d.bgt.last ∧ (putAllowance a d).bgt.outlet = d.bgt.outlet ∧
    (putAllowance a d).bgt.passesDue = d.bgt.passesDue ∧ (putAllowance a d).htr = d.htr ∧ (putAllowance a d).cmp = d.cmp ∧
    (putAllowance a d).lgt = d.lgt ∧ (putAllowance a d).rtm = d.rtm ∧ (putAllowance a d).npl = d.npl ∧
    (putAllowance a d).lnk = d.lnk ∧ (putAllowance a d).sched = d.sched := by
  unfold putAllowance
  (try simp)
  all_goals ((repeat' split) <;> (try simp))
  all_goals ((repeat' split) <;> simp_all)

@[simp] theorem requestAllowance_frame (l : Load) (d : Device) :
    ((requestAllowance l d).1).pins = d.pins ∧ ((requestAllowance l d).1).factory = d.factory ∧
    ((requestAllowance l d).1).sns = d.sns ∧ ((requestAllowance l d).1).vbl = d.vbl ∧ ((requestAllowance l d).1).chg = d.chg ∧
    ((requestAllowance l d).1).bgt.table = d.bgt.table ∧ ((requestAllowance l d).1).bgt.horizonSource = d.bgt.horizonSource ∧
    ((requestAllowance l d).1).bgt.defaultHorizon = d.bgt.defaultHorizon ∧ ((requestAllowance l d).1).bgt.last = d.bgt.last ∧
    ((requestAllowance l d).1).bgt.outlet = d.bgt.outlet ∧ ((requestAllowance l d).1).bgt.passesDue = d.bgt.passesDue ∧
    ((requestAllowance l d).1).htr = d.htr ∧ ((requestAllowance l d).1).cmp = d.cmp ∧ ((requestAllowance l d).1).lgt = d.lgt ∧
    ((requestAllowance l d).1).rtm = d.rtm ∧ ((requestAllowance l d).1).npl = d.npl ∧ ((requestAllowance l d).1).lnk = d.lnk ∧
    ((requestAllowance l d).1).sched = d.sched := by
  unfold requestAllowance
  (try simp)
  all_goals ((repeat' split) <;> (try simp))
  all_goals ((repeat' split) <;> simp_all)

@[simp] theorem releaseAllowance_frame (l : Load) (d : Device) :
    (releaseAllowance l d).pins = d.pins ∧ (releaseAllowance l d).factory = d.factory ∧ (releaseAllowance l d).sns = d.sns ∧
    (releaseAllowance l d).vbl = d.vbl ∧ (releaseAllowance l d).chg = d.chg ∧ (releaseAllowance l d).bgt.table = d.bgt.table ∧
    (releaseAllowance l d).bgt.horizonSource = d.bgt.horizonSource ∧
    (releaseAllowance l d).bgt.defaultHorizon = d.bgt.defaultHorizon ∧ (releaseAllowance l d).bgt.last = d.bgt.last ∧
    (releaseAllowance l d).bgt.outlet = d.bgt.outlet ∧ (releaseAllowance l d).bgt.passesDue = d.bgt.passesDue ∧
    (releaseAllowance l d).htr = d.htr ∧ (releaseAllowance l d).cmp = d.cmp ∧ (releaseAllowance l d).lgt = d.lgt ∧
    (releaseAllowance l d).rtm = d.rtm ∧ (releaseAllowance l d).npl = d.npl ∧ (releaseAllowance l d).lnk = d.lnk ∧
    (releaseAllowance l d).sched = d.sched := by
  unfold releaseAllowance
  (try simp)
  all_goals ((repeat' split) <;> (try simp))
  all_goals ((repeat' split) <;> simp_all)

@[simp] theorem withdrawAllowance_frame (l : Load) (d : Device) :
    (withdrawAllowance l d).pins = d.pins ∧ (withdrawAllowance l d).factory = d.factory ∧ (withdrawAllowance l d).sns = d.sns ∧
    (withdrawAllowance l d).vbl = d.vbl ∧ (withdrawAllowance l d).chg = d.chg ∧ (withdrawAllowance l d).bgt.table = d.bgt.table ∧
    (withdrawAllowance l d).bgt.horizonSource = d.bgt.horizonSource ∧
    (withdrawAllowance l d).bgt.defaultHorizon = d.bgt.defaultHorizon ∧ (withdrawAllowance l d).bgt.last = d.bgt.last ∧
    (withdrawAllowance l d).bgt.outlet = d.bgt.outlet ∧ (withdrawAllowance l d).bgt.passesDue = d.bgt.passesDue ∧
    (withdrawAllowance l d).htr = d.htr ∧ (withdrawAllowance l d).cmp = d.cmp ∧ (withdrawAllowance l d).lgt = d.lgt ∧
    (withdrawAllowance l d).rtm = d.rtm ∧ (withdrawAllowance l d).npl = d.npl ∧ (withdrawAllowance l d).lnk = d.lnk ∧
    (withdrawAllowance l d).sched = d.sched := by
  unfold withdrawAllowance
  (try simp)
  all_goals ((repeat' split) <;> (try simp))
  all_goals ((repeat' split) <;> simp_all)

/-! ## Flags -/

@[simp] theorem postCharge_frame (c : ChargeCause) (d : Device) :
    (postCharge c d).pins = d.pins ∧ (postCharge c d).factory = d.factory ∧ (postCharge c d).sns = d.sns ∧
    (postCharge c d).vbl = d.vbl ∧ (postCharge c d).bgt = d.bgt ∧ (postCharge c d).htr = d.htr ∧ (postCharge c d).cmp = d.cmp ∧
    (postCharge c d).lgt = d.lgt ∧ (postCharge c d).rtm = d.rtm ∧ (postCharge c d).npl = d.npl ∧
    (postCharge c d).lnk.receiver = d.lnk.receiver ∧ (postCharge c d).lnk.lastByte = d.lnk.lastByte ∧
    (postCharge c d).lnk.queue = d.lnk.queue ∧ (postCharge c d).lnk.out = d.lnk.out ∧ (postCharge c d).lnk.tx = d.lnk.tx ∧
    (postCharge c d).lnk.sendEnd = d.lnk.sendEnd ∧ (postCharge c d).lnk.awake = d.lnk.awake ∧ (postCharge c d).lnk.idle = d.lnk.idle ∧
    (postCharge c d).lnk.lastFrame = d.lnk.lastFrame ∧ (postCharge c d).lnk.enables = d.lnk.enables ∧
    (postCharge c d).lnk.idleTime = d.lnk.idleTime ∧ (postCharge c d).lnk.resetKind = d.lnk.resetKind ∧
    (postCharge c d).lnk.resetUptime = d.lnk.resetUptime ∧ (postCharge c d).sched = d.sched := by
  unfold postCharge
  (try simp)
  all_goals ((repeat' split) <;> (try simp))
  all_goals ((repeat' split) <;> simp_all)

@[simp] theorem postRest_frame (c : RestCause) (d : Device) :
    (postRest c d).pins = d.pins ∧ (postRest c d).factory = d.factory ∧ (postRest c d).sns = d.sns ∧ (postRest c d).vbl = d.vbl ∧
    (postRest c d).chg = d.chg ∧ (postRest c d).bgt = d.bgt ∧ (postRest c d).htr = d.htr ∧ (postRest c d).cmp = d.cmp ∧
    (postRest c d).lgt = d.lgt ∧ (postRest c d).npl = d.npl ∧ (postRest c d).lnk.receiver = d.lnk.receiver ∧
    (postRest c d).lnk.lastByte = d.lnk.lastByte ∧ (postRest c d).lnk.queue = d.lnk.queue ∧ (postRest c d).lnk.out = d.lnk.out ∧
    (postRest c d).lnk.tx = d.lnk.tx ∧ (postRest c d).lnk.sendEnd = d.lnk.sendEnd ∧ (postRest c d).lnk.awake = d.lnk.awake ∧
    (postRest c d).lnk.idle = d.lnk.idle ∧ (postRest c d).lnk.lastFrame = d.lnk.lastFrame ∧
    (postRest c d).lnk.enables = d.lnk.enables ∧ (postRest c d).lnk.idleTime = d.lnk.idleTime ∧
    (postRest c d).lnk.resetKind = d.lnk.resetKind ∧ (postRest c d).lnk.resetUptime = d.lnk.resetUptime ∧
    (postRest c d).sched = d.sched := by
  unfold postRest
  (try simp)
  all_goals ((repeat' split) <;> (try simp))
  all_goals ((repeat' split) <;> simp_all)

@[simp] theorem postPlan_frame (c : PlanCause) (d : Device) :
    (postPlan c d).pins = d.pins ∧ (postPlan c d).factory = d.factory ∧ (postPlan c d).sns = d.sns ∧ (postPlan c d).vbl = d.vbl ∧
    (postPlan c d).chg = d.chg ∧ (postPlan c d).bgt = d.bgt ∧ (postPlan c d).htr = d.htr ∧ (postPlan c d).cmp = d.cmp ∧
    (postPlan c d).lgt = d.lgt ∧ (postPlan c d).rtm = d.rtm ∧ (postPlan c d).npl.state = d.npl.state ∧
    (postPlan c d).npl.source = d.npl.source ∧ (postPlan c d).npl.wake = d.npl.wake ∧ (postPlan c d).npl.setpoint = d.npl.setpoint ∧
    (postPlan c d).npl.lead = d.npl.lead ∧ (postPlan c d).npl.wakeLights = d.npl.wakeLights ∧ (postPlan c d).npl.quiet = d.npl.quiet ∧
    (postPlan c d).npl.hostQuiet = d.npl.hostQuiet ∧ (postPlan c d).npl.lastClass = d.npl.lastClass ∧
    (postPlan c d).npl.lastProjection = d.npl.lastProjection ∧ (postPlan c d).npl.horizonHanded = d.npl.horizonHanded ∧
    (postPlan c d).npl.result = d.npl.result ∧ (postPlan c d).npl.prewarmMark = d.npl.prewarmMark ∧
    (postPlan c d).lnk.receiver = d.lnk.receiver ∧ (postPlan c d).lnk.lastByte = d.lnk.lastByte ∧
    (postPlan c d).lnk.queue = d.lnk.queue ∧ (postPlan c d).lnk.out = d.lnk.out ∧ (postPlan c d).lnk.tx = d.lnk.tx ∧
    (postPlan c d).lnk.sendEnd = d.lnk.sendEnd ∧ (postPlan c d).lnk.awake = d.lnk.awake ∧ (postPlan c d).lnk.idle = d.lnk.idle ∧
    (postPlan c d).lnk.lastFrame = d.lnk.lastFrame ∧ (postPlan c d).lnk.enables = d.lnk.enables ∧
    (postPlan c d).lnk.idleTime = d.lnk.idleTime ∧ (postPlan c d).lnk.resetKind = d.lnk.resetKind ∧
    (postPlan c d).lnk.resetUptime = d.lnk.resetUptime ∧ (postPlan c d).sched = d.sched := by
  unfold postPlan
  (try simp)
  all_goals ((repeat' split) <;> (try simp))
  all_goals ((repeat' split) <;> simp_all)

@[simp] theorem emptyCauses_frame (k : NoticeKind) (d : Device) :
    (emptyCauses k d).pins = d.pins ∧ (emptyCauses k d).factory = d.factory ∧ (emptyCauses k d).sns = d.sns ∧
    (emptyCauses k d).vbl = d.vbl ∧ (emptyCauses k d).bgt = d.bgt ∧ (emptyCauses k d).htr = d.htr ∧ (emptyCauses k d).cmp = d.cmp ∧
    (emptyCauses k d).lgt = d.lgt ∧ (emptyCauses k d).npl.state = d.npl.state ∧ (emptyCauses k d).npl.source = d.npl.source ∧
    (emptyCauses k d).npl.wake = d.npl.wake ∧ (emptyCauses k d).npl.setpoint = d.npl.setpoint ∧
    (emptyCauses k d).npl.lead = d.npl.lead ∧ (emptyCauses k d).npl.wakeLights = d.npl.wakeLights ∧
    (emptyCauses k d).npl.quiet = d.npl.quiet ∧ (emptyCauses k d).npl.hostQuiet = d.npl.hostQuiet ∧
    (emptyCauses k d).npl.lastClass = d.npl.lastClass ∧ (emptyCauses k d).npl.lastProjection = d.npl.lastProjection ∧
    (emptyCauses k d).npl.horizonHanded = d.npl.horizonHanded ∧ (emptyCauses k d).npl.result = d.npl.result ∧
    (emptyCauses k d).npl.prewarmMark = d.npl.prewarmMark ∧ (emptyCauses k d).lnk = d.lnk ∧ (emptyCauses k d).sched = d.sched := by
  unfold emptyCauses
  (try simp)
  all_goals ((repeat' split) <;> (try simp))
  all_goals ((repeat' split) <;> simp_all)

@[simp] theorem stopUnmarked_frame (d : Device) :
    (stopUnmarked d).pins = d.pins ∧ (stopUnmarked d).factory = d.factory ∧ (stopUnmarked d).sns = d.sns ∧
    (stopUnmarked d).vbl = d.vbl ∧ (stopUnmarked d).chg = d.chg ∧ (stopUnmarked d).bgt = d.bgt ∧ (stopUnmarked d).htr = d.htr ∧
    (stopUnmarked d).cmp = d.cmp ∧ (stopUnmarked d).lgt.channels = d.lgt.channels ∧
    (stopUnmarked d).lgt.chSettings = d.lgt.chSettings ∧ (stopUnmarked d).lgt.capStep = d.lgt.capStep ∧
    (stopUnmarked d).lgt.written = d.lgt.written ∧ (stopUnmarked d).lgt.scenes = d.lgt.scenes ∧
    (stopUnmarked d).lgt.settings = d.lgt.settings ∧ (stopUnmarked d).lgt.courtesyTimer = d.lgt.courtesyTimer ∧
    (stopUnmarked d).lgt.sources = d.lgt.sources ∧ (stopUnmarked d).lgt.ch7Applied = d.lgt.ch7Applied ∧
    (stopUnmarked d).lgt.ch7On = d.lgt.ch7On ∧ (stopUnmarked d).lgt.ch7Timer = d.lgt.ch7Timer ∧ (stopUnmarked d).rtm = d.rtm ∧
    (stopUnmarked d).npl = d.npl ∧ (stopUnmarked d).lnk = d.lnk ∧ (stopUnmarked d).sched = d.sched := by
  unfold stopUnmarked
  (try simp)
  all_goals ((repeat' split) <;> (try simp))
  all_goals ((repeat' split) <;> simp_all)

@[simp] theorem endBeat_frame (ms : Nat) (d : Device) :
    (endBeat ms d).pins = d.pins ∧ (endBeat ms d).factory = d.factory ∧ (endBeat ms d).sns = d.sns ∧ (endBeat ms d).vbl = d.vbl ∧
    (endBeat ms d).chg = d.chg ∧ (endBeat ms d).bgt = d.bgt ∧ (endBeat ms d).htr = d.htr ∧ (endBeat ms d).cmp = d.cmp ∧
    (endBeat ms d).lgt.channels = d.lgt.channels ∧ (endBeat ms d).lgt.chSettings = d.lgt.chSettings ∧
    (endBeat ms d).lgt.capStep = d.lgt.capStep ∧ (endBeat ms d).lgt.written = d.lgt.written ∧
    (endBeat ms d).lgt.scenes = d.lgt.scenes ∧ (endBeat ms d).lgt.settings = d.lgt.settings ∧
    (endBeat ms d).lgt.courtesyTimer = d.lgt.courtesyTimer ∧ (endBeat ms d).lgt.ch7Applied = d.lgt.ch7Applied ∧
    (endBeat ms d).lgt.ch7On = d.lgt.ch7On ∧ (endBeat ms d).lgt.ch7Timer = d.lgt.ch7Timer ∧ (endBeat ms d).rtm = d.rtm ∧
    (endBeat ms d).npl = d.npl ∧ (endBeat ms d).lnk = d.lnk ∧ (endBeat ms d).sched = d.sched := by
  unfold endBeat
  (try simp)
  all_goals ((repeat' split) <;> (try simp))
  all_goals ((repeat' split) <;> simp_all)

@[simp] theorem beatPhase_frame (d : Device) :
    (beatPhase d).pins = d.pins ∧ (beatPhase d).factory = d.factory ∧ (beatPhase d).sns.uptime = d.sns.uptime ∧
    (beatPhase d).sns.clockSet = d.sns.clockSet ∧ (beatPhase d).sns.clockOffset = d.sns.clockOffset ∧
    (beatPhase d).sns.analog = d.sns.analog ∧ (beatPhase d).sns.tables = d.sns.tables ∧ (beatPhase d).sns.lines = d.sns.lines ∧
    (beatPhase d).sns.dial = d.sns.dial ∧ (beatPhase d).sns.current = d.sns.current ∧ (beatPhase d).vbl = d.vbl ∧
    (beatPhase d).chg = d.chg ∧ (beatPhase d).bgt = d.bgt ∧ (beatPhase d).htr = d.htr ∧ (beatPhase d).cmp = d.cmp ∧
    (beatPhase d).lgt.channels = d.lgt.channels ∧ (beatPhase d).lgt.chSettings = d.lgt.chSettings ∧
    (beatPhase d).lgt.capStep = d.lgt.capStep ∧ (beatPhase d).lgt.written = d.lgt.written ∧ (beatPhase d).lgt.scenes = d.lgt.scenes ∧
    (beatPhase d).lgt.settings = d.lgt.settings ∧ (beatPhase d).lgt.courtesyTimer = d.lgt.courtesyTimer ∧
    (beatPhase d).lgt.ch7Applied = d.lgt.ch7Applied ∧ (beatPhase d).lgt.ch7On = d.lgt.ch7On ∧
    (beatPhase d).lgt.ch7Timer = d.lgt.ch7Timer ∧ (beatPhase d).rtm = d.rtm ∧ (beatPhase d).npl = d.npl ∧ (beatPhase d).lnk = d.lnk ∧
    (beatPhase d).sched = d.sched := by
  unfold beatPhase
  (try simp)
  all_goals ((repeat' split) <;> (try simp))
  all_goals ((repeat' split) <;> simp_all)

@[simp] theorem restartPattern_frame (d : Device) :
    (restartPattern d).pins = d.pins ∧ (restartPattern d).factory = d.factory ∧ (restartPattern d).sns = d.sns ∧
    (restartPattern d).vbl = d.vbl ∧ (restartPattern d).chg = d.chg ∧ (restartPattern d).bgt = d.bgt ∧
    (restartPattern d).htr = d.htr ∧ (restartPattern d).cmp = d.cmp ∧ (restartPattern d).lgt.channels = d.lgt.channels ∧
    (restartPattern d).lgt.chSettings = d.lgt.chSettings ∧ (restartPattern d).lgt.capStep = d.lgt.capStep ∧
    (restartPattern d).lgt.written = d.lgt.written ∧ (restartPattern d).lgt.scenes = d.lgt.scenes ∧
    (restartPattern d).lgt.settings = d.lgt.settings ∧ (restartPattern d).lgt.courtesyTimer = d.lgt.courtesyTimer ∧
    (restartPattern d).lgt.sources = d.lgt.sources ∧ (restartPattern d).lgt.ch7Applied = d.lgt.ch7Applied ∧
    (restartPattern d).lgt.buzzer = d.lgt.buzzer ∧ (restartPattern d).rtm = d.rtm ∧ (restartPattern d).npl = d.npl ∧
    (restartPattern d).lnk = d.lnk ∧ (restartPattern d).sched = d.sched := by
  unfold restartPattern
  (try simp)
  all_goals ((repeat' split) <;> (try simp))
  all_goals ((repeat' split) <;> simp_all)

@[simp] theorem patternPhase_frame (d : Device) :
    (patternPhase d).pins = d.pins ∧ (patternPhase d).factory = d.factory ∧ (patternPhase d).sns.uptime = d.sns.uptime ∧
    (patternPhase d).sns.clockSet = d.sns.clockSet ∧ (patternPhase d).sns.clockOffset = d.sns.clockOffset ∧
    (patternPhase d).sns.analog = d.sns.analog ∧ (patternPhase d).sns.tables = d.sns.tables ∧
    (patternPhase d).sns.lines = d.sns.lines ∧ (patternPhase d).sns.dial = d.sns.dial ∧ (patternPhase d).sns.current = d.sns.current ∧
    (patternPhase d).vbl = d.vbl ∧ (patternPhase d).chg = d.chg ∧ (patternPhase d).bgt = d.bgt ∧ (patternPhase d).htr = d.htr ∧
    (patternPhase d).cmp = d.cmp ∧ (patternPhase d).lgt.channels = d.lgt.channels ∧
    (patternPhase d).lgt.chSettings = d.lgt.chSettings ∧ (patternPhase d).lgt.capStep = d.lgt.capStep ∧
    (patternPhase d).lgt.written = d.lgt.written ∧ (patternPhase d).lgt.scenes = d.lgt.scenes ∧
    (patternPhase d).lgt.settings = d.lgt.settings ∧ (patternPhase d).lgt.courtesyTimer = d.lgt.courtesyTimer ∧
    (patternPhase d).lgt.sources = d.lgt.sources ∧ (patternPhase d).lgt.ch7Applied = d.lgt.ch7Applied ∧
    (patternPhase d).lgt.buzzer = d.lgt.buzzer ∧ (patternPhase d).rtm = d.rtm ∧ (patternPhase d).npl = d.npl ∧
    (patternPhase d).lnk = d.lnk ∧ (patternPhase d).sched = d.sched := by
  unfold patternPhase
  (try simp)
  all_goals ((repeat' split) <;> (try simp))
  all_goals ((repeat' split) <;> simp_all)

@[simp] theorem postIndication_frame (g : Source) (severity : Nat) (newOccurrence : Bool) (d : Device) :
    (postIndication g severity newOccurrence d).pins = d.pins ∧ (postIndication g severity newOccurrence d).factory = d.factory ∧
    (postIndication g severity newOccurrence d).sns = d.sns ∧ (postIndication g severity newOccurrence d).vbl = d.vbl ∧
    (postIndication g severity newOccurrence d).chg = d.chg ∧ (postIndication g severity newOccurrence d).bgt = d.bgt ∧
    (postIndication g severity newOccurrence d).htr = d.htr ∧ (postIndication g severity newOccurrence d).cmp = d.cmp ∧
    (postIndication g severity newOccurrence d).lgt.channels = d.lgt.channels ∧
    (postIndication g severity newOccurrence d).lgt.chSettings = d.lgt.chSettings ∧
    (postIndication g severity newOccurrence d).lgt.capStep = d.lgt.capStep ∧
    (postIndication g severity newOccurrence d).lgt.written = d.lgt.written ∧
    (postIndication g severity newOccurrence d).lgt.scenes = d.lgt.scenes ∧
    (postIndication g severity newOccurrence d).lgt.settings = d.lgt.settings ∧
    (postIndication g severity newOccurrence d).lgt.courtesyTimer = d.lgt.courtesyTimer ∧
    (postIndication g severity newOccurrence d).lgt.ch7Applied = d.lgt.ch7Applied ∧
    (postIndication g severity newOccurrence d).rtm = d.rtm ∧ (postIndication g severity newOccurrence d).npl = d.npl ∧
    (postIndication g severity newOccurrence d).lnk = d.lnk ∧ (postIndication g severity newOccurrence d).sched = d.sched := by
  unfold postIndication
  (try simp)
  all_goals ((repeat' split) <;> (try simp))
  all_goals ((repeat' split) <;> simp_all)

@[simp] theorem postIndications_frame (severity : Nat) (l : List AnalogChannel) (d : Device) :
    (l.foldl (fun acc _ => postIndication .sns severity true acc) d).pins = d.pins ∧
    (l.foldl (fun acc _ => postIndication .sns severity true acc) d).factory = d.factory ∧
    (l.foldl (fun acc _ => postIndication .sns severity true acc) d).sns = d.sns ∧
    (l.foldl (fun acc _ => postIndication .sns severity true acc) d).vbl = d.vbl ∧
    (l.foldl (fun acc _ => postIndication .sns severity true acc) d).chg = d.chg ∧
    (l.foldl (fun acc _ => postIndication .sns severity true acc) d).bgt = d.bgt ∧
    (l.foldl (fun acc _ => postIndication .sns severity true acc) d).htr = d.htr ∧
    (l.foldl (fun acc _ => postIndication .sns severity true acc) d).cmp = d.cmp ∧
    (l.foldl (fun acc _ => postIndication .sns severity true acc) d).lgt.channels = d.lgt.channels ∧
    (l.foldl (fun acc _ => postIndication .sns severity true acc) d).lgt.chSettings = d.lgt.chSettings ∧
    (l.foldl (fun acc _ => postIndication .sns severity true acc) d).lgt.capStep = d.lgt.capStep ∧
    (l.foldl (fun acc _ => postIndication .sns severity true acc) d).lgt.written = d.lgt.written ∧
    (l.foldl (fun acc _ => postIndication .sns severity true acc) d).lgt.scenes = d.lgt.scenes ∧
    (l.foldl (fun acc _ => postIndication .sns severity true acc) d).lgt.settings = d.lgt.settings ∧
    (l.foldl (fun acc _ => postIndication .sns severity true acc) d).lgt.courtesyTimer = d.lgt.courtesyTimer ∧
    (l.foldl (fun acc _ => postIndication .sns severity true acc) d).lgt.ch7Applied = d.lgt.ch7Applied ∧
    (l.foldl (fun acc _ => postIndication .sns severity true acc) d).rtm = d.rtm ∧
    (l.foldl (fun acc _ => postIndication .sns severity true acc) d).npl = d.npl ∧
    (l.foldl (fun acc _ => postIndication .sns severity true acc) d).lnk = d.lnk ∧
    (l.foldl (fun acc _ => postIndication .sns severity true acc) d).sched = d.sched := by
  induction l generalizing d with
  | nil => simp
  | cons a l ih => simp [ih]

@[simp] theorem ackIndication_frame (d : Device) :
    (ackIndication d).pins = d.pins ∧ (ackIndication d).factory = d.factory ∧ (ackIndication d).sns = d.sns ∧
    (ackIndication d).vbl = d.vbl ∧ (ackIndication d).chg = d.chg ∧ (ackIndication d).bgt = d.bgt ∧ (ackIndication d).htr = d.htr ∧
    (ackIndication d).cmp = d.cmp ∧ (ackIndication d).lgt.channels = d.lgt.channels ∧
    (ackIndication d).lgt.chSettings = d.lgt.chSettings ∧ (ackIndication d).lgt.capStep = d.lgt.capStep ∧
    (ackIndication d).lgt.written = d.lgt.written ∧ (ackIndication d).lgt.scenes = d.lgt.scenes ∧
    (ackIndication d).lgt.settings = d.lgt.settings ∧ (ackIndication d).lgt.courtesyTimer = d.lgt.courtesyTimer ∧
    (ackIndication d).lgt.ch7Applied = d.lgt.ch7Applied ∧ (ackIndication d).lgt.ch7On = d.lgt.ch7On ∧
    (ackIndication d).lgt.ch7Timer = d.lgt.ch7Timer ∧ (ackIndication d).rtm = d.rtm ∧ (ackIndication d).npl = d.npl ∧
    (ackIndication d).lnk = d.lnk ∧ (ackIndication d).sched = d.sched := by
  unfold ackIndication
  (try simp)
  all_goals ((repeat' split) <;> (try simp))
  all_goals ((repeat' split) <;> simp_all)

@[simp] theorem muteForQuiet_frame (d : Device) :
    (muteForQuiet d).pins = d.pins ∧ (muteForQuiet d).factory = d.factory ∧ (muteForQuiet d).sns = d.sns ∧
    (muteForQuiet d).vbl = d.vbl ∧ (muteForQuiet d).chg = d.chg ∧ (muteForQuiet d).bgt = d.bgt ∧ (muteForQuiet d).htr = d.htr ∧
    (muteForQuiet d).cmp = d.cmp ∧ (muteForQuiet d).lgt.channels = d.lgt.channels ∧
    (muteForQuiet d).lgt.chSettings = d.lgt.chSettings ∧ (muteForQuiet d).lgt.capStep = d.lgt.capStep ∧
    (muteForQuiet d).lgt.written = d.lgt.written ∧ (muteForQuiet d).lgt.scenes = d.lgt.scenes ∧
    (muteForQuiet d).lgt.settings = d.lgt.settings ∧ (muteForQuiet d).lgt.courtesyTimer = d.lgt.courtesyTimer ∧
    (muteForQuiet d).lgt.ch7Applied = d.lgt.ch7Applied ∧ (muteForQuiet d).lgt.ch7On = d.lgt.ch7On ∧
    (muteForQuiet d).lgt.ch7Timer = d.lgt.ch7Timer ∧ (muteForQuiet d).rtm = d.rtm ∧ (muteForQuiet d).npl = d.npl ∧
    (muteForQuiet d).lnk = d.lnk ∧ (muteForQuiet d).sched = d.sched := by
  unfold muteForQuiet
  (try simp)
  all_goals ((repeat' split) <;> (try simp))
  all_goals ((repeat' split) <;> simp_all)

/-! ## Link -/

@[simp] theorem sendReply_frame (d : Device) :
    (sendReply d).pins = d.pins ∧ (sendReply d).factory = d.factory ∧ (sendReply d).sns = d.sns ∧ (sendReply d).vbl = d.vbl ∧
    (sendReply d).chg = d.chg ∧ (sendReply d).bgt = d.bgt ∧ (sendReply d).htr = d.htr ∧ (sendReply d).cmp = d.cmp ∧
    (sendReply d).lgt = d.lgt ∧ (sendReply d).rtm = d.rtm ∧ (sendReply d).npl = d.npl ∧ (sendReply d).lnk.receiver = d.lnk.receiver ∧
    (sendReply d).lnk.lastByte = d.lnk.lastByte ∧ (sendReply d).lnk.queue = d.lnk.queue ∧ (sendReply d).lnk.notices = d.lnk.notices ∧
    (sendReply d).lnk.awake = d.lnk.awake ∧ (sendReply d).lnk.idle = d.lnk.idle ∧ (sendReply d).lnk.lastFrame = d.lnk.lastFrame ∧
    (sendReply d).lnk.enables = d.lnk.enables ∧ (sendReply d).lnk.idleTime = d.lnk.idleTime ∧
    (sendReply d).lnk.resetKind = d.lnk.resetKind ∧ (sendReply d).lnk.resetUptime = d.lnk.resetUptime ∧
    (sendReply d).sched = d.sched := by
  unfold sendReply
  (try simp)
  all_goals ((repeat' split) <;> (try simp))
  all_goals ((repeat' split) <;> simp_all)

@[simp] theorem acceptFrame_frame (f : Frame) (d : Device) :
    (acceptFrame f d).pins = d.pins ∧ (acceptFrame f d).factory = d.factory ∧ (acceptFrame f d).sns = d.sns ∧
    (acceptFrame f d).vbl = d.vbl ∧ (acceptFrame f d).chg = d.chg ∧ (acceptFrame f d).bgt = d.bgt ∧ (acceptFrame f d).htr = d.htr ∧
    (acceptFrame f d).cmp = d.cmp ∧ (acceptFrame f d).lgt = d.lgt ∧ (acceptFrame f d).rtm = d.rtm ∧ (acceptFrame f d).npl = d.npl ∧
    (acceptFrame f d).lnk.receiver = d.lnk.receiver ∧ (acceptFrame f d).lnk.lastByte = d.lnk.lastByte ∧
    (acceptFrame f d).lnk.out = d.lnk.out ∧ (acceptFrame f d).lnk.tx = d.lnk.tx ∧ (acceptFrame f d).lnk.sendEnd = d.lnk.sendEnd ∧
    (acceptFrame f d).lnk.notices = d.lnk.notices ∧ (acceptFrame f d).lnk.enables = d.lnk.enables ∧
    (acceptFrame f d).lnk.idleTime = d.lnk.idleTime ∧ (acceptFrame f d).lnk.resetKind = d.lnk.resetKind ∧
    (acceptFrame f d).lnk.resetUptime = d.lnk.resetUptime ∧ (acceptFrame f d).sched = d.sched := by
  unfold acceptFrame
  (try simp)
  all_goals ((repeat' split) <;> (try simp))
  all_goals ((repeat' split) <;> simp_all)

@[simp] theorem putReceiver_frame (r : Receiver) (d : Device) :
    (putReceiver r d).pins = d.pins ∧ (putReceiver r d).factory = d.factory ∧ (putReceiver r d).sns = d.sns ∧
    (putReceiver r d).vbl = d.vbl ∧ (putReceiver r d).chg = d.chg ∧ (putReceiver r d).bgt = d.bgt ∧ (putReceiver r d).htr = d.htr ∧
    (putReceiver r d).cmp = d.cmp ∧ (putReceiver r d).lgt = d.lgt ∧ (putReceiver r d).rtm = d.rtm ∧ (putReceiver r d).npl = d.npl ∧
    (putReceiver r d).lnk.queue = d.lnk.queue ∧ (putReceiver r d).lnk.out = d.lnk.out ∧ (putReceiver r d).lnk.tx = d.lnk.tx ∧
    (putReceiver r d).lnk.sendEnd = d.lnk.sendEnd ∧ (putReceiver r d).lnk.notices = d.lnk.notices ∧
    (putReceiver r d).lnk.awake = d.lnk.awake ∧ (putReceiver r d).lnk.idle = d.lnk.idle ∧
    (putReceiver r d).lnk.lastFrame = d.lnk.lastFrame ∧ (putReceiver r d).lnk.enables = d.lnk.enables ∧
    (putReceiver r d).lnk.idleTime = d.lnk.idleTime ∧ (putReceiver r d).lnk.resetKind = d.lnk.resetKind ∧
    (putReceiver r d).lnk.resetUptime = d.lnk.resetUptime ∧ (putReceiver r d).sched = d.sched := by
  unfold putReceiver
  (try simp)
  all_goals ((repeat' split) <;> (try simp))
  all_goals ((repeat' split) <;> simp_all)

@[simp] theorem huntByte_frame (b : Byte) (d : Device) :
    (huntByte b d).pins = d.pins ∧ (huntByte b d).factory = d.factory ∧ (huntByte b d).sns = d.sns ∧ (huntByte b d).vbl = d.vbl ∧
    (huntByte b d).chg = d.chg ∧ (huntByte b d).bgt = d.bgt ∧ (huntByte b d).htr = d.htr ∧ (huntByte b d).cmp = d.cmp ∧
    (huntByte b d).lgt = d.lgt ∧ (huntByte b d).rtm = d.rtm ∧ (huntByte b d).npl = d.npl ∧ (huntByte b d).lnk.queue = d.lnk.queue ∧
    (huntByte b d).lnk.out = d.lnk.out ∧ (huntByte b d).lnk.tx = d.lnk.tx ∧ (huntByte b d).lnk.sendEnd = d.lnk.sendEnd ∧
    (huntByte b d).lnk.notices = d.lnk.notices ∧ (huntByte b d).lnk.awake = d.lnk.awake ∧ (huntByte b d).lnk.idle = d.lnk.idle ∧
    (huntByte b d).lnk.lastFrame = d.lnk.lastFrame ∧ (huntByte b d).lnk.enables = d.lnk.enables ∧
    (huntByte b d).lnk.idleTime = d.lnk.idleTime ∧ (huntByte b d).lnk.resetKind = d.lnk.resetKind ∧
    (huntByte b d).lnk.resetUptime = d.lnk.resetUptime ∧ (huntByte b d).sched = d.sched := by
  unfold huntByte
  (try simp)
  all_goals ((repeat' split) <;> (try simp))
  all_goals ((repeat' split) <;> simp_all)

@[simp] theorem takeByte_frame (b : Byte) (d : Device) :
    (takeByte b d).pins = d.pins ∧ (takeByte b d).factory = d.factory ∧ (takeByte b d).sns = d.sns ∧ (takeByte b d).vbl = d.vbl ∧
    (takeByte b d).chg = d.chg ∧ (takeByte b d).bgt = d.bgt ∧ (takeByte b d).htr = d.htr ∧ (takeByte b d).cmp = d.cmp ∧
    (takeByte b d).lgt = d.lgt ∧ (takeByte b d).rtm = d.rtm ∧ (takeByte b d).npl = d.npl ∧ (takeByte b d).lnk.out = d.lnk.out ∧
    (takeByte b d).lnk.tx = d.lnk.tx ∧ (takeByte b d).lnk.sendEnd = d.lnk.sendEnd ∧ (takeByte b d).lnk.notices = d.lnk.notices ∧
    (takeByte b d).lnk.enables = d.lnk.enables ∧ (takeByte b d).lnk.idleTime = d.lnk.idleTime ∧
    (takeByte b d).lnk.resetKind = d.lnk.resetKind ∧ (takeByte b d).lnk.resetUptime = d.lnk.resetUptime ∧
    (takeByte b d).sched = d.sched := by
  unfold takeByte
  (try simp)
  all_goals ((repeat' split) <;> (try simp))
  all_goals ((repeat' split) <;> simp_all)

@[simp] theorem receiveByte_frame (b : Byte) (stopBit : Bool) (d : Device) :
    (receiveByte b stopBit d).pins = d.pins ∧ (receiveByte b stopBit d).factory = d.factory ∧ (receiveByte b stopBit d).sns = d.sns ∧
    (receiveByte b stopBit d).vbl = d.vbl ∧ (receiveByte b stopBit d).chg = d.chg ∧ (receiveByte b stopBit d).bgt = d.bgt ∧
    (receiveByte b stopBit d).htr = d.htr ∧ (receiveByte b stopBit d).cmp = d.cmp ∧ (receiveByte b stopBit d).lgt = d.lgt ∧
    (receiveByte b stopBit d).rtm = d.rtm ∧ (receiveByte b stopBit d).npl = d.npl ∧ (receiveByte b stopBit d).lnk.out = d.lnk.out ∧
    (receiveByte b stopBit d).lnk.tx = d.lnk.tx ∧ (receiveByte b stopBit d).lnk.sendEnd = d.lnk.sendEnd ∧
    (receiveByte b stopBit d).lnk.notices = d.lnk.notices ∧ (receiveByte b stopBit d).lnk.enables = d.lnk.enables ∧
    (receiveByte b stopBit d).lnk.idleTime = d.lnk.idleTime ∧ (receiveByte b stopBit d).lnk.resetKind = d.lnk.resetKind ∧
    (receiveByte b stopBit d).lnk.resetUptime = d.lnk.resetUptime ∧ (receiveByte b stopBit d).sched = d.sched := by
  unfold receiveByte
  (try simp)
  all_goals ((repeat' split) <;> (try simp))
  all_goals ((repeat' split) <;> simp_all)

@[simp] theorem discardFrame_frame (why : DiscardReason) (d : Device) :
    (discardFrame why d).pins = d.pins ∧ (discardFrame why d).factory = d.factory ∧ (discardFrame why d).sns = d.sns ∧
    (discardFrame why d).vbl = d.vbl ∧ (discardFrame why d).chg = d.chg ∧ (discardFrame why d).bgt = d.bgt ∧
    (discardFrame why d).htr = d.htr ∧ (discardFrame why d).cmp = d.cmp ∧ (discardFrame why d).lgt = d.lgt ∧
    (discardFrame why d).rtm = d.rtm ∧ (discardFrame why d).npl = d.npl ∧ (discardFrame why d).lnk.queue = d.lnk.queue ∧
    (discardFrame why d).lnk.out = d.lnk.out ∧ (discardFrame why d).lnk.tx = d.lnk.tx ∧
    (discardFrame why d).lnk.sendEnd = d.lnk.sendEnd ∧ (discardFrame why d).lnk.notices = d.lnk.notices ∧
    (discardFrame why d).lnk.awake = d.lnk.awake ∧ (discardFrame why d).lnk.idle = d.lnk.idle ∧
    (discardFrame why d).lnk.lastFrame = d.lnk.lastFrame ∧ (discardFrame why d).lnk.enables = d.lnk.enables ∧
    (discardFrame why d).lnk.idleTime = d.lnk.idleTime ∧ (discardFrame why d).lnk.resetKind = d.lnk.resetKind ∧
    (discardFrame why d).lnk.resetUptime = d.lnk.resetUptime ∧ (discardFrame why d).sched = d.sched := by
  unfold discardFrame
  (try simp)
  all_goals ((repeat' split) <;> (try simp))
  all_goals ((repeat' split) <;> simp_all)

@[simp] theorem removeNotice_frame (k : NoticeKind) (d : Device) :
    (removeNotice k d).pins = d.pins ∧ (removeNotice k d).factory = d.factory ∧ (removeNotice k d).sns = d.sns ∧
    (removeNotice k d).vbl = d.vbl ∧ (removeNotice k d).bgt = d.bgt ∧ (removeNotice k d).htr = d.htr ∧
    (removeNotice k d).cmp = d.cmp ∧ (removeNotice k d).lgt = d.lgt ∧ (removeNotice k d).npl.state = d.npl.state ∧
    (removeNotice k d).npl.source = d.npl.source ∧ (removeNotice k d).npl.wake = d.npl.wake ∧
    (removeNotice k d).npl.setpoint = d.npl.setpoint ∧ (removeNotice k d).npl.lead = d.npl.lead ∧
    (removeNotice k d).npl.wakeLights = d.npl.wakeLights ∧ (removeNotice k d).npl.quiet = d.npl.quiet ∧
    (removeNotice k d).npl.hostQuiet = d.npl.hostQuiet ∧ (removeNotice k d).npl.lastClass = d.npl.lastClass ∧
    (removeNotice k d).npl.lastProjection = d.npl.lastProjection ∧ (removeNotice k d).npl.horizonHanded = d.npl.horizonHanded ∧
    (removeNotice k d).npl.result = d.npl.result ∧ (removeNotice k d).npl.prewarmMark = d.npl.prewarmMark ∧
    (removeNotice k d).lnk.receiver = d.lnk.receiver ∧ (removeNotice k d).lnk.lastByte = d.lnk.lastByte ∧
    (removeNotice k d).lnk.queue = d.lnk.queue ∧ (removeNotice k d).lnk.out = d.lnk.out ∧ (removeNotice k d).lnk.tx = d.lnk.tx ∧
    (removeNotice k d).lnk.sendEnd = d.lnk.sendEnd ∧ (removeNotice k d).lnk.awake = d.lnk.awake ∧
    (removeNotice k d).lnk.idle = d.lnk.idle ∧ (removeNotice k d).lnk.lastFrame = d.lnk.lastFrame ∧
    (removeNotice k d).lnk.enables = d.lnk.enables ∧ (removeNotice k d).lnk.idleTime = d.lnk.idleTime ∧
    (removeNotice k d).lnk.resetKind = d.lnk.resetKind ∧ (removeNotice k d).lnk.resetUptime = d.lnk.resetUptime ∧
    (removeNotice k d).sched = d.sched := by
  unfold removeNotice
  (try simp)
  all_goals ((repeat' split) <;> (try simp))
  all_goals ((repeat' split) <;> simp_all)

@[simp] theorem removeNotices_frame (l : List Notice) (d : Device) :
    (l.foldl (fun acc n => removeNotice n.kind acc) d).pins = d.pins ∧
    (l.foldl (fun acc n => removeNotice n.kind acc) d).factory = d.factory ∧
    (l.foldl (fun acc n => removeNotice n.kind acc) d).sns = d.sns ∧ (l.foldl (fun acc n => removeNotice n.kind acc) d).vbl = d.vbl ∧
    (l.foldl (fun acc n => removeNotice n.kind acc) d).bgt = d.bgt ∧ (l.foldl (fun acc n => removeNotice n.kind acc) d).htr = d.htr ∧
    (l.foldl (fun acc n => removeNotice n.kind acc) d).cmp = d.cmp ∧ (l.foldl (fun acc n => removeNotice n.kind acc) d).lgt = d.lgt ∧
    (l.foldl (fun acc n => removeNotice n.kind acc) d).npl.state = d.npl.state ∧
    (l.foldl (fun acc n => removeNotice n.kind acc) d).npl.source = d.npl.source ∧
    (l.foldl (fun acc n => removeNotice n.kind acc) d).npl.wake = d.npl.wake ∧
    (l.foldl (fun acc n => removeNotice n.kind acc) d).npl.setpoint = d.npl.setpoint ∧
    (l.foldl (fun acc n => removeNotice n.kind acc) d).npl.lead = d.npl.lead ∧
    (l.foldl (fun acc n => removeNotice n.kind acc) d).npl.wakeLights = d.npl.wakeLights ∧
    (l.foldl (fun acc n => removeNotice n.kind acc) d).npl.quiet = d.npl.quiet ∧
    (l.foldl (fun acc n => removeNotice n.kind acc) d).npl.hostQuiet = d.npl.hostQuiet ∧
    (l.foldl (fun acc n => removeNotice n.kind acc) d).npl.lastClass = d.npl.lastClass ∧
    (l.foldl (fun acc n => removeNotice n.kind acc) d).npl.lastProjection = d.npl.lastProjection ∧
    (l.foldl (fun acc n => removeNotice n.kind acc) d).npl.horizonHanded = d.npl.horizonHanded ∧
    (l.foldl (fun acc n => removeNotice n.kind acc) d).npl.result = d.npl.result ∧
    (l.foldl (fun acc n => removeNotice n.kind acc) d).npl.prewarmMark = d.npl.prewarmMark ∧
    (l.foldl (fun acc n => removeNotice n.kind acc) d).lnk.receiver = d.lnk.receiver ∧
    (l.foldl (fun acc n => removeNotice n.kind acc) d).lnk.lastByte = d.lnk.lastByte ∧
    (l.foldl (fun acc n => removeNotice n.kind acc) d).lnk.queue = d.lnk.queue ∧
    (l.foldl (fun acc n => removeNotice n.kind acc) d).lnk.out = d.lnk.out ∧
    (l.foldl (fun acc n => removeNotice n.kind acc) d).lnk.tx = d.lnk.tx ∧
    (l.foldl (fun acc n => removeNotice n.kind acc) d).lnk.sendEnd = d.lnk.sendEnd ∧
    (l.foldl (fun acc n => removeNotice n.kind acc) d).lnk.awake = d.lnk.awake ∧
    (l.foldl (fun acc n => removeNotice n.kind acc) d).lnk.idle = d.lnk.idle ∧
    (l.foldl (fun acc n => removeNotice n.kind acc) d).lnk.lastFrame = d.lnk.lastFrame ∧
    (l.foldl (fun acc n => removeNotice n.kind acc) d).lnk.enables = d.lnk.enables ∧
    (l.foldl (fun acc n => removeNotice n.kind acc) d).lnk.idleTime = d.lnk.idleTime ∧
    (l.foldl (fun acc n => removeNotice n.kind acc) d).lnk.resetKind = d.lnk.resetKind ∧
    (l.foldl (fun acc n => removeNotice n.kind acc) d).lnk.resetUptime = d.lnk.resetUptime ∧
    (l.foldl (fun acc n => removeNotice n.kind acc) d).sched = d.sched := by
  induction l generalizing d with
  | nil => simp
  | cons a l ih => simp [ih]

@[simp] theorem removeDisabled_frame (d : Device) :
    (removeDisabled d).pins = d.pins ∧ (removeDisabled d).factory = d.factory ∧ (removeDisabled d).sns = d.sns ∧
    (removeDisabled d).vbl = d.vbl ∧ (removeDisabled d).bgt = d.bgt ∧ (removeDisabled d).htr = d.htr ∧
    (removeDisabled d).cmp = d.cmp ∧ (removeDisabled d).lgt = d.lgt ∧ (removeDisabled d).npl.state = d.npl.state ∧
    (removeDisabled d).npl.source = d.npl.source ∧ (removeDisabled d).npl.wake = d.npl.wake ∧
    (removeDisabled d).npl.setpoint = d.npl.setpoint ∧ (removeDisabled d).npl.lead = d.npl.lead ∧
    (removeDisabled d).npl.wakeLights = d.npl.wakeLights ∧ (removeDisabled d).npl.quiet = d.npl.quiet ∧
    (removeDisabled d).npl.hostQuiet = d.npl.hostQuiet ∧ (removeDisabled d).npl.lastClass = d.npl.lastClass ∧
    (removeDisabled d).npl.lastProjection = d.npl.lastProjection ∧ (removeDisabled d).npl.horizonHanded = d.npl.horizonHanded ∧
    (removeDisabled d).npl.result = d.npl.result ∧ (removeDisabled d).npl.prewarmMark = d.npl.prewarmMark ∧
    (removeDisabled d).lnk.receiver = d.lnk.receiver ∧ (removeDisabled d).lnk.lastByte = d.lnk.lastByte ∧
    (removeDisabled d).lnk.queue = d.lnk.queue ∧ (removeDisabled d).lnk.out = d.lnk.out ∧ (removeDisabled d).lnk.tx = d.lnk.tx ∧
    (removeDisabled d).lnk.sendEnd = d.lnk.sendEnd ∧ (removeDisabled d).lnk.awake = d.lnk.awake ∧
    (removeDisabled d).lnk.idle = d.lnk.idle ∧ (removeDisabled d).lnk.lastFrame = d.lnk.lastFrame ∧
    (removeDisabled d).lnk.enables = d.lnk.enables ∧ (removeDisabled d).lnk.idleTime = d.lnk.idleTime ∧
    (removeDisabled d).lnk.resetKind = d.lnk.resetKind ∧ (removeDisabled d).lnk.resetUptime = d.lnk.resetUptime ∧
    (removeDisabled d).sched = d.sched := by
  unfold removeDisabled
  (try simp)
  all_goals ((repeat' split) <;> (try simp))
  all_goals ((repeat' split) <;> simp_all)

@[simp] theorem removeAll_frame (d : Device) :
    (removeAll d).pins = d.pins ∧ (removeAll d).factory = d.factory ∧ (removeAll d).sns = d.sns ∧ (removeAll d).vbl = d.vbl ∧
    (removeAll d).bgt = d.bgt ∧ (removeAll d).htr = d.htr ∧ (removeAll d).cmp = d.cmp ∧ (removeAll d).lgt = d.lgt ∧
    (removeAll d).npl.state = d.npl.state ∧ (removeAll d).npl.source = d.npl.source ∧ (removeAll d).npl.wake = d.npl.wake ∧
    (removeAll d).npl.setpoint = d.npl.setpoint ∧ (removeAll d).npl.lead = d.npl.lead ∧
    (removeAll d).npl.wakeLights = d.npl.wakeLights ∧ (removeAll d).npl.quiet = d.npl.quiet ∧
    (removeAll d).npl.hostQuiet = d.npl.hostQuiet ∧ (removeAll d).npl.lastClass = d.npl.lastClass ∧
    (removeAll d).npl.lastProjection = d.npl.lastProjection ∧ (removeAll d).npl.horizonHanded = d.npl.horizonHanded ∧
    (removeAll d).npl.result = d.npl.result ∧ (removeAll d).npl.prewarmMark = d.npl.prewarmMark ∧
    (removeAll d).lnk.receiver = d.lnk.receiver ∧ (removeAll d).lnk.lastByte = d.lnk.lastByte ∧
    (removeAll d).lnk.queue = d.lnk.queue ∧ (removeAll d).lnk.out = d.lnk.out ∧ (removeAll d).lnk.tx = d.lnk.tx ∧
    (removeAll d).lnk.sendEnd = d.lnk.sendEnd ∧ (removeAll d).lnk.awake = d.lnk.awake ∧ (removeAll d).lnk.idle = d.lnk.idle ∧
    (removeAll d).lnk.lastFrame = d.lnk.lastFrame ∧ (removeAll d).lnk.enables = d.lnk.enables ∧
    (removeAll d).lnk.idleTime = d.lnk.idleTime ∧ (removeAll d).lnk.resetKind = d.lnk.resetKind ∧
    (removeAll d).lnk.resetUptime = d.lnk.resetUptime ∧ (removeAll d).sched = d.sched := by
  unfold removeAll
  (try simp)
  all_goals ((repeat' split) <;> (try simp))
  all_goals ((repeat' split) <;> simp_all)

@[simp] theorem goDrowsy_frame (d : Device) :
    (goDrowsy d).pins = d.pins ∧ (goDrowsy d).factory = d.factory ∧ (goDrowsy d).sns = d.sns ∧ (goDrowsy d).vbl = d.vbl ∧
    (goDrowsy d).chg = d.chg ∧ (goDrowsy d).bgt = d.bgt ∧ (goDrowsy d).htr = d.htr ∧ (goDrowsy d).cmp = d.cmp ∧
    (goDrowsy d).lgt = d.lgt ∧ (goDrowsy d).rtm = d.rtm ∧ (goDrowsy d).npl = d.npl ∧ (goDrowsy d).lnk.receiver = d.lnk.receiver ∧
    (goDrowsy d).lnk.lastByte = d.lnk.lastByte ∧ (goDrowsy d).lnk.queue = d.lnk.queue ∧ (goDrowsy d).lnk.out = d.lnk.out ∧
    (goDrowsy d).lnk.tx = d.lnk.tx ∧ (goDrowsy d).lnk.sendEnd = d.lnk.sendEnd ∧ (goDrowsy d).lnk.notices = d.lnk.notices ∧
    (goDrowsy d).lnk.lastFrame = d.lnk.lastFrame ∧ (goDrowsy d).lnk.enables = d.lnk.enables ∧
    (goDrowsy d).lnk.idleTime = d.lnk.idleTime ∧ (goDrowsy d).lnk.resetKind = d.lnk.resetKind ∧
    (goDrowsy d).lnk.resetUptime = d.lnk.resetUptime ∧ (goDrowsy d).sched = d.sched := by
  unfold goDrowsy
  (try simp)
  all_goals ((repeat' split) <;> (try simp))
  all_goals ((repeat' split) <;> simp_all)

@[simp] theorem linkConfigRequest_frame (body : List Byte) (d : Device) :
    ((linkConfigRequest body d).dev).pins = d.pins ∧ ((linkConfigRequest body d).dev).factory = d.factory ∧
    ((linkConfigRequest body d).dev).sns = d.sns ∧ ((linkConfigRequest body d).dev).vbl = d.vbl ∧
    ((linkConfigRequest body d).dev).bgt = d.bgt ∧ ((linkConfigRequest body d).dev).htr = d.htr ∧
    ((linkConfigRequest body d).dev).cmp = d.cmp ∧ ((linkConfigRequest body d).dev).lgt = d.lgt ∧
    ((linkConfigRequest body d).dev).npl.state = d.npl.state ∧ ((linkConfigRequest body d).dev).npl.source = d.npl.source ∧
    ((linkConfigRequest body d).dev).npl.wake = d.npl.wake ∧ ((linkConfigRequest body d).dev).npl.setpoint = d.npl.setpoint ∧
    ((linkConfigRequest body d).dev).npl.lead = d.npl.lead ∧ ((linkConfigRequest body d).dev).npl.wakeLights = d.npl.wakeLights ∧
    ((linkConfigRequest body d).dev).npl.quiet = d.npl.quiet ∧ ((linkConfigRequest body d).dev).npl.hostQuiet = d.npl.hostQuiet ∧
    ((linkConfigRequest body d).dev).npl.lastClass = d.npl.lastClass ∧
    ((linkConfigRequest body d).dev).npl.lastProjection = d.npl.lastProjection ∧
    ((linkConfigRequest body d).dev).npl.horizonHanded = d.npl.horizonHanded ∧
    ((linkConfigRequest body d).dev).npl.result = d.npl.result ∧
    ((linkConfigRequest body d).dev).npl.prewarmMark = d.npl.prewarmMark ∧
    ((linkConfigRequest body d).dev).lnk.receiver = d.lnk.receiver ∧ ((linkConfigRequest body d).dev).lnk.lastByte = d.lnk.lastByte ∧
    ((linkConfigRequest body d).dev).lnk.queue = d.lnk.queue ∧ ((linkConfigRequest body d).dev).lnk.out = d.lnk.out ∧
    ((linkConfigRequest body d).dev).lnk.tx = d.lnk.tx ∧ ((linkConfigRequest body d).dev).lnk.sendEnd = d.lnk.sendEnd ∧
    ((linkConfigRequest body d).dev).lnk.awake = d.lnk.awake ∧ ((linkConfigRequest body d).dev).lnk.lastFrame = d.lnk.lastFrame ∧
    ((linkConfigRequest body d).dev).lnk.resetKind = d.lnk.resetKind ∧
    ((linkConfigRequest body d).dev).lnk.resetUptime = d.lnk.resetUptime ∧ ((linkConfigRequest body d).dev).sched = d.sched := by
  unfold linkConfigRequest
  (try simp)
  all_goals ((repeat' split) <;> (try simp))
  all_goals ((repeat' split) <;> simp_all)

/-! ## Lights -/

@[simp] theorem putChannels_frame (l : List LightChannel) (d : Device) :
    (putChannels l d).pins = d.pins ∧ (putChannels l d).factory = d.factory ∧ (putChannels l d).sns = d.sns ∧
    (putChannels l d).vbl = d.vbl ∧ (putChannels l d).chg = d.chg ∧ (putChannels l d).bgt = d.bgt ∧ (putChannels l d).htr = d.htr ∧
    (putChannels l d).cmp = d.cmp ∧ (putChannels l d).lgt.chSettings = d.lgt.chSettings ∧
    (putChannels l d).lgt.capStep = d.lgt.capStep ∧ (putChannels l d).lgt.written = d.lgt.written ∧
    (putChannels l d).lgt.scenes = d.lgt.scenes ∧ (putChannels l d).lgt.settings = d.lgt.settings ∧
    (putChannels l d).lgt.courtesyTimer = d.lgt.courtesyTimer ∧ (putChannels l d).lgt.sources = d.lgt.sources ∧
    (putChannels l d).lgt.ch7Applied = d.lgt.ch7Applied ∧ (putChannels l d).lgt.ch7On = d.lgt.ch7On ∧
    (putChannels l d).lgt.ch7Timer = d.lgt.ch7Timer ∧ (putChannels l d).lgt.buzzer = d.lgt.buzzer ∧ (putChannels l d).rtm = d.rtm ∧
    (putChannels l d).npl = d.npl ∧ (putChannels l d).lnk = d.lnk ∧ (putChannels l d).sched = d.sched := by
  unfold putChannels
  (try simp)
  all_goals ((repeat' split) <;> (try simp))
  all_goals ((repeat' split) <;> simp_all)

@[simp] theorem setsByHand_frame (target fade : Nat) (l : List Nat) (d : Device) :
    (l.foldl (fun (a : Device) n => putChannels (a.lgt.channels.set n ((channelOf a n).setByHand target fade a.sns.ms)) a) d).pins = d.pins ∧
    (l.foldl (fun (a : Device) n => putChannels (a.lgt.channels.set n ((channelOf a n).setByHand target fade a.sns.ms)) a) d).factory = d.factory ∧
    (l.foldl (fun (a : Device) n => putChannels (a.lgt.channels.set n ((channelOf a n).setByHand target fade a.sns.ms)) a) d).sns = d.sns ∧
    (l.foldl (fun (a : Device) n => putChannels (a.lgt.channels.set n ((channelOf a n).setByHand target fade a.sns.ms)) a) d).vbl = d.vbl ∧
    (l.foldl (fun (a : Device) n => putChannels (a.lgt.channels.set n ((channelOf a n).setByHand target fade a.sns.ms)) a) d).chg = d.chg ∧
    (l.foldl (fun (a : Device) n => putChannels (a.lgt.channels.set n ((channelOf a n).setByHand target fade a.sns.ms)) a) d).bgt = d.bgt ∧
    (l.foldl (fun (a : Device) n => putChannels (a.lgt.channels.set n ((channelOf a n).setByHand target fade a.sns.ms)) a) d).htr = d.htr ∧
    (l.foldl (fun (a : Device) n => putChannels (a.lgt.channels.set n ((channelOf a n).setByHand target fade a.sns.ms)) a) d).cmp = d.cmp ∧
    (l.foldl (fun (a : Device) n => putChannels (a.lgt.channels.set n ((channelOf a n).setByHand target fade a.sns.ms)) a) d).lgt.chSettings = d.lgt.chSettings ∧
    (l.foldl (fun (a : Device) n => putChannels (a.lgt.channels.set n ((channelOf a n).setByHand target fade a.sns.ms)) a) d).lgt.capStep = d.lgt.capStep ∧
    (l.foldl (fun (a : Device) n => putChannels (a.lgt.channels.set n ((channelOf a n).setByHand target fade a.sns.ms)) a) d).lgt.written = d.lgt.written ∧
    (l.foldl (fun (a : Device) n => putChannels (a.lgt.channels.set n ((channelOf a n).setByHand target fade a.sns.ms)) a) d).lgt.scenes = d.lgt.scenes ∧
    (l.foldl (fun (a : Device) n => putChannels (a.lgt.channels.set n ((channelOf a n).setByHand target fade a.sns.ms)) a) d).lgt.settings = d.lgt.settings ∧
    (l.foldl (fun (a : Device) n => putChannels (a.lgt.channels.set n ((channelOf a n).setByHand target fade a.sns.ms)) a) d).lgt.courtesyTimer = d.lgt.courtesyTimer ∧
    (l.foldl (fun (a : Device) n => putChannels (a.lgt.channels.set n ((channelOf a n).setByHand target fade a.sns.ms)) a) d).lgt.sources = d.lgt.sources ∧
    (l.foldl (fun (a : Device) n => putChannels (a.lgt.channels.set n ((channelOf a n).setByHand target fade a.sns.ms)) a) d).lgt.ch7Applied = d.lgt.ch7Applied ∧
    (l.foldl (fun (a : Device) n => putChannels (a.lgt.channels.set n ((channelOf a n).setByHand target fade a.sns.ms)) a) d).lgt.ch7On = d.lgt.ch7On ∧
    (l.foldl (fun (a : Device) n => putChannels (a.lgt.channels.set n ((channelOf a n).setByHand target fade a.sns.ms)) a) d).lgt.ch7Timer = d.lgt.ch7Timer ∧
    (l.foldl (fun (a : Device) n => putChannels (a.lgt.channels.set n ((channelOf a n).setByHand target fade a.sns.ms)) a) d).lgt.buzzer = d.lgt.buzzer ∧
    (l.foldl (fun (a : Device) n => putChannels (a.lgt.channels.set n ((channelOf a n).setByHand target fade a.sns.ms)) a) d).rtm = d.rtm ∧
    (l.foldl (fun (a : Device) n => putChannels (a.lgt.channels.set n ((channelOf a n).setByHand target fade a.sns.ms)) a) d).npl = d.npl ∧
    (l.foldl (fun (a : Device) n => putChannels (a.lgt.channels.set n ((channelOf a n).setByHand target fade a.sns.ms)) a) d).lnk = d.lnk ∧
    (l.foldl (fun (a : Device) n => putChannels (a.lgt.channels.set n ((channelOf a n).setByHand target fade a.sns.ms)) a) d).sched = d.sched := by
  induction l generalizing d with
  | nil => simp
  | cons a l ih => simp [ih]

@[simp] theorem settleLights_frame (d : Device) :
    (settleLights d).pins = d.pins ∧ (settleLights d).factory = d.factory ∧ (settleLights d).sns = d.sns ∧
    (settleLights d).vbl = d.vbl ∧ (settleLights d).chg = d.chg ∧ (settleLights d).bgt = d.bgt ∧ (settleLights d).htr = d.htr ∧
    (settleLights d).cmp = d.cmp ∧ (settleLights d).lgt.chSettings = d.lgt.chSettings ∧ (settleLights d).lgt.capStep = d.lgt.capStep ∧
    (settleLights d).lgt.written = d.lgt.written ∧ (settleLights d).lgt.scenes = d.lgt.scenes ∧
    (settleLights d).lgt.settings = d.lgt.settings ∧ (settleLights d).lgt.courtesyTimer = d.lgt.courtesyTimer ∧
    (settleLights d).lgt.sources = d.lgt.sources ∧ (settleLights d).lgt.ch7Applied = d.lgt.ch7Applied ∧
    (settleLights d).lgt.ch7On = d.lgt.ch7On ∧ (settleLights d).lgt.ch7Timer = d.lgt.ch7Timer ∧
    (settleLights d).lgt.buzzer = d.lgt.buzzer ∧ (settleLights d).rtm = d.rtm ∧ (settleLights d).npl = d.npl ∧
    (settleLights d).lnk = d.lnk ∧ (settleLights d).sched = d.sched := by
  unfold settleLights
  (try simp)
  all_goals ((repeat' split) <;> (try simp))
  all_goals ((repeat' split) <;> simp_all)

@[simp] theorem recap_frame (was : List ChannelSetting) (d : Device) :
    (recap was d).pins = d.pins ∧ (recap was d).factory = d.factory ∧ (recap was d).sns = d.sns ∧ (recap was d).vbl = d.vbl ∧
    (recap was d).chg = d.chg ∧ (recap was d).bgt = d.bgt ∧ (recap was d).htr = d.htr ∧ (recap was d).cmp = d.cmp ∧
    (recap was d).lgt.chSettings = d.lgt.chSettings ∧ (recap was d).lgt.written = d.lgt.written ∧
    (recap was d).lgt.scenes = d.lgt.scenes ∧ (recap was d).lgt.settings = d.lgt.settings ∧
    (recap was d).lgt.courtesyTimer = d.lgt.courtesyTimer ∧ (recap was d).lgt.sources = d.lgt.sources ∧
    (recap was d).lgt.ch7Applied = d.lgt.ch7Applied ∧ (recap was d).lgt.ch7On = d.lgt.ch7On ∧
    (recap was d).lgt.ch7Timer = d.lgt.ch7Timer ∧ (recap was d).lgt.buzzer = d.lgt.buzzer ∧ (recap was d).rtm = d.rtm ∧
    (recap was d).npl = d.npl ∧ (recap was d).lnk.receiver = d.lnk.receiver ∧ (recap was d).lnk.lastByte = d.lnk.lastByte ∧
    (recap was d).lnk.queue = d.lnk.queue ∧ (recap was d).lnk.out = d.lnk.out ∧ (recap was d).lnk.tx = d.lnk.tx ∧
    (recap was d).lnk.sendEnd = d.lnk.sendEnd ∧ (recap was d).lnk.awake = d.lnk.awake ∧ (recap was d).lnk.idle = d.lnk.idle ∧
    (recap was d).lnk.lastFrame = d.lnk.lastFrame ∧ (recap was d).lnk.enables = d.lnk.enables ∧
    (recap was d).lnk.idleTime = d.lnk.idleTime ∧ (recap was d).lnk.resetKind = d.lnk.resetKind ∧
    (recap was d).lnk.resetUptime = d.lnk.resetUptime ∧ (recap was d).sched = d.sched := by
  unfold recap
  (try simp)
  all_goals ((repeat' split) <;> (try simp))
  all_goals ((repeat' split) <;> simp_all)

@[simp] theorem lightsGrant_frame (d : Device) :
    (lightsGrant d).pins = d.pins ∧ (lightsGrant d).factory = d.factory ∧ (lightsGrant d).sns = d.sns ∧ (lightsGrant d).vbl = d.vbl ∧
    (lightsGrant d).chg = d.chg ∧ (lightsGrant d).bgt = d.bgt ∧ (lightsGrant d).htr = d.htr ∧ (lightsGrant d).cmp = d.cmp ∧
    (lightsGrant d).lgt.chSettings = d.lgt.chSettings ∧ (lightsGrant d).lgt.written = d.lgt.written ∧
    (lightsGrant d).lgt.scenes = d.lgt.scenes ∧ (lightsGrant d).lgt.settings = d.lgt.settings ∧
    (lightsGrant d).lgt.courtesyTimer = d.lgt.courtesyTimer ∧ (lightsGrant d).lgt.sources = d.lgt.sources ∧
    (lightsGrant d).lgt.ch7Applied = d.lgt.ch7Applied ∧ (lightsGrant d).lgt.ch7On = d.lgt.ch7On ∧
    (lightsGrant d).lgt.ch7Timer = d.lgt.ch7Timer ∧ (lightsGrant d).lgt.buzzer = d.lgt.buzzer ∧ (lightsGrant d).rtm = d.rtm ∧
    (lightsGrant d).npl = d.npl ∧ (lightsGrant d).lnk.receiver = d.lnk.receiver ∧ (lightsGrant d).lnk.lastByte = d.lnk.lastByte ∧
    (lightsGrant d).lnk.queue = d.lnk.queue ∧ (lightsGrant d).lnk.out = d.lnk.out ∧ (lightsGrant d).lnk.tx = d.lnk.tx ∧
    (lightsGrant d).lnk.sendEnd = d.lnk.sendEnd ∧ (lightsGrant d).lnk.awake = d.lnk.awake ∧ (lightsGrant d).lnk.idle = d.lnk.idle ∧
    (lightsGrant d).lnk.lastFrame = d.lnk.lastFrame ∧ (lightsGrant d).lnk.enables = d.lnk.enables ∧
    (lightsGrant d).lnk.idleTime = d.lnk.idleTime ∧ (lightsGrant d).lnk.resetKind = d.lnk.resetKind ∧
    (lightsGrant d).lnk.resetUptime = d.lnk.resetUptime ∧ (lightsGrant d).sched = d.sched := by
  unfold lightsGrant
  (try simp)
  all_goals ((repeat' split) <;> (try simp))
  all_goals ((repeat' split) <;> simp_all)

@[simp] theorem refreshLights_frame (was : List ChannelSetting) (d : Device) :
    (refreshLights was d).pins = d.pins ∧ (refreshLights was d).factory = d.factory ∧ (refreshLights was d).sns = d.sns ∧
    (refreshLights was d).vbl = d.vbl ∧ (refreshLights was d).chg = d.chg ∧
    (refreshLights was d).bgt.horizonSource = d.bgt.horizonSource ∧ (refreshLights was d).bgt.defaultHorizon = d.bgt.defaultHorizon ∧
    (refreshLights was d).bgt.last = d.bgt.last ∧ (refreshLights was d).bgt.outlet = d.bgt.outlet ∧
    (refreshLights was d).htr = d.htr ∧ (refreshLights was d).cmp = d.cmp ∧ (refreshLights was d).lgt.chSettings = d.lgt.chSettings ∧
    (refreshLights was d).lgt.scenes = d.lgt.scenes ∧ (refreshLights was d).lgt.settings = d.lgt.settings ∧
    (refreshLights was d).lgt.courtesyTimer = d.lgt.courtesyTimer ∧ (refreshLights was d).lgt.sources = d.lgt.sources ∧
    (refreshLights was d).lgt.ch7Applied = d.lgt.ch7Applied ∧ (refreshLights was d).lgt.ch7On = d.lgt.ch7On ∧
    (refreshLights was d).lgt.ch7Timer = d.lgt.ch7Timer ∧ (refreshLights was d).lgt.buzzer = d.lgt.buzzer ∧
    (refreshLights was d).rtm = d.rtm ∧ (refreshLights was d).npl = d.npl ∧ (refreshLights was d).lnk.receiver = d.lnk.receiver ∧
    (refreshLights was d).lnk.lastByte = d.lnk.lastByte ∧ (refreshLights was d).lnk.queue = d.lnk.queue ∧
    (refreshLights was d).lnk.out = d.lnk.out ∧ (refreshLights was d).lnk.tx = d.lnk.tx ∧
    (refreshLights was d).lnk.sendEnd = d.lnk.sendEnd ∧ (refreshLights was d).lnk.awake = d.lnk.awake ∧
    (refreshLights was d).lnk.idle = d.lnk.idle ∧ (refreshLights was d).lnk.lastFrame = d.lnk.lastFrame ∧
    (refreshLights was d).lnk.enables = d.lnk.enables ∧ (refreshLights was d).lnk.idleTime = d.lnk.idleTime ∧
    (refreshLights was d).lnk.resetKind = d.lnk.resetKind ∧ (refreshLights was d).lnk.resetUptime = d.lnk.resetUptime ∧
    (refreshLights was d).sched = d.sched := by
  unfold refreshLights
  (try simp)
  all_goals ((repeat' split) <;> (try simp))
  all_goals ((repeat' split) <;> simp_all)

@[simp] theorem postIfMoved_frame (before : List Nat) (d : Device) :
    (postIfMoved before d).pins = d.pins ∧ (postIfMoved before d).factory = d.factory ∧ (postIfMoved before d).sns = d.sns ∧
    (postIfMoved before d).vbl = d.vbl ∧ (postIfMoved before d).chg = d.chg ∧ (postIfMoved before d).bgt = d.bgt ∧
    (postIfMoved before d).htr = d.htr ∧ (postIfMoved before d).cmp = d.cmp ∧ (postIfMoved before d).lgt = d.lgt ∧
    (postIfMoved before d).rtm = d.rtm ∧ (postIfMoved before d).npl = d.npl ∧ (postIfMoved before d).lnk.receiver = d.lnk.receiver ∧
    (postIfMoved before d).lnk.lastByte = d.lnk.lastByte ∧ (postIfMoved before d).lnk.queue = d.lnk.queue ∧
    (postIfMoved before d).lnk.out = d.lnk.out ∧ (postIfMoved before d).lnk.tx = d.lnk.tx ∧
    (postIfMoved before d).lnk.sendEnd = d.lnk.sendEnd ∧ (postIfMoved before d).lnk.awake = d.lnk.awake ∧
    (postIfMoved before d).lnk.idle = d.lnk.idle ∧ (postIfMoved before d).lnk.lastFrame = d.lnk.lastFrame ∧
    (postIfMoved before d).lnk.enables = d.lnk.enables ∧ (postIfMoved before d).lnk.idleTime = d.lnk.idleTime ∧
    (postIfMoved before d).lnk.resetKind = d.lnk.resetKind ∧ (postIfMoved before d).lnk.resetUptime = d.lnk.resetUptime ∧
    (postIfMoved before d).sched = d.sched := by
  unfold postIfMoved
  (try simp)
  all_goals ((repeat' split) <;> (try simp))
  all_goals ((repeat' split) <;> simp_all)

@[simp] theorem setByHand_frame (which : List Nat) (target fade : Nat) (d : Device) :
    (setByHand which target fade d).pins = d.pins ∧ (setByHand which target fade d).factory = d.factory ∧
    (setByHand which target fade d).sns = d.sns ∧ (setByHand which target fade d).vbl = d.vbl ∧
    (setByHand which target fade d).chg = d.chg ∧ (setByHand which target fade d).bgt.horizonSource = d.bgt.horizonSource ∧
    (setByHand which target fade d).bgt.defaultHorizon = d.bgt.defaultHorizon ∧
    (setByHand which target fade d).bgt.last = d.bgt.last ∧ (setByHand which target fade d).bgt.outlet = d.bgt.outlet ∧
    (setByHand which target fade d).htr = d.htr ∧ (setByHand which target fade d).cmp = d.cmp ∧
    (setByHand which target fade d).lgt.chSettings = d.lgt.chSettings ∧ (setByHand which target fade d).lgt.scenes = d.lgt.scenes ∧
    (setByHand which target fade d).lgt.settings = d.lgt.settings ∧
    (setByHand which target fade d).lgt.courtesyTimer = d.lgt.courtesyTimer ∧
    (setByHand which target fade d).lgt.sources = d.lgt.sources ∧ (setByHand which target fade d).lgt.ch7Applied = d.lgt.ch7Applied ∧
    (setByHand which target fade d).lgt.ch7On = d.lgt.ch7On ∧ (setByHand which target fade d).lgt.ch7Timer = d.lgt.ch7Timer ∧
    (setByHand which target fade d).lgt.buzzer = d.lgt.buzzer ∧ (setByHand which target fade d).rtm = d.rtm ∧
    (setByHand which target fade d).npl = d.npl ∧ (setByHand which target fade d).lnk.receiver = d.lnk.receiver ∧
    (setByHand which target fade d).lnk.lastByte = d.lnk.lastByte ∧ (setByHand which target fade d).lnk.queue = d.lnk.queue ∧
    (setByHand which target fade d).lnk.out = d.lnk.out ∧ (setByHand which target fade d).lnk.tx = d.lnk.tx ∧
    (setByHand which target fade d).lnk.sendEnd = d.lnk.sendEnd ∧ (setByHand which target fade d).lnk.awake = d.lnk.awake ∧
    (setByHand which target fade d).lnk.idle = d.lnk.idle ∧ (setByHand which target fade d).lnk.lastFrame = d.lnk.lastFrame ∧
    (setByHand which target fade d).lnk.enables = d.lnk.enables ∧ (setByHand which target fade d).lnk.idleTime = d.lnk.idleTime ∧
    (setByHand which target fade d).lnk.resetKind = d.lnk.resetKind ∧
    (setByHand which target fade d).lnk.resetUptime = d.lnk.resetUptime ∧ (setByHand which target fade d).sched = d.sched := by
  unfold setByHand
  (try simp)
  all_goals ((repeat' split) <;> (try simp))
  all_goals ((repeat' split) <;> simp_all)

@[simp] theorem lightSetRequest_frame (b : List Byte) (d : Device) :
    ((lightSetRequest b d).dev).pins = d.pins ∧ ((lightSetRequest b d).dev).factory = d.factory ∧
    ((lightSetRequest b d).dev).sns = d.sns ∧ ((lightSetRequest b d).dev).vbl = d.vbl ∧ ((lightSetRequest b d).dev).chg = d.chg ∧
    ((lightSetRequest b d).dev).bgt.horizonSource = d.bgt.horizonSource ∧
    ((lightSetRequest b d).dev).bgt.defaultHorizon = d.bgt.defaultHorizon ∧ ((lightSetRequest b d).dev).bgt.last = d.bgt.last ∧
    ((lightSetRequest b d).dev).bgt.outlet = d.bgt.outlet ∧ ((lightSetRequest b d).dev).htr = d.htr ∧
    ((lightSetRequest b d).dev).cmp = d.cmp ∧ ((lightSetRequest b d).dev).lgt.chSettings = d.lgt.chSettings ∧
    ((lightSetRequest b d).dev).lgt.scenes = d.lgt.scenes ∧ ((lightSetRequest b d).dev).lgt.settings = d.lgt.settings ∧
    ((lightSetRequest b d).dev).lgt.courtesyTimer = d.lgt.courtesyTimer ∧ ((lightSetRequest b d).dev).lgt.sources = d.lgt.sources ∧
    ((lightSetRequest b d).dev).lgt.ch7Applied = d.lgt.ch7Applied ∧ ((lightSetRequest b d).dev).lgt.ch7On = d.lgt.ch7On ∧
    ((lightSetRequest b d).dev).lgt.ch7Timer = d.lgt.ch7Timer ∧ ((lightSetRequest b d).dev).lgt.buzzer = d.lgt.buzzer ∧
    ((lightSetRequest b d).dev).rtm = d.rtm ∧ ((lightSetRequest b d).dev).npl = d.npl ∧
    ((lightSetRequest b d).dev).lnk.receiver = d.lnk.receiver ∧ ((lightSetRequest b d).dev).lnk.lastByte = d.lnk.lastByte ∧
    ((lightSetRequest b d).dev).lnk.queue = d.lnk.queue ∧ ((lightSetRequest b d).dev).lnk.out = d.lnk.out ∧
    ((lightSetRequest b d).dev).lnk.tx = d.lnk.tx ∧ ((lightSetRequest b d).dev).lnk.sendEnd = d.lnk.sendEnd ∧
    ((lightSetRequest b d).dev).lnk.awake = d.lnk.awake ∧ ((lightSetRequest b d).dev).lnk.idle = d.lnk.idle ∧
    ((lightSetRequest b d).dev).lnk.lastFrame = d.lnk.lastFrame ∧ ((lightSetRequest b d).dev).lnk.enables = d.lnk.enables ∧
    ((lightSetRequest b d).dev).lnk.idleTime = d.lnk.idleTime ∧ ((lightSetRequest b d).dev).lnk.resetKind = d.lnk.resetKind ∧
    ((lightSetRequest b d).dev).lnk.resetUptime = d.lnk.resetUptime ∧ ((lightSetRequest b d).dev).sched = d.sched := by
  unfold lightSetRequest
  (try simp)
  all_goals ((repeat' split) <;> (try simp))
  all_goals ((repeat' split) <;> simp_all)

@[simp] theorem lightGroupRequest_frame (b : List Byte) (d : Device) :
    ((lightGroupRequest b d).dev).pins = d.pins ∧ ((lightGroupRequest b d).dev).factory = d.factory ∧
    ((lightGroupRequest b d).dev).sns = d.sns ∧ ((lightGroupRequest b d).dev).vbl = d.vbl ∧
    ((lightGroupRequest b d).dev).chg = d.chg ∧ ((lightGroupRequest b d).dev).bgt.horizonSource = d.bgt.horizonSource ∧
    ((lightGroupRequest b d).dev).bgt.defaultHorizon = d.bgt.defaultHorizon ∧ ((lightGroupRequest b d).dev).bgt.last = d.bgt.last ∧
    ((lightGroupRequest b d).dev).bgt.outlet = d.bgt.outlet ∧ ((lightGroupRequest b d).dev).htr = d.htr ∧
    ((lightGroupRequest b d).dev).cmp = d.cmp ∧ ((lightGroupRequest b d).dev).lgt.chSettings = d.lgt.chSettings ∧
    ((lightGroupRequest b d).dev).lgt.scenes = d.lgt.scenes ∧ ((lightGroupRequest b d).dev).lgt.settings = d.lgt.settings ∧
    ((lightGroupRequest b d).dev).lgt.courtesyTimer = d.lgt.courtesyTimer ∧
    ((lightGroupRequest b d).dev).lgt.sources = d.lgt.sources ∧ ((lightGroupRequest b d).dev).lgt.ch7Applied = d.lgt.ch7Applied ∧
    ((lightGroupRequest b d).dev).lgt.ch7On = d.lgt.ch7On ∧ ((lightGroupRequest b d).dev).lgt.ch7Timer = d.lgt.ch7Timer ∧
    ((lightGroupRequest b d).dev).lgt.buzzer = d.lgt.buzzer ∧ ((lightGroupRequest b d).dev).rtm = d.rtm ∧
    ((lightGroupRequest b d).dev).npl = d.npl ∧ ((lightGroupRequest b d).dev).lnk.receiver = d.lnk.receiver ∧
    ((lightGroupRequest b d).dev).lnk.lastByte = d.lnk.lastByte ∧ ((lightGroupRequest b d).dev).lnk.queue = d.lnk.queue ∧
    ((lightGroupRequest b d).dev).lnk.out = d.lnk.out ∧ ((lightGroupRequest b d).dev).lnk.tx = d.lnk.tx ∧
    ((lightGroupRequest b d).dev).lnk.sendEnd = d.lnk.sendEnd ∧ ((lightGroupRequest b d).dev).lnk.awake = d.lnk.awake ∧
    ((lightGroupRequest b d).dev).lnk.idle = d.lnk.idle ∧ ((lightGroupRequest b d).dev).lnk.lastFrame = d.lnk.lastFrame ∧
    ((lightGroupRequest b d).dev).lnk.enables = d.lnk.enables ∧ ((lightGroupRequest b d).dev).lnk.idleTime = d.lnk.idleTime ∧
    ((lightGroupRequest b d).dev).lnk.resetKind = d.lnk.resetKind ∧
    ((lightGroupRequest b d).dev).lnk.resetUptime = d.lnk.resetUptime ∧ ((lightGroupRequest b d).dev).sched = d.sched := by
  unfold lightGroupRequest
  (try simp)
  all_goals ((repeat' split) <;> (try simp))
  all_goals ((repeat' split) <;> simp_all)

@[simp] theorem sceneSetRequest_frame (b : List Byte) (d : Device) :
    ((sceneSetRequest b d).dev).pins = d.pins ∧ ((sceneSetRequest b d).dev).factory = d.factory ∧
    ((sceneSetRequest b d).dev).sns = d.sns ∧ ((sceneSetRequest b d).dev).vbl = d.vbl ∧ ((sceneSetRequest b d).dev).chg = d.chg ∧
    ((sceneSetRequest b d).dev).bgt = d.bgt ∧ ((sceneSetRequest b d).dev).htr = d.htr ∧ ((sceneSetRequest b d).dev).cmp = d.cmp ∧
    ((sceneSetRequest b d).dev).lgt.channels = d.lgt.channels ∧ ((sceneSetRequest b d).dev).lgt.chSettings = d.lgt.chSettings ∧
    ((sceneSetRequest b d).dev).lgt.capStep = d.lgt.capStep ∧ ((sceneSetRequest b d).dev).lgt.written = d.lgt.written ∧
    ((sceneSetRequest b d).dev).lgt.settings = d.lgt.settings ∧ ((sceneSetRequest b d).dev).lgt.courtesyTimer = d.lgt.courtesyTimer ∧
    ((sceneSetRequest b d).dev).lgt.sources = d.lgt.sources ∧ ((sceneSetRequest b d).dev).lgt.ch7Applied = d.lgt.ch7Applied ∧
    ((sceneSetRequest b d).dev).lgt.ch7On = d.lgt.ch7On ∧ ((sceneSetRequest b d).dev).lgt.ch7Timer = d.lgt.ch7Timer ∧
    ((sceneSetRequest b d).dev).lgt.buzzer = d.lgt.buzzer ∧ ((sceneSetRequest b d).dev).rtm = d.rtm ∧
    ((sceneSetRequest b d).dev).npl = d.npl ∧ ((sceneSetRequest b d).dev).lnk = d.lnk ∧ ((sceneSetRequest b d).dev).sched = d.sched := by
  unfold sceneSetRequest
  (try simp)
  all_goals ((repeat' split) <;> (try simp))
  all_goals ((repeat' split) <;> simp_all)

@[simp] theorem applyScene_frame (levels : List (Option Nat)) (fade : Nat) (d : Device) :
    (applyScene levels fade d).pins = d.pins ∧ (applyScene levels fade d).factory = d.factory ∧
    (applyScene levels fade d).sns = d.sns ∧ (applyScene levels fade d).vbl = d.vbl ∧ (applyScene levels fade d).chg = d.chg ∧
    (applyScene levels fade d).bgt.horizonSource = d.bgt.horizonSource ∧
    (applyScene levels fade d).bgt.defaultHorizon = d.bgt.defaultHorizon ∧ (applyScene levels fade d).bgt.last = d.bgt.last ∧
    (applyScene levels fade d).bgt.outlet = d.bgt.outlet ∧ (applyScene levels fade d).htr = d.htr ∧
    (applyScene levels fade d).cmp = d.cmp ∧ (applyScene levels fade d).lgt.chSettings = d.lgt.chSettings ∧
    (applyScene levels fade d).lgt.scenes = d.lgt.scenes ∧ (applyScene levels fade d).lgt.settings = d.lgt.settings ∧
    (applyScene levels fade d).lgt.courtesyTimer = d.lgt.courtesyTimer ∧ (applyScene levels fade d).lgt.sources = d.lgt.sources ∧
    (applyScene levels fade d).lgt.ch7Applied = d.lgt.ch7Applied ∧ (applyScene levels fade d).lgt.ch7On = d.lgt.ch7On ∧
    (applyScene levels fade d).lgt.ch7Timer = d.lgt.ch7Timer ∧ (applyScene levels fade d).lgt.buzzer = d.lgt.buzzer ∧
    (applyScene levels fade d).rtm = d.rtm ∧ (applyScene levels fade d).npl = d.npl ∧
    (applyScene levels fade d).lnk.receiver = d.lnk.receiver ∧ (applyScene levels fade d).lnk.lastByte = d.lnk.lastByte ∧
    (applyScene levels fade d).lnk.queue = d.lnk.queue ∧ (applyScene levels fade d).lnk.out = d.lnk.out ∧
    (applyScene levels fade d).lnk.tx = d.lnk.tx ∧ (applyScene levels fade d).lnk.sendEnd = d.lnk.sendEnd ∧
    (applyScene levels fade d).lnk.awake = d.lnk.awake ∧ (applyScene levels fade d).lnk.idle = d.lnk.idle ∧
    (applyScene levels fade d).lnk.lastFrame = d.lnk.lastFrame ∧ (applyScene levels fade d).lnk.enables = d.lnk.enables ∧
    (applyScene levels fade d).lnk.idleTime = d.lnk.idleTime ∧ (applyScene levels fade d).lnk.resetKind = d.lnk.resetKind ∧
    (applyScene levels fade d).lnk.resetUptime = d.lnk.resetUptime ∧ (applyScene levels fade d).sched = d.sched := by
  unfold applyScene
  (try simp)
  all_goals ((repeat' split) <;> (try simp))
  all_goals ((repeat' split) <;> simp_all)

@[simp] theorem recallScene_frame (n : Nat) (d : Device) :
    (recallScene n d).pins = d.pins ∧ (recallScene n d).factory = d.factory ∧ (recallScene n d).sns = d.sns ∧
    (recallScene n d).vbl = d.vbl ∧ (recallScene n d).chg = d.chg ∧ (recallScene n d).bgt.horizonSource = d.bgt.horizonSource ∧
    (recallScene n d).bgt.defaultHorizon = d.bgt.defaultHorizon ∧ (recallScene n d).bgt.last = d.bgt.last ∧
    (recallScene n d).bgt.outlet = d.bgt.outlet ∧ (recallScene n d).htr = d.htr ∧ (recallScene n d).cmp = d.cmp ∧
    (recallScene n d).lgt.chSettings = d.lgt.chSettings ∧ (recallScene n d).lgt.scenes = d.lgt.scenes ∧
    (recallScene n d).lgt.settings = d.lgt.settings ∧ (recallScene n d).lgt.courtesyTimer = d.lgt.courtesyTimer ∧
    (recallScene n d).lgt.sources = d.lgt.sources ∧ (recallScene n d).lgt.ch7Applied = d.lgt.ch7Applied ∧
    (recallScene n d).lgt.ch7On = d.lgt.ch7On ∧ (recallScene n d).lgt.ch7Timer = d.lgt.ch7Timer ∧
    (recallScene n d).lgt.buzzer = d.lgt.buzzer ∧ (recallScene n d).rtm = d.rtm ∧ (recallScene n d).npl = d.npl ∧
    (recallScene n d).lnk.receiver = d.lnk.receiver ∧ (recallScene n d).lnk.lastByte = d.lnk.lastByte ∧
    (recallScene n d).lnk.queue = d.lnk.queue ∧ (recallScene n d).lnk.out = d.lnk.out ∧ (recallScene n d).lnk.tx = d.lnk.tx ∧
    (recallScene n d).lnk.sendEnd = d.lnk.sendEnd ∧ (recallScene n d).lnk.awake = d.lnk.awake ∧
    (recallScene n d).lnk.idle = d.lnk.idle ∧ (recallScene n d).lnk.lastFrame = d.lnk.lastFrame ∧
    (recallScene n d).lnk.enables = d.lnk.enables ∧ (recallScene n d).lnk.idleTime = d.lnk.idleTime ∧
    (recallScene n d).lnk.resetKind = d.lnk.resetKind ∧ (recallScene n d).lnk.resetUptime = d.lnk.resetUptime ∧
    (recallScene n d).sched = d.sched := by
  unfold recallScene
  (try simp)
  all_goals ((repeat' split) <;> (try simp))
  all_goals ((repeat' split) <;> simp_all)

@[simp] theorem sceneRecallRequest_frame (b : List Byte) (d : Device) :
    ((sceneRecallRequest b d).dev).pins = d.pins ∧ ((sceneRecallRequest b d).dev).factory = d.factory ∧
    ((sceneRecallRequest b d).dev).sns = d.sns ∧ ((sceneRecallRequest b d).dev).vbl = d.vbl ∧
    ((sceneRecallRequest b d).dev).chg = d.chg ∧ ((sceneRecallRequest b d).dev).bgt.horizonSource = d.bgt.horizonSource ∧
    ((sceneRecallRequest b d).dev).bgt.defaultHorizon = d.bgt.defaultHorizon ∧ ((sceneRecallRequest b d).dev).bgt.last = d.bgt.last ∧
    ((sceneRecallRequest b d).dev).bgt.outlet = d.bgt.outlet ∧ ((sceneRecallRequest b d).dev).htr = d.htr ∧
    ((sceneRecallRequest b d).dev).cmp = d.cmp ∧ ((sceneRecallRequest b d).dev).lgt.chSettings = d.lgt.chSettings ∧
    ((sceneRecallRequest b d).dev).lgt.scenes = d.lgt.scenes ∧ ((sceneRecallRequest b d).dev).lgt.settings = d.lgt.settings ∧
    ((sceneRecallRequest b d).dev).lgt.courtesyTimer = d.lgt.courtesyTimer ∧
    ((sceneRecallRequest b d).dev).lgt.sources = d.lgt.sources ∧ ((sceneRecallRequest b d).dev).lgt.ch7Applied = d.lgt.ch7Applied ∧
    ((sceneRecallRequest b d).dev).lgt.ch7On = d.lgt.ch7On ∧ ((sceneRecallRequest b d).dev).lgt.ch7Timer = d.lgt.ch7Timer ∧
    ((sceneRecallRequest b d).dev).lgt.buzzer = d.lgt.buzzer ∧ ((sceneRecallRequest b d).dev).rtm = d.rtm ∧
    ((sceneRecallRequest b d).dev).npl = d.npl ∧ ((sceneRecallRequest b d).dev).lnk.receiver = d.lnk.receiver ∧
    ((sceneRecallRequest b d).dev).lnk.lastByte = d.lnk.lastByte ∧ ((sceneRecallRequest b d).dev).lnk.queue = d.lnk.queue ∧
    ((sceneRecallRequest b d).dev).lnk.out = d.lnk.out ∧ ((sceneRecallRequest b d).dev).lnk.tx = d.lnk.tx ∧
    ((sceneRecallRequest b d).dev).lnk.sendEnd = d.lnk.sendEnd ∧ ((sceneRecallRequest b d).dev).lnk.awake = d.lnk.awake ∧
    ((sceneRecallRequest b d).dev).lnk.idle = d.lnk.idle ∧ ((sceneRecallRequest b d).dev).lnk.lastFrame = d.lnk.lastFrame ∧
    ((sceneRecallRequest b d).dev).lnk.enables = d.lnk.enables ∧ ((sceneRecallRequest b d).dev).lnk.idleTime = d.lnk.idleTime ∧
    ((sceneRecallRequest b d).dev).lnk.resetKind = d.lnk.resetKind ∧
    ((sceneRecallRequest b d).dev).lnk.resetUptime = d.lnk.resetUptime ∧ ((sceneRecallRequest b d).dev).sched = d.sched := by
  unfold sceneRecallRequest
  (try simp)
  all_goals ((repeat' split) <;> (try simp))
  all_goals ((repeat' split) <;> simp_all)

@[simp] theorem recallWakeScene_frame (d : Device) :
    (recallWakeScene d).pins = d.pins ∧ (recallWakeScene d).factory = d.factory ∧ (recallWakeScene d).sns = d.sns ∧
    (recallWakeScene d).vbl = d.vbl ∧ (recallWakeScene d).chg = d.chg ∧ (recallWakeScene d).bgt.horizonSource = d.bgt.horizonSource ∧
    (recallWakeScene d).bgt.defaultHorizon = d.bgt.defaultHorizon ∧ (recallWakeScene d).bgt.last = d.bgt.last ∧
    (recallWakeScene d).bgt.outlet = d.bgt.outlet ∧ (recallWakeScene d).htr = d.htr ∧ (recallWakeScene d).cmp = d.cmp ∧
    (recallWakeScene d).lgt.chSettings = d.lgt.chSettings ∧ (recallWakeScene d).lgt.scenes = d.lgt.scenes ∧
    (recallWakeScene d).lgt.settings = d.lgt.settings ∧ (recallWakeScene d).lgt.courtesyTimer = d.lgt.courtesyTimer ∧
    (recallWakeScene d).lgt.sources = d.lgt.sources ∧ (recallWakeScene d).lgt.ch7Applied = d.lgt.ch7Applied ∧
    (recallWakeScene d).lgt.ch7On = d.lgt.ch7On ∧ (recallWakeScene d).lgt.ch7Timer = d.lgt.ch7Timer ∧
    (recallWakeScene d).lgt.buzzer = d.lgt.buzzer ∧ (recallWakeScene d).rtm = d.rtm ∧ (recallWakeScene d).npl = d.npl ∧
    (recallWakeScene d).lnk.receiver = d.lnk.receiver ∧ (recallWakeScene d).lnk.lastByte = d.lnk.lastByte ∧
    (recallWakeScene d).lnk.queue = d.lnk.queue ∧ (recallWakeScene d).lnk.out = d.lnk.out ∧ (recallWakeScene d).lnk.tx = d.lnk.tx ∧
    (recallWakeScene d).lnk.sendEnd = d.lnk.sendEnd ∧ (recallWakeScene d).lnk.awake = d.lnk.awake ∧
    (recallWakeScene d).lnk.idle = d.lnk.idle ∧ (recallWakeScene d).lnk.lastFrame = d.lnk.lastFrame ∧
    (recallWakeScene d).lnk.enables = d.lnk.enables ∧ (recallWakeScene d).lnk.idleTime = d.lnk.idleTime ∧
    (recallWakeScene d).lnk.resetKind = d.lnk.resetKind ∧ (recallWakeScene d).lnk.resetUptime = d.lnk.resetUptime ∧
    (recallWakeScene d).sched = d.sched := by
  unfold recallWakeScene
  (try simp)
  all_goals ((repeat' split) <;> (try simp))
  all_goals ((repeat' split) <;> simp_all)

@[simp] theorem startCourtesy_frame (d : Device) :
    (startCourtesy d).pins = d.pins ∧ (startCourtesy d).factory = d.factory ∧ (startCourtesy d).sns = d.sns ∧
    (startCourtesy d).vbl = d.vbl ∧ (startCourtesy d).chg = d.chg ∧ (startCourtesy d).bgt = d.bgt ∧ (startCourtesy d).htr = d.htr ∧
    (startCourtesy d).cmp = d.cmp ∧ (startCourtesy d).lgt.channels = d.lgt.channels ∧
    (startCourtesy d).lgt.chSettings = d.lgt.chSettings ∧ (startCourtesy d).lgt.capStep = d.lgt.capStep ∧
    (startCourtesy d).lgt.written = d.lgt.written ∧ (startCourtesy d).lgt.scenes = d.lgt.scenes ∧
    (startCourtesy d).lgt.settings = d.lgt.settings ∧ (startCourtesy d).lgt.sources = d.lgt.sources ∧
    (startCourtesy d).lgt.ch7Applied = d.lgt.ch7Applied ∧ (startCourtesy d).lgt.ch7On = d.lgt.ch7On ∧
    (startCourtesy d).lgt.ch7Timer = d.lgt.ch7Timer ∧ (startCourtesy d).lgt.buzzer = d.lgt.buzzer ∧ (startCourtesy d).rtm = d.rtm ∧
    (startCourtesy d).npl = d.npl ∧ (startCourtesy d).lnk = d.lnk ∧ (startCourtesy d).sched = d.sched := by
  unfold startCourtesy
  (try simp)
  all_goals ((repeat' split) <;> (try simp))
  all_goals ((repeat' split) <;> simp_all)

@[simp] theorem changeDialGroup_frame (f : LightChannel → LightChannel) (d : Device) :
    (changeDialGroup f d).pins = d.pins ∧ (changeDialGroup f d).factory = d.factory ∧ (changeDialGroup f d).sns = d.sns ∧
    (changeDialGroup f d).vbl = d.vbl ∧ (changeDialGroup f d).chg = d.chg ∧
    (changeDialGroup f d).bgt.horizonSource = d.bgt.horizonSource ∧ (changeDialGroup f d).bgt.defaultHorizon = d.bgt.defaultHorizon ∧
    (changeDialGroup f d).bgt.last = d.bgt.last ∧ (changeDialGroup f d).bgt.outlet = d.bgt.outlet ∧
    (changeDialGroup f d).htr = d.htr ∧ (changeDialGroup f d).cmp = d.cmp ∧ (changeDialGroup f d).lgt.chSettings = d.lgt.chSettings ∧
    (changeDialGroup f d).lgt.scenes = d.lgt.scenes ∧ (changeDialGroup f d).lgt.settings = d.lgt.settings ∧
    (changeDialGroup f d).lgt.courtesyTimer = d.lgt.courtesyTimer ∧ (changeDialGroup f d).lgt.sources = d.lgt.sources ∧
    (changeDialGroup f d).lgt.ch7Applied = d.lgt.ch7Applied ∧ (changeDialGroup f d).lgt.ch7On = d.lgt.ch7On ∧
    (changeDialGroup f d).lgt.ch7Timer = d.lgt.ch7Timer ∧ (changeDialGroup f d).lgt.buzzer = d.lgt.buzzer ∧
    (changeDialGroup f d).rtm = d.rtm ∧ (changeDialGroup f d).npl = d.npl ∧ (changeDialGroup f d).lnk.receiver = d.lnk.receiver ∧
    (changeDialGroup f d).lnk.lastByte = d.lnk.lastByte ∧ (changeDialGroup f d).lnk.queue = d.lnk.queue ∧
    (changeDialGroup f d).lnk.out = d.lnk.out ∧ (changeDialGroup f d).lnk.tx = d.lnk.tx ∧
    (changeDialGroup f d).lnk.sendEnd = d.lnk.sendEnd ∧ (changeDialGroup f d).lnk.awake = d.lnk.awake ∧
    (changeDialGroup f d).lnk.idle = d.lnk.idle ∧ (changeDialGroup f d).lnk.lastFrame = d.lnk.lastFrame ∧
    (changeDialGroup f d).lnk.enables = d.lnk.enables ∧ (changeDialGroup f d).lnk.idleTime = d.lnk.idleTime ∧
    (changeDialGroup f d).lnk.resetKind = d.lnk.resetKind ∧ (changeDialGroup f d).lnk.resetUptime = d.lnk.resetUptime ∧
    (changeDialGroup f d).sched = d.sched := by
  unfold changeDialGroup
  (try simp)
  all_goals ((repeat' split) <;> (try simp))
  all_goals ((repeat' split) <;> simp_all)

@[simp] theorem lightsDetent_frame (dir : DialDir) (multiplier : Nat) (d : Device) :
    (lightsDetent dir multiplier d).pins = d.pins ∧ (lightsDetent dir multiplier d).factory = d.factory ∧
    (lightsDetent dir multiplier d).sns = d.sns ∧ (lightsDetent dir multiplier d).vbl = d.vbl ∧
    (lightsDetent dir multiplier d).chg = d.chg ∧ (lightsDetent dir multiplier d).bgt.horizonSource = d.bgt.horizonSource ∧
    (lightsDetent dir multiplier d).bgt.defaultHorizon = d.bgt.defaultHorizon ∧
    (lightsDetent dir multiplier d).bgt.last = d.bgt.last ∧ (lightsDetent dir multiplier d).bgt.outlet = d.bgt.outlet ∧
    (lightsDetent dir multiplier d).htr = d.htr ∧ (lightsDetent dir multiplier d).cmp = d.cmp ∧
    (lightsDetent dir multiplier d).lgt.chSettings = d.lgt.chSettings ∧ (lightsDetent dir multiplier d).lgt.scenes = d.lgt.scenes ∧
    (lightsDetent dir multiplier d).lgt.settings = d.lgt.settings ∧ (lightsDetent dir multiplier d).lgt.sources = d.lgt.sources ∧
    (lightsDetent dir multiplier d).lgt.ch7Applied = d.lgt.ch7Applied ∧ (lightsDetent dir multiplier d).lgt.ch7On = d.lgt.ch7On ∧
    (lightsDetent dir multiplier d).lgt.ch7Timer = d.lgt.ch7Timer ∧ (lightsDetent dir multiplier d).lgt.buzzer = d.lgt.buzzer ∧
    (lightsDetent dir multiplier d).rtm = d.rtm ∧ (lightsDetent dir multiplier d).npl = d.npl ∧
    (lightsDetent dir multiplier d).lnk.receiver = d.lnk.receiver ∧ (lightsDetent dir multiplier d).lnk.lastByte = d.lnk.lastByte ∧
    (lightsDetent dir multiplier d).lnk.queue = d.lnk.queue ∧ (lightsDetent dir multiplier d).lnk.out = d.lnk.out ∧
    (lightsDetent dir multiplier d).lnk.tx = d.lnk.tx ∧ (lightsDetent dir multiplier d).lnk.sendEnd = d.lnk.sendEnd ∧
    (lightsDetent dir multiplier d).lnk.awake = d.lnk.awake ∧ (lightsDetent dir multiplier d).lnk.idle = d.lnk.idle ∧
    (lightsDetent dir multiplier d).lnk.lastFrame = d.lnk.lastFrame ∧ (lightsDetent dir multiplier d).lnk.enables = d.lnk.enables ∧
    (lightsDetent dir multiplier d).lnk.idleTime = d.lnk.idleTime ∧ (lightsDetent dir multiplier d).lnk.resetKind = d.lnk.resetKind ∧
    (lightsDetent dir multiplier d).lnk.resetUptime = d.lnk.resetUptime ∧ (lightsDetent dir multiplier d).sched = d.sched := by
  unfold lightsDetent
  (try simp)
  all_goals ((repeat' split) <;> (try simp))
  all_goals ((repeat' split) <;> simp_all)

@[simp] theorem dialPress_frame (d : Device) :
    (dialPress d).pins = d.pins ∧ (dialPress d).factory = d.factory ∧ (dialPress d).sns = d.sns ∧ (dialPress d).vbl = d.vbl ∧
    (dialPress d).chg = d.chg ∧ (dialPress d).bgt.horizonSource = d.bgt.horizonSource ∧
    (dialPress d).bgt.defaultHorizon = d.bgt.defaultHorizon ∧ (dialPress d).bgt.last = d.bgt.last ∧
    (dialPress d).bgt.outlet = d.bgt.outlet ∧ (dialPress d).htr = d.htr ∧ (dialPress d).cmp = d.cmp ∧
    (dialPress d).lgt.chSettings = d.lgt.chSettings ∧ (dialPress d).lgt.scenes = d.lgt.scenes ∧
    (dialPress d).lgt.settings = d.lgt.settings ∧ (dialPress d).lgt.sources = d.lgt.sources ∧
    (dialPress d).lgt.ch7Applied = d.lgt.ch7Applied ∧ (dialPress d).lgt.ch7On = d.lgt.ch7On ∧
    (dialPress d).lgt.ch7Timer = d.lgt.ch7Timer ∧ (dialPress d).lgt.buzzer = d.lgt.buzzer ∧ (dialPress d).rtm = d.rtm ∧
    (dialPress d).npl = d.npl ∧ (dialPress d).lnk.receiver = d.lnk.receiver ∧ (dialPress d).lnk.lastByte = d.lnk.lastByte ∧
    (dialPress d).lnk.queue = d.lnk.queue ∧ (dialPress d).lnk.out = d.lnk.out ∧ (dialPress d).lnk.tx = d.lnk.tx ∧
    (dialPress d).lnk.sendEnd = d.lnk.sendEnd ∧ (dialPress d).lnk.awake = d.lnk.awake ∧ (dialPress d).lnk.idle = d.lnk.idle ∧
    (dialPress d).lnk.lastFrame = d.lnk.lastFrame ∧ (dialPress d).lnk.enables = d.lnk.enables ∧
    (dialPress d).lnk.idleTime = d.lnk.idleTime ∧ (dialPress d).lnk.resetKind = d.lnk.resetKind ∧
    (dialPress d).lnk.resetUptime = d.lnk.resetUptime ∧ (dialPress d).sched = d.sched := by
  unfold dialPress
  (try simp)
  all_goals ((repeat' split) <;> (try simp))
  all_goals ((repeat' split) <;> simp_all)

@[simp] theorem dialPushEvent_frame (rising : Bool) (d : Device) :
    (dialPushEvent rising d).pins = d.pins ∧ (dialPushEvent rising d).factory = d.factory ∧ (dialPushEvent rising d).sns = d.sns ∧
    (dialPushEvent rising d).vbl = d.vbl ∧ (dialPushEvent rising d).chg = d.chg ∧
    (dialPushEvent rising d).bgt.horizonSource = d.bgt.horizonSource ∧
    (dialPushEvent rising d).bgt.defaultHorizon = d.bgt.defaultHorizon ∧ (dialPushEvent rising d).bgt.last = d.bgt.last ∧
    (dialPushEvent rising d).bgt.outlet = d.bgt.outlet ∧ (dialPushEvent rising d).htr = d.htr ∧ (dialPushEvent rising d).cmp = d.cmp ∧
    (dialPushEvent rising d).lgt.chSettings = d.lgt.chSettings ∧ (dialPushEvent rising d).lgt.scenes = d.lgt.scenes ∧
    (dialPushEvent rising d).lgt.settings = d.lgt.settings ∧ (dialPushEvent rising d).lgt.sources = d.lgt.sources ∧
    (dialPushEvent rising d).lgt.ch7Applied = d.lgt.ch7Applied ∧ (dialPushEvent rising d).lgt.ch7On = d.lgt.ch7On ∧
    (dialPushEvent rising d).lgt.ch7Timer = d.lgt.ch7Timer ∧ (dialPushEvent rising d).lgt.buzzer = d.lgt.buzzer ∧
    (dialPushEvent rising d).rtm = d.rtm ∧ (dialPushEvent rising d).npl = d.npl ∧
    (dialPushEvent rising d).lnk.receiver = d.lnk.receiver ∧ (dialPushEvent rising d).lnk.lastByte = d.lnk.lastByte ∧
    (dialPushEvent rising d).lnk.queue = d.lnk.queue ∧ (dialPushEvent rising d).lnk.out = d.lnk.out ∧
    (dialPushEvent rising d).lnk.tx = d.lnk.tx ∧ (dialPushEvent rising d).lnk.sendEnd = d.lnk.sendEnd ∧
    (dialPushEvent rising d).lnk.awake = d.lnk.awake ∧ (dialPushEvent rising d).lnk.idle = d.lnk.idle ∧
    (dialPushEvent rising d).lnk.lastFrame = d.lnk.lastFrame ∧ (dialPushEvent rising d).lnk.enables = d.lnk.enables ∧
    (dialPushEvent rising d).lnk.idleTime = d.lnk.idleTime ∧ (dialPushEvent rising d).lnk.resetKind = d.lnk.resetKind ∧
    (dialPushEvent rising d).lnk.resetUptime = d.lnk.resetUptime ∧ (dialPushEvent rising d).sched = d.sched := by
  unfold dialPushEvent
  (try simp)
  all_goals ((repeat' split) <;> (try simp))
  all_goals ((repeat' split) <;> simp_all)

@[simp] theorem doorOpen_frame (d : Device) :
    (doorOpen d).pins = d.pins ∧ (doorOpen d).factory = d.factory ∧ (doorOpen d).sns = d.sns ∧ (doorOpen d).vbl = d.vbl ∧
    (doorOpen d).chg = d.chg ∧ (doorOpen d).bgt.horizonSource = d.bgt.horizonSource ∧
    (doorOpen d).bgt.defaultHorizon = d.bgt.defaultHorizon ∧ (doorOpen d).bgt.last = d.bgt.last ∧
    (doorOpen d).bgt.outlet = d.bgt.outlet ∧ (doorOpen d).htr = d.htr ∧ (doorOpen d).cmp = d.cmp ∧
    (doorOpen d).lgt.chSettings = d.lgt.chSettings ∧ (doorOpen d).lgt.scenes = d.lgt.scenes ∧
    (doorOpen d).lgt.settings = d.lgt.settings ∧ (doorOpen d).lgt.sources = d.lgt.sources ∧
    (doorOpen d).lgt.ch7Applied = d.lgt.ch7Applied ∧ (doorOpen d).lgt.ch7On = d.lgt.ch7On ∧
    (doorOpen d).lgt.ch7Timer = d.lgt.ch7Timer ∧ (doorOpen d).lgt.buzzer = d.lgt.buzzer ∧ (doorOpen d).rtm = d.rtm ∧
    (doorOpen d).npl = d.npl ∧ (doorOpen d).lnk.receiver = d.lnk.receiver ∧ (doorOpen d).lnk.lastByte = d.lnk.lastByte ∧
    (doorOpen d).lnk.queue = d.lnk.queue ∧ (doorOpen d).lnk.out = d.lnk.out ∧ (doorOpen d).lnk.tx = d.lnk.tx ∧
    (doorOpen d).lnk.sendEnd = d.lnk.sendEnd ∧ (doorOpen d).lnk.awake = d.lnk.awake ∧ (doorOpen d).lnk.idle = d.lnk.idle ∧
    (doorOpen d).lnk.lastFrame = d.lnk.lastFrame ∧ (doorOpen d).lnk.enables = d.lnk.enables ∧
    (doorOpen d).lnk.idleTime = d.lnk.idleTime ∧ (doorOpen d).lnk.resetKind = d.lnk.resetKind ∧
    (doorOpen d).lnk.resetUptime = d.lnk.resetUptime ∧ (doorOpen d).sched = d.sched := by
  unfold doorOpen
  (try simp)
  all_goals ((repeat' split) <;> (try simp))
  all_goals ((repeat' split) <;> simp_all)

@[simp] theorem doorEvent_frame (rising : Bool) (d : Device) :
    (doorEvent rising d).pins = d.pins ∧ (doorEvent rising d).factory = d.factory ∧ (doorEvent rising d).sns = d.sns ∧
    (doorEvent rising d).vbl = d.vbl ∧ (doorEvent rising d).chg = d.chg ∧
    (doorEvent rising d).bgt.horizonSource = d.bgt.horizonSource ∧ (doorEvent rising d).bgt.defaultHorizon = d.bgt.defaultHorizon ∧
    (doorEvent rising d).bgt.last = d.bgt.last ∧ (doorEvent rising d).bgt.outlet = d.bgt.outlet ∧ (doorEvent rising d).htr = d.htr ∧
    (doorEvent rising d).cmp = d.cmp ∧ (doorEvent rising d).lgt.chSettings = d.lgt.chSettings ∧
    (doorEvent rising d).lgt.scenes = d.lgt.scenes ∧ (doorEvent rising d).lgt.settings = d.lgt.settings ∧
    (doorEvent rising d).lgt.sources = d.lgt.sources ∧ (doorEvent rising d).lgt.ch7Applied = d.lgt.ch7Applied ∧
    (doorEvent rising d).lgt.ch7On = d.lgt.ch7On ∧ (doorEvent rising d).lgt.ch7Timer = d.lgt.ch7Timer ∧
    (doorEvent rising d).lgt.buzzer = d.lgt.buzzer ∧ (doorEvent rising d).rtm = d.rtm ∧ (doorEvent rising d).npl = d.npl ∧
    (doorEvent rising d).lnk.receiver = d.lnk.receiver ∧ (doorEvent rising d).lnk.lastByte = d.lnk.lastByte ∧
    (doorEvent rising d).lnk.queue = d.lnk.queue ∧ (doorEvent rising d).lnk.out = d.lnk.out ∧ (doorEvent rising d).lnk.tx = d.lnk.tx ∧
    (doorEvent rising d).lnk.sendEnd = d.lnk.sendEnd ∧ (doorEvent rising d).lnk.awake = d.lnk.awake ∧
    (doorEvent rising d).lnk.idle = d.lnk.idle ∧ (doorEvent rising d).lnk.lastFrame = d.lnk.lastFrame ∧
    (doorEvent rising d).lnk.enables = d.lnk.enables ∧ (doorEvent rising d).lnk.idleTime = d.lnk.idleTime ∧
    (doorEvent rising d).lnk.resetKind = d.lnk.resetKind ∧ (doorEvent rising d).lnk.resetUptime = d.lnk.resetUptime ∧
    (doorEvent rising d).sched = d.sched := by
  unfold doorEvent
  (try simp)
  all_goals ((repeat' split) <;> (try simp))
  all_goals ((repeat' split) <;> simp_all)

@[simp] theorem putOutCourtesy_frame (fade : Nat) (d : Device) :
    (putOutCourtesy fade d).pins = d.pins ∧ (putOutCourtesy fade d).factory = d.factory ∧ (putOutCourtesy fade d).sns = d.sns ∧
    (putOutCourtesy fade d).vbl = d.vbl ∧ (putOutCourtesy fade d).chg = d.chg ∧
    (putOutCourtesy fade d).bgt.horizonSource = d.bgt.horizonSource ∧
    (putOutCourtesy fade d).bgt.defaultHorizon = d.bgt.defaultHorizon ∧ (putOutCourtesy fade d).bgt.last = d.bgt.last ∧
    (putOutCourtesy fade d).bgt.outlet = d.bgt.outlet ∧ (putOutCourtesy fade d).htr = d.htr ∧ (putOutCourtesy fade d).cmp = d.cmp ∧
    (putOutCourtesy fade d).lgt.chSettings = d.lgt.chSettings ∧ (putOutCourtesy fade d).lgt.scenes = d.lgt.scenes ∧
    (putOutCourtesy fade d).lgt.settings = d.lgt.settings ∧ (putOutCourtesy fade d).lgt.courtesyTimer = d.lgt.courtesyTimer ∧
    (putOutCourtesy fade d).lgt.sources = d.lgt.sources ∧ (putOutCourtesy fade d).lgt.ch7Applied = d.lgt.ch7Applied ∧
    (putOutCourtesy fade d).lgt.ch7On = d.lgt.ch7On ∧ (putOutCourtesy fade d).lgt.ch7Timer = d.lgt.ch7Timer ∧
    (putOutCourtesy fade d).lgt.buzzer = d.lgt.buzzer ∧ (putOutCourtesy fade d).rtm = d.rtm ∧ (putOutCourtesy fade d).npl = d.npl ∧
    (putOutCourtesy fade d).lnk.receiver = d.lnk.receiver ∧ (putOutCourtesy fade d).lnk.lastByte = d.lnk.lastByte ∧
    (putOutCourtesy fade d).lnk.queue = d.lnk.queue ∧ (putOutCourtesy fade d).lnk.out = d.lnk.out ∧
    (putOutCourtesy fade d).lnk.tx = d.lnk.tx ∧ (putOutCourtesy fade d).lnk.sendEnd = d.lnk.sendEnd ∧
    (putOutCourtesy fade d).lnk.awake = d.lnk.awake ∧ (putOutCourtesy fade d).lnk.idle = d.lnk.idle ∧
    (putOutCourtesy fade d).lnk.lastFrame = d.lnk.lastFrame ∧ (putOutCourtesy fade d).lnk.enables = d.lnk.enables ∧
    (putOutCourtesy fade d).lnk.idleTime = d.lnk.idleTime ∧ (putOutCourtesy fade d).lnk.resetKind = d.lnk.resetKind ∧
    (putOutCourtesy fade d).lnk.resetUptime = d.lnk.resetUptime ∧ (putOutCourtesy fade d).sched = d.sched := by
  unfold putOutCourtesy
  (try simp)
  all_goals ((repeat' split) <;> (try simp))
  all_goals ((repeat' split) <;> simp_all)

@[simp] theorem courtesyExpiry_frame (d : Device) :
    (courtesyExpiry d).pins = d.pins ∧ (courtesyExpiry d).factory = d.factory ∧ (courtesyExpiry d).sns = d.sns ∧
    (courtesyExpiry d).vbl = d.vbl ∧ (courtesyExpiry d).chg = d.chg ∧ (courtesyExpiry d).bgt.horizonSource = d.bgt.horizonSource ∧
    (courtesyExpiry d).bgt.defaultHorizon = d.bgt.defaultHorizon ∧ (courtesyExpiry d).bgt.last = d.bgt.last ∧
    (courtesyExpiry d).bgt.outlet = d.bgt.outlet ∧ (courtesyExpiry d).htr = d.htr ∧ (courtesyExpiry d).cmp = d.cmp ∧
    (courtesyExpiry d).lgt.chSettings = d.lgt.chSettings ∧ (courtesyExpiry d).lgt.scenes = d.lgt.scenes ∧
    (courtesyExpiry d).lgt.settings = d.lgt.settings ∧ (courtesyExpiry d).lgt.sources = d.lgt.sources ∧
    (courtesyExpiry d).lgt.ch7Applied = d.lgt.ch7Applied ∧ (courtesyExpiry d).lgt.ch7On = d.lgt.ch7On ∧
    (courtesyExpiry d).lgt.ch7Timer = d.lgt.ch7Timer ∧ (courtesyExpiry d).lgt.buzzer = d.lgt.buzzer ∧ (courtesyExpiry d).rtm = d.rtm ∧
    (courtesyExpiry d).npl = d.npl ∧ (courtesyExpiry d).lnk.receiver = d.lnk.receiver ∧
    (courtesyExpiry d).lnk.lastByte = d.lnk.lastByte ∧ (courtesyExpiry d).lnk.queue = d.lnk.queue ∧
    (courtesyExpiry d).lnk.out = d.lnk.out ∧ (courtesyExpiry d).lnk.tx = d.lnk.tx ∧ (courtesyExpiry d).lnk.sendEnd = d.lnk.sendEnd ∧
    (courtesyExpiry d).lnk.awake = d.lnk.awake ∧ (courtesyExpiry d).lnk.idle = d.lnk.idle ∧
    (courtesyExpiry d).lnk.lastFrame = d.lnk.lastFrame ∧ (courtesyExpiry d).lnk.enables = d.lnk.enables ∧
    (courtesyExpiry d).lnk.idleTime = d.lnk.idleTime ∧ (courtesyExpiry d).lnk.resetKind = d.lnk.resetKind ∧
    (courtesyExpiry d).lnk.resetUptime = d.lnk.resetUptime ∧ (courtesyExpiry d).sched = d.sched := by
  unfold courtesyExpiry
  (try simp)
  all_goals ((repeat' split) <;> (try simp))
  all_goals ((repeat' split) <;> simp_all)

@[simp] theorem lightsIgnitionOn_frame (d : Device) :
    (lightsIgnitionOn d).pins = d.pins ∧ (lightsIgnitionOn d).factory = d.factory ∧ (lightsIgnitionOn d).sns = d.sns ∧
    (lightsIgnitionOn d).vbl = d.vbl ∧ (lightsIgnitionOn d).chg = d.chg ∧
    (lightsIgnitionOn d).bgt.horizonSource = d.bgt.horizonSource ∧ (lightsIgnitionOn d).bgt.defaultHorizon = d.bgt.defaultHorizon ∧
    (lightsIgnitionOn d).bgt.last = d.bgt.last ∧ (lightsIgnitionOn d).bgt.outlet = d.bgt.outlet ∧ (lightsIgnitionOn d).htr = d.htr ∧
    (lightsIgnitionOn d).cmp = d.cmp ∧ (lightsIgnitionOn d).lgt.chSettings = d.lgt.chSettings ∧
    (lightsIgnitionOn d).lgt.scenes = d.lgt.scenes ∧ (lightsIgnitionOn d).lgt.settings = d.lgt.settings ∧
    (lightsIgnitionOn d).lgt.sources = d.lgt.sources ∧ (lightsIgnitionOn d).lgt.ch7Applied = d.lgt.ch7Applied ∧
    (lightsIgnitionOn d).lgt.ch7On = d.lgt.ch7On ∧ (lightsIgnitionOn d).lgt.ch7Timer = d.lgt.ch7Timer ∧
    (lightsIgnitionOn d).lgt.buzzer = d.lgt.buzzer ∧ (lightsIgnitionOn d).rtm = d.rtm ∧ (lightsIgnitionOn d).npl = d.npl ∧
    (lightsIgnitionOn d).lnk.receiver = d.lnk.receiver ∧ (lightsIgnitionOn d).lnk.lastByte = d.lnk.lastByte ∧
    (lightsIgnitionOn d).lnk.queue = d.lnk.queue ∧ (lightsIgnitionOn d).lnk.out = d.lnk.out ∧ (lightsIgnitionOn d).lnk.tx = d.lnk.tx ∧
    (lightsIgnitionOn d).lnk.sendEnd = d.lnk.sendEnd ∧ (lightsIgnitionOn d).lnk.awake = d.lnk.awake ∧
    (lightsIgnitionOn d).lnk.idle = d.lnk.idle ∧ (lightsIgnitionOn d).lnk.lastFrame = d.lnk.lastFrame ∧
    (lightsIgnitionOn d).lnk.enables = d.lnk.enables ∧ (lightsIgnitionOn d).lnk.idleTime = d.lnk.idleTime ∧
    (lightsIgnitionOn d).lnk.resetKind = d.lnk.resetKind ∧ (lightsIgnitionOn d).lnk.resetUptime = d.lnk.resetUptime ∧
    (lightsIgnitionOn d).sched = d.sched := by
  unfold lightsIgnitionOn
  (try simp)
  all_goals ((repeat' split) <;> (try simp))
  all_goals ((repeat' split) <;> simp_all)

@[simp] theorem fadeEndsAt_frame (n : Nat) (d : Device) :
    (fadeEndsAt n d).pins = d.pins ∧ (fadeEndsAt n d).factory = d.factory ∧ (fadeEndsAt n d).sns.uptime = d.sns.uptime ∧
    (fadeEndsAt n d).sns.clockSet = d.sns.clockSet ∧ (fadeEndsAt n d).sns.clockOffset = d.sns.clockOffset ∧
    (fadeEndsAt n d).sns.analog = d.sns.analog ∧ (fadeEndsAt n d).sns.tables = d.sns.tables ∧
    (fadeEndsAt n d).sns.lines = d.sns.lines ∧ (fadeEndsAt n d).sns.dial = d.sns.dial ∧ (fadeEndsAt n d).sns.current = d.sns.current ∧
    (fadeEndsAt n d).vbl = d.vbl ∧ (fadeEndsAt n d).chg = d.chg ∧ (fadeEndsAt n d).bgt = d.bgt ∧ (fadeEndsAt n d).htr = d.htr ∧
    (fadeEndsAt n d).cmp = d.cmp ∧ (fadeEndsAt n d).lgt.chSettings = d.lgt.chSettings ∧ (fadeEndsAt n d).lgt.capStep = d.lgt.capStep ∧
    (fadeEndsAt n d).lgt.written = d.lgt.written ∧ (fadeEndsAt n d).lgt.scenes = d.lgt.scenes ∧
    (fadeEndsAt n d).lgt.settings = d.lgt.settings ∧ (fadeEndsAt n d).lgt.courtesyTimer = d.lgt.courtesyTimer ∧
    (fadeEndsAt n d).lgt.sources = d.lgt.sources ∧ (fadeEndsAt n d).lgt.ch7Applied = d.lgt.ch7Applied ∧
    (fadeEndsAt n d).lgt.ch7On = d.lgt.ch7On ∧ (fadeEndsAt n d).lgt.ch7Timer = d.lgt.ch7Timer ∧
    (fadeEndsAt n d).lgt.buzzer = d.lgt.buzzer ∧ (fadeEndsAt n d).rtm = d.rtm ∧ (fadeEndsAt n d).npl = d.npl ∧
    (fadeEndsAt n d).lnk = d.lnk ∧ (fadeEndsAt n d).sched = d.sched := by
  unfold fadeEndsAt
  (try simp)
  all_goals ((repeat' split) <;> (try simp))
  all_goals ((repeat' split) <;> simp_all)

@[simp] theorem pwmBoundary_frame (d : Device) :
    (pwmBoundary d).pins = d.pins ∧ (pwmBoundary d).factory = d.factory ∧ (pwmBoundary d).sns.uptime = d.sns.uptime ∧
    (pwmBoundary d).sns.clockSet = d.sns.clockSet ∧ (pwmBoundary d).sns.clockOffset = d.sns.clockOffset ∧
    (pwmBoundary d).sns.analog = d.sns.analog ∧ (pwmBoundary d).sns.tables = d.sns.tables ∧ (pwmBoundary d).sns.lines = d.sns.lines ∧
    (pwmBoundary d).sns.dial = d.sns.dial ∧ (pwmBoundary d).sns.current = d.sns.current ∧ (pwmBoundary d).vbl = d.vbl ∧
    (pwmBoundary d).chg = d.chg ∧ (pwmBoundary d).bgt = d.bgt ∧ (pwmBoundary d).htr = d.htr ∧ (pwmBoundary d).cmp = d.cmp ∧
    (pwmBoundary d).lgt.chSettings = d.lgt.chSettings ∧ (pwmBoundary d).lgt.capStep = d.lgt.capStep ∧
    (pwmBoundary d).lgt.written = d.lgt.written ∧ (pwmBoundary d).lgt.scenes = d.lgt.scenes ∧
    (pwmBoundary d).lgt.settings = d.lgt.settings ∧ (pwmBoundary d).lgt.courtesyTimer = d.lgt.courtesyTimer ∧
    (pwmBoundary d).lgt.sources = d.lgt.sources ∧ (pwmBoundary d).lgt.ch7On = d.lgt.ch7On ∧
    (pwmBoundary d).lgt.ch7Timer = d.lgt.ch7Timer ∧ (pwmBoundary d).lgt.buzzer = d.lgt.buzzer ∧ (pwmBoundary d).rtm = d.rtm ∧
    (pwmBoundary d).npl = d.npl ∧ (pwmBoundary d).lnk = d.lnk := by
  unfold pwmBoundary
  (try simp)
  all_goals ((repeat' split) <;> (try simp))
  all_goals ((repeat' split) <;> simp_all)

@[simp] theorem lightConfigRequest_frame (b : List Byte) (d : Device) :
    ((lightConfigRequest b d).dev).pins = d.pins ∧ ((lightConfigRequest b d).dev).factory = d.factory ∧
    ((lightConfigRequest b d).dev).sns = d.sns ∧ ((lightConfigRequest b d).dev).vbl = d.vbl ∧
    ((lightConfigRequest b d).dev).chg = d.chg ∧ ((lightConfigRequest b d).dev).bgt.horizonSource = d.bgt.horizonSource ∧
    ((lightConfigRequest b d).dev).bgt.defaultHorizon = d.bgt.defaultHorizon ∧ ((lightConfigRequest b d).dev).bgt.last = d.bgt.last ∧
    ((lightConfigRequest b d).dev).bgt.outlet = d.bgt.outlet ∧ ((lightConfigRequest b d).dev).htr = d.htr ∧
    ((lightConfigRequest b d).dev).cmp = d.cmp ∧ ((lightConfigRequest b d).dev).lgt.scenes = d.lgt.scenes ∧
    ((lightConfigRequest b d).dev).lgt.courtesyTimer = d.lgt.courtesyTimer ∧
    ((lightConfigRequest b d).dev).lgt.sources = d.lgt.sources ∧ ((lightConfigRequest b d).dev).lgt.ch7Applied = d.lgt.ch7Applied ∧
    ((lightConfigRequest b d).dev).lgt.ch7On = d.lgt.ch7On ∧ ((lightConfigRequest b d).dev).lgt.ch7Timer = d.lgt.ch7Timer ∧
    ((lightConfigRequest b d).dev).lgt.buzzer = d.lgt.buzzer ∧ ((lightConfigRequest b d).dev).rtm = d.rtm ∧
    ((lightConfigRequest b d).dev).npl = d.npl ∧ ((lightConfigRequest b d).dev).lnk.receiver = d.lnk.receiver ∧
    ((lightConfigRequest b d).dev).lnk.lastByte = d.lnk.lastByte ∧ ((lightConfigRequest b d).dev).lnk.queue = d.lnk.queue ∧
    ((lightConfigRequest b d).dev).lnk.out = d.lnk.out ∧ ((lightConfigRequest b d).dev).lnk.tx = d.lnk.tx ∧
    ((lightConfigRequest b d).dev).lnk.sendEnd = d.lnk.sendEnd ∧ ((lightConfigRequest b d).dev).lnk.awake = d.lnk.awake ∧
    ((lightConfigRequest b d).dev).lnk.idle = d.lnk.idle ∧ ((lightConfigRequest b d).dev).lnk.lastFrame = d.lnk.lastFrame ∧
    ((lightConfigRequest b d).dev).lnk.enables = d.lnk.enables ∧ ((lightConfigRequest b d).dev).lnk.idleTime = d.lnk.idleTime ∧
    ((lightConfigRequest b d).dev).lnk.resetKind = d.lnk.resetKind ∧
    ((lightConfigRequest b d).dev).lnk.resetUptime = d.lnk.resetUptime ∧ ((lightConfigRequest b d).dev).sched = d.sched := by
  unfold lightConfigRequest
  (try simp)
  all_goals ((repeat' split) <;> (try simp))
  all_goals ((repeat' split) <;> simp_all)

@[simp] theorem restartLights_frame (d0 : Device) :
    (restartLights d0).pins = d0.pins ∧ (restartLights d0).factory = d0.factory ∧ (restartLights d0).sns = d0.sns ∧
    (restartLights d0).vbl = d0.vbl ∧ (restartLights d0).chg = d0.chg ∧ (restartLights d0).bgt.horizonSource = d0.bgt.horizonSource ∧
    (restartLights d0).bgt.defaultHorizon = d0.bgt.defaultHorizon ∧ (restartLights d0).bgt.last = d0.bgt.last ∧
    (restartLights d0).bgt.outlet = d0.bgt.outlet ∧ (restartLights d0).htr = d0.htr ∧ (restartLights d0).cmp = d0.cmp ∧
    (restartLights d0).lgt.sources = d0.lgt.sources ∧ (restartLights d0).lgt.ch7Applied = d0.lgt.ch7Applied ∧
    (restartLights d0).lgt.ch7On = d0.lgt.ch7On ∧ (restartLights d0).lgt.ch7Timer = d0.lgt.ch7Timer ∧
    (restartLights d0).lgt.buzzer = d0.lgt.buzzer ∧ (restartLights d0).rtm = d0.rtm ∧ (restartLights d0).npl = d0.npl ∧
    (restartLights d0).lnk.receiver = d0.lnk.receiver ∧ (restartLights d0).lnk.lastByte = d0.lnk.lastByte ∧
    (restartLights d0).lnk.queue = d0.lnk.queue ∧ (restartLights d0).lnk.out = d0.lnk.out ∧ (restartLights d0).lnk.tx = d0.lnk.tx ∧
    (restartLights d0).lnk.sendEnd = d0.lnk.sendEnd ∧ (restartLights d0).lnk.awake = d0.lnk.awake ∧
    (restartLights d0).lnk.idle = d0.lnk.idle ∧ (restartLights d0).lnk.lastFrame = d0.lnk.lastFrame ∧
    (restartLights d0).lnk.enables = d0.lnk.enables ∧ (restartLights d0).lnk.idleTime = d0.lnk.idleTime ∧
    (restartLights d0).lnk.resetKind = d0.lnk.resetKind ∧ (restartLights d0).lnk.resetUptime = d0.lnk.resetUptime ∧
    (restartLights d0).sched = d0.sched := by
  unfold restartLights
  (try simp)
  all_goals ((repeat' split) <;> (try simp))
  all_goals ((repeat' split) <;> simp_all)

/-! ## Heater -/

@[simp] theorem putHtr_frame (h : Heater) (d : Device) :
    (putHtr h d).pins = d.pins ∧ (putHtr h d).factory = d.factory ∧ (putHtr h d).sns = d.sns ∧ (putHtr h d).vbl = d.vbl ∧
    (putHtr h d).chg = d.chg ∧ (putHtr h d).bgt = d.bgt ∧ (putHtr h d).cmp = d.cmp ∧ (putHtr h d).lgt = d.lgt ∧
    (putHtr h d).rtm = d.rtm ∧ (putHtr h d).npl = d.npl ∧ (putHtr h d).lnk = d.lnk ∧ (putHtr h d).sched = d.sched := by
  unfold putHtr
  (try simp)
  all_goals ((repeat' split) <;> (try simp))
  all_goals ((repeat' split) <;> simp_all)

@[simp] theorem putHtr_htr (h : Heater) (d : Device) : (putHtr h d).htr = h := by simp [putHtr]

@[simp] theorem putHtrTimers_frame (t : HeaterTimers) (d : Device) :
    (putHtrTimers t d).pins = d.pins ∧ (putHtrTimers t d).factory = d.factory ∧ (putHtrTimers t d).sns = d.sns ∧
    (putHtrTimers t d).vbl = d.vbl ∧ (putHtrTimers t d).chg = d.chg ∧ (putHtrTimers t d).bgt = d.bgt ∧
    (putHtrTimers t d).cmp = d.cmp ∧ (putHtrTimers t d).lgt = d.lgt ∧ (putHtrTimers t d).rtm = d.rtm ∧
    (putHtrTimers t d).npl = d.npl ∧ (putHtrTimers t d).lnk = d.lnk ∧ (putHtrTimers t d).sched = d.sched := by
  unfold putHtrTimers
  (try simp)
  all_goals ((repeat' split) <;> (try simp))
  all_goals ((repeat' split) <;> simp_all)

@[simp] theorem heaterIndication_frame (severity : Nat) (newOccurrence : Bool) (d : Device) :
    (heaterIndication severity newOccurrence d).pins = d.pins ∧ (heaterIndication severity newOccurrence d).factory = d.factory ∧
    (heaterIndication severity newOccurrence d).sns = d.sns ∧ (heaterIndication severity newOccurrence d).vbl = d.vbl ∧
    (heaterIndication severity newOccurrence d).chg = d.chg ∧ (heaterIndication severity newOccurrence d).bgt = d.bgt ∧
    (heaterIndication severity newOccurrence d).htr = d.htr ∧ (heaterIndication severity newOccurrence d).cmp = d.cmp ∧
    (heaterIndication severity newOccurrence d).lgt.channels = d.lgt.channels ∧
    (heaterIndication severity newOccurrence d).lgt.chSettings = d.lgt.chSettings ∧
    (heaterIndication severity newOccurrence d).lgt.capStep = d.lgt.capStep ∧
    (heaterIndication severity newOccurrence d).lgt.written = d.lgt.written ∧
    (heaterIndication severity newOccurrence d).lgt.scenes = d.lgt.scenes ∧
    (heaterIndication severity newOccurrence d).lgt.settings = d.lgt.settings ∧
    (heaterIndication severity newOccurrence d).lgt.courtesyTimer = d.lgt.courtesyTimer ∧
    (heaterIndication severity newOccurrence d).lgt.ch7Applied = d.lgt.ch7Applied ∧
    (heaterIndication severity newOccurrence d).rtm = d.rtm ∧ (heaterIndication severity newOccurrence d).npl.state = d.npl.state ∧
    (heaterIndication severity newOccurrence d).npl.source = d.npl.source ∧
    (heaterIndication severity newOccurrence d).npl.wake = d.npl.wake ∧
    (heaterIndication severity newOccurrence d).npl.setpoint = d.npl.setpoint ∧
    (heaterIndication severity newOccurrence d).npl.lead = d.npl.lead ∧
    (heaterIndication severity newOccurrence d).npl.wakeLights = d.npl.wakeLights ∧
    (heaterIndication severity newOccurrence d).npl.quiet = d.npl.quiet ∧
    (heaterIndication severity newOccurrence d).npl.hostQuiet = d.npl.hostQuiet ∧
    (heaterIndication severity newOccurrence d).npl.lastClass = d.npl.lastClass ∧
    (heaterIndication severity newOccurrence d).npl.lastProjection = d.npl.lastProjection ∧
    (heaterIndication severity newOccurrence d).npl.horizonHanded = d.npl.horizonHanded ∧
    (heaterIndication severity newOccurrence d).npl.result = d.npl.result ∧
    (heaterIndication severity newOccurrence d).npl.causes = d.npl.causes ∧ (heaterIndication severity newOccurrence d).lnk = d.lnk ∧
    (heaterIndication severity newOccurrence d).sched = d.sched := by
  unfold heaterIndication
  (try simp)
  all_goals ((repeat' split) <;> (try simp))
  all_goals ((repeat' split) <;> simp_all)

@[simp] theorem recordFault_frame (k : FaultKind) (d : Device) :
    (recordFault k d).pins = d.pins ∧ (recordFault k d).factory = d.factory ∧ (recordFault k d).sns = d.sns ∧
    (recordFault k d).vbl = d.vbl ∧ (recordFault k d).chg = d.chg ∧ (recordFault k d).bgt = d.bgt ∧ (recordFault k d).cmp = d.cmp ∧
    (recordFault k d).lgt.channels = d.lgt.channels ∧ (recordFault k d).lgt.chSettings = d.lgt.chSettings ∧
    (recordFault k d).lgt.capStep = d.lgt.capStep ∧ (recordFault k d).lgt.written = d.lgt.written ∧
    (recordFault k d).lgt.scenes = d.lgt.scenes ∧ (recordFault k d).lgt.settings = d.lgt.settings ∧
    (recordFault k d).lgt.courtesyTimer = d.lgt.courtesyTimer ∧ (recordFault k d).lgt.ch7Applied = d.lgt.ch7Applied ∧
    (recordFault k d).rtm = d.rtm ∧ (recordFault k d).npl.state = d.npl.state ∧ (recordFault k d).npl.source = d.npl.source ∧
    (recordFault k d).npl.wake = d.npl.wake ∧ (recordFault k d).npl.setpoint = d.npl.setpoint ∧
    (recordFault k d).npl.lead = d.npl.lead ∧ (recordFault k d).npl.wakeLights = d.npl.wakeLights ∧
    (recordFault k d).npl.quiet = d.npl.quiet ∧ (recordFault k d).npl.hostQuiet = d.npl.hostQuiet ∧
    (recordFault k d).npl.lastClass = d.npl.lastClass ∧ (recordFault k d).npl.lastProjection = d.npl.lastProjection ∧
    (recordFault k d).npl.horizonHanded = d.npl.horizonHanded ∧ (recordFault k d).npl.result = d.npl.result ∧
    (recordFault k d).npl.causes = d.npl.causes ∧ (recordFault k d).lnk.receiver = d.lnk.receiver ∧
    (recordFault k d).lnk.lastByte = d.lnk.lastByte ∧ (recordFault k d).lnk.queue = d.lnk.queue ∧
    (recordFault k d).lnk.out = d.lnk.out ∧ (recordFault k d).lnk.tx = d.lnk.tx ∧ (recordFault k d).lnk.sendEnd = d.lnk.sendEnd ∧
    (recordFault k d).lnk.awake = d.lnk.awake ∧ (recordFault k d).lnk.idle = d.lnk.idle ∧
    (recordFault k d).lnk.lastFrame = d.lnk.lastFrame ∧ (recordFault k d).lnk.enables = d.lnk.enables ∧
    (recordFault k d).lnk.idleTime = d.lnk.idleTime ∧ (recordFault k d).lnk.resetKind = d.lnk.resetKind ∧
    (recordFault k d).lnk.resetUptime = d.lnk.resetUptime ∧ (recordFault k d).sched = d.sched := by
  unfold recordFault
  (try simp)
  all_goals ((repeat' split) <;> (try simp))
  all_goals ((repeat' split) <;> simp_all)

@[simp] theorem putHeatTable_frame (table : List HeatLevel) (d : Device) :
    (putHeatTable table d).pins = d.pins ∧ (putHeatTable table d).factory = d.factory ∧ (putHeatTable table d).sns = d.sns ∧
    (putHeatTable table d).vbl = d.vbl ∧ (putHeatTable table d).chg = d.chg ∧
    (putHeatTable table d).bgt.horizonSource = d.bgt.horizonSource ∧
    (putHeatTable table d).bgt.defaultHorizon = d.bgt.defaultHorizon ∧ (putHeatTable table d).bgt.last = d.bgt.last ∧
    (putHeatTable table d).bgt.allowance = d.bgt.allowance ∧ (putHeatTable table d).bgt.outlet = d.bgt.outlet ∧
    (putHeatTable table d).bgt.passesDue = d.bgt.passesDue ∧ (putHeatTable table d).cmp = d.cmp ∧ (putHeatTable table d).lgt = d.lgt ∧
    (putHeatTable table d).rtm = d.rtm ∧ (putHeatTable table d).npl = d.npl ∧ (putHeatTable table d).lnk = d.lnk ∧
    (putHeatTable table d).sched = d.sched := by
  unfold putHeatTable
  (try simp)
  all_goals ((repeat' split) <;> (try simp))
  all_goals ((repeat' split) <;> simp_all)

@[simp] theorem applyTableDefault_frame (d : Device) :
    (applyTableDefault d).pins = d.pins ∧ (applyTableDefault d).factory = d.factory ∧ (applyTableDefault d).sns = d.sns ∧
    (applyTableDefault d).vbl = d.vbl ∧ (applyTableDefault d).chg = d.chg ∧
    (applyTableDefault d).bgt.horizonSource = d.bgt.horizonSource ∧ (applyTableDefault d).bgt.defaultHorizon = d.bgt.defaultHorizon ∧
    (applyTableDefault d).bgt.last = d.bgt.last ∧ (applyTableDefault d).bgt.allowance = d.bgt.allowance ∧
    (applyTableDefault d).bgt.outlet = d.bgt.outlet ∧ (applyTableDefault d).bgt.passesDue = d.bgt.passesDue ∧
    (applyTableDefault d).cmp = d.cmp ∧ (applyTableDefault d).lgt = d.lgt ∧ (applyTableDefault d).rtm = d.rtm ∧
    (applyTableDefault d).npl = d.npl ∧ (applyTableDefault d).lnk = d.lnk ∧ (applyTableDefault d).sched = d.sched := by
  unfold applyTableDefault
  (try simp)
  all_goals ((repeat' split) <;> (try simp))
  all_goals ((repeat' split) <;> simp_all)

@[simp] theorem writeHeater_frame (d : Device) :
    (writeHeater d).pins = d.pins ∧ (writeHeater d).factory = d.factory ∧ (writeHeater d).sns = d.sns ∧ (writeHeater d).vbl = d.vbl ∧
    (writeHeater d).chg = d.chg ∧ (writeHeater d).bgt.horizonSource = d.bgt.horizonSource ∧
    (writeHeater d).bgt.defaultHorizon = d.bgt.defaultHorizon ∧ (writeHeater d).bgt.last = d.bgt.last ∧
    (writeHeater d).bgt.outlet = d.bgt.outlet ∧ (writeHeater d).htr = d.htr ∧ (writeHeater d).cmp = d.cmp ∧
    (writeHeater d).lgt = d.lgt ∧ (writeHeater d).rtm = d.rtm ∧ (writeHeater d).npl = d.npl ∧ (writeHeater d).lnk = d.lnk ∧
    (writeHeater d).sched = d.sched := by
  unfold writeHeater
  (try simp)
  all_goals ((repeat' split) <;> (try simp))
  all_goals ((repeat' split) <;> simp_all)

@[simp] theorem enterHeater_frame (st : HeaterState) (cause : HeaterCause) (d : Device) :
    (enterHeater st cause d).pins = d.pins ∧ (enterHeater st cause d).factory = d.factory ∧ (enterHeater st cause d).sns = d.sns ∧
    (enterHeater st cause d).vbl = d.vbl ∧ (enterHeater st cause d).chg = d.chg ∧
    (enterHeater st cause d).bgt.horizonSource = d.bgt.horizonSource ∧
    (enterHeater st cause d).bgt.defaultHorizon = d.bgt.defaultHorizon ∧ (enterHeater st cause d).bgt.last = d.bgt.last ∧
    (enterHeater st cause d).bgt.outlet = d.bgt.outlet ∧ (enterHeater st cause d).cmp = d.cmp ∧ (enterHeater st cause d).lgt = d.lgt ∧
    (enterHeater st cause d).rtm = d.rtm ∧ (enterHeater st cause d).npl = d.npl ∧
    (enterHeater st cause d).lnk.receiver = d.lnk.receiver ∧ (enterHeater st cause d).lnk.lastByte = d.lnk.lastByte ∧
    (enterHeater st cause d).lnk.queue = d.lnk.queue ∧ (enterHeater st cause d).lnk.out = d.lnk.out ∧
    (enterHeater st cause d).lnk.tx = d.lnk.tx ∧ (enterHeater st cause d).lnk.sendEnd = d.lnk.sendEnd ∧
    (enterHeater st cause d).lnk.awake = d.lnk.awake ∧ (enterHeater st cause d).lnk.idle = d.lnk.idle ∧
    (enterHeater st cause d).lnk.lastFrame = d.lnk.lastFrame ∧ (enterHeater st cause d).lnk.enables = d.lnk.enables ∧
    (enterHeater st cause d).lnk.idleTime = d.lnk.idleTime ∧ (enterHeater st cause d).lnk.resetKind = d.lnk.resetKind ∧
    (enterHeater st cause d).lnk.resetUptime = d.lnk.resetUptime ∧ (enterHeater st cause d).sched = d.sched := by
  unfold enterHeater
  (try simp)
  all_goals ((repeat' split) <;> (try simp))
  all_goals ((repeat' split) <;> simp_all)

@[simp] theorem toOff_frame (cause : HeaterCause) (d : Device) :
    (toOff cause d).pins = d.pins ∧ (toOff cause d).factory = d.factory ∧ (toOff cause d).sns = d.sns ∧ (toOff cause d).vbl = d.vbl ∧
    (toOff cause d).chg = d.chg ∧ (toOff cause d).bgt.horizonSource = d.bgt.horizonSource ∧
    (toOff cause d).bgt.defaultHorizon = d.bgt.defaultHorizon ∧ (toOff cause d).bgt.last = d.bgt.last ∧
    (toOff cause d).bgt.outlet = d.bgt.outlet ∧ (toOff cause d).cmp = d.cmp ∧ (toOff cause d).lgt = d.lgt ∧
    (toOff cause d).rtm = d.rtm ∧ (toOff cause d).npl = d.npl ∧ (toOff cause d).lnk.receiver = d.lnk.receiver ∧
    (toOff cause d).lnk.lastByte = d.lnk.lastByte ∧ (toOff cause d).lnk.queue = d.lnk.queue ∧ (toOff cause d).lnk.out = d.lnk.out ∧
    (toOff cause d).lnk.tx = d.lnk.tx ∧ (toOff cause d).lnk.sendEnd = d.lnk.sendEnd ∧ (toOff cause d).lnk.awake = d.lnk.awake ∧
    (toOff cause d).lnk.idle = d.lnk.idle ∧ (toOff cause d).lnk.lastFrame = d.lnk.lastFrame ∧
    (toOff cause d).lnk.enables = d.lnk.enables ∧ (toOff cause d).lnk.idleTime = d.lnk.idleTime ∧
    (toOff cause d).lnk.resetKind = d.lnk.resetKind ∧ (toOff cause d).lnk.resetUptime = d.lnk.resetUptime ∧
    (toOff cause d).sched = d.sched := by
  unfold toOff
  (try simp)
  all_goals ((repeat' split) <;> (try simp))
  all_goals ((repeat' split) <;> simp_all)

@[simp] theorem toLockout_frame (cause : HeaterCause) (d : Device) :
    (toLockout cause d).pins = d.pins ∧ (toLockout cause d).factory = d.factory ∧ (toLockout cause d).sns = d.sns ∧
    (toLockout cause d).vbl = d.vbl ∧ (toLockout cause d).chg = d.chg ∧ (toLockout cause d).bgt.horizonSource = d.bgt.horizonSource ∧
    (toLockout cause d).bgt.defaultHorizon = d.bgt.defaultHorizon ∧ (toLockout cause d).bgt.last = d.bgt.last ∧
    (toLockout cause d).bgt.outlet = d.bgt.outlet ∧ (toLockout cause d).cmp = d.cmp ∧ (toLockout cause d).lgt = d.lgt ∧
    (toLockout cause d).rtm = d.rtm ∧ (toLockout cause d).npl = d.npl ∧ (toLockout cause d).lnk.receiver = d.lnk.receiver ∧
    (toLockout cause d).lnk.lastByte = d.lnk.lastByte ∧ (toLockout cause d).lnk.queue = d.lnk.queue ∧
    (toLockout cause d).lnk.out = d.lnk.out ∧ (toLockout cause d).lnk.tx = d.lnk.tx ∧
    (toLockout cause d).lnk.sendEnd = d.lnk.sendEnd ∧ (toLockout cause d).lnk.awake = d.lnk.awake ∧
    (toLockout cause d).lnk.idle = d.lnk.idle ∧ (toLockout cause d).lnk.lastFrame = d.lnk.lastFrame ∧
    (toLockout cause d).lnk.enables = d.lnk.enables ∧ (toLockout cause d).lnk.idleTime = d.lnk.idleTime ∧
    (toLockout cause d).lnk.resetKind = d.lnk.resetKind ∧ (toLockout cause d).lnk.resetUptime = d.lnk.resetUptime ∧
    (toLockout cause d).sched = d.sched := by
  unfold toLockout
  (try simp)
  all_goals ((repeat' split) <;> (try simp))
  all_goals ((repeat' split) <;> simp_all)

@[simp] theorem toPaused_frame (cause : HeaterCause) (d : Device) :
    (toPaused cause d).pins = d.pins ∧ (toPaused cause d).factory = d.factory ∧ (toPaused cause d).sns = d.sns ∧
    (toPaused cause d).vbl = d.vbl ∧ (toPaused cause d).chg = d.chg ∧ (toPaused cause d).bgt.horizonSource = d.bgt.horizonSource ∧
    (toPaused cause d).bgt.defaultHorizon = d.bgt.defaultHorizon ∧ (toPaused cause d).bgt.last = d.bgt.last ∧
    (toPaused cause d).bgt.outlet = d.bgt.outlet ∧ (toPaused cause d).cmp = d.cmp ∧ (toPaused cause d).lgt = d.lgt ∧
    (toPaused cause d).rtm = d.rtm ∧ (toPaused cause d).npl = d.npl ∧ (toPaused cause d).lnk.receiver = d.lnk.receiver ∧
    (toPaused cause d).lnk.lastByte = d.lnk.lastByte ∧ (toPaused cause d).lnk.queue = d.lnk.queue ∧
    (toPaused cause d).lnk.out = d.lnk.out ∧ (toPaused cause d).lnk.tx = d.lnk.tx ∧ (toPaused cause d).lnk.sendEnd = d.lnk.sendEnd ∧
    (toPaused cause d).lnk.awake = d.lnk.awake ∧ (toPaused cause d).lnk.idle = d.lnk.idle ∧
    (toPaused cause d).lnk.lastFrame = d.lnk.lastFrame ∧ (toPaused cause d).lnk.enables = d.lnk.enables ∧
    (toPaused cause d).lnk.idleTime = d.lnk.idleTime ∧ (toPaused cause d).lnk.resetKind = d.lnk.resetKind ∧
    (toPaused cause d).lnk.resetUptime = d.lnk.resetUptime ∧ (toPaused cause d).sched = d.sched := by
  unfold toPaused
  (try simp)
  all_goals ((repeat' split) <;> (try simp))
  all_goals ((repeat' split) <;> simp_all)

@[simp] theorem toPurge_frame (cause : HeaterCause) (d : Device) :
    (toPurge cause d).pins = d.pins ∧ (toPurge cause d).factory = d.factory ∧ (toPurge cause d).sns = d.sns ∧
    (toPurge cause d).vbl = d.vbl ∧ (toPurge cause d).chg = d.chg ∧ (toPurge cause d).bgt.horizonSource = d.bgt.horizonSource ∧
    (toPurge cause d).bgt.defaultHorizon = d.bgt.defaultHorizon ∧ (toPurge cause d).bgt.last = d.bgt.last ∧
    (toPurge cause d).bgt.outlet = d.bgt.outlet ∧ (toPurge cause d).cmp = d.cmp ∧ (toPurge cause d).lgt = d.lgt ∧
    (toPurge cause d).rtm = d.rtm ∧ (toPurge cause d).npl = d.npl ∧ (toPurge cause d).lnk.receiver = d.lnk.receiver ∧
    (toPurge cause d).lnk.lastByte = d.lnk.lastByte ∧ (toPurge cause d).lnk.queue = d.lnk.queue ∧
    (toPurge cause d).lnk.out = d.lnk.out ∧ (toPurge cause d).lnk.tx = d.lnk.tx ∧ (toPurge cause d).lnk.sendEnd = d.lnk.sendEnd ∧
    (toPurge cause d).lnk.awake = d.lnk.awake ∧ (toPurge cause d).lnk.idle = d.lnk.idle ∧
    (toPurge cause d).lnk.lastFrame = d.lnk.lastFrame ∧ (toPurge cause d).lnk.enables = d.lnk.enables ∧
    (toPurge cause d).lnk.idleTime = d.lnk.idleTime ∧ (toPurge cause d).lnk.resetKind = d.lnk.resetKind ∧
    (toPurge cause d).lnk.resetUptime = d.lnk.resetUptime ∧ (toPurge cause d).sched = d.sched := by
  unfold toPurge
  (try simp)
  all_goals ((repeat' split) <;> (try simp))
  all_goals ((repeat' split) <;> simp_all)

@[simp] theorem toCooldown_frame (cause : CooldownCause) (d : Device) :
    (toCooldown cause d).pins = d.pins ∧ (toCooldown cause d).factory = d.factory ∧ (toCooldown cause d).sns = d.sns ∧
    (toCooldown cause d).vbl = d.vbl ∧ (toCooldown cause d).chg = d.chg ∧
    (toCooldown cause d).bgt.horizonSource = d.bgt.horizonSource ∧ (toCooldown cause d).bgt.defaultHorizon = d.bgt.defaultHorizon ∧
    (toCooldown cause d).bgt.last = d.bgt.last ∧ (toCooldown cause d).bgt.outlet = d.bgt.outlet ∧ (toCooldown cause d).cmp = d.cmp ∧
    (toCooldown cause d).lgt = d.lgt ∧ (toCooldown cause d).rtm = d.rtm ∧ (toCooldown cause d).npl = d.npl ∧
    (toCooldown cause d).lnk.receiver = d.lnk.receiver ∧ (toCooldown cause d).lnk.lastByte = d.lnk.lastByte ∧
    (toCooldown cause d).lnk.queue = d.lnk.queue ∧ (toCooldown cause d).lnk.out = d.lnk.out ∧ (toCooldown cause d).lnk.tx = d.lnk.tx ∧
    (toCooldown cause d).lnk.sendEnd = d.lnk.sendEnd ∧ (toCooldown cause d).lnk.awake = d.lnk.awake ∧
    (toCooldown cause d).lnk.idle = d.lnk.idle ∧ (toCooldown cause d).lnk.lastFrame = d.lnk.lastFrame ∧
    (toCooldown cause d).lnk.enables = d.lnk.enables ∧ (toCooldown cause d).lnk.idleTime = d.lnk.idleTime ∧
    (toCooldown cause d).lnk.resetKind = d.lnk.resetKind ∧ (toCooldown cause d).lnk.resetUptime = d.lnk.resetUptime ∧
    (toCooldown cause d).sched = d.sched := by
  unfold toCooldown
  (try simp)
  all_goals ((repeat' split) <;> (try simp))
  all_goals ((repeat' split) <;> simp_all)

@[simp] theorem toGlow_frame (d : Device) :
    (toGlow d).pins = d.pins ∧ (toGlow d).factory = d.factory ∧ (toGlow d).sns = d.sns ∧ (toGlow d).vbl = d.vbl ∧
    (toGlow d).chg = d.chg ∧ (toGlow d).bgt.horizonSource = d.bgt.horizonSource ∧
    (toGlow d).bgt.defaultHorizon = d.bgt.defaultHorizon ∧ (toGlow d).bgt.last = d.bgt.last ∧ (toGlow d).bgt.outlet = d.bgt.outlet ∧
    (toGlow d).cmp = d.cmp ∧ (toGlow d).lgt = d.lgt ∧ (toGlow d).rtm = d.rtm ∧ (toGlow d).npl = d.npl ∧
    (toGlow d).lnk.receiver = d.lnk.receiver ∧ (toGlow d).lnk.lastByte = d.lnk.lastByte ∧ (toGlow d).lnk.queue = d.lnk.queue ∧
    (toGlow d).lnk.out = d.lnk.out ∧ (toGlow d).lnk.tx = d.lnk.tx ∧ (toGlow d).lnk.sendEnd = d.lnk.sendEnd ∧
    (toGlow d).lnk.awake = d.lnk.awake ∧ (toGlow d).lnk.idle = d.lnk.idle ∧ (toGlow d).lnk.lastFrame = d.lnk.lastFrame ∧
    (toGlow d).lnk.enables = d.lnk.enables ∧ (toGlow d).lnk.idleTime = d.lnk.idleTime ∧ (toGlow d).lnk.resetKind = d.lnk.resetKind ∧
    (toGlow d).lnk.resetUptime = d.lnk.resetUptime ∧ (toGlow d).sched = d.sched := by
  unfold toGlow
  (try simp)
  all_goals ((repeat' split) <;> (try simp))
  all_goals ((repeat' split) <;> simp_all)

@[simp] theorem toIgnite_frame (d : Device) :
    (toIgnite d).pins = d.pins ∧ (toIgnite d).factory = d.factory ∧ (toIgnite d).sns = d.sns ∧ (toIgnite d).vbl = d.vbl ∧
    (toIgnite d).chg = d.chg ∧ (toIgnite d).bgt.horizonSource = d.bgt.horizonSource ∧
    (toIgnite d).bgt.defaultHorizon = d.bgt.defaultHorizon ∧ (toIgnite d).bgt.last = d.bgt.last ∧
    (toIgnite d).bgt.outlet = d.bgt.outlet ∧ (toIgnite d).cmp = d.cmp ∧ (toIgnite d).lgt = d.lgt ∧ (toIgnite d).rtm = d.rtm ∧
    (toIgnite d).npl = d.npl ∧ (toIgnite d).lnk.receiver = d.lnk.receiver ∧ (toIgnite d).lnk.lastByte = d.lnk.lastByte ∧
    (toIgnite d).lnk.queue = d.lnk.queue ∧ (toIgnite d).lnk.out = d.lnk.out ∧ (toIgnite d).lnk.tx = d.lnk.tx ∧
    (toIgnite d).lnk.sendEnd = d.lnk.sendEnd ∧ (toIgnite d).lnk.awake = d.lnk.awake ∧ (toIgnite d).lnk.idle = d.lnk.idle ∧
    (toIgnite d).lnk.lastFrame = d.lnk.lastFrame ∧ (toIgnite d).lnk.enables = d.lnk.enables ∧
    (toIgnite d).lnk.idleTime = d.lnk.idleTime ∧ (toIgnite d).lnk.resetKind = d.lnk.resetKind ∧
    (toIgnite d).lnk.resetUptime = d.lnk.resetUptime ∧ (toIgnite d).sched = d.sched := by
  unfold toIgnite
  (try simp)
  all_goals ((repeat' split) <;> (try simp))
  all_goals ((repeat' split) <;> simp_all)

@[simp] theorem requestHeater_frame (d : Device) :
    (requestHeater d).pins = d.pins ∧ (requestHeater d).factory = d.factory ∧ (requestHeater d).sns = d.sns ∧
    (requestHeater d).vbl = d.vbl ∧ (requestHeater d).chg = d.chg ∧ (requestHeater d).bgt.horizonSource = d.bgt.horizonSource ∧
    (requestHeater d).bgt.defaultHorizon = d.bgt.defaultHorizon ∧ (requestHeater d).bgt.last = d.bgt.last ∧
    (requestHeater d).bgt.outlet = d.bgt.outlet ∧ (requestHeater d).cmp = d.cmp ∧ (requestHeater d).lgt = d.lgt ∧
    (requestHeater d).rtm = d.rtm ∧ (requestHeater d).npl = d.npl ∧ (requestHeater d).lnk.receiver = d.lnk.receiver ∧
    (requestHeater d).lnk.lastByte = d.lnk.lastByte ∧ (requestHeater d).lnk.queue = d.lnk.queue ∧
    (requestHeater d).lnk.out = d.lnk.out ∧ (requestHeater d).lnk.tx = d.lnk.tx ∧ (requestHeater d).lnk.sendEnd = d.lnk.sendEnd ∧
    (requestHeater d).lnk.awake = d.lnk.awake ∧ (requestHeater d).lnk.idle = d.lnk.idle ∧
    (requestHeater d).lnk.lastFrame = d.lnk.lastFrame ∧ (requestHeater d).lnk.enables = d.lnk.enables ∧
    (requestHeater d).lnk.idleTime = d.lnk.idleTime ∧ (requestHeater d).lnk.resetKind = d.lnk.resetKind ∧
    (requestHeater d).lnk.resetUptime = d.lnk.resetUptime ∧ (requestHeater d).sched = d.sched := by
  unfold requestHeater
  have h0 := requestAllowance_frame .heater d
  (repeat' split) <;> simp_all

@[simp] theorem toWait_frame (d : Device) :
    (toWait d).pins = d.pins ∧ (toWait d).factory = d.factory ∧ (toWait d).sns = d.sns ∧ (toWait d).vbl = d.vbl ∧
    (toWait d).chg = d.chg ∧ (toWait d).bgt.horizonSource = d.bgt.horizonSource ∧
    (toWait d).bgt.defaultHorizon = d.bgt.defaultHorizon ∧ (toWait d).bgt.last = d.bgt.last ∧ (toWait d).bgt.outlet = d.bgt.outlet ∧
    (toWait d).cmp = d.cmp ∧ (toWait d).lgt = d.lgt ∧ (toWait d).rtm = d.rtm ∧ (toWait d).npl = d.npl ∧
    (toWait d).lnk.receiver = d.lnk.receiver ∧ (toWait d).lnk.lastByte = d.lnk.lastByte ∧ (toWait d).lnk.queue = d.lnk.queue ∧
    (toWait d).lnk.out = d.lnk.out ∧ (toWait d).lnk.tx = d.lnk.tx ∧ (toWait d).lnk.sendEnd = d.lnk.sendEnd ∧
    (toWait d).lnk.awake = d.lnk.awake ∧ (toWait d).lnk.idle = d.lnk.idle ∧ (toWait d).lnk.lastFrame = d.lnk.lastFrame ∧
    (toWait d).lnk.enables = d.lnk.enables ∧ (toWait d).lnk.idleTime = d.lnk.idleTime ∧ (toWait d).lnk.resetKind = d.lnk.resetKind ∧
    (toWait d).lnk.resetUptime = d.lnk.resetUptime ∧ (toWait d).sched = d.sched := by
  unfold toWait
  (try simp)
  all_goals ((repeat' split) <;> (try simp))
  all_goals ((repeat' split) <;> simp_all)

@[simp] theorem changeLevel_frame (n : Nat) (d : Device) :
    (changeLevel n d).pins = d.pins ∧ (changeLevel n d).factory = d.factory ∧ (changeLevel n d).sns = d.sns ∧
    (changeLevel n d).vbl = d.vbl ∧ (changeLevel n d).chg = d.chg ∧ (changeLevel n d).bgt = d.bgt ∧ (changeLevel n d).cmp = d.cmp ∧
    (changeLevel n d).lgt = d.lgt ∧ (changeLevel n d).rtm = d.rtm ∧ (changeLevel n d).npl = d.npl ∧ (changeLevel n d).lnk = d.lnk ∧
    (changeLevel n d).sched = d.sched := by
  unfold changeLevel
  (try simp)
  all_goals ((repeat' split) <;> (try simp))
  all_goals ((repeat' split) <;> simp_all)

@[simp] theorem toRun_frame (d : Device) :
    (toRun d).pins = d.pins ∧ (toRun d).factory = d.factory ∧ (toRun d).sns = d.sns ∧ (toRun d).vbl = d.vbl ∧ (toRun d).chg = d.chg ∧
    (toRun d).bgt.horizonSource = d.bgt.horizonSource ∧ (toRun d).bgt.defaultHorizon = d.bgt.defaultHorizon ∧
    (toRun d).bgt.last = d.bgt.last ∧ (toRun d).bgt.outlet = d.bgt.outlet ∧ (toRun d).cmp = d.cmp ∧ (toRun d).lgt = d.lgt ∧
    (toRun d).rtm = d.rtm ∧ (toRun d).npl = d.npl ∧ (toRun d).lnk.receiver = d.lnk.receiver ∧
    (toRun d).lnk.lastByte = d.lnk.lastByte ∧ (toRun d).lnk.queue = d.lnk.queue ∧ (toRun d).lnk.out = d.lnk.out ∧
    (toRun d).lnk.tx = d.lnk.tx ∧ (toRun d).lnk.sendEnd = d.lnk.sendEnd ∧ (toRun d).lnk.awake = d.lnk.awake ∧
    (toRun d).lnk.idle = d.lnk.idle ∧ (toRun d).lnk.lastFrame = d.lnk.lastFrame ∧ (toRun d).lnk.enables = d.lnk.enables ∧
    (toRun d).lnk.idleTime = d.lnk.idleTime ∧ (toRun d).lnk.resetKind = d.lnk.resetKind ∧
    (toRun d).lnk.resetUptime = d.lnk.resetUptime ∧ (toRun d).sched = d.sched := by
  unfold toRun
  (try simp)
  all_goals ((repeat' split) <;> (try simp))
  all_goals ((repeat' split) <;> simp_all)

@[simp] theorem lowerTo_frame (bound : Nat) (d : Device) :
    (lowerTo bound d).pins = d.pins ∧ (lowerTo bound d).factory = d.factory ∧ (lowerTo bound d).sns = d.sns ∧ (lowerTo bound d).vbl = d.vbl ∧
    (lowerTo bound d).chg = d.chg ∧ (lowerTo bound d).bgt = d.bgt ∧ (lowerTo bound d).cmp = d.cmp ∧ (lowerTo bound d).lgt = d.lgt ∧
    (lowerTo bound d).rtm = d.rtm ∧ (lowerTo bound d).npl = d.npl ∧ (lowerTo bound d).lnk = d.lnk ∧ (lowerTo bound d).sched = d.sched := by
  unfold lowerTo
  (try simp)
  all_goals ((repeat' split) <;> (try simp))
  all_goals ((repeat' split) <;> simp_all)

@[simp] theorem rampTest_frame (d : Device) :
    (rampTest d).pins = d.pins ∧ (rampTest d).factory = d.factory ∧ (rampTest d).sns = d.sns ∧ (rampTest d).vbl = d.vbl ∧
    (rampTest d).chg = d.chg ∧ (rampTest d).bgt.horizonSource = d.bgt.horizonSource ∧
    (rampTest d).bgt.defaultHorizon = d.bgt.defaultHorizon ∧ (rampTest d).bgt.last = d.bgt.last ∧
    (rampTest d).bgt.outlet = d.bgt.outlet ∧ (rampTest d).cmp = d.cmp ∧ (rampTest d).lgt = d.lgt ∧ (rampTest d).rtm = d.rtm ∧
    (rampTest d).npl = d.npl ∧ (rampTest d).lnk.receiver = d.lnk.receiver ∧ (rampTest d).lnk.lastByte = d.lnk.lastByte ∧
    (rampTest d).lnk.queue = d.lnk.queue ∧ (rampTest d).lnk.out = d.lnk.out ∧ (rampTest d).lnk.tx = d.lnk.tx ∧
    (rampTest d).lnk.sendEnd = d.lnk.sendEnd ∧ (rampTest d).lnk.awake = d.lnk.awake ∧ (rampTest d).lnk.idle = d.lnk.idle ∧
    (rampTest d).lnk.lastFrame = d.lnk.lastFrame ∧ (rampTest d).lnk.enables = d.lnk.enables ∧
    (rampTest d).lnk.idleTime = d.lnk.idleTime ∧ (rampTest d).lnk.resetKind = d.lnk.resetKind ∧
    (rampTest d).lnk.resetUptime = d.lnk.resetUptime ∧ (rampTest d).sched = d.sched := by
  unfold rampTest
  (try simp)
  all_goals ((repeat' split) <;> (try simp))
  all_goals ((repeat' split) <;> simp_all)

@[simp] theorem heaterGrant_frame (d : Device) :
    (heaterGrant d).pins = d.pins ∧ (heaterGrant d).factory = d.factory ∧ (heaterGrant d).sns = d.sns ∧ (heaterGrant d).vbl = d.vbl ∧
    (heaterGrant d).chg = d.chg ∧ (heaterGrant d).bgt.horizonSource = d.bgt.horizonSource ∧
    (heaterGrant d).bgt.defaultHorizon = d.bgt.defaultHorizon ∧ (heaterGrant d).bgt.last = d.bgt.last ∧
    (heaterGrant d).bgt.outlet = d.bgt.outlet ∧ (heaterGrant d).cmp = d.cmp ∧ (heaterGrant d).lgt = d.lgt ∧
    (heaterGrant d).rtm = d.rtm ∧ (heaterGrant d).npl = d.npl ∧ (heaterGrant d).lnk.receiver = d.lnk.receiver ∧
    (heaterGrant d).lnk.lastByte = d.lnk.lastByte ∧ (heaterGrant d).lnk.queue = d.lnk.queue ∧ (heaterGrant d).lnk.out = d.lnk.out ∧
    (heaterGrant d).lnk.tx = d.lnk.tx ∧ (heaterGrant d).lnk.sendEnd = d.lnk.sendEnd ∧ (heaterGrant d).lnk.awake = d.lnk.awake ∧
    (heaterGrant d).lnk.idle = d.lnk.idle ∧ (heaterGrant d).lnk.lastFrame = d.lnk.lastFrame ∧
    (heaterGrant d).lnk.enables = d.lnk.enables ∧ (heaterGrant d).lnk.idleTime = d.lnk.idleTime ∧
    (heaterGrant d).lnk.resetKind = d.lnk.resetKind ∧ (heaterGrant d).lnk.resetUptime = d.lnk.resetUptime ∧
    (heaterGrant d).sched = d.sched := by
  unfold heaterGrant
  (try simp)
  all_goals ((repeat' split) <;> (try simp))
  all_goals ((repeat' split) <;> simp_all)

@[simp] theorem followWish_frame (d : Device) :
    (followWish d).pins = d.pins ∧ (followWish d).factory = d.factory ∧ (followWish d).sns = d.sns ∧ (followWish d).vbl = d.vbl ∧
    (followWish d).chg = d.chg ∧ (followWish d).bgt.horizonSource = d.bgt.horizonSource ∧
    (followWish d).bgt.defaultHorizon = d.bgt.defaultHorizon ∧ (followWish d).bgt.last = d.bgt.last ∧
    (followWish d).bgt.outlet = d.bgt.outlet ∧ (followWish d).cmp = d.cmp ∧ (followWish d).lgt = d.lgt ∧
    (followWish d).rtm = d.rtm ∧ (followWish d).npl = d.npl ∧ (followWish d).lnk.receiver = d.lnk.receiver ∧
    (followWish d).lnk.lastByte = d.lnk.lastByte ∧ (followWish d).lnk.queue = d.lnk.queue ∧ (followWish d).lnk.out = d.lnk.out ∧
    (followWish d).lnk.tx = d.lnk.tx ∧ (followWish d).lnk.sendEnd = d.lnk.sendEnd ∧ (followWish d).lnk.awake = d.lnk.awake ∧
    (followWish d).lnk.idle = d.lnk.idle ∧ (followWish d).lnk.lastFrame = d.lnk.lastFrame ∧
    (followWish d).lnk.enables = d.lnk.enables ∧ (followWish d).lnk.idleTime = d.lnk.idleTime ∧
    (followWish d).lnk.resetKind = d.lnk.resetKind ∧ (followWish d).lnk.resetUptime = d.lnk.resetUptime ∧
    (followWish d).sched = d.sched := by
  unfold followWish
  (try simp)
  all_goals ((repeat' split) <;> (try simp))
  all_goals ((repeat' split) <;> simp_all)

@[simp] theorem setWished_frame (w : Nat) (d : Device) :
    (setWished w d).pins = d.pins ∧ (setWished w d).factory = d.factory ∧ (setWished w d).sns = d.sns ∧ (setWished w d).vbl = d.vbl ∧
    (setWished w d).chg = d.chg ∧ (setWished w d).bgt.horizonSource = d.bgt.horizonSource ∧
    (setWished w d).bgt.defaultHorizon = d.bgt.defaultHorizon ∧ (setWished w d).bgt.last = d.bgt.last ∧
    (setWished w d).bgt.outlet = d.bgt.outlet ∧ (setWished w d).cmp = d.cmp ∧ (setWished w d).lgt = d.lgt ∧
    (setWished w d).rtm = d.rtm ∧ (setWished w d).npl = d.npl ∧ (setWished w d).lnk.receiver = d.lnk.receiver ∧
    (setWished w d).lnk.lastByte = d.lnk.lastByte ∧ (setWished w d).lnk.queue = d.lnk.queue ∧ (setWished w d).lnk.out = d.lnk.out ∧
    (setWished w d).lnk.tx = d.lnk.tx ∧ (setWished w d).lnk.sendEnd = d.lnk.sendEnd ∧ (setWished w d).lnk.awake = d.lnk.awake ∧
    (setWished w d).lnk.idle = d.lnk.idle ∧ (setWished w d).lnk.lastFrame = d.lnk.lastFrame ∧
    (setWished w d).lnk.enables = d.lnk.enables ∧ (setWished w d).lnk.idleTime = d.lnk.idleTime ∧
    (setWished w d).lnk.resetKind = d.lnk.resetKind ∧ (setWished w d).lnk.resetUptime = d.lnk.resetUptime ∧
    (setWished w d).sched = d.sched := by
  unfold setWished
  (try simp)
  all_goals ((repeat' split) <;> (try simp))
  all_goals ((repeat' split) <;> simp_all)

@[simp] theorem rewish_frame (d : Device) :
    (rewish d).pins = d.pins ∧ (rewish d).factory = d.factory ∧ (rewish d).sns = d.sns ∧ (rewish d).vbl = d.vbl ∧
    (rewish d).chg = d.chg ∧ (rewish d).bgt.horizonSource = d.bgt.horizonSource ∧
    (rewish d).bgt.defaultHorizon = d.bgt.defaultHorizon ∧ (rewish d).bgt.last = d.bgt.last ∧ (rewish d).bgt.outlet = d.bgt.outlet ∧
    (rewish d).cmp = d.cmp ∧ (rewish d).lgt = d.lgt ∧ (rewish d).rtm = d.rtm ∧ (rewish d).npl = d.npl ∧
    (rewish d).lnk.receiver = d.lnk.receiver ∧ (rewish d).lnk.lastByte = d.lnk.lastByte ∧ (rewish d).lnk.queue = d.lnk.queue ∧
    (rewish d).lnk.out = d.lnk.out ∧ (rewish d).lnk.tx = d.lnk.tx ∧ (rewish d).lnk.sendEnd = d.lnk.sendEnd ∧
    (rewish d).lnk.awake = d.lnk.awake ∧ (rewish d).lnk.idle = d.lnk.idle ∧ (rewish d).lnk.lastFrame = d.lnk.lastFrame ∧
    (rewish d).lnk.enables = d.lnk.enables ∧ (rewish d).lnk.idleTime = d.lnk.idleTime ∧ (rewish d).lnk.resetKind = d.lnk.resetKind ∧
    (rewish d).lnk.resetUptime = d.lnk.resetUptime ∧ (rewish d).sched = d.sched := by
  unfold rewish
  (try simp)
  all_goals ((repeat' split) <;> (try simp))
  all_goals ((repeat' split) <;> simp_all)

@[simp] theorem heaterCaps_frame (d : Device) :
    (heaterCaps d).pins = d.pins ∧ (heaterCaps d).factory = d.factory ∧ (heaterCaps d).sns = d.sns ∧ (heaterCaps d).vbl = d.vbl ∧
    (heaterCaps d).chg = d.chg ∧ (heaterCaps d).bgt.horizonSource = d.bgt.horizonSource ∧
    (heaterCaps d).bgt.defaultHorizon = d.bgt.defaultHorizon ∧ (heaterCaps d).bgt.last = d.bgt.last ∧
    (heaterCaps d).bgt.outlet = d.bgt.outlet ∧ (heaterCaps d).cmp = d.cmp ∧ (heaterCaps d).lgt = d.lgt ∧ (heaterCaps d).rtm = d.rtm ∧
    (heaterCaps d).npl = d.npl ∧ (heaterCaps d).lnk.receiver = d.lnk.receiver ∧ (heaterCaps d).lnk.lastByte = d.lnk.lastByte ∧
    (heaterCaps d).lnk.queue = d.lnk.queue ∧ (heaterCaps d).lnk.out = d.lnk.out ∧ (heaterCaps d).lnk.tx = d.lnk.tx ∧
    (heaterCaps d).lnk.sendEnd = d.lnk.sendEnd ∧ (heaterCaps d).lnk.awake = d.lnk.awake ∧ (heaterCaps d).lnk.idle = d.lnk.idle ∧
    (heaterCaps d).lnk.lastFrame = d.lnk.lastFrame ∧ (heaterCaps d).lnk.enables = d.lnk.enables ∧
    (heaterCaps d).lnk.idleTime = d.lnk.idleTime ∧ (heaterCaps d).lnk.resetKind = d.lnk.resetKind ∧
    (heaterCaps d).lnk.resetUptime = d.lnk.resetUptime ∧ (heaterCaps d).sched = d.sched := by
  unfold heaterCaps
  (try simp)
  all_goals ((repeat' split) <;> (try simp))
  all_goals ((repeat' split) <;> simp_all)

@[simp] theorem moveLevel_frame (d : Device) :
    (moveLevel d).pins = d.pins ∧ (moveLevel d).factory = d.factory ∧ (moveLevel d).sns = d.sns ∧ (moveLevel d).vbl = d.vbl ∧
    (moveLevel d).chg = d.chg ∧ (moveLevel d).bgt = d.bgt ∧ (moveLevel d).cmp = d.cmp ∧ (moveLevel d).lgt = d.lgt ∧ (moveLevel d).rtm = d.rtm ∧
    (moveLevel d).npl = d.npl ∧ (moveLevel d).lnk = d.lnk ∧ (moveLevel d).sched = d.sched := by
  unfold moveLevel
  (try simp)
  all_goals ((repeat' split) <;> (try simp))
  all_goals ((repeat' split) <;> simp_all)

@[simp] theorem tryMove_frame (d : Device) :
    (tryMove d).pins = d.pins ∧ (tryMove d).factory = d.factory ∧ (tryMove d).sns = d.sns ∧ (tryMove d).vbl = d.vbl ∧
    (tryMove d).chg = d.chg ∧ (tryMove d).bgt.horizonSource = d.bgt.horizonSource ∧
    (tryMove d).bgt.defaultHorizon = d.bgt.defaultHorizon ∧ (tryMove d).bgt.last = d.bgt.last ∧
    (tryMove d).bgt.outlet = d.bgt.outlet ∧ (tryMove d).cmp = d.cmp ∧ (tryMove d).lgt = d.lgt ∧
    (tryMove d).rtm = d.rtm ∧ (tryMove d).npl = d.npl ∧ (tryMove d).lnk.receiver = d.lnk.receiver ∧
    (tryMove d).lnk.lastByte = d.lnk.lastByte ∧ (tryMove d).lnk.queue = d.lnk.queue ∧ (tryMove d).lnk.out = d.lnk.out ∧
    (tryMove d).lnk.tx = d.lnk.tx ∧ (tryMove d).lnk.sendEnd = d.lnk.sendEnd ∧ (tryMove d).lnk.awake = d.lnk.awake ∧
    (tryMove d).lnk.idle = d.lnk.idle ∧ (tryMove d).lnk.lastFrame = d.lnk.lastFrame ∧
    (tryMove d).lnk.enables = d.lnk.enables ∧ (tryMove d).lnk.idleTime = d.lnk.idleTime ∧
    (tryMove d).lnk.resetKind = d.lnk.resetKind ∧ (tryMove d).lnk.resetUptime = d.lnk.resetUptime ∧
    (tryMove d).sched = d.sched := by
  unfold tryMove
  (try simp)
  all_goals ((repeat' split) <;> (try simp))
  all_goals ((repeat' split) <;> simp_all)

@[simp] theorem toRamp_frame (d : Device) :
    (toRamp d).pins = d.pins ∧ (toRamp d).factory = d.factory ∧ (toRamp d).sns = d.sns ∧ (toRamp d).vbl = d.vbl ∧
    (toRamp d).chg = d.chg ∧ (toRamp d).bgt.horizonSource = d.bgt.horizonSource ∧
    (toRamp d).bgt.defaultHorizon = d.bgt.defaultHorizon ∧ (toRamp d).bgt.last = d.bgt.last ∧ (toRamp d).bgt.outlet = d.bgt.outlet ∧
    (toRamp d).cmp = d.cmp ∧ (toRamp d).lgt = d.lgt ∧ (toRamp d).rtm = d.rtm ∧ (toRamp d).npl = d.npl ∧
    (toRamp d).lnk.receiver = d.lnk.receiver ∧ (toRamp d).lnk.lastByte = d.lnk.lastByte ∧ (toRamp d).lnk.queue = d.lnk.queue ∧
    (toRamp d).lnk.out = d.lnk.out ∧ (toRamp d).lnk.tx = d.lnk.tx ∧ (toRamp d).lnk.sendEnd = d.lnk.sendEnd ∧
    (toRamp d).lnk.awake = d.lnk.awake ∧ (toRamp d).lnk.idle = d.lnk.idle ∧ (toRamp d).lnk.lastFrame = d.lnk.lastFrame ∧
    (toRamp d).lnk.enables = d.lnk.enables ∧ (toRamp d).lnk.idleTime = d.lnk.idleTime ∧ (toRamp d).lnk.resetKind = d.lnk.resetKind ∧
    (toRamp d).lnk.resetUptime = d.lnk.resetUptime ∧ (toRamp d).sched = d.sched := by
  unfold toRamp
  (try simp)
  all_goals ((repeat' split) <;> (try simp))
  all_goals ((repeat' split) <;> simp_all)

@[simp] theorem newStart_frame (src : StartSource) (setpoint : Int) (d : Device) :
    (newStart src setpoint d).pins = d.pins ∧ (newStart src setpoint d).factory = d.factory ∧ (newStart src setpoint d).sns = d.sns ∧
    (newStart src setpoint d).vbl = d.vbl ∧ (newStart src setpoint d).chg = d.chg ∧
    (newStart src setpoint d).bgt.horizonSource = d.bgt.horizonSource ∧
    (newStart src setpoint d).bgt.defaultHorizon = d.bgt.defaultHorizon ∧ (newStart src setpoint d).bgt.last = d.bgt.last ∧
    (newStart src setpoint d).bgt.outlet = d.bgt.outlet ∧ (newStart src setpoint d).cmp = d.cmp ∧
    (newStart src setpoint d).lgt = d.lgt ∧ (newStart src setpoint d).rtm = d.rtm ∧ (newStart src setpoint d).npl = d.npl ∧
    (newStart src setpoint d).lnk.receiver = d.lnk.receiver ∧ (newStart src setpoint d).lnk.lastByte = d.lnk.lastByte ∧
    (newStart src setpoint d).lnk.queue = d.lnk.queue ∧ (newStart src setpoint d).lnk.out = d.lnk.out ∧
    (newStart src setpoint d).lnk.tx = d.lnk.tx ∧ (newStart src setpoint d).lnk.sendEnd = d.lnk.sendEnd ∧
    (newStart src setpoint d).lnk.awake = d.lnk.awake ∧ (newStart src setpoint d).lnk.idle = d.lnk.idle ∧
    (newStart src setpoint d).lnk.lastFrame = d.lnk.lastFrame ∧ (newStart src setpoint d).lnk.enables = d.lnk.enables ∧
    (newStart src setpoint d).lnk.idleTime = d.lnk.idleTime ∧ (newStart src setpoint d).lnk.resetKind = d.lnk.resetKind ∧
    (newStart src setpoint d).lnk.resetUptime = d.lnk.resetUptime ∧ (newStart src setpoint d).sched = d.sched := by
  unfold newStart
  (try simp)
  all_goals ((repeat' split) <;> (try simp))
  all_goals ((repeat' split) <;> simp_all)

@[simp] theorem startHeater_frame (src : StartSource) (setpoint : Int) (d : Device) :
    ((startHeater src setpoint d).1).pins = d.pins ∧ ((startHeater src setpoint d).1).factory = d.factory ∧
    ((startHeater src setpoint d).1).sns = d.sns ∧ ((startHeater src setpoint d).1).vbl = d.vbl ∧
    ((startHeater src setpoint d).1).chg = d.chg ∧ ((startHeater src setpoint d).1).bgt.horizonSource = d.bgt.horizonSource ∧
    ((startHeater src setpoint d).1).bgt.defaultHorizon = d.bgt.defaultHorizon ∧
    ((startHeater src setpoint d).1).bgt.last = d.bgt.last ∧ ((startHeater src setpoint d).1).bgt.outlet = d.bgt.outlet ∧
    ((startHeater src setpoint d).1).cmp = d.cmp ∧ ((startHeater src setpoint d).1).lgt = d.lgt ∧
    ((startHeater src setpoint d).1).rtm = d.rtm ∧ ((startHeater src setpoint d).1).npl = d.npl ∧
    ((startHeater src setpoint d).1).lnk.receiver = d.lnk.receiver ∧ ((startHeater src setpoint d).1).lnk.lastByte = d.lnk.lastByte ∧
    ((startHeater src setpoint d).1).lnk.queue = d.lnk.queue ∧ ((startHeater src setpoint d).1).lnk.out = d.lnk.out ∧
    ((startHeater src setpoint d).1).lnk.tx = d.lnk.tx ∧ ((startHeater src setpoint d).1).lnk.sendEnd = d.lnk.sendEnd ∧
    ((startHeater src setpoint d).1).lnk.awake = d.lnk.awake ∧ ((startHeater src setpoint d).1).lnk.idle = d.lnk.idle ∧
    ((startHeater src setpoint d).1).lnk.lastFrame = d.lnk.lastFrame ∧ ((startHeater src setpoint d).1).lnk.enables = d.lnk.enables ∧
    ((startHeater src setpoint d).1).lnk.idleTime = d.lnk.idleTime ∧
    ((startHeater src setpoint d).1).lnk.resetKind = d.lnk.resetKind ∧
    ((startHeater src setpoint d).1).lnk.resetUptime = d.lnk.resetUptime ∧ ((startHeater src setpoint d).1).sched = d.sched := by
  unfold startHeater
  (try simp)
  all_goals ((repeat' split) <;> (try simp))
  all_goals ((repeat' split) <;> simp_all)

@[simp] theorem postRefusal_frame (r : Reason) (d : Device) :
    (postRefusal r d).pins = d.pins ∧ (postRefusal r d).factory = d.factory ∧ (postRefusal r d).sns = d.sns ∧
    (postRefusal r d).vbl = d.vbl ∧ (postRefusal r d).chg = d.chg ∧ (postRefusal r d).bgt = d.bgt ∧ (postRefusal r d).cmp = d.cmp ∧
    (postRefusal r d).lgt = d.lgt ∧ (postRefusal r d).rtm = d.rtm ∧ (postRefusal r d).npl = d.npl ∧
    (postRefusal r d).lnk.receiver = d.lnk.receiver ∧ (postRefusal r d).lnk.lastByte = d.lnk.lastByte ∧
    (postRefusal r d).lnk.queue = d.lnk.queue ∧ (postRefusal r d).lnk.out = d.lnk.out ∧ (postRefusal r d).lnk.tx = d.lnk.tx ∧
    (postRefusal r d).lnk.sendEnd = d.lnk.sendEnd ∧ (postRefusal r d).lnk.awake = d.lnk.awake ∧
    (postRefusal r d).lnk.idle = d.lnk.idle ∧ (postRefusal r d).lnk.lastFrame = d.lnk.lastFrame ∧
    (postRefusal r d).lnk.enables = d.lnk.enables ∧ (postRefusal r d).lnk.idleTime = d.lnk.idleTime ∧
    (postRefusal r d).lnk.resetKind = d.lnk.resetKind ∧ (postRefusal r d).lnk.resetUptime = d.lnk.resetUptime ∧
    (postRefusal r d).sched = d.sched := by
  unfold postRefusal
  (try simp)
  all_goals ((repeat' split) <;> (try simp))
  all_goals ((repeat' split) <;> simp_all)

@[simp] theorem clearRunUntil_frame (d : Device) :
    (clearRunUntil d).pins = d.pins ∧ (clearRunUntil d).factory = d.factory ∧ (clearRunUntil d).sns = d.sns ∧
    (clearRunUntil d).vbl = d.vbl ∧ (clearRunUntil d).chg = d.chg ∧ (clearRunUntil d).bgt = d.bgt ∧ (clearRunUntil d).cmp = d.cmp ∧
    (clearRunUntil d).lgt = d.lgt ∧ (clearRunUntil d).rtm = d.rtm ∧ (clearRunUntil d).npl = d.npl ∧ (clearRunUntil d).lnk = d.lnk ∧
    (clearRunUntil d).sched = d.sched := by
  unfold clearRunUntil
  (try simp)
  all_goals ((repeat' split) <;> (try simp))
  all_goals ((repeat' split) <;> simp_all)

@[simp] theorem leaveWait_frame (cause : HeaterCause) (d : Device) :
    (leaveWait cause d).pins = d.pins ∧ (leaveWait cause d).factory = d.factory ∧ (leaveWait cause d).sns = d.sns ∧
    (leaveWait cause d).vbl = d.vbl ∧ (leaveWait cause d).chg = d.chg ∧ (leaveWait cause d).bgt.horizonSource = d.bgt.horizonSource ∧
    (leaveWait cause d).bgt.defaultHorizon = d.bgt.defaultHorizon ∧ (leaveWait cause d).bgt.last = d.bgt.last ∧
    (leaveWait cause d).bgt.outlet = d.bgt.outlet ∧ (leaveWait cause d).cmp = d.cmp ∧ (leaveWait cause d).lgt = d.lgt ∧
    (leaveWait cause d).rtm = d.rtm ∧ (leaveWait cause d).npl = d.npl ∧ (leaveWait cause d).lnk.receiver = d.lnk.receiver ∧
    (leaveWait cause d).lnk.lastByte = d.lnk.lastByte ∧ (leaveWait cause d).lnk.queue = d.lnk.queue ∧
    (leaveWait cause d).lnk.out = d.lnk.out ∧ (leaveWait cause d).lnk.tx = d.lnk.tx ∧
    (leaveWait cause d).lnk.sendEnd = d.lnk.sendEnd ∧ (leaveWait cause d).lnk.awake = d.lnk.awake ∧
    (leaveWait cause d).lnk.idle = d.lnk.idle ∧ (leaveWait cause d).lnk.lastFrame = d.lnk.lastFrame ∧
    (leaveWait cause d).lnk.enables = d.lnk.enables ∧ (leaveWait cause d).lnk.idleTime = d.lnk.idleTime ∧
    (leaveWait cause d).lnk.resetKind = d.lnk.resetKind ∧ (leaveWait cause d).lnk.resetUptime = d.lnk.resetUptime ∧
    (leaveWait cause d).sched = d.sched := by
  unfold leaveWait
  (try simp)
  all_goals ((repeat' split) <;> (try simp))
  all_goals ((repeat' split) <;> simp_all)

@[simp] theorem stopHeater_frame (d0 : Device) :
    (stopHeater d0).pins = d0.pins ∧ (stopHeater d0).factory = d0.factory ∧ (stopHeater d0).sns = d0.sns ∧
    (stopHeater d0).vbl = d0.vbl ∧ (stopHeater d0).chg = d0.chg ∧ (stopHeater d0).bgt.horizonSource = d0.bgt.horizonSource ∧
    (stopHeater d0).bgt.defaultHorizon = d0.bgt.defaultHorizon ∧ (stopHeater d0).bgt.last = d0.bgt.last ∧
    (stopHeater d0).bgt.outlet = d0.bgt.outlet ∧ (stopHeater d0).cmp = d0.cmp ∧ (stopHeater d0).lgt = d0.lgt ∧
    (stopHeater d0).rtm = d0.rtm ∧ (stopHeater d0).npl = d0.npl ∧ (stopHeater d0).lnk.receiver = d0.lnk.receiver ∧
    (stopHeater d0).lnk.lastByte = d0.lnk.lastByte ∧ (stopHeater d0).lnk.queue = d0.lnk.queue ∧ (stopHeater d0).lnk.out = d0.lnk.out ∧
    (stopHeater d0).lnk.tx = d0.lnk.tx ∧ (stopHeater d0).lnk.sendEnd = d0.lnk.sendEnd ∧ (stopHeater d0).lnk.awake = d0.lnk.awake ∧
    (stopHeater d0).lnk.idle = d0.lnk.idle ∧ (stopHeater d0).lnk.lastFrame = d0.lnk.lastFrame ∧
    (stopHeater d0).lnk.enables = d0.lnk.enables ∧ (stopHeater d0).lnk.idleTime = d0.lnk.idleTime ∧
    (stopHeater d0).lnk.resetKind = d0.lnk.resetKind ∧ (stopHeater d0).lnk.resetUptime = d0.lnk.resetUptime ∧
    (stopHeater d0).sched = d0.sched := by
  unfold stopHeater
  (try simp)
  all_goals ((repeat' split) <;> (try simp))
  all_goals ((repeat' split) <;> simp_all)

@[simp] theorem heaterFuelLow_frame (d : Device) :
    (heaterFuelLow d).pins = d.pins ∧ (heaterFuelLow d).factory = d.factory ∧ (heaterFuelLow d).sns = d.sns ∧
    (heaterFuelLow d).vbl = d.vbl ∧ (heaterFuelLow d).chg = d.chg ∧ (heaterFuelLow d).bgt.horizonSource = d.bgt.horizonSource ∧
    (heaterFuelLow d).bgt.defaultHorizon = d.bgt.defaultHorizon ∧ (heaterFuelLow d).bgt.last = d.bgt.last ∧
    (heaterFuelLow d).bgt.outlet = d.bgt.outlet ∧ (heaterFuelLow d).cmp = d.cmp ∧ (heaterFuelLow d).lgt = d.lgt ∧
    (heaterFuelLow d).rtm = d.rtm ∧ (heaterFuelLow d).npl = d.npl ∧ (heaterFuelLow d).lnk.receiver = d.lnk.receiver ∧
    (heaterFuelLow d).lnk.lastByte = d.lnk.lastByte ∧ (heaterFuelLow d).lnk.queue = d.lnk.queue ∧
    (heaterFuelLow d).lnk.out = d.lnk.out ∧ (heaterFuelLow d).lnk.tx = d.lnk.tx ∧ (heaterFuelLow d).lnk.sendEnd = d.lnk.sendEnd ∧
    (heaterFuelLow d).lnk.awake = d.lnk.awake ∧ (heaterFuelLow d).lnk.idle = d.lnk.idle ∧
    (heaterFuelLow d).lnk.lastFrame = d.lnk.lastFrame ∧ (heaterFuelLow d).lnk.enables = d.lnk.enables ∧
    (heaterFuelLow d).lnk.idleTime = d.lnk.idleTime ∧ (heaterFuelLow d).lnk.resetKind = d.lnk.resetKind ∧
    (heaterFuelLow d).lnk.resetUptime = d.lnk.resetUptime ∧ (heaterFuelLow d).sched = d.sched := by
  unfold heaterFuelLow
  (try simp)
  all_goals ((repeat' split) <;> (try simp))
  all_goals ((repeat' split) <;> simp_all)

@[simp] theorem panelPress_frame (d : Device) :
    (panelPress d).pins = d.pins ∧ (panelPress d).factory = d.factory ∧ (panelPress d).sns = d.sns ∧ (panelPress d).vbl = d.vbl ∧
    (panelPress d).chg = d.chg ∧ (panelPress d).bgt.horizonSource = d.bgt.horizonSource ∧
    (panelPress d).bgt.defaultHorizon = d.bgt.defaultHorizon ∧ (panelPress d).bgt.last = d.bgt.last ∧
    (panelPress d).bgt.outlet = d.bgt.outlet ∧ (panelPress d).cmp = d.cmp ∧ (panelPress d).lgt = d.lgt ∧ (panelPress d).rtm = d.rtm ∧
    (panelPress d).npl = d.npl ∧ (panelPress d).lnk.receiver = d.lnk.receiver ∧ (panelPress d).lnk.lastByte = d.lnk.lastByte ∧
    (panelPress d).lnk.queue = d.lnk.queue ∧ (panelPress d).lnk.out = d.lnk.out ∧ (panelPress d).lnk.tx = d.lnk.tx ∧
    (panelPress d).lnk.sendEnd = d.lnk.sendEnd ∧ (panelPress d).lnk.awake = d.lnk.awake ∧ (panelPress d).lnk.idle = d.lnk.idle ∧
    (panelPress d).lnk.lastFrame = d.lnk.lastFrame ∧ (panelPress d).lnk.enables = d.lnk.enables ∧
    (panelPress d).lnk.idleTime = d.lnk.idleTime ∧ (panelPress d).lnk.resetKind = d.lnk.resetKind ∧
    (panelPress d).lnk.resetUptime = d.lnk.resetUptime ∧ (panelPress d).sched = d.sched := by
  unfold panelPress
  have h0 := startHeater_frame .panel d.htr.lastSetpoint d
  (repeat' split) <;> simp_all

@[simp] theorem runUntilTest_frame (d : Device) :
    (runUntilTest d).pins = d.pins ∧ (runUntilTest d).factory = d.factory ∧ (runUntilTest d).sns = d.sns ∧
    (runUntilTest d).vbl = d.vbl ∧ (runUntilTest d).chg = d.chg ∧ (runUntilTest d).bgt.horizonSource = d.bgt.horizonSource ∧
    (runUntilTest d).bgt.defaultHorizon = d.bgt.defaultHorizon ∧ (runUntilTest d).bgt.last = d.bgt.last ∧
    (runUntilTest d).bgt.outlet = d.bgt.outlet ∧ (runUntilTest d).cmp = d.cmp ∧ (runUntilTest d).lgt = d.lgt ∧
    (runUntilTest d).rtm = d.rtm ∧ (runUntilTest d).npl = d.npl ∧ (runUntilTest d).lnk.receiver = d.lnk.receiver ∧
    (runUntilTest d).lnk.lastByte = d.lnk.lastByte ∧ (runUntilTest d).lnk.queue = d.lnk.queue ∧ (runUntilTest d).lnk.out = d.lnk.out ∧
    (runUntilTest d).lnk.tx = d.lnk.tx ∧ (runUntilTest d).lnk.sendEnd = d.lnk.sendEnd ∧ (runUntilTest d).lnk.awake = d.lnk.awake ∧
    (runUntilTest d).lnk.idle = d.lnk.idle ∧ (runUntilTest d).lnk.lastFrame = d.lnk.lastFrame ∧
    (runUntilTest d).lnk.enables = d.lnk.enables ∧ (runUntilTest d).lnk.idleTime = d.lnk.idleTime ∧
    (runUntilTest d).lnk.resetKind = d.lnk.resetKind ∧ (runUntilTest d).lnk.resetUptime = d.lnk.resetUptime ∧
    (runUntilTest d).sched = d.sched := by
  unfold runUntilTest
  (try simp)
  all_goals ((repeat' split) <;> (try simp))
  all_goals ((repeat' split) <;> simp_all)

@[simp] theorem heaterGranted_frame (d : Device) :
    (heaterGranted d).pins = d.pins ∧ (heaterGranted d).factory = d.factory ∧ (heaterGranted d).sns = d.sns ∧
    (heaterGranted d).vbl = d.vbl ∧ (heaterGranted d).chg = d.chg ∧ (heaterGranted d).bgt.horizonSource = d.bgt.horizonSource ∧
    (heaterGranted d).bgt.defaultHorizon = d.bgt.defaultHorizon ∧ (heaterGranted d).bgt.last = d.bgt.last ∧
    (heaterGranted d).bgt.outlet = d.bgt.outlet ∧ (heaterGranted d).cmp = d.cmp ∧ (heaterGranted d).lgt = d.lgt ∧
    (heaterGranted d).rtm = d.rtm ∧ (heaterGranted d).npl = d.npl ∧ (heaterGranted d).lnk.receiver = d.lnk.receiver ∧
    (heaterGranted d).lnk.lastByte = d.lnk.lastByte ∧ (heaterGranted d).lnk.queue = d.lnk.queue ∧
    (heaterGranted d).lnk.out = d.lnk.out ∧ (heaterGranted d).lnk.tx = d.lnk.tx ∧ (heaterGranted d).lnk.sendEnd = d.lnk.sendEnd ∧
    (heaterGranted d).lnk.awake = d.lnk.awake ∧ (heaterGranted d).lnk.idle = d.lnk.idle ∧
    (heaterGranted d).lnk.lastFrame = d.lnk.lastFrame ∧ (heaterGranted d).lnk.enables = d.lnk.enables ∧
    (heaterGranted d).lnk.idleTime = d.lnk.idleTime ∧ (heaterGranted d).lnk.resetKind = d.lnk.resetKind ∧
    (heaterGranted d).lnk.resetUptime = d.lnk.resetUptime ∧ (heaterGranted d).sched = d.sched := by
  unfold heaterGranted
  (try simp)
  all_goals ((repeat' split) <;> (try simp))
  all_goals ((repeat' split) <;> simp_all)

@[simp] theorem heaterDenied_frame (d : Device) :
    (heaterDenied d).pins = d.pins ∧ (heaterDenied d).factory = d.factory ∧ (heaterDenied d).sns = d.sns ∧
    (heaterDenied d).vbl = d.vbl ∧ (heaterDenied d).chg = d.chg ∧ (heaterDenied d).bgt.horizonSource = d.bgt.horizonSource ∧
    (heaterDenied d).bgt.defaultHorizon = d.bgt.defaultHorizon ∧ (heaterDenied d).bgt.last = d.bgt.last ∧
    (heaterDenied d).bgt.outlet = d.bgt.outlet ∧ (heaterDenied d).cmp = d.cmp ∧ (heaterDenied d).lgt = d.lgt ∧
    (heaterDenied d).rtm = d.rtm ∧ (heaterDenied d).npl = d.npl ∧ (heaterDenied d).lnk.receiver = d.lnk.receiver ∧
    (heaterDenied d).lnk.lastByte = d.lnk.lastByte ∧ (heaterDenied d).lnk.queue = d.lnk.queue ∧ (heaterDenied d).lnk.out = d.lnk.out ∧
    (heaterDenied d).lnk.tx = d.lnk.tx ∧ (heaterDenied d).lnk.sendEnd = d.lnk.sendEnd ∧ (heaterDenied d).lnk.awake = d.lnk.awake ∧
    (heaterDenied d).lnk.idle = d.lnk.idle ∧ (heaterDenied d).lnk.lastFrame = d.lnk.lastFrame ∧
    (heaterDenied d).lnk.enables = d.lnk.enables ∧ (heaterDenied d).lnk.idleTime = d.lnk.idleTime ∧
    (heaterDenied d).lnk.resetKind = d.lnk.resetKind ∧ (heaterDenied d).lnk.resetUptime = d.lnk.resetUptime ∧
    (heaterDenied d).sched = d.sched := by
  unfold heaterDenied
  (try simp)
  all_goals ((repeat' split) <;> (try simp))
  all_goals ((repeat' split) <;> simp_all)

@[simp] theorem attemptFails_frame (d : Device) :
    (attemptFails d).pins = d.pins ∧ (attemptFails d).factory = d.factory ∧ (attemptFails d).sns = d.sns ∧
    (attemptFails d).vbl = d.vbl ∧ (attemptFails d).chg = d.chg ∧ (attemptFails d).bgt.horizonSource = d.bgt.horizonSource ∧
    (attemptFails d).bgt.defaultHorizon = d.bgt.defaultHorizon ∧ (attemptFails d).bgt.last = d.bgt.last ∧
    (attemptFails d).bgt.outlet = d.bgt.outlet ∧ (attemptFails d).cmp = d.cmp ∧ (attemptFails d).lgt = d.lgt ∧
    (attemptFails d).rtm = d.rtm ∧ (attemptFails d).npl = d.npl ∧ (attemptFails d).lnk.receiver = d.lnk.receiver ∧
    (attemptFails d).lnk.lastByte = d.lnk.lastByte ∧ (attemptFails d).lnk.queue = d.lnk.queue ∧ (attemptFails d).lnk.out = d.lnk.out ∧
    (attemptFails d).lnk.tx = d.lnk.tx ∧ (attemptFails d).lnk.sendEnd = d.lnk.sendEnd ∧ (attemptFails d).lnk.awake = d.lnk.awake ∧
    (attemptFails d).lnk.idle = d.lnk.idle ∧ (attemptFails d).lnk.lastFrame = d.lnk.lastFrame ∧
    (attemptFails d).lnk.enables = d.lnk.enables ∧ (attemptFails d).lnk.idleTime = d.lnk.idleTime ∧
    (attemptFails d).lnk.resetKind = d.lnk.resetKind ∧ (attemptFails d).lnk.resetUptime = d.lnk.resetUptime ∧
    (attemptFails d).sched = d.sched := by
  unfold attemptFails
  (try simp)
  all_goals ((repeat' split) <;> (try simp))
  all_goals ((repeat' split) <;> simp_all)

@[simp] theorem heaterRevoked_frame (d : Device) :
    (heaterRevoked d).pins = d.pins ∧ (heaterRevoked d).factory = d.factory ∧ (heaterRevoked d).sns = d.sns ∧
    (heaterRevoked d).vbl = d.vbl ∧ (heaterRevoked d).chg = d.chg ∧ (heaterRevoked d).bgt.horizonSource = d.bgt.horizonSource ∧
    (heaterRevoked d).bgt.defaultHorizon = d.bgt.defaultHorizon ∧ (heaterRevoked d).bgt.last = d.bgt.last ∧
    (heaterRevoked d).bgt.outlet = d.bgt.outlet ∧ (heaterRevoked d).cmp = d.cmp ∧ (heaterRevoked d).lgt = d.lgt ∧
    (heaterRevoked d).rtm = d.rtm ∧ (heaterRevoked d).npl = d.npl ∧ (heaterRevoked d).lnk.receiver = d.lnk.receiver ∧
    (heaterRevoked d).lnk.lastByte = d.lnk.lastByte ∧ (heaterRevoked d).lnk.queue = d.lnk.queue ∧
    (heaterRevoked d).lnk.out = d.lnk.out ∧ (heaterRevoked d).lnk.tx = d.lnk.tx ∧ (heaterRevoked d).lnk.sendEnd = d.lnk.sendEnd ∧
    (heaterRevoked d).lnk.awake = d.lnk.awake ∧ (heaterRevoked d).lnk.idle = d.lnk.idle ∧
    (heaterRevoked d).lnk.lastFrame = d.lnk.lastFrame ∧ (heaterRevoked d).lnk.enables = d.lnk.enables ∧
    (heaterRevoked d).lnk.idleTime = d.lnk.idleTime ∧ (heaterRevoked d).lnk.resetKind = d.lnk.resetKind ∧
    (heaterRevoked d).lnk.resetUptime = d.lnk.resetUptime ∧ (heaterRevoked d).sched = d.sched := by
  unfold heaterRevoked
  (try simp)
  all_goals ((repeat' split) <;> (try simp))
  all_goals ((repeat' split) <;> simp_all)

@[simp] theorem waitExpiry_frame (d : Device) :
    (waitExpiry d).pins = d.pins ∧ (waitExpiry d).factory = d.factory ∧ (waitExpiry d).sns = d.sns ∧ (waitExpiry d).vbl = d.vbl ∧
    (waitExpiry d).chg = d.chg ∧ (waitExpiry d).bgt.horizonSource = d.bgt.horizonSource ∧
    (waitExpiry d).bgt.defaultHorizon = d.bgt.defaultHorizon ∧ (waitExpiry d).bgt.last = d.bgt.last ∧
    (waitExpiry d).bgt.outlet = d.bgt.outlet ∧ (waitExpiry d).cmp = d.cmp ∧ (waitExpiry d).lgt = d.lgt ∧ (waitExpiry d).rtm = d.rtm ∧
    (waitExpiry d).npl = d.npl ∧ (waitExpiry d).lnk.receiver = d.lnk.receiver ∧ (waitExpiry d).lnk.lastByte = d.lnk.lastByte ∧
    (waitExpiry d).lnk.queue = d.lnk.queue ∧ (waitExpiry d).lnk.out = d.lnk.out ∧ (waitExpiry d).lnk.tx = d.lnk.tx ∧
    (waitExpiry d).lnk.sendEnd = d.lnk.sendEnd ∧ (waitExpiry d).lnk.awake = d.lnk.awake ∧ (waitExpiry d).lnk.idle = d.lnk.idle ∧
    (waitExpiry d).lnk.lastFrame = d.lnk.lastFrame ∧ (waitExpiry d).lnk.enables = d.lnk.enables ∧
    (waitExpiry d).lnk.idleTime = d.lnk.idleTime ∧ (waitExpiry d).lnk.resetKind = d.lnk.resetKind ∧
    (waitExpiry d).lnk.resetUptime = d.lnk.resetUptime ∧ (waitExpiry d).sched = d.sched := by
  unfold waitExpiry
  (try simp)
  all_goals ((repeat' split) <;> (try simp))
  all_goals ((repeat' split) <;> simp_all)

@[simp] theorem glowExpiry_frame (d : Device) :
    (glowExpiry d).pins = d.pins ∧ (glowExpiry d).factory = d.factory ∧ (glowExpiry d).sns = d.sns ∧ (glowExpiry d).vbl = d.vbl ∧
    (glowExpiry d).chg = d.chg ∧ (glowExpiry d).bgt.horizonSource = d.bgt.horizonSource ∧
    (glowExpiry d).bgt.defaultHorizon = d.bgt.defaultHorizon ∧ (glowExpiry d).bgt.last = d.bgt.last ∧
    (glowExpiry d).bgt.outlet = d.bgt.outlet ∧ (glowExpiry d).cmp = d.cmp ∧ (glowExpiry d).lgt = d.lgt ∧ (glowExpiry d).rtm = d.rtm ∧
    (glowExpiry d).npl = d.npl ∧ (glowExpiry d).lnk.receiver = d.lnk.receiver ∧ (glowExpiry d).lnk.lastByte = d.lnk.lastByte ∧
    (glowExpiry d).lnk.queue = d.lnk.queue ∧ (glowExpiry d).lnk.out = d.lnk.out ∧ (glowExpiry d).lnk.tx = d.lnk.tx ∧
    (glowExpiry d).lnk.sendEnd = d.lnk.sendEnd ∧ (glowExpiry d).lnk.awake = d.lnk.awake ∧ (glowExpiry d).lnk.idle = d.lnk.idle ∧
    (glowExpiry d).lnk.lastFrame = d.lnk.lastFrame ∧ (glowExpiry d).lnk.enables = d.lnk.enables ∧
    (glowExpiry d).lnk.idleTime = d.lnk.idleTime ∧ (glowExpiry d).lnk.resetKind = d.lnk.resetKind ∧
    (glowExpiry d).lnk.resetUptime = d.lnk.resetUptime ∧ (glowExpiry d).sched = d.sched := by
  unfold glowExpiry
  (try simp)
  all_goals ((repeat' split) <;> (try simp))
  all_goals ((repeat' split) <;> simp_all)

@[simp] theorem windowExpiry_frame (d : Device) :
    (windowExpiry d).pins = d.pins ∧ (windowExpiry d).factory = d.factory ∧ (windowExpiry d).sns = d.sns ∧
    (windowExpiry d).vbl = d.vbl ∧ (windowExpiry d).chg = d.chg ∧ (windowExpiry d).bgt.horizonSource = d.bgt.horizonSource ∧
    (windowExpiry d).bgt.defaultHorizon = d.bgt.defaultHorizon ∧ (windowExpiry d).bgt.last = d.bgt.last ∧
    (windowExpiry d).bgt.outlet = d.bgt.outlet ∧ (windowExpiry d).cmp = d.cmp ∧ (windowExpiry d).lgt = d.lgt ∧
    (windowExpiry d).rtm = d.rtm ∧ (windowExpiry d).npl = d.npl ∧ (windowExpiry d).lnk.receiver = d.lnk.receiver ∧
    (windowExpiry d).lnk.lastByte = d.lnk.lastByte ∧ (windowExpiry d).lnk.queue = d.lnk.queue ∧ (windowExpiry d).lnk.out = d.lnk.out ∧
    (windowExpiry d).lnk.tx = d.lnk.tx ∧ (windowExpiry d).lnk.sendEnd = d.lnk.sendEnd ∧ (windowExpiry d).lnk.awake = d.lnk.awake ∧
    (windowExpiry d).lnk.idle = d.lnk.idle ∧ (windowExpiry d).lnk.lastFrame = d.lnk.lastFrame ∧
    (windowExpiry d).lnk.enables = d.lnk.enables ∧ (windowExpiry d).lnk.idleTime = d.lnk.idleTime ∧
    (windowExpiry d).lnk.resetKind = d.lnk.resetKind ∧ (windowExpiry d).lnk.resetUptime = d.lnk.resetUptime ∧
    (windowExpiry d).sched = d.sched := by
  unfold windowExpiry
  (try simp)
  all_goals ((repeat' split) <;> (try simp))
  all_goals ((repeat' split) <;> simp_all)

@[simp] theorem purgeExpiry_frame (d : Device) :
    (purgeExpiry d).pins = d.pins ∧ (purgeExpiry d).factory = d.factory ∧ (purgeExpiry d).sns = d.sns ∧ (purgeExpiry d).vbl = d.vbl ∧
    (purgeExpiry d).chg = d.chg ∧ (purgeExpiry d).bgt.horizonSource = d.bgt.horizonSource ∧
    (purgeExpiry d).bgt.defaultHorizon = d.bgt.defaultHorizon ∧ (purgeExpiry d).bgt.last = d.bgt.last ∧
    (purgeExpiry d).bgt.outlet = d.bgt.outlet ∧ (purgeExpiry d).cmp = d.cmp ∧ (purgeExpiry d).lgt.channels = d.lgt.channels ∧
    (purgeExpiry d).lgt.chSettings = d.lgt.chSettings ∧ (purgeExpiry d).lgt.capStep = d.lgt.capStep ∧
    (purgeExpiry d).lgt.written = d.lgt.written ∧ (purgeExpiry d).lgt.scenes = d.lgt.scenes ∧
    (purgeExpiry d).lgt.settings = d.lgt.settings ∧ (purgeExpiry d).lgt.courtesyTimer = d.lgt.courtesyTimer ∧
    (purgeExpiry d).lgt.ch7Applied = d.lgt.ch7Applied ∧ (purgeExpiry d).rtm = d.rtm ∧ (purgeExpiry d).npl.state = d.npl.state ∧
    (purgeExpiry d).npl.source = d.npl.source ∧ (purgeExpiry d).npl.wake = d.npl.wake ∧
    (purgeExpiry d).npl.setpoint = d.npl.setpoint ∧ (purgeExpiry d).npl.lead = d.npl.lead ∧
    (purgeExpiry d).npl.wakeLights = d.npl.wakeLights ∧ (purgeExpiry d).npl.quiet = d.npl.quiet ∧
    (purgeExpiry d).npl.hostQuiet = d.npl.hostQuiet ∧ (purgeExpiry d).npl.lastClass = d.npl.lastClass ∧
    (purgeExpiry d).npl.lastProjection = d.npl.lastProjection ∧ (purgeExpiry d).npl.horizonHanded = d.npl.horizonHanded ∧
    (purgeExpiry d).npl.result = d.npl.result ∧ (purgeExpiry d).npl.causes = d.npl.causes ∧
    (purgeExpiry d).lnk.receiver = d.lnk.receiver ∧ (purgeExpiry d).lnk.lastByte = d.lnk.lastByte ∧
    (purgeExpiry d).lnk.queue = d.lnk.queue ∧ (purgeExpiry d).lnk.out = d.lnk.out ∧ (purgeExpiry d).lnk.tx = d.lnk.tx ∧
    (purgeExpiry d).lnk.sendEnd = d.lnk.sendEnd ∧ (purgeExpiry d).lnk.awake = d.lnk.awake ∧ (purgeExpiry d).lnk.idle = d.lnk.idle ∧
    (purgeExpiry d).lnk.lastFrame = d.lnk.lastFrame ∧ (purgeExpiry d).lnk.enables = d.lnk.enables ∧
    (purgeExpiry d).lnk.idleTime = d.lnk.idleTime ∧ (purgeExpiry d).lnk.resetKind = d.lnk.resetKind ∧
    (purgeExpiry d).lnk.resetUptime = d.lnk.resetUptime ∧ (purgeExpiry d).sched = d.sched := by
  unfold purgeExpiry
  (try simp)
  all_goals ((repeat' split) <;> (try simp))
  all_goals ((repeat' split) <;> simp_all)

@[simp] theorem pulseStart_frame (d0 : Device) :
    (pulseStart d0).pins = d0.pins ∧ (pulseStart d0).factory = d0.factory ∧ (pulseStart d0).sns.uptime = d0.sns.uptime ∧
    (pulseStart d0).sns.clockSet = d0.sns.clockSet ∧ (pulseStart d0).sns.clockOffset = d0.sns.clockOffset ∧
    (pulseStart d0).sns.analog = d0.sns.analog ∧ (pulseStart d0).sns.tables = d0.sns.tables ∧
    (pulseStart d0).sns.lines = d0.sns.lines ∧ (pulseStart d0).sns.dial = d0.sns.dial ∧ (pulseStart d0).sns.current = d0.sns.current ∧
    (pulseStart d0).vbl = d0.vbl ∧ (pulseStart d0).chg = d0.chg ∧ (pulseStart d0).bgt = d0.bgt ∧ (pulseStart d0).cmp = d0.cmp ∧
    (pulseStart d0).lgt = d0.lgt ∧ (pulseStart d0).rtm = d0.rtm ∧ (pulseStart d0).npl = d0.npl ∧ (pulseStart d0).lnk = d0.lnk ∧
    (pulseStart d0).sched = d0.sched := by
  unfold pulseStart
  (try simp)
  all_goals ((repeat' split) <;> (try simp))
  all_goals ((repeat' split) <;> simp_all)

@[simp] theorem pulseEnd_frame (d0 : Device) :
    (pulseEnd d0).pins = d0.pins ∧ (pulseEnd d0).factory = d0.factory ∧ (pulseEnd d0).sns.uptime = d0.sns.uptime ∧
    (pulseEnd d0).sns.clockSet = d0.sns.clockSet ∧ (pulseEnd d0).sns.clockOffset = d0.sns.clockOffset ∧
    (pulseEnd d0).sns.analog = d0.sns.analog ∧ (pulseEnd d0).sns.tables = d0.sns.tables ∧ (pulseEnd d0).sns.lines = d0.sns.lines ∧
    (pulseEnd d0).sns.dial = d0.sns.dial ∧ (pulseEnd d0).sns.current = d0.sns.current ∧ (pulseEnd d0).vbl = d0.vbl ∧
    (pulseEnd d0).chg = d0.chg ∧ (pulseEnd d0).bgt = d0.bgt ∧ (pulseEnd d0).cmp = d0.cmp ∧ (pulseEnd d0).lgt = d0.lgt ∧
    (pulseEnd d0).rtm = d0.rtm ∧ (pulseEnd d0).npl = d0.npl ∧ (pulseEnd d0).lnk = d0.lnk ∧ (pulseEnd d0).sched = d0.sched := by
  unfold pulseEnd
  (try simp)
  all_goals ((repeat' split) <;> (try simp))
  all_goals ((repeat' split) <;> simp_all)

@[simp] theorem rampStep_frame (d : Device) :
    (rampStep d).pins = d.pins ∧ (rampStep d).factory = d.factory ∧ (rampStep d).sns = d.sns ∧ (rampStep d).vbl = d.vbl ∧
    (rampStep d).chg = d.chg ∧ (rampStep d).bgt.horizonSource = d.bgt.horizonSource ∧
    (rampStep d).bgt.defaultHorizon = d.bgt.defaultHorizon ∧ (rampStep d).bgt.last = d.bgt.last ∧
    (rampStep d).bgt.outlet = d.bgt.outlet ∧ (rampStep d).cmp = d.cmp ∧ (rampStep d).lgt = d.lgt ∧ (rampStep d).rtm = d.rtm ∧
    (rampStep d).npl = d.npl ∧ (rampStep d).lnk.receiver = d.lnk.receiver ∧ (rampStep d).lnk.lastByte = d.lnk.lastByte ∧
    (rampStep d).lnk.queue = d.lnk.queue ∧ (rampStep d).lnk.out = d.lnk.out ∧ (rampStep d).lnk.tx = d.lnk.tx ∧
    (rampStep d).lnk.sendEnd = d.lnk.sendEnd ∧ (rampStep d).lnk.awake = d.lnk.awake ∧ (rampStep d).lnk.idle = d.lnk.idle ∧
    (rampStep d).lnk.lastFrame = d.lnk.lastFrame ∧ (rampStep d).lnk.enables = d.lnk.enables ∧
    (rampStep d).lnk.idleTime = d.lnk.idleTime ∧ (rampStep d).lnk.resetKind = d.lnk.resetKind ∧
    (rampStep d).lnk.resetUptime = d.lnk.resetUptime ∧ (rampStep d).sched = d.sched := by
  unfold rampStep
  (try simp)
  all_goals ((repeat' split) <;> (try simp))
  all_goals ((repeat' split) <;> simp_all)

@[simp] theorem dwellExpiry_frame (d : Device) :
    (dwellExpiry d).pins = d.pins ∧ (dwellExpiry d).factory = d.factory ∧ (dwellExpiry d).sns = d.sns ∧ (dwellExpiry d).vbl = d.vbl ∧
    (dwellExpiry d).chg = d.chg ∧ (dwellExpiry d).bgt.horizonSource = d.bgt.horizonSource ∧
    (dwellExpiry d).bgt.defaultHorizon = d.bgt.defaultHorizon ∧ (dwellExpiry d).bgt.last = d.bgt.last ∧
    (dwellExpiry d).bgt.outlet = d.bgt.outlet ∧ (dwellExpiry d).cmp = d.cmp ∧ (dwellExpiry d).lgt = d.lgt ∧
    (dwellExpiry d).rtm = d.rtm ∧ (dwellExpiry d).npl = d.npl ∧ (dwellExpiry d).lnk.receiver = d.lnk.receiver ∧
    (dwellExpiry d).lnk.lastByte = d.lnk.lastByte ∧ (dwellExpiry d).lnk.queue = d.lnk.queue ∧ (dwellExpiry d).lnk.out = d.lnk.out ∧
    (dwellExpiry d).lnk.tx = d.lnk.tx ∧ (dwellExpiry d).lnk.sendEnd = d.lnk.sendEnd ∧ (dwellExpiry d).lnk.awake = d.lnk.awake ∧
    (dwellExpiry d).lnk.idle = d.lnk.idle ∧ (dwellExpiry d).lnk.lastFrame = d.lnk.lastFrame ∧
    (dwellExpiry d).lnk.enables = d.lnk.enables ∧ (dwellExpiry d).lnk.idleTime = d.lnk.idleTime ∧
    (dwellExpiry d).lnk.resetKind = d.lnk.resetKind ∧ (dwellExpiry d).lnk.resetUptime = d.lnk.resetUptime ∧
    (dwellExpiry d).sched = d.sched := by
  unfold dwellExpiry
  (try simp)
  all_goals ((repeat' split) <;> (try simp))
  all_goals ((repeat' split) <;> simp_all)

@[simp] theorem pauseExpiry_frame (d : Device) :
    (pauseExpiry d).pins = d.pins ∧ (pauseExpiry d).factory = d.factory ∧ (pauseExpiry d).sns = d.sns ∧ (pauseExpiry d).vbl = d.vbl ∧
    (pauseExpiry d).chg = d.chg ∧ (pauseExpiry d).bgt.horizonSource = d.bgt.horizonSource ∧
    (pauseExpiry d).bgt.defaultHorizon = d.bgt.defaultHorizon ∧ (pauseExpiry d).bgt.last = d.bgt.last ∧
    (pauseExpiry d).bgt.outlet = d.bgt.outlet ∧ (pauseExpiry d).cmp = d.cmp ∧ (pauseExpiry d).lgt = d.lgt ∧
    (pauseExpiry d).rtm = d.rtm ∧ (pauseExpiry d).npl = d.npl ∧ (pauseExpiry d).lnk.receiver = d.lnk.receiver ∧
    (pauseExpiry d).lnk.lastByte = d.lnk.lastByte ∧ (pauseExpiry d).lnk.queue = d.lnk.queue ∧ (pauseExpiry d).lnk.out = d.lnk.out ∧
    (pauseExpiry d).lnk.tx = d.lnk.tx ∧ (pauseExpiry d).lnk.sendEnd = d.lnk.sendEnd ∧ (pauseExpiry d).lnk.awake = d.lnk.awake ∧
    (pauseExpiry d).lnk.idle = d.lnk.idle ∧ (pauseExpiry d).lnk.lastFrame = d.lnk.lastFrame ∧
    (pauseExpiry d).lnk.enables = d.lnk.enables ∧ (pauseExpiry d).lnk.idleTime = d.lnk.idleTime ∧
    (pauseExpiry d).lnk.resetKind = d.lnk.resetKind ∧ (pauseExpiry d).lnk.resetUptime = d.lnk.resetUptime ∧
    (pauseExpiry d).sched = d.sched := by
  unfold pauseExpiry
  (try simp)
  all_goals ((repeat' split) <;> (try simp))
  all_goals ((repeat' split) <;> simp_all)

@[simp] theorem markLockout_frame (d : Device) :
    (markLockout d).pins = d.pins ∧ (markLockout d).factory = d.factory ∧ (markLockout d).sns = d.sns ∧ (markLockout d).vbl = d.vbl ∧
    (markLockout d).chg = d.chg ∧ (markLockout d).bgt = d.bgt ∧ (markLockout d).cmp = d.cmp ∧ (markLockout d).lgt = d.lgt ∧
    (markLockout d).rtm = d.rtm ∧ (markLockout d).npl = d.npl ∧ (markLockout d).lnk = d.lnk ∧ (markLockout d).sched = d.sched := by
  unfold markLockout
  (try simp)
  all_goals ((repeat' split) <;> (try simp))
  all_goals ((repeat' split) <;> simp_all)

@[simp] theorem softOverheat_frame (d : Device) :
    (softOverheat d).pins = d.pins ∧ (softOverheat d).factory = d.factory ∧ (softOverheat d).sns = d.sns ∧
    (softOverheat d).vbl = d.vbl ∧ (softOverheat d).chg = d.chg ∧ (softOverheat d).bgt.horizonSource = d.bgt.horizonSource ∧
    (softOverheat d).bgt.defaultHorizon = d.bgt.defaultHorizon ∧ (softOverheat d).bgt.last = d.bgt.last ∧
    (softOverheat d).bgt.outlet = d.bgt.outlet ∧ (softOverheat d).cmp = d.cmp ∧ (softOverheat d).lgt.channels = d.lgt.channels ∧
    (softOverheat d).lgt.chSettings = d.lgt.chSettings ∧ (softOverheat d).lgt.capStep = d.lgt.capStep ∧
    (softOverheat d).lgt.written = d.lgt.written ∧ (softOverheat d).lgt.scenes = d.lgt.scenes ∧
    (softOverheat d).lgt.settings = d.lgt.settings ∧ (softOverheat d).lgt.courtesyTimer = d.lgt.courtesyTimer ∧
    (softOverheat d).lgt.ch7Applied = d.lgt.ch7Applied ∧ (softOverheat d).rtm = d.rtm ∧ (softOverheat d).npl.state = d.npl.state ∧
    (softOverheat d).npl.source = d.npl.source ∧ (softOverheat d).npl.wake = d.npl.wake ∧
    (softOverheat d).npl.setpoint = d.npl.setpoint ∧ (softOverheat d).npl.lead = d.npl.lead ∧
    (softOverheat d).npl.wakeLights = d.npl.wakeLights ∧ (softOverheat d).npl.quiet = d.npl.quiet ∧
    (softOverheat d).npl.hostQuiet = d.npl.hostQuiet ∧ (softOverheat d).npl.lastClass = d.npl.lastClass ∧
    (softOverheat d).npl.lastProjection = d.npl.lastProjection ∧ (softOverheat d).npl.horizonHanded = d.npl.horizonHanded ∧
    (softOverheat d).npl.result = d.npl.result ∧ (softOverheat d).npl.causes = d.npl.causes ∧
    (softOverheat d).lnk.receiver = d.lnk.receiver ∧ (softOverheat d).lnk.lastByte = d.lnk.lastByte ∧
    (softOverheat d).lnk.queue = d.lnk.queue ∧ (softOverheat d).lnk.out = d.lnk.out ∧ (softOverheat d).lnk.tx = d.lnk.tx ∧
    (softOverheat d).lnk.sendEnd = d.lnk.sendEnd ∧ (softOverheat d).lnk.awake = d.lnk.awake ∧ (softOverheat d).lnk.idle = d.lnk.idle ∧
    (softOverheat d).lnk.lastFrame = d.lnk.lastFrame ∧ (softOverheat d).lnk.enables = d.lnk.enables ∧
    (softOverheat d).lnk.idleTime = d.lnk.idleTime ∧ (softOverheat d).lnk.resetKind = d.lnk.resetKind ∧
    (softOverheat d).lnk.resetUptime = d.lnk.resetUptime ∧ (softOverheat d).sched = d.sched := by
  unfold softOverheat
  (try simp)
  all_goals ((repeat' split) <;> (try simp))
  all_goals ((repeat' split) <;> simp_all)

@[simp] theorem exchangerFails_frame (d : Device) :
    (exchangerFails d).pins = d.pins ∧ (exchangerFails d).factory = d.factory ∧ (exchangerFails d).sns = d.sns ∧
    (exchangerFails d).vbl = d.vbl ∧ (exchangerFails d).chg = d.chg ∧ (exchangerFails d).bgt.horizonSource = d.bgt.horizonSource ∧
    (exchangerFails d).bgt.defaultHorizon = d.bgt.defaultHorizon ∧ (exchangerFails d).bgt.last = d.bgt.last ∧
    (exchangerFails d).bgt.outlet = d.bgt.outlet ∧ (exchangerFails d).cmp = d.cmp ∧ (exchangerFails d).lgt.channels = d.lgt.channels ∧
    (exchangerFails d).lgt.chSettings = d.lgt.chSettings ∧ (exchangerFails d).lgt.capStep = d.lgt.capStep ∧
    (exchangerFails d).lgt.written = d.lgt.written ∧ (exchangerFails d).lgt.scenes = d.lgt.scenes ∧
    (exchangerFails d).lgt.settings = d.lgt.settings ∧ (exchangerFails d).lgt.courtesyTimer = d.lgt.courtesyTimer ∧
    (exchangerFails d).lgt.ch7Applied = d.lgt.ch7Applied ∧ (exchangerFails d).rtm = d.rtm ∧
    (exchangerFails d).npl.state = d.npl.state ∧ (exchangerFails d).npl.source = d.npl.source ∧
    (exchangerFails d).npl.wake = d.npl.wake ∧ (exchangerFails d).npl.setpoint = d.npl.setpoint ∧
    (exchangerFails d).npl.lead = d.npl.lead ∧ (exchangerFails d).npl.wakeLights = d.npl.wakeLights ∧
    (exchangerFails d).npl.quiet = d.npl.quiet ∧ (exchangerFails d).npl.hostQuiet = d.npl.hostQuiet ∧
    (exchangerFails d).npl.lastClass = d.npl.lastClass ∧ (exchangerFails d).npl.lastProjection = d.npl.lastProjection ∧
    (exchangerFails d).npl.horizonHanded = d.npl.horizonHanded ∧ (exchangerFails d).npl.result = d.npl.result ∧
    (exchangerFails d).npl.causes = d.npl.causes ∧ (exchangerFails d).lnk.receiver = d.lnk.receiver ∧
    (exchangerFails d).lnk.lastByte = d.lnk.lastByte ∧ (exchangerFails d).lnk.queue = d.lnk.queue ∧
    (exchangerFails d).lnk.out = d.lnk.out ∧ (exchangerFails d).lnk.tx = d.lnk.tx ∧ (exchangerFails d).lnk.sendEnd = d.lnk.sendEnd ∧
    (exchangerFails d).lnk.awake = d.lnk.awake ∧ (exchangerFails d).lnk.idle = d.lnk.idle ∧
    (exchangerFails d).lnk.lastFrame = d.lnk.lastFrame ∧ (exchangerFails d).lnk.enables = d.lnk.enables ∧
    (exchangerFails d).lnk.idleTime = d.lnk.idleTime ∧ (exchangerFails d).lnk.resetKind = d.lnk.resetKind ∧
    (exchangerFails d).lnk.resetUptime = d.lnk.resetUptime ∧ (exchangerFails d).sched = d.sched := by
  unfold exchangerFails
  (try simp)
  all_goals ((repeat' split) <;> (try simp))
  all_goals ((repeat' split) <;> simp_all)

@[simp] theorem overheatTrip_frame (d0 : Device) :
    (overheatTrip d0).pins = d0.pins ∧ (overheatTrip d0).factory = d0.factory ∧ (overheatTrip d0).sns = d0.sns ∧
    (overheatTrip d0).vbl = d0.vbl ∧ (overheatTrip d0).chg = d0.chg ∧ (overheatTrip d0).bgt.horizonSource = d0.bgt.horizonSource ∧
    (overheatTrip d0).bgt.defaultHorizon = d0.bgt.defaultHorizon ∧ (overheatTrip d0).bgt.last = d0.bgt.last ∧
    (overheatTrip d0).bgt.outlet = d0.bgt.outlet ∧ (overheatTrip d0).cmp = d0.cmp ∧ (overheatTrip d0).lgt.channels = d0.lgt.channels ∧
    (overheatTrip d0).lgt.chSettings = d0.lgt.chSettings ∧ (overheatTrip d0).lgt.capStep = d0.lgt.capStep ∧
    (overheatTrip d0).lgt.written = d0.lgt.written ∧ (overheatTrip d0).lgt.scenes = d0.lgt.scenes ∧
    (overheatTrip d0).lgt.settings = d0.lgt.settings ∧ (overheatTrip d0).lgt.courtesyTimer = d0.lgt.courtesyTimer ∧
    (overheatTrip d0).lgt.ch7Applied = d0.lgt.ch7Applied ∧ (overheatTrip d0).rtm = d0.rtm ∧
    (overheatTrip d0).npl.state = d0.npl.state ∧ (overheatTrip d0).npl.source = d0.npl.source ∧
    (overheatTrip d0).npl.wake = d0.npl.wake ∧ (overheatTrip d0).npl.setpoint = d0.npl.setpoint ∧
    (overheatTrip d0).npl.lead = d0.npl.lead ∧ (overheatTrip d0).npl.wakeLights = d0.npl.wakeLights ∧
    (overheatTrip d0).npl.quiet = d0.npl.quiet ∧ (overheatTrip d0).npl.hostQuiet = d0.npl.hostQuiet ∧
    (overheatTrip d0).npl.lastClass = d0.npl.lastClass ∧ (overheatTrip d0).npl.lastProjection = d0.npl.lastProjection ∧
    (overheatTrip d0).npl.horizonHanded = d0.npl.horizonHanded ∧ (overheatTrip d0).npl.result = d0.npl.result ∧
    (overheatTrip d0).npl.causes = d0.npl.causes ∧ (overheatTrip d0).lnk.receiver = d0.lnk.receiver ∧
    (overheatTrip d0).lnk.lastByte = d0.lnk.lastByte ∧ (overheatTrip d0).lnk.queue = d0.lnk.queue ∧
    (overheatTrip d0).lnk.out = d0.lnk.out ∧ (overheatTrip d0).lnk.tx = d0.lnk.tx ∧ (overheatTrip d0).lnk.sendEnd = d0.lnk.sendEnd ∧
    (overheatTrip d0).lnk.awake = d0.lnk.awake ∧ (overheatTrip d0).lnk.idle = d0.lnk.idle ∧
    (overheatTrip d0).lnk.lastFrame = d0.lnk.lastFrame ∧ (overheatTrip d0).lnk.enables = d0.lnk.enables ∧
    (overheatTrip d0).lnk.idleTime = d0.lnk.idleTime ∧ (overheatTrip d0).lnk.resetKind = d0.lnk.resetKind ∧
    (overheatTrip d0).lnk.resetUptime = d0.lnk.resetUptime ∧ (overheatTrip d0).sched = d0.sched := by
  unfold overheatTrip
  (try simp)
  all_goals ((repeat' split) <;> (try simp))
  all_goals ((repeat' split) <;> simp_all)

@[simp] theorem blowerFault_frame (d : Device) :
    (blowerFault d).pins = d.pins ∧ (blowerFault d).factory = d.factory ∧ (blowerFault d).sns = d.sns ∧ (blowerFault d).vbl = d.vbl ∧
    (blowerFault d).chg = d.chg ∧ (blowerFault d).bgt.horizonSource = d.bgt.horizonSource ∧
    (blowerFault d).bgt.defaultHorizon = d.bgt.defaultHorizon ∧ (blowerFault d).bgt.last = d.bgt.last ∧
    (blowerFault d).bgt.outlet = d.bgt.outlet ∧ (blowerFault d).cmp = d.cmp ∧ (blowerFault d).lgt.channels = d.lgt.channels ∧
    (blowerFault d).lgt.chSettings = d.lgt.chSettings ∧ (blowerFault d).lgt.capStep = d.lgt.capStep ∧
    (blowerFault d).lgt.written = d.lgt.written ∧ (blowerFault d).lgt.scenes = d.lgt.scenes ∧
    (blowerFault d).lgt.settings = d.lgt.settings ∧ (blowerFault d).lgt.courtesyTimer = d.lgt.courtesyTimer ∧
    (blowerFault d).lgt.ch7Applied = d.lgt.ch7Applied ∧ (blowerFault d).rtm = d.rtm ∧ (blowerFault d).npl.state = d.npl.state ∧
    (blowerFault d).npl.source = d.npl.source ∧ (blowerFault d).npl.wake = d.npl.wake ∧
    (blowerFault d).npl.setpoint = d.npl.setpoint ∧ (blowerFault d).npl.lead = d.npl.lead ∧
    (blowerFault d).npl.wakeLights = d.npl.wakeLights ∧ (blowerFault d).npl.quiet = d.npl.quiet ∧
    (blowerFault d).npl.hostQuiet = d.npl.hostQuiet ∧ (blowerFault d).npl.lastClass = d.npl.lastClass ∧
    (blowerFault d).npl.lastProjection = d.npl.lastProjection ∧ (blowerFault d).npl.horizonHanded = d.npl.horizonHanded ∧
    (blowerFault d).npl.result = d.npl.result ∧ (blowerFault d).npl.causes = d.npl.causes ∧
    (blowerFault d).lnk.receiver = d.lnk.receiver ∧ (blowerFault d).lnk.lastByte = d.lnk.lastByte ∧
    (blowerFault d).lnk.queue = d.lnk.queue ∧ (blowerFault d).lnk.out = d.lnk.out ∧ (blowerFault d).lnk.tx = d.lnk.tx ∧
    (blowerFault d).lnk.sendEnd = d.lnk.sendEnd ∧ (blowerFault d).lnk.awake = d.lnk.awake ∧ (blowerFault d).lnk.idle = d.lnk.idle ∧
    (blowerFault d).lnk.lastFrame = d.lnk.lastFrame ∧ (blowerFault d).lnk.enables = d.lnk.enables ∧
    (blowerFault d).lnk.idleTime = d.lnk.idleTime ∧ (blowerFault d).lnk.resetKind = d.lnk.resetKind ∧
    (blowerFault d).lnk.resetUptime = d.lnk.resetUptime ∧ (blowerFault d).sched = d.sched := by
  unfold blowerFault
  (try simp)
  all_goals ((repeat' split) <;> (try simp))
  all_goals ((repeat' split) <;> simp_all)

@[simp] theorem tachPulse_frame (periodUs : Nat) (d : Device) :
    (tachPulse periodUs d).pins = d.pins ∧ (tachPulse periodUs d).factory = d.factory ∧ (tachPulse periodUs d).sns = d.sns ∧
    (tachPulse periodUs d).vbl = d.vbl ∧ (tachPulse periodUs d).chg = d.chg ∧ (tachPulse periodUs d).bgt = d.bgt ∧
    (tachPulse periodUs d).cmp = d.cmp ∧ (tachPulse periodUs d).lgt = d.lgt ∧ (tachPulse periodUs d).rtm = d.rtm ∧
    (tachPulse periodUs d).npl = d.npl ∧ (tachPulse periodUs d).lnk = d.lnk ∧ (tachPulse periodUs d).sched = d.sched := by
  unfold tachPulse
  (try simp)
  all_goals ((repeat' split) <;> (try simp))
  all_goals ((repeat' split) <;> simp_all)

@[simp] theorem speedWatch_frame (d : Device) :
    (speedWatch d).pins = d.pins ∧ (speedWatch d).factory = d.factory ∧ (speedWatch d).sns = d.sns ∧ (speedWatch d).vbl = d.vbl ∧
    (speedWatch d).chg = d.chg ∧ (speedWatch d).bgt = d.bgt ∧ (speedWatch d).cmp = d.cmp ∧ (speedWatch d).lgt = d.lgt ∧
    (speedWatch d).rtm = d.rtm ∧ (speedWatch d).npl = d.npl ∧ (speedWatch d).lnk = d.lnk ∧ (speedWatch d).sched = d.sched := by
  unfold speedWatch
  (try simp)
  all_goals ((repeat' split) <;> (try simp))
  all_goals ((repeat' split) <;> simp_all)

@[simp] theorem completeCooldown_frame (d : Device) :
    (completeCooldown d).pins = d.pins ∧ (completeCooldown d).factory = d.factory ∧ (completeCooldown d).sns = d.sns ∧
    (completeCooldown d).vbl = d.vbl ∧ (completeCooldown d).chg = d.chg ∧
    (completeCooldown d).bgt.horizonSource = d.bgt.horizonSource ∧ (completeCooldown d).bgt.defaultHorizon = d.bgt.defaultHorizon ∧
    (completeCooldown d).bgt.last = d.bgt.last ∧ (completeCooldown d).bgt.outlet = d.bgt.outlet ∧ (completeCooldown d).cmp = d.cmp ∧
    (completeCooldown d).lgt = d.lgt ∧ (completeCooldown d).rtm = d.rtm ∧ (completeCooldown d).npl = d.npl ∧
    (completeCooldown d).lnk.receiver = d.lnk.receiver ∧ (completeCooldown d).lnk.lastByte = d.lnk.lastByte ∧
    (completeCooldown d).lnk.queue = d.lnk.queue ∧ (completeCooldown d).lnk.out = d.lnk.out ∧ (completeCooldown d).lnk.tx = d.lnk.tx ∧
    (completeCooldown d).lnk.sendEnd = d.lnk.sendEnd ∧ (completeCooldown d).lnk.awake = d.lnk.awake ∧
    (completeCooldown d).lnk.idle = d.lnk.idle ∧ (completeCooldown d).lnk.lastFrame = d.lnk.lastFrame ∧
    (completeCooldown d).lnk.enables = d.lnk.enables ∧ (completeCooldown d).lnk.idleTime = d.lnk.idleTime ∧
    (completeCooldown d).lnk.resetKind = d.lnk.resetKind ∧ (completeCooldown d).lnk.resetUptime = d.lnk.resetUptime ∧
    (completeCooldown d).sched = d.sched := by
  unfold completeCooldown
  (try simp)
  all_goals ((repeat' split) <;> (try simp))
  all_goals ((repeat' split) <;> simp_all)

@[simp] theorem cooldownTest_frame (d : Device) :
    (cooldownTest d).pins = d.pins ∧ (cooldownTest d).factory = d.factory ∧ (cooldownTest d).sns = d.sns ∧
    (cooldownTest d).vbl = d.vbl ∧ (cooldownTest d).chg = d.chg ∧ (cooldownTest d).bgt.horizonSource = d.bgt.horizonSource ∧
    (cooldownTest d).bgt.defaultHorizon = d.bgt.defaultHorizon ∧ (cooldownTest d).bgt.last = d.bgt.last ∧
    (cooldownTest d).bgt.outlet = d.bgt.outlet ∧ (cooldownTest d).cmp = d.cmp ∧ (cooldownTest d).lgt = d.lgt ∧
    (cooldownTest d).rtm = d.rtm ∧ (cooldownTest d).npl = d.npl ∧ (cooldownTest d).lnk.receiver = d.lnk.receiver ∧
    (cooldownTest d).lnk.lastByte = d.lnk.lastByte ∧ (cooldownTest d).lnk.queue = d.lnk.queue ∧ (cooldownTest d).lnk.out = d.lnk.out ∧
    (cooldownTest d).lnk.tx = d.lnk.tx ∧ (cooldownTest d).lnk.sendEnd = d.lnk.sendEnd ∧ (cooldownTest d).lnk.awake = d.lnk.awake ∧
    (cooldownTest d).lnk.idle = d.lnk.idle ∧ (cooldownTest d).lnk.lastFrame = d.lnk.lastFrame ∧
    (cooldownTest d).lnk.enables = d.lnk.enables ∧ (cooldownTest d).lnk.idleTime = d.lnk.idleTime ∧
    (cooldownTest d).lnk.resetKind = d.lnk.resetKind ∧ (cooldownTest d).lnk.resetUptime = d.lnk.resetUptime ∧
    (cooldownTest d).sched = d.sched := by
  unfold cooldownTest
  (try simp)
  all_goals ((repeat' split) <;> (try simp))
  all_goals ((repeat' split) <;> simp_all)

@[simp] theorem cooldownTooLong_frame (d : Device) :
    (cooldownTooLong d).pins = d.pins ∧ (cooldownTooLong d).factory = d.factory ∧ (cooldownTooLong d).sns = d.sns ∧
    (cooldownTooLong d).vbl = d.vbl ∧ (cooldownTooLong d).chg = d.chg ∧ (cooldownTooLong d).bgt.horizonSource = d.bgt.horizonSource ∧
    (cooldownTooLong d).bgt.defaultHorizon = d.bgt.defaultHorizon ∧ (cooldownTooLong d).bgt.last = d.bgt.last ∧
    (cooldownTooLong d).bgt.outlet = d.bgt.outlet ∧ (cooldownTooLong d).cmp = d.cmp ∧
    (cooldownTooLong d).lgt.channels = d.lgt.channels ∧ (cooldownTooLong d).lgt.chSettings = d.lgt.chSettings ∧
    (cooldownTooLong d).lgt.capStep = d.lgt.capStep ∧ (cooldownTooLong d).lgt.written = d.lgt.written ∧
    (cooldownTooLong d).lgt.scenes = d.lgt.scenes ∧ (cooldownTooLong d).lgt.settings = d.lgt.settings ∧
    (cooldownTooLong d).lgt.courtesyTimer = d.lgt.courtesyTimer ∧ (cooldownTooLong d).lgt.ch7Applied = d.lgt.ch7Applied ∧
    (cooldownTooLong d).rtm = d.rtm ∧ (cooldownTooLong d).npl.state = d.npl.state ∧ (cooldownTooLong d).npl.source = d.npl.source ∧
    (cooldownTooLong d).npl.wake = d.npl.wake ∧ (cooldownTooLong d).npl.setpoint = d.npl.setpoint ∧
    (cooldownTooLong d).npl.lead = d.npl.lead ∧ (cooldownTooLong d).npl.wakeLights = d.npl.wakeLights ∧
    (cooldownTooLong d).npl.quiet = d.npl.quiet ∧ (cooldownTooLong d).npl.hostQuiet = d.npl.hostQuiet ∧
    (cooldownTooLong d).npl.lastClass = d.npl.lastClass ∧ (cooldownTooLong d).npl.lastProjection = d.npl.lastProjection ∧
    (cooldownTooLong d).npl.horizonHanded = d.npl.horizonHanded ∧ (cooldownTooLong d).npl.result = d.npl.result ∧
    (cooldownTooLong d).npl.causes = d.npl.causes ∧ (cooldownTooLong d).lnk.receiver = d.lnk.receiver ∧
    (cooldownTooLong d).lnk.lastByte = d.lnk.lastByte ∧ (cooldownTooLong d).lnk.queue = d.lnk.queue ∧
    (cooldownTooLong d).lnk.out = d.lnk.out ∧ (cooldownTooLong d).lnk.tx = d.lnk.tx ∧
    (cooldownTooLong d).lnk.sendEnd = d.lnk.sendEnd ∧ (cooldownTooLong d).lnk.awake = d.lnk.awake ∧
    (cooldownTooLong d).lnk.idle = d.lnk.idle ∧ (cooldownTooLong d).lnk.lastFrame = d.lnk.lastFrame ∧
    (cooldownTooLong d).lnk.enables = d.lnk.enables ∧ (cooldownTooLong d).lnk.idleTime = d.lnk.idleTime ∧
    (cooldownTooLong d).lnk.resetKind = d.lnk.resetKind ∧ (cooldownTooLong d).lnk.resetUptime = d.lnk.resetUptime ∧
    (cooldownTooLong d).sched = d.sched := by
  unfold cooldownTooLong
  (try simp)
  all_goals ((repeat' split) <;> (try simp))
  all_goals ((repeat' split) <;> simp_all)

@[simp] theorem flameTest_frame (d : Device) :
    (flameTest d).pins = d.pins ∧ (flameTest d).factory = d.factory ∧ (flameTest d).sns = d.sns ∧ (flameTest d).vbl = d.vbl ∧
    (flameTest d).chg = d.chg ∧ (flameTest d).bgt.horizonSource = d.bgt.horizonSource ∧
    (flameTest d).bgt.defaultHorizon = d.bgt.defaultHorizon ∧ (flameTest d).bgt.last = d.bgt.last ∧
    (flameTest d).bgt.outlet = d.bgt.outlet ∧ (flameTest d).cmp = d.cmp ∧ (flameTest d).lgt = d.lgt ∧ (flameTest d).rtm = d.rtm ∧
    (flameTest d).npl = d.npl ∧ (flameTest d).lnk.receiver = d.lnk.receiver ∧ (flameTest d).lnk.lastByte = d.lnk.lastByte ∧
    (flameTest d).lnk.queue = d.lnk.queue ∧ (flameTest d).lnk.out = d.lnk.out ∧ (flameTest d).lnk.tx = d.lnk.tx ∧
    (flameTest d).lnk.sendEnd = d.lnk.sendEnd ∧ (flameTest d).lnk.awake = d.lnk.awake ∧ (flameTest d).lnk.idle = d.lnk.idle ∧
    (flameTest d).lnk.lastFrame = d.lnk.lastFrame ∧ (flameTest d).lnk.enables = d.lnk.enables ∧
    (flameTest d).lnk.idleTime = d.lnk.idleTime ∧ (flameTest d).lnk.resetKind = d.lnk.resetKind ∧
    (flameTest d).lnk.resetUptime = d.lnk.resetUptime ∧ (flameTest d).sched = d.sched := by
  unfold flameTest
  (try simp)
  all_goals ((repeat' split) <;> (try simp))
  all_goals ((repeat' split) <;> simp_all)

@[simp] theorem flameLost_frame (d : Device) :
    (flameLost d).pins = d.pins ∧ (flameLost d).factory = d.factory ∧ (flameLost d).sns = d.sns ∧ (flameLost d).vbl = d.vbl ∧
    (flameLost d).chg = d.chg ∧ (flameLost d).bgt.horizonSource = d.bgt.horizonSource ∧
    (flameLost d).bgt.defaultHorizon = d.bgt.defaultHorizon ∧ (flameLost d).bgt.last = d.bgt.last ∧
    (flameLost d).bgt.outlet = d.bgt.outlet ∧ (flameLost d).cmp = d.cmp ∧ (flameLost d).lgt.channels = d.lgt.channels ∧
    (flameLost d).lgt.chSettings = d.lgt.chSettings ∧ (flameLost d).lgt.capStep = d.lgt.capStep ∧
    (flameLost d).lgt.written = d.lgt.written ∧ (flameLost d).lgt.scenes = d.lgt.scenes ∧
    (flameLost d).lgt.settings = d.lgt.settings ∧ (flameLost d).lgt.courtesyTimer = d.lgt.courtesyTimer ∧
    (flameLost d).lgt.ch7Applied = d.lgt.ch7Applied ∧ (flameLost d).rtm = d.rtm ∧ (flameLost d).npl.state = d.npl.state ∧
    (flameLost d).npl.source = d.npl.source ∧ (flameLost d).npl.wake = d.npl.wake ∧ (flameLost d).npl.setpoint = d.npl.setpoint ∧
    (flameLost d).npl.lead = d.npl.lead ∧ (flameLost d).npl.wakeLights = d.npl.wakeLights ∧ (flameLost d).npl.quiet = d.npl.quiet ∧
    (flameLost d).npl.hostQuiet = d.npl.hostQuiet ∧ (flameLost d).npl.lastClass = d.npl.lastClass ∧
    (flameLost d).npl.lastProjection = d.npl.lastProjection ∧ (flameLost d).npl.horizonHanded = d.npl.horizonHanded ∧
    (flameLost d).npl.result = d.npl.result ∧ (flameLost d).npl.causes = d.npl.causes ∧ (flameLost d).lnk.receiver = d.lnk.receiver ∧
    (flameLost d).lnk.lastByte = d.lnk.lastByte ∧ (flameLost d).lnk.queue = d.lnk.queue ∧ (flameLost d).lnk.out = d.lnk.out ∧
    (flameLost d).lnk.tx = d.lnk.tx ∧ (flameLost d).lnk.sendEnd = d.lnk.sendEnd ∧ (flameLost d).lnk.awake = d.lnk.awake ∧
    (flameLost d).lnk.idle = d.lnk.idle ∧ (flameLost d).lnk.lastFrame = d.lnk.lastFrame ∧ (flameLost d).lnk.enables = d.lnk.enables ∧
    (flameLost d).lnk.idleTime = d.lnk.idleTime ∧ (flameLost d).lnk.resetKind = d.lnk.resetKind ∧
    (flameLost d).lnk.resetUptime = d.lnk.resetUptime ∧ (flameLost d).sched = d.sched := by
  unfold flameLost
  (try simp)
  all_goals ((repeat' split) <;> (try simp))
  all_goals ((repeat' split) <;> simp_all)

@[simp] theorem pauseWatch_frame (d : Device) :
    (pauseWatch d).pins = d.pins ∧ (pauseWatch d).factory = d.factory ∧ (pauseWatch d).sns = d.sns ∧ (pauseWatch d).vbl = d.vbl ∧
    (pauseWatch d).chg = d.chg ∧ (pauseWatch d).bgt = d.bgt ∧ (pauseWatch d).cmp = d.cmp ∧ (pauseWatch d).lgt = d.lgt ∧
    (pauseWatch d).rtm = d.rtm ∧ (pauseWatch d).npl = d.npl ∧ (pauseWatch d).lnk = d.lnk ∧ (pauseWatch d).sched = d.sched := by
  unfold pauseWatch
  (try simp)
  all_goals ((repeat' split) <;> (try simp))
  all_goals ((repeat' split) <;> simp_all)

@[simp] theorem runSweep_frame (d : Device) :
    (runSweep d).pins = d.pins ∧ (runSweep d).factory = d.factory ∧ (runSweep d).sns = d.sns ∧ (runSweep d).vbl = d.vbl ∧
    (runSweep d).chg = d.chg ∧ (runSweep d).bgt.horizonSource = d.bgt.horizonSource ∧
    (runSweep d).bgt.defaultHorizon = d.bgt.defaultHorizon ∧ (runSweep d).bgt.last = d.bgt.last ∧
    (runSweep d).bgt.outlet = d.bgt.outlet ∧ (runSweep d).cmp = d.cmp ∧ (runSweep d).lgt.channels = d.lgt.channels ∧
    (runSweep d).lgt.chSettings = d.lgt.chSettings ∧ (runSweep d).lgt.capStep = d.lgt.capStep ∧
    (runSweep d).lgt.written = d.lgt.written ∧ (runSweep d).lgt.scenes = d.lgt.scenes ∧ (runSweep d).lgt.settings = d.lgt.settings ∧
    (runSweep d).lgt.courtesyTimer = d.lgt.courtesyTimer ∧ (runSweep d).lgt.ch7Applied = d.lgt.ch7Applied ∧ (runSweep d).rtm = d.rtm ∧
    (runSweep d).npl.state = d.npl.state ∧ (runSweep d).npl.source = d.npl.source ∧ (runSweep d).npl.wake = d.npl.wake ∧
    (runSweep d).npl.setpoint = d.npl.setpoint ∧ (runSweep d).npl.lead = d.npl.lead ∧ (runSweep d).npl.wakeLights = d.npl.wakeLights ∧
    (runSweep d).npl.quiet = d.npl.quiet ∧ (runSweep d).npl.hostQuiet = d.npl.hostQuiet ∧
    (runSweep d).npl.lastClass = d.npl.lastClass ∧ (runSweep d).npl.lastProjection = d.npl.lastProjection ∧
    (runSweep d).npl.horizonHanded = d.npl.horizonHanded ∧ (runSweep d).npl.result = d.npl.result ∧
    (runSweep d).npl.causes = d.npl.causes ∧ (runSweep d).lnk.receiver = d.lnk.receiver ∧ (runSweep d).lnk.lastByte = d.lnk.lastByte ∧
    (runSweep d).lnk.queue = d.lnk.queue ∧ (runSweep d).lnk.out = d.lnk.out ∧ (runSweep d).lnk.tx = d.lnk.tx ∧
    (runSweep d).lnk.sendEnd = d.lnk.sendEnd ∧ (runSweep d).lnk.awake = d.lnk.awake ∧ (runSweep d).lnk.idle = d.lnk.idle ∧
    (runSweep d).lnk.lastFrame = d.lnk.lastFrame ∧ (runSweep d).lnk.enables = d.lnk.enables ∧
    (runSweep d).lnk.idleTime = d.lnk.idleTime ∧ (runSweep d).lnk.resetKind = d.lnk.resetKind ∧
    (runSweep d).lnk.resetUptime = d.lnk.resetUptime ∧ (runSweep d).sched = d.sched := by
  unfold runSweep
  (try simp)
  all_goals ((repeat' split) <;> (try simp))
  all_goals ((repeat' split) <;> simp_all)

@[simp] theorem pausedSweep_frame (d : Device) :
    (pausedSweep d).pins = d.pins ∧ (pausedSweep d).factory = d.factory ∧ (pausedSweep d).sns = d.sns ∧ (pausedSweep d).vbl = d.vbl ∧
    (pausedSweep d).chg = d.chg ∧ (pausedSweep d).bgt.horizonSource = d.bgt.horizonSource ∧
    (pausedSweep d).bgt.defaultHorizon = d.bgt.defaultHorizon ∧ (pausedSweep d).bgt.last = d.bgt.last ∧
    (pausedSweep d).bgt.outlet = d.bgt.outlet ∧ (pausedSweep d).cmp = d.cmp ∧ (pausedSweep d).lgt = d.lgt ∧
    (pausedSweep d).rtm = d.rtm ∧ (pausedSweep d).npl = d.npl ∧ (pausedSweep d).lnk.receiver = d.lnk.receiver ∧
    (pausedSweep d).lnk.lastByte = d.lnk.lastByte ∧ (pausedSweep d).lnk.queue = d.lnk.queue ∧ (pausedSweep d).lnk.out = d.lnk.out ∧
    (pausedSweep d).lnk.tx = d.lnk.tx ∧ (pausedSweep d).lnk.sendEnd = d.lnk.sendEnd ∧ (pausedSweep d).lnk.awake = d.lnk.awake ∧
    (pausedSweep d).lnk.idle = d.lnk.idle ∧ (pausedSweep d).lnk.lastFrame = d.lnk.lastFrame ∧
    (pausedSweep d).lnk.enables = d.lnk.enables ∧ (pausedSweep d).lnk.idleTime = d.lnk.idleTime ∧
    (pausedSweep d).lnk.resetKind = d.lnk.resetKind ∧ (pausedSweep d).lnk.resetUptime = d.lnk.resetUptime ∧
    (pausedSweep d).sched = d.sched := by
  unfold pausedSweep
  have h0 := startHeater_frame .again d.htr.setpoint d
  extract_lets wants
  split
  · split <;> rename_i h <;> rw [h] at h0 <;> (try split) <;> simp_all
  · simp

@[simp] theorem heaterStateSweep_frame (d : Device) :
    (heaterStateSweep d).pins = d.pins ∧ (heaterStateSweep d).factory = d.factory ∧ (heaterStateSweep d).sns = d.sns ∧
    (heaterStateSweep d).vbl = d.vbl ∧ (heaterStateSweep d).chg = d.chg ∧
    (heaterStateSweep d).bgt.horizonSource = d.bgt.horizonSource ∧ (heaterStateSweep d).bgt.defaultHorizon = d.bgt.defaultHorizon ∧
    (heaterStateSweep d).bgt.last = d.bgt.last ∧ (heaterStateSweep d).bgt.outlet = d.bgt.outlet ∧ (heaterStateSweep d).cmp = d.cmp ∧
    (heaterStateSweep d).lgt.channels = d.lgt.channels ∧ (heaterStateSweep d).lgt.chSettings = d.lgt.chSettings ∧
    (heaterStateSweep d).lgt.capStep = d.lgt.capStep ∧ (heaterStateSweep d).lgt.written = d.lgt.written ∧
    (heaterStateSweep d).lgt.scenes = d.lgt.scenes ∧ (heaterStateSweep d).lgt.settings = d.lgt.settings ∧
    (heaterStateSweep d).lgt.courtesyTimer = d.lgt.courtesyTimer ∧ (heaterStateSweep d).lgt.ch7Applied = d.lgt.ch7Applied ∧
    (heaterStateSweep d).rtm = d.rtm ∧ (heaterStateSweep d).npl.state = d.npl.state ∧ (heaterStateSweep d).npl.source = d.npl.source ∧
    (heaterStateSweep d).npl.wake = d.npl.wake ∧ (heaterStateSweep d).npl.setpoint = d.npl.setpoint ∧
    (heaterStateSweep d).npl.lead = d.npl.lead ∧ (heaterStateSweep d).npl.wakeLights = d.npl.wakeLights ∧
    (heaterStateSweep d).npl.quiet = d.npl.quiet ∧ (heaterStateSweep d).npl.hostQuiet = d.npl.hostQuiet ∧
    (heaterStateSweep d).npl.lastClass = d.npl.lastClass ∧ (heaterStateSweep d).npl.lastProjection = d.npl.lastProjection ∧
    (heaterStateSweep d).npl.horizonHanded = d.npl.horizonHanded ∧ (heaterStateSweep d).npl.result = d.npl.result ∧
    (heaterStateSweep d).npl.causes = d.npl.causes ∧ (heaterStateSweep d).lnk.receiver = d.lnk.receiver ∧
    (heaterStateSweep d).lnk.lastByte = d.lnk.lastByte ∧ (heaterStateSweep d).lnk.queue = d.lnk.queue ∧
    (heaterStateSweep d).lnk.out = d.lnk.out ∧ (heaterStateSweep d).lnk.tx = d.lnk.tx ∧
    (heaterStateSweep d).lnk.sendEnd = d.lnk.sendEnd ∧ (heaterStateSweep d).lnk.awake = d.lnk.awake ∧
    (heaterStateSweep d).lnk.idle = d.lnk.idle ∧ (heaterStateSweep d).lnk.lastFrame = d.lnk.lastFrame ∧
    (heaterStateSweep d).lnk.enables = d.lnk.enables ∧ (heaterStateSweep d).lnk.idleTime = d.lnk.idleTime ∧
    (heaterStateSweep d).lnk.resetKind = d.lnk.resetKind ∧ (heaterStateSweep d).lnk.resetUptime = d.lnk.resetUptime ∧
    (heaterStateSweep d).sched = d.sched := by
  unfold heaterStateSweep
  (try simp)
  all_goals ((repeat' split) <;> (try simp))
  all_goals ((repeat' split) <;> simp_all)

@[simp] theorem heaterSweep_frame (exchWasOk : Bool) (d : Device) :
    (heaterSweep exchWasOk d).pins = d.pins ∧ (heaterSweep exchWasOk d).factory = d.factory ∧ (heaterSweep exchWasOk d).sns = d.sns ∧
    (heaterSweep exchWasOk d).vbl = d.vbl ∧ (heaterSweep exchWasOk d).chg = d.chg ∧
    (heaterSweep exchWasOk d).bgt.horizonSource = d.bgt.horizonSource ∧
    (heaterSweep exchWasOk d).bgt.defaultHorizon = d.bgt.defaultHorizon ∧ (heaterSweep exchWasOk d).bgt.last = d.bgt.last ∧
    (heaterSweep exchWasOk d).bgt.outlet = d.bgt.outlet ∧ (heaterSweep exchWasOk d).cmp = d.cmp ∧
    (heaterSweep exchWasOk d).lgt.channels = d.lgt.channels ∧ (heaterSweep exchWasOk d).lgt.chSettings = d.lgt.chSettings ∧
    (heaterSweep exchWasOk d).lgt.capStep = d.lgt.capStep ∧ (heaterSweep exchWasOk d).lgt.written = d.lgt.written ∧
    (heaterSweep exchWasOk d).lgt.scenes = d.lgt.scenes ∧ (heaterSweep exchWasOk d).lgt.settings = d.lgt.settings ∧
    (heaterSweep exchWasOk d).lgt.courtesyTimer = d.lgt.courtesyTimer ∧ (heaterSweep exchWasOk d).lgt.ch7Applied = d.lgt.ch7Applied ∧
    (heaterSweep exchWasOk d).rtm = d.rtm ∧ (heaterSweep exchWasOk d).npl.state = d.npl.state ∧
    (heaterSweep exchWasOk d).npl.source = d.npl.source ∧ (heaterSweep exchWasOk d).npl.wake = d.npl.wake ∧
    (heaterSweep exchWasOk d).npl.setpoint = d.npl.setpoint ∧ (heaterSweep exchWasOk d).npl.lead = d.npl.lead ∧
    (heaterSweep exchWasOk d).npl.wakeLights = d.npl.wakeLights ∧ (heaterSweep exchWasOk d).npl.quiet = d.npl.quiet ∧
    (heaterSweep exchWasOk d).npl.hostQuiet = d.npl.hostQuiet ∧ (heaterSweep exchWasOk d).npl.lastClass = d.npl.lastClass ∧
    (heaterSweep exchWasOk d).npl.lastProjection = d.npl.lastProjection ∧
    (heaterSweep exchWasOk d).npl.horizonHanded = d.npl.horizonHanded ∧ (heaterSweep exchWasOk d).npl.result = d.npl.result ∧
    (heaterSweep exchWasOk d).npl.causes = d.npl.causes ∧ (heaterSweep exchWasOk d).lnk.receiver = d.lnk.receiver ∧
    (heaterSweep exchWasOk d).lnk.lastByte = d.lnk.lastByte ∧ (heaterSweep exchWasOk d).lnk.queue = d.lnk.queue ∧
    (heaterSweep exchWasOk d).lnk.out = d.lnk.out ∧ (heaterSweep exchWasOk d).lnk.tx = d.lnk.tx ∧
    (heaterSweep exchWasOk d).lnk.sendEnd = d.lnk.sendEnd ∧ (heaterSweep exchWasOk d).lnk.awake = d.lnk.awake ∧
    (heaterSweep exchWasOk d).lnk.idle = d.lnk.idle ∧ (heaterSweep exchWasOk d).lnk.lastFrame = d.lnk.lastFrame ∧
    (heaterSweep exchWasOk d).lnk.enables = d.lnk.enables ∧ (heaterSweep exchWasOk d).lnk.idleTime = d.lnk.idleTime ∧
    (heaterSweep exchWasOk d).lnk.resetKind = d.lnk.resetKind ∧ (heaterSweep exchWasOk d).lnk.resetUptime = d.lnk.resetUptime ∧
    (heaterSweep exchWasOk d).sched = d.sched := by
  unfold heaterSweep
  (try simp)
  all_goals ((repeat' split) <;> (try simp))
  all_goals ((repeat' split) <;> simp_all)

@[simp] theorem heaterStartRequest_frame (b : List Byte) (d : Device) :
    ((heaterStartRequest b d).dev).pins = d.pins ∧ ((heaterStartRequest b d).dev).factory = d.factory ∧
    ((heaterStartRequest b d).dev).sns = d.sns ∧ ((heaterStartRequest b d).dev).vbl = d.vbl ∧
    ((heaterStartRequest b d).dev).chg = d.chg ∧ ((heaterStartRequest b d).dev).bgt.horizonSource = d.bgt.horizonSource ∧
    ((heaterStartRequest b d).dev).bgt.defaultHorizon = d.bgt.defaultHorizon ∧ ((heaterStartRequest b d).dev).bgt.last = d.bgt.last ∧
    ((heaterStartRequest b d).dev).bgt.outlet = d.bgt.outlet ∧ ((heaterStartRequest b d).dev).cmp = d.cmp ∧
    ((heaterStartRequest b d).dev).lgt = d.lgt ∧ ((heaterStartRequest b d).dev).rtm = d.rtm ∧
    ((heaterStartRequest b d).dev).npl = d.npl ∧ ((heaterStartRequest b d).dev).lnk.receiver = d.lnk.receiver ∧
    ((heaterStartRequest b d).dev).lnk.lastByte = d.lnk.lastByte ∧ ((heaterStartRequest b d).dev).lnk.queue = d.lnk.queue ∧
    ((heaterStartRequest b d).dev).lnk.out = d.lnk.out ∧ ((heaterStartRequest b d).dev).lnk.tx = d.lnk.tx ∧
    ((heaterStartRequest b d).dev).lnk.sendEnd = d.lnk.sendEnd ∧ ((heaterStartRequest b d).dev).lnk.awake = d.lnk.awake ∧
    ((heaterStartRequest b d).dev).lnk.idle = d.lnk.idle ∧ ((heaterStartRequest b d).dev).lnk.lastFrame = d.lnk.lastFrame ∧
    ((heaterStartRequest b d).dev).lnk.enables = d.lnk.enables ∧ ((heaterStartRequest b d).dev).lnk.idleTime = d.lnk.idleTime ∧
    ((heaterStartRequest b d).dev).lnk.resetKind = d.lnk.resetKind ∧
    ((heaterStartRequest b d).dev).lnk.resetUptime = d.lnk.resetUptime ∧ ((heaterStartRequest b d).dev).sched = d.sched := by
  unfold heaterStartRequest
  have h0 := fun src p => startHeater_frame src p d
  dsimp only
  (repeat' split) <;> simp
  rename_i h
  have h1 := congrArg Prod.fst h
  simp only at h1
  simp [← h1]

@[simp] theorem heaterStopRequest_frame (b : List Byte) (d : Device) :
    ((heaterStopRequest b d).dev).pins = d.pins ∧ ((heaterStopRequest b d).dev).factory = d.factory ∧
    ((heaterStopRequest b d).dev).sns = d.sns ∧ ((heaterStopRequest b d).dev).vbl = d.vbl ∧
    ((heaterStopRequest b d).dev).chg = d.chg ∧ ((heaterStopRequest b d).dev).bgt.horizonSource = d.bgt.horizonSource ∧
    ((heaterStopRequest b d).dev).bgt.defaultHorizon = d.bgt.defaultHorizon ∧ ((heaterStopRequest b d).dev).bgt.last = d.bgt.last ∧
    ((heaterStopRequest b d).dev).bgt.outlet = d.bgt.outlet ∧ ((heaterStopRequest b d).dev).cmp = d.cmp ∧
    ((heaterStopRequest b d).dev).lgt = d.lgt ∧ ((heaterStopRequest b d).dev).rtm = d.rtm ∧
    ((heaterStopRequest b d).dev).npl = d.npl ∧ ((heaterStopRequest b d).dev).lnk.receiver = d.lnk.receiver ∧
    ((heaterStopRequest b d).dev).lnk.lastByte = d.lnk.lastByte ∧ ((heaterStopRequest b d).dev).lnk.queue = d.lnk.queue ∧
    ((heaterStopRequest b d).dev).lnk.out = d.lnk.out ∧ ((heaterStopRequest b d).dev).lnk.tx = d.lnk.tx ∧
    ((heaterStopRequest b d).dev).lnk.sendEnd = d.lnk.sendEnd ∧ ((heaterStopRequest b d).dev).lnk.awake = d.lnk.awake ∧
    ((heaterStopRequest b d).dev).lnk.idle = d.lnk.idle ∧ ((heaterStopRequest b d).dev).lnk.lastFrame = d.lnk.lastFrame ∧
    ((heaterStopRequest b d).dev).lnk.enables = d.lnk.enables ∧ ((heaterStopRequest b d).dev).lnk.idleTime = d.lnk.idleTime ∧
    ((heaterStopRequest b d).dev).lnk.resetKind = d.lnk.resetKind ∧
    ((heaterStopRequest b d).dev).lnk.resetUptime = d.lnk.resetUptime ∧ ((heaterStopRequest b d).dev).sched = d.sched := by
  unfold heaterStopRequest
  (try simp)
  all_goals ((repeat' split) <;> (try simp))
  all_goals ((repeat' split) <;> simp_all)

@[simp] theorem releaseLatch_frame (d : Device) :
    (releaseLatch d).pins = d.pins ∧ (releaseLatch d).factory = d.factory ∧ (releaseLatch d).sns = d.sns ∧
    (releaseLatch d).vbl = d.vbl ∧ (releaseLatch d).chg = d.chg ∧ (releaseLatch d).bgt = d.bgt ∧ (releaseLatch d).cmp = d.cmp ∧
    (releaseLatch d).lgt.channels = d.lgt.channels ∧ (releaseLatch d).lgt.chSettings = d.lgt.chSettings ∧
    (releaseLatch d).lgt.capStep = d.lgt.capStep ∧ (releaseLatch d).lgt.written = d.lgt.written ∧
    (releaseLatch d).lgt.scenes = d.lgt.scenes ∧ (releaseLatch d).lgt.settings = d.lgt.settings ∧
    (releaseLatch d).lgt.courtesyTimer = d.lgt.courtesyTimer ∧ (releaseLatch d).lgt.ch7Applied = d.lgt.ch7Applied ∧
    (releaseLatch d).rtm = d.rtm ∧ (releaseLatch d).npl.state = d.npl.state ∧ (releaseLatch d).npl.source = d.npl.source ∧
    (releaseLatch d).npl.wake = d.npl.wake ∧ (releaseLatch d).npl.setpoint = d.npl.setpoint ∧ (releaseLatch d).npl.lead = d.npl.lead ∧
    (releaseLatch d).npl.wakeLights = d.npl.wakeLights ∧ (releaseLatch d).npl.quiet = d.npl.quiet ∧
    (releaseLatch d).npl.hostQuiet = d.npl.hostQuiet ∧ (releaseLatch d).npl.lastClass = d.npl.lastClass ∧
    (releaseLatch d).npl.lastProjection = d.npl.lastProjection ∧ (releaseLatch d).npl.horizonHanded = d.npl.horizonHanded ∧
    (releaseLatch d).npl.result = d.npl.result ∧ (releaseLatch d).npl.causes = d.npl.causes ∧ (releaseLatch d).lnk = d.lnk ∧
    (releaseLatch d).sched = d.sched := by
  unfold releaseLatch
  (try simp)
  all_goals ((repeat' split) <;> (try simp))
  all_goals ((repeat' split) <;> simp_all)

@[simp] theorem leaveLockout_frame (d : Device) :
    (leaveLockout d).pins = d.pins ∧ (leaveLockout d).factory = d.factory ∧ (leaveLockout d).sns = d.sns ∧
    (leaveLockout d).vbl = d.vbl ∧ (leaveLockout d).chg = d.chg ∧ (leaveLockout d).bgt.horizonSource = d.bgt.horizonSource ∧
    (leaveLockout d).bgt.defaultHorizon = d.bgt.defaultHorizon ∧ (leaveLockout d).bgt.last = d.bgt.last ∧
    (leaveLockout d).bgt.outlet = d.bgt.outlet ∧ (leaveLockout d).cmp = d.cmp ∧ (leaveLockout d).lgt.channels = d.lgt.channels ∧
    (leaveLockout d).lgt.chSettings = d.lgt.chSettings ∧ (leaveLockout d).lgt.capStep = d.lgt.capStep ∧
    (leaveLockout d).lgt.written = d.lgt.written ∧ (leaveLockout d).lgt.scenes = d.lgt.scenes ∧
    (leaveLockout d).lgt.settings = d.lgt.settings ∧ (leaveLockout d).lgt.courtesyTimer = d.lgt.courtesyTimer ∧
    (leaveLockout d).lgt.ch7Applied = d.lgt.ch7Applied ∧ (leaveLockout d).rtm = d.rtm ∧ (leaveLockout d).npl.state = d.npl.state ∧
    (leaveLockout d).npl.source = d.npl.source ∧ (leaveLockout d).npl.wake = d.npl.wake ∧
    (leaveLockout d).npl.setpoint = d.npl.setpoint ∧ (leaveLockout d).npl.lead = d.npl.lead ∧
    (leaveLockout d).npl.wakeLights = d.npl.wakeLights ∧ (leaveLockout d).npl.quiet = d.npl.quiet ∧
    (leaveLockout d).npl.hostQuiet = d.npl.hostQuiet ∧ (leaveLockout d).npl.lastClass = d.npl.lastClass ∧
    (leaveLockout d).npl.lastProjection = d.npl.lastProjection ∧ (leaveLockout d).npl.horizonHanded = d.npl.horizonHanded ∧
    (leaveLockout d).npl.result = d.npl.result ∧ (leaveLockout d).npl.causes = d.npl.causes ∧
    (leaveLockout d).lnk.receiver = d.lnk.receiver ∧ (leaveLockout d).lnk.lastByte = d.lnk.lastByte ∧
    (leaveLockout d).lnk.queue = d.lnk.queue ∧ (leaveLockout d).lnk.out = d.lnk.out ∧ (leaveLockout d).lnk.tx = d.lnk.tx ∧
    (leaveLockout d).lnk.sendEnd = d.lnk.sendEnd ∧ (leaveLockout d).lnk.awake = d.lnk.awake ∧ (leaveLockout d).lnk.idle = d.lnk.idle ∧
    (leaveLockout d).lnk.lastFrame = d.lnk.lastFrame ∧ (leaveLockout d).lnk.enables = d.lnk.enables ∧
    (leaveLockout d).lnk.idleTime = d.lnk.idleTime ∧ (leaveLockout d).lnk.resetKind = d.lnk.resetKind ∧
    (leaveLockout d).lnk.resetUptime = d.lnk.resetUptime ∧ (leaveLockout d).sched = d.sched := by
  unfold leaveLockout
  (try simp)
  all_goals ((repeat' split) <;> (try simp))
  all_goals ((repeat' split) <;> simp_all)

@[simp] theorem unlockRequest_frame (service : Bool) (b : List Byte) (d : Device) :
    ((unlockRequest service b d).dev).pins = d.pins ∧ ((unlockRequest service b d).dev).factory = d.factory ∧
    ((unlockRequest service b d).dev).sns = d.sns ∧ ((unlockRequest service b d).dev).vbl = d.vbl ∧
    ((unlockRequest service b d).dev).chg = d.chg ∧ ((unlockRequest service b d).dev).bgt.horizonSource = d.bgt.horizonSource ∧
    ((unlockRequest service b d).dev).bgt.defaultHorizon = d.bgt.defaultHorizon ∧
    ((unlockRequest service b d).dev).bgt.last = d.bgt.last ∧ ((unlockRequest service b d).dev).bgt.outlet = d.bgt.outlet ∧
    ((unlockRequest service b d).dev).cmp = d.cmp ∧ ((unlockRequest service b d).dev).lgt.channels = d.lgt.channels ∧
    ((unlockRequest service b d).dev).lgt.chSettings = d.lgt.chSettings ∧
    ((unlockRequest service b d).dev).lgt.capStep = d.lgt.capStep ∧ ((unlockRequest service b d).dev).lgt.written = d.lgt.written ∧
    ((unlockRequest service b d).dev).lgt.scenes = d.lgt.scenes ∧ ((unlockRequest service b d).dev).lgt.settings = d.lgt.settings ∧
    ((unlockRequest service b d).dev).lgt.courtesyTimer = d.lgt.courtesyTimer ∧
    ((unlockRequest service b d).dev).lgt.ch7Applied = d.lgt.ch7Applied ∧ ((unlockRequest service b d).dev).rtm = d.rtm ∧
    ((unlockRequest service b d).dev).npl.state = d.npl.state ∧ ((unlockRequest service b d).dev).npl.source = d.npl.source ∧
    ((unlockRequest service b d).dev).npl.wake = d.npl.wake ∧ ((unlockRequest service b d).dev).npl.setpoint = d.npl.setpoint ∧
    ((unlockRequest service b d).dev).npl.lead = d.npl.lead ∧ ((unlockRequest service b d).dev).npl.wakeLights = d.npl.wakeLights ∧
    ((unlockRequest service b d).dev).npl.quiet = d.npl.quiet ∧ ((unlockRequest service b d).dev).npl.hostQuiet = d.npl.hostQuiet ∧
    ((unlockRequest service b d).dev).npl.lastClass = d.npl.lastClass ∧
    ((unlockRequest service b d).dev).npl.lastProjection = d.npl.lastProjection ∧
    ((unlockRequest service b d).dev).npl.horizonHanded = d.npl.horizonHanded ∧
    ((unlockRequest service b d).dev).npl.result = d.npl.result ∧ ((unlockRequest service b d).dev).npl.causes = d.npl.causes ∧
    ((unlockRequest service b d).dev).lnk.receiver = d.lnk.receiver ∧
    ((unlockRequest service b d).dev).lnk.lastByte = d.lnk.lastByte ∧ ((unlockRequest service b d).dev).lnk.queue = d.lnk.queue ∧
    ((unlockRequest service b d).dev).lnk.out = d.lnk.out ∧ ((unlockRequest service b d).dev).lnk.tx = d.lnk.tx ∧
    ((unlockRequest service b d).dev).lnk.sendEnd = d.lnk.sendEnd ∧ ((unlockRequest service b d).dev).lnk.awake = d.lnk.awake ∧
    ((unlockRequest service b d).dev).lnk.idle = d.lnk.idle ∧ ((unlockRequest service b d).dev).lnk.lastFrame = d.lnk.lastFrame ∧
    ((unlockRequest service b d).dev).lnk.enables = d.lnk.enables ∧ ((unlockRequest service b d).dev).lnk.idleTime = d.lnk.idleTime ∧
    ((unlockRequest service b d).dev).lnk.resetKind = d.lnk.resetKind ∧
    ((unlockRequest service b d).dev).lnk.resetUptime = d.lnk.resetUptime ∧ ((unlockRequest service b d).dev).sched = d.sched := by
  unfold unlockRequest
  (try simp)
  all_goals ((repeat' split) <;> (try simp))
  all_goals ((repeat' split) <;> simp_all)

@[simp] theorem configTable_frame (b : List Byte) (d : Device) :
    ((configTable b d).dev).pins = d.pins ∧ ((configTable b d).dev).factory = d.factory ∧ ((configTable b d).dev).sns = d.sns ∧
    ((configTable b d).dev).vbl = d.vbl ∧ ((configTable b d).dev).chg = d.chg ∧
    ((configTable b d).dev).bgt.horizonSource = d.bgt.horizonSource ∧
    ((configTable b d).dev).bgt.defaultHorizon = d.bgt.defaultHorizon ∧ ((configTable b d).dev).bgt.last = d.bgt.last ∧
    ((configTable b d).dev).bgt.allowance = d.bgt.allowance ∧ ((configTable b d).dev).bgt.outlet = d.bgt.outlet ∧
    ((configTable b d).dev).bgt.passesDue = d.bgt.passesDue ∧ ((configTable b d).dev).cmp = d.cmp ∧
    ((configTable b d).dev).lgt = d.lgt ∧ ((configTable b d).dev).rtm = d.rtm ∧ ((configTable b d).dev).npl = d.npl ∧
    ((configTable b d).dev).lnk = d.lnk ∧ ((configTable b d).dev).sched = d.sched := by
  unfold configTable
  (try simp)
  all_goals ((repeat' split) <;> (try simp))
  all_goals ((repeat' split) <;> simp_all)

@[simp] theorem configSequence_frame (b : List Byte) (d : Device) :
    ((configSequence b d).dev).pins = d.pins ∧ ((configSequence b d).dev).factory = d.factory ∧
    ((configSequence b d).dev).sns = d.sns ∧ ((configSequence b d).dev).vbl = d.vbl ∧ ((configSequence b d).dev).chg = d.chg ∧
    ((configSequence b d).dev).bgt = d.bgt ∧ ((configSequence b d).dev).cmp = d.cmp ∧ ((configSequence b d).dev).lgt = d.lgt ∧
    ((configSequence b d).dev).rtm = d.rtm ∧ ((configSequence b d).dev).npl = d.npl ∧ ((configSequence b d).dev).lnk = d.lnk ∧
    ((configSequence b d).dev).sched = d.sched := by
  unfold configSequence
  (try simp)
  all_goals ((repeat' split) <;> (try simp))
  all_goals ((repeat' split) <;> simp_all)

@[simp] theorem configLimits_frame (b : List Byte) (d : Device) :
    ((configLimits b d).dev).pins = d.pins ∧ ((configLimits b d).dev).factory = d.factory ∧ ((configLimits b d).dev).sns = d.sns ∧
    ((configLimits b d).dev).vbl = d.vbl ∧ ((configLimits b d).dev).chg = d.chg ∧
    ((configLimits b d).dev).bgt.horizonSource = d.bgt.horizonSource ∧
    ((configLimits b d).dev).bgt.defaultHorizon = d.bgt.defaultHorizon ∧ ((configLimits b d).dev).bgt.last = d.bgt.last ∧
    ((configLimits b d).dev).bgt.outlet = d.bgt.outlet ∧ ((configLimits b d).dev).cmp = d.cmp ∧ ((configLimits b d).dev).lgt = d.lgt ∧
    ((configLimits b d).dev).rtm = d.rtm ∧ ((configLimits b d).dev).npl = d.npl ∧
    ((configLimits b d).dev).lnk.receiver = d.lnk.receiver ∧ ((configLimits b d).dev).lnk.lastByte = d.lnk.lastByte ∧
    ((configLimits b d).dev).lnk.queue = d.lnk.queue ∧ ((configLimits b d).dev).lnk.out = d.lnk.out ∧
    ((configLimits b d).dev).lnk.tx = d.lnk.tx ∧ ((configLimits b d).dev).lnk.sendEnd = d.lnk.sendEnd ∧
    ((configLimits b d).dev).lnk.awake = d.lnk.awake ∧ ((configLimits b d).dev).lnk.idle = d.lnk.idle ∧
    ((configLimits b d).dev).lnk.lastFrame = d.lnk.lastFrame ∧ ((configLimits b d).dev).lnk.enables = d.lnk.enables ∧
    ((configLimits b d).dev).lnk.idleTime = d.lnk.idleTime ∧ ((configLimits b d).dev).lnk.resetKind = d.lnk.resetKind ∧
    ((configLimits b d).dev).lnk.resetUptime = d.lnk.resetUptime ∧ ((configLimits b d).dev).sched = d.sched := by
  unfold configLimits
  (try simp)
  all_goals ((repeat' split) <;> (try simp))
  all_goals ((repeat' split) <;> simp_all)

@[simp] theorem heaterConfigRequest_frame (b : List Byte) (d : Device) :
    ((heaterConfigRequest b d).dev).pins = d.pins ∧ ((heaterConfigRequest b d).dev).factory = d.factory ∧
    ((heaterConfigRequest b d).dev).sns = d.sns ∧ ((heaterConfigRequest b d).dev).vbl = d.vbl ∧
    ((heaterConfigRequest b d).dev).chg = d.chg ∧ ((heaterConfigRequest b d).dev).bgt.horizonSource = d.bgt.horizonSource ∧
    ((heaterConfigRequest b d).dev).bgt.defaultHorizon = d.bgt.defaultHorizon ∧
    ((heaterConfigRequest b d).dev).bgt.last = d.bgt.last ∧ ((heaterConfigRequest b d).dev).bgt.outlet = d.bgt.outlet ∧
    ((heaterConfigRequest b d).dev).cmp = d.cmp ∧ ((heaterConfigRequest b d).dev).lgt = d.lgt ∧
    ((heaterConfigRequest b d).dev).rtm = d.rtm ∧ ((heaterConfigRequest b d).dev).npl = d.npl ∧
    ((heaterConfigRequest b d).dev).lnk.receiver = d.lnk.receiver ∧ ((heaterConfigRequest b d).dev).lnk.lastByte = d.lnk.lastByte ∧
    ((heaterConfigRequest b d).dev).lnk.queue = d.lnk.queue ∧ ((heaterConfigRequest b d).dev).lnk.out = d.lnk.out ∧
    ((heaterConfigRequest b d).dev).lnk.tx = d.lnk.tx ∧ ((heaterConfigRequest b d).dev).lnk.sendEnd = d.lnk.sendEnd ∧
    ((heaterConfigRequest b d).dev).lnk.awake = d.lnk.awake ∧ ((heaterConfigRequest b d).dev).lnk.idle = d.lnk.idle ∧
    ((heaterConfigRequest b d).dev).lnk.lastFrame = d.lnk.lastFrame ∧ ((heaterConfigRequest b d).dev).lnk.enables = d.lnk.enables ∧
    ((heaterConfigRequest b d).dev).lnk.idleTime = d.lnk.idleTime ∧ ((heaterConfigRequest b d).dev).lnk.resetKind = d.lnk.resetKind ∧
    ((heaterConfigRequest b d).dev).lnk.resetUptime = d.lnk.resetUptime ∧ ((heaterConfigRequest b d).dev).sched = d.sched := by
  unfold heaterConfigRequest
  (try simp)
  all_goals ((repeat' split) <;> (try simp))
  all_goals ((repeat' split) <;> simp_all)

@[simp] theorem readHeaterRequest_frame (b : List Byte) (d : Device) :
    ((readHeaterRequest b d).dev).pins = d.pins ∧ ((readHeaterRequest b d).dev).factory = d.factory ∧
    ((readHeaterRequest b d).dev).sns = d.sns ∧ ((readHeaterRequest b d).dev).vbl = d.vbl ∧
    ((readHeaterRequest b d).dev).chg = d.chg ∧ ((readHeaterRequest b d).dev).bgt = d.bgt ∧
    ((readHeaterRequest b d).dev).htr = d.htr ∧ ((readHeaterRequest b d).dev).cmp = d.cmp ∧
    ((readHeaterRequest b d).dev).lgt = d.lgt ∧ ((readHeaterRequest b d).dev).rtm = d.rtm ∧
    ((readHeaterRequest b d).dev).npl = d.npl ∧ ((readHeaterRequest b d).dev).lnk = d.lnk ∧
    ((readHeaterRequest b d).dev).sched = d.sched := by
  unfold readHeaterRequest
  (try simp)
  all_goals ((repeat' split) <;> (try simp))
  all_goals ((repeat' split) <;> simp_all)

@[simp] theorem restartHeaterSettings_frame (d : Device) :
    (restartHeaterSettings d).pins = d.pins ∧ (restartHeaterSettings d).factory = d.factory ∧ (restartHeaterSettings d).sns = d.sns ∧
    (restartHeaterSettings d).vbl = d.vbl ∧ (restartHeaterSettings d).chg = d.chg ∧ (restartHeaterSettings d).bgt = d.bgt ∧
    (restartHeaterSettings d).cmp = d.cmp ∧ (restartHeaterSettings d).lgt = d.lgt ∧ (restartHeaterSettings d).rtm = d.rtm ∧
    (restartHeaterSettings d).npl = d.npl ∧ (restartHeaterSettings d).lnk = d.lnk ∧ (restartHeaterSettings d).sched = d.sched := by
  unfold restartHeaterSettings
  (try simp)
  all_goals ((repeat' split) <;> (try simp))
  all_goals ((repeat' split) <;> simp_all)

@[simp] theorem restartHeater_frame (d0 : Device) :
    (restartHeater d0).pins = d0.pins ∧ (restartHeater d0).factory = d0.factory ∧ (restartHeater d0).sns = d0.sns ∧
    (restartHeater d0).vbl = d0.vbl ∧ (restartHeater d0).chg = d0.chg ∧ (restartHeater d0).bgt.horizonSource = d0.bgt.horizonSource ∧
    (restartHeater d0).bgt.defaultHorizon = d0.bgt.defaultHorizon ∧ (restartHeater d0).bgt.last = d0.bgt.last ∧
    (restartHeater d0).bgt.outlet = d0.bgt.outlet ∧ (restartHeater d0).cmp = d0.cmp ∧ (restartHeater d0).lgt = d0.lgt ∧
    (restartHeater d0).rtm = d0.rtm ∧ (restartHeater d0).npl = d0.npl ∧ (restartHeater d0).lnk.receiver = d0.lnk.receiver ∧
    (restartHeater d0).lnk.lastByte = d0.lnk.lastByte ∧ (restartHeater d0).lnk.queue = d0.lnk.queue ∧
    (restartHeater d0).lnk.out = d0.lnk.out ∧ (restartHeater d0).lnk.tx = d0.lnk.tx ∧
    (restartHeater d0).lnk.sendEnd = d0.lnk.sendEnd ∧ (restartHeater d0).lnk.awake = d0.lnk.awake ∧
    (restartHeater d0).lnk.idle = d0.lnk.idle ∧ (restartHeater d0).lnk.lastFrame = d0.lnk.lastFrame ∧
    (restartHeater d0).lnk.enables = d0.lnk.enables ∧ (restartHeater d0).lnk.idleTime = d0.lnk.idleTime ∧
    (restartHeater d0).lnk.resetKind = d0.lnk.resetKind ∧ (restartHeater d0).lnk.resetUptime = d0.lnk.resetUptime ∧
    (restartHeater d0).sched = d0.sched := by
  unfold restartHeater
  (try simp)
  all_goals ((repeat' split) <;> (try simp))
  all_goals ((repeat' split) <;> simp_all)

/-! ## Compressor -/

@[simp] theorem putCmp_frame (c : Compressor) (d : Device) :
    (putCmp c d).pins = d.pins ∧ (putCmp c d).factory = d.factory ∧ (putCmp c d).sns = d.sns ∧ (putCmp c d).vbl = d.vbl ∧
    (putCmp c d).chg = d.chg ∧ (putCmp c d).bgt = d.bgt ∧ (putCmp c d).htr = d.htr ∧ (putCmp c d).lgt = d.lgt ∧
    (putCmp c d).rtm = d.rtm ∧ (putCmp c d).npl = d.npl ∧ (putCmp c d).lnk = d.lnk ∧ (putCmp c d).sched = d.sched := by
  unfold putCmp
  (try simp)
  all_goals ((repeat' split) <;> (try simp))
  all_goals ((repeat' split) <;> simp_all)

@[simp] theorem putCmpTimers_frame (t : CompTimers) (d : Device) :
    (putCmpTimers t d).pins = d.pins ∧ (putCmpTimers t d).factory = d.factory ∧ (putCmpTimers t d).sns = d.sns ∧
    (putCmpTimers t d).vbl = d.vbl ∧ (putCmpTimers t d).chg = d.chg ∧ (putCmpTimers t d).bgt = d.bgt ∧
    (putCmpTimers t d).htr = d.htr ∧ (putCmpTimers t d).lgt = d.lgt ∧ (putCmpTimers t d).rtm = d.rtm ∧
    (putCmpTimers t d).npl = d.npl ∧ (putCmpTimers t d).lnk = d.lnk ∧ (putCmpTimers t d).sched = d.sched := by
  unfold putCmpTimers
  (try simp)
  all_goals ((repeat' split) <;> (try simp))
  all_goals ((repeat' split) <;> simp_all)

@[simp] theorem applyPattern_frame (d : Device) :
    (applyPattern d).pins = d.pins ∧ (applyPattern d).factory = d.factory ∧ (applyPattern d).sns = d.sns ∧
    (applyPattern d).vbl = d.vbl ∧ (applyPattern d).chg = d.chg ∧ (applyPattern d).bgt = d.bgt ∧ (applyPattern d).htr = d.htr ∧
    (applyPattern d).lgt = d.lgt ∧ (applyPattern d).rtm = d.rtm ∧ (applyPattern d).npl = d.npl ∧ (applyPattern d).lnk = d.lnk ∧
    (applyPattern d).sched = d.sched := by
  unfold applyPattern
  (try simp)
  all_goals ((repeat' split) <;> (try simp))
  all_goals ((repeat' split) <;> simp_all)

@[simp] theorem overcurrentRaw_frame (d : Device) :
    (overcurrentRaw d).pins = d.pins ∧ (overcurrentRaw d).factory = d.factory ∧ (overcurrentRaw d).sns = d.sns ∧
    (overcurrentRaw d).vbl = d.vbl ∧ (overcurrentRaw d).chg = d.chg ∧ (overcurrentRaw d).bgt = d.bgt ∧
    (overcurrentRaw d).htr = d.htr ∧ (overcurrentRaw d).lgt = d.lgt ∧ (overcurrentRaw d).rtm = d.rtm ∧
    (overcurrentRaw d).npl = d.npl ∧ (overcurrentRaw d).lnk = d.lnk ∧ (overcurrentRaw d).sched = d.sched := by
  unfold overcurrentRaw
  (try simp)
  all_goals ((repeat' split) <;> (try simp))
  all_goals ((repeat' split) <;> simp_all)

@[simp] theorem deadTimeOver_frame (l : Leg) (d : Device) :
    (deadTimeOver l d).pins = d.pins ∧ (deadTimeOver l d).factory = d.factory ∧ (deadTimeOver l d).sns = d.sns ∧
    (deadTimeOver l d).vbl = d.vbl ∧ (deadTimeOver l d).chg = d.chg ∧ (deadTimeOver l d).bgt = d.bgt ∧
    (deadTimeOver l d).htr = d.htr ∧ (deadTimeOver l d).lgt = d.lgt ∧ (deadTimeOver l d).rtm = d.rtm ∧
    (deadTimeOver l d).npl = d.npl ∧ (deadTimeOver l d).lnk = d.lnk ∧ (deadTimeOver l d).sched = d.sched := by
  unfold deadTimeOver
  (try simp)
  all_goals ((repeat' split) <;> (try simp))
  all_goals ((repeat' split) <;> simp_all)

@[simp] theorem commandStep_frame (d : Device) :
    (commandStep d).pins = d.pins ∧ (commandStep d).factory = d.factory ∧ (commandStep d).sns = d.sns ∧ (commandStep d).vbl = d.vbl ∧
    (commandStep d).chg = d.chg ∧ (commandStep d).bgt = d.bgt ∧ (commandStep d).htr = d.htr ∧ (commandStep d).lgt = d.lgt ∧
    (commandStep d).rtm = d.rtm ∧ (commandStep d).npl = d.npl ∧ (commandStep d).lnk = d.lnk ∧ (commandStep d).sched = d.sched := by
  unfold commandStep
  (try simp)
  all_goals ((repeat' split) <;> (try simp))
  all_goals ((repeat' split) <;> simp_all)

@[simp] theorem writeComp_frame (d : Device) :
    (writeComp d).pins = d.pins ∧ (writeComp d).factory = d.factory ∧ (writeComp d).sns = d.sns ∧ (writeComp d).vbl = d.vbl ∧
    (writeComp d).chg = d.chg ∧ (writeComp d).bgt.horizonSource = d.bgt.horizonSource ∧
    (writeComp d).bgt.defaultHorizon = d.bgt.defaultHorizon ∧ (writeComp d).bgt.last = d.bgt.last ∧
    (writeComp d).bgt.outlet = d.bgt.outlet ∧ (writeComp d).htr = d.htr ∧ (writeComp d).lgt = d.lgt ∧ (writeComp d).rtm = d.rtm ∧
    (writeComp d).npl = d.npl ∧ (writeComp d).lnk = d.lnk ∧ (writeComp d).sched = d.sched := by
  unfold writeComp
  (try simp)
  all_goals ((repeat' split) <;> (try simp))
  all_goals ((repeat' split) <;> simp_all)

@[simp] theorem setCompWish_frame (w : Nat) (d : Device) :
    (setCompWish w d).pins = d.pins ∧ (setCompWish w d).factory = d.factory ∧ (setCompWish w d).sns = d.sns ∧
    (setCompWish w d).vbl = d.vbl ∧ (setCompWish w d).chg = d.chg ∧ (setCompWish w d).bgt.horizonSource = d.bgt.horizonSource ∧
    (setCompWish w d).bgt.defaultHorizon = d.bgt.defaultHorizon ∧ (setCompWish w d).bgt.last = d.bgt.last ∧
    (setCompWish w d).bgt.outlet = d.bgt.outlet ∧ (setCompWish w d).htr = d.htr ∧ (setCompWish w d).lgt = d.lgt ∧
    (setCompWish w d).rtm = d.rtm ∧ (setCompWish w d).npl = d.npl ∧ (setCompWish w d).lnk = d.lnk ∧
    (setCompWish w d).sched = d.sched := by
  unfold setCompWish
  (try simp)
  all_goals ((repeat' split) <;> (try simp))
  all_goals ((repeat' split) <;> simp_all)

@[simp] theorem compCaps_frame (d : Device) :
    (compCaps d).pins = d.pins ∧ (compCaps d).factory = d.factory ∧ (compCaps d).sns = d.sns ∧ (compCaps d).vbl = d.vbl ∧
    (compCaps d).chg = d.chg ∧ (compCaps d).bgt.horizonSource = d.bgt.horizonSource ∧
    (compCaps d).bgt.defaultHorizon = d.bgt.defaultHorizon ∧ (compCaps d).bgt.last = d.bgt.last ∧
    (compCaps d).bgt.outlet = d.bgt.outlet ∧ (compCaps d).htr = d.htr ∧ (compCaps d).lgt = d.lgt ∧ (compCaps d).rtm = d.rtm ∧
    (compCaps d).npl = d.npl ∧ (compCaps d).lnk = d.lnk ∧ (compCaps d).sched = d.sched := by
  unfold compCaps
  (try simp)
  all_goals ((repeat' split) <;> (try simp))
  all_goals ((repeat' split) <;> simp_all)

@[simp] theorem enterComp_frame (st : CompState) (d : Device) :
    (enterComp st d).pins = d.pins ∧ (enterComp st d).factory = d.factory ∧ (enterComp st d).sns.ms = d.sns.ms ∧
    (enterComp st d).sns.uptime = d.sns.uptime ∧ (enterComp st d).sns.clockSet = d.sns.clockSet ∧
    (enterComp st d).sns.clockOffset = d.sns.clockOffset ∧ (enterComp st d).sns.analog = d.sns.analog ∧
    (enterComp st d).sns.tables = d.sns.tables ∧ (enterComp st d).sns.lines = d.sns.lines ∧ (enterComp st d).sns.dial = d.sns.dial ∧
    (enterComp st d).vbl = d.vbl ∧ (enterComp st d).chg = d.chg ∧ (enterComp st d).bgt.horizonSource = d.bgt.horizonSource ∧
    (enterComp st d).bgt.defaultHorizon = d.bgt.defaultHorizon ∧ (enterComp st d).bgt.last = d.bgt.last ∧
    (enterComp st d).bgt.outlet = d.bgt.outlet ∧ (enterComp st d).htr = d.htr ∧ (enterComp st d).lgt = d.lgt ∧
    (enterComp st d).rtm = d.rtm ∧ (enterComp st d).npl = d.npl ∧ (enterComp st d).lnk.receiver = d.lnk.receiver ∧
    (enterComp st d).lnk.lastByte = d.lnk.lastByte ∧ (enterComp st d).lnk.queue = d.lnk.queue ∧ (enterComp st d).lnk.out = d.lnk.out ∧
    (enterComp st d).lnk.tx = d.lnk.tx ∧ (enterComp st d).lnk.sendEnd = d.lnk.sendEnd ∧ (enterComp st d).lnk.awake = d.lnk.awake ∧
    (enterComp st d).lnk.idle = d.lnk.idle ∧ (enterComp st d).lnk.lastFrame = d.lnk.lastFrame ∧
    (enterComp st d).lnk.enables = d.lnk.enables ∧ (enterComp st d).lnk.idleTime = d.lnk.idleTime ∧
    (enterComp st d).lnk.resetKind = d.lnk.resetKind ∧ (enterComp st d).lnk.resetUptime = d.lnk.resetUptime ∧
    (enterComp st d).sched = d.sched := by
  unfold enterComp
  (try simp)
  all_goals ((repeat' split) <;> (try simp))
  all_goals ((repeat' split) <;> simp_all)

@[simp] theorem toStopping_frame (d : Device) :
    (toStopping d).pins = d.pins ∧ (toStopping d).factory = d.factory ∧ (toStopping d).sns.ms = d.sns.ms ∧
    (toStopping d).sns.uptime = d.sns.uptime ∧ (toStopping d).sns.clockSet = d.sns.clockSet ∧
    (toStopping d).sns.clockOffset = d.sns.clockOffset ∧ (toStopping d).sns.analog = d.sns.analog ∧
    (toStopping d).sns.tables = d.sns.tables ∧ (toStopping d).sns.lines = d.sns.lines ∧ (toStopping d).sns.dial = d.sns.dial ∧
    (toStopping d).vbl = d.vbl ∧ (toStopping d).chg = d.chg ∧ (toStopping d).bgt.horizonSource = d.bgt.horizonSource ∧
    (toStopping d).bgt.defaultHorizon = d.bgt.defaultHorizon ∧ (toStopping d).bgt.last = d.bgt.last ∧
    (toStopping d).bgt.outlet = d.bgt.outlet ∧ (toStopping d).htr = d.htr ∧ (toStopping d).lgt = d.lgt ∧ (toStopping d).rtm = d.rtm ∧
    (toStopping d).npl = d.npl ∧ (toStopping d).lnk.receiver = d.lnk.receiver ∧ (toStopping d).lnk.lastByte = d.lnk.lastByte ∧
    (toStopping d).lnk.queue = d.lnk.queue ∧ (toStopping d).lnk.out = d.lnk.out ∧ (toStopping d).lnk.tx = d.lnk.tx ∧
    (toStopping d).lnk.sendEnd = d.lnk.sendEnd ∧ (toStopping d).lnk.awake = d.lnk.awake ∧ (toStopping d).lnk.idle = d.lnk.idle ∧
    (toStopping d).lnk.lastFrame = d.lnk.lastFrame ∧ (toStopping d).lnk.enables = d.lnk.enables ∧
    (toStopping d).lnk.idleTime = d.lnk.idleTime ∧ (toStopping d).lnk.resetKind = d.lnk.resetKind ∧
    (toStopping d).lnk.resetUptime = d.lnk.resetUptime ∧ (toStopping d).sched = d.sched := by
  unfold toStopping
  (try simp)
  all_goals ((repeat' split) <;> (try simp))
  all_goals ((repeat' split) <;> simp_all)

@[simp] theorem toDisabled_frame (d : Device) :
    (toDisabled d).pins = d.pins ∧ (toDisabled d).factory = d.factory ∧ (toDisabled d).sns.ms = d.sns.ms ∧
    (toDisabled d).sns.uptime = d.sns.uptime ∧ (toDisabled d).sns.clockSet = d.sns.clockSet ∧
    (toDisabled d).sns.clockOffset = d.sns.clockOffset ∧ (toDisabled d).sns.analog = d.sns.analog ∧
    (toDisabled d).sns.tables = d.sns.tables ∧ (toDisabled d).sns.lines = d.sns.lines ∧ (toDisabled d).sns.dial = d.sns.dial ∧
    (toDisabled d).vbl = d.vbl ∧ (toDisabled d).chg = d.chg ∧ (toDisabled d).bgt.horizonSource = d.bgt.horizonSource ∧
    (toDisabled d).bgt.defaultHorizon = d.bgt.defaultHorizon ∧ (toDisabled d).bgt.last = d.bgt.last ∧
    (toDisabled d).bgt.outlet = d.bgt.outlet ∧ (toDisabled d).htr = d.htr ∧ (toDisabled d).lgt = d.lgt ∧ (toDisabled d).rtm = d.rtm ∧
    (toDisabled d).npl = d.npl ∧ (toDisabled d).lnk.receiver = d.lnk.receiver ∧ (toDisabled d).lnk.lastByte = d.lnk.lastByte ∧
    (toDisabled d).lnk.queue = d.lnk.queue ∧ (toDisabled d).lnk.out = d.lnk.out ∧ (toDisabled d).lnk.tx = d.lnk.tx ∧
    (toDisabled d).lnk.sendEnd = d.lnk.sendEnd ∧ (toDisabled d).lnk.awake = d.lnk.awake ∧ (toDisabled d).lnk.idle = d.lnk.idle ∧
    (toDisabled d).lnk.lastFrame = d.lnk.lastFrame ∧ (toDisabled d).lnk.enables = d.lnk.enables ∧
    (toDisabled d).lnk.idleTime = d.lnk.idleTime ∧ (toDisabled d).lnk.resetKind = d.lnk.resetKind ∧
    (toDisabled d).lnk.resetUptime = d.lnk.resetUptime ∧ (toDisabled d).sched = d.sched := by
  unfold toDisabled
  (try simp)
  all_goals ((repeat' split) <;> (try simp))
  all_goals ((repeat' split) <;> simp_all)

@[simp] theorem startOffTimer_frame (d : Device) :
    (startOffTimer d).pins = d.pins ∧ (startOffTimer d).factory = d.factory ∧ (startOffTimer d).sns = d.sns ∧
    (startOffTimer d).vbl = d.vbl ∧ (startOffTimer d).chg = d.chg ∧ (startOffTimer d).bgt = d.bgt ∧ (startOffTimer d).htr = d.htr ∧
    (startOffTimer d).lgt = d.lgt ∧ (startOffTimer d).rtm = d.rtm ∧ (startOffTimer d).npl = d.npl ∧ (startOffTimer d).lnk = d.lnk ∧
    (startOffTimer d).sched = d.sched := by
  unfold startOffTimer
  (try simp)
  all_goals ((repeat' split) <;> (try simp))
  all_goals ((repeat' split) <;> simp_all)

@[simp] theorem compFails_frame (k : FailKind) (d : Device) :
    (compFails k d).pins = d.pins ∧ (compFails k d).factory = d.factory ∧ (compFails k d).sns.ms = d.sns.ms ∧
    (compFails k d).sns.uptime = d.sns.uptime ∧ (compFails k d).sns.clockSet = d.sns.clockSet ∧
    (compFails k d).sns.clockOffset = d.sns.clockOffset ∧ (compFails k d).sns.analog = d.sns.analog ∧
    (compFails k d).sns.tables = d.sns.tables ∧ (compFails k d).sns.lines = d.sns.lines ∧ (compFails k d).sns.dial = d.sns.dial ∧
    (compFails k d).vbl = d.vbl ∧ (compFails k d).chg = d.chg ∧ (compFails k d).bgt.horizonSource = d.bgt.horizonSource ∧
    (compFails k d).bgt.defaultHorizon = d.bgt.defaultHorizon ∧ (compFails k d).bgt.last = d.bgt.last ∧
    (compFails k d).bgt.outlet = d.bgt.outlet ∧ (compFails k d).htr = d.htr ∧ (compFails k d).lgt.channels = d.lgt.channels ∧
    (compFails k d).lgt.chSettings = d.lgt.chSettings ∧ (compFails k d).lgt.capStep = d.lgt.capStep ∧
    (compFails k d).lgt.written = d.lgt.written ∧ (compFails k d).lgt.scenes = d.lgt.scenes ∧
    (compFails k d).lgt.settings = d.lgt.settings ∧ (compFails k d).lgt.courtesyTimer = d.lgt.courtesyTimer ∧
    (compFails k d).lgt.ch7Applied = d.lgt.ch7Applied ∧ (compFails k d).rtm = d.rtm ∧ (compFails k d).npl = d.npl ∧
    (compFails k d).lnk.receiver = d.lnk.receiver ∧ (compFails k d).lnk.lastByte = d.lnk.lastByte ∧
    (compFails k d).lnk.queue = d.lnk.queue ∧ (compFails k d).lnk.out = d.lnk.out ∧ (compFails k d).lnk.tx = d.lnk.tx ∧
    (compFails k d).lnk.sendEnd = d.lnk.sendEnd ∧ (compFails k d).lnk.awake = d.lnk.awake ∧ (compFails k d).lnk.idle = d.lnk.idle ∧
    (compFails k d).lnk.lastFrame = d.lnk.lastFrame ∧ (compFails k d).lnk.enables = d.lnk.enables ∧
    (compFails k d).lnk.idleTime = d.lnk.idleTime ∧ (compFails k d).lnk.resetKind = d.lnk.resetKind ∧
    (compFails k d).lnk.resetUptime = d.lnk.resetUptime ∧ (compFails k d).sched = d.sched := by
  unfold compFails
  (try simp)
  all_goals ((repeat' split) <;> (try simp))
  all_goals ((repeat' split) <;> simp_all)

@[simp] theorem toStart_frame (d : Device) :
    (toStart d).pins = d.pins ∧ (toStart d).factory = d.factory ∧ (toStart d).sns.ms = d.sns.ms ∧
    (toStart d).sns.uptime = d.sns.uptime ∧ (toStart d).sns.clockSet = d.sns.clockSet ∧
    (toStart d).sns.clockOffset = d.sns.clockOffset ∧ (toStart d).sns.analog = d.sns.analog ∧ (toStart d).sns.tables = d.sns.tables ∧
    (toStart d).sns.lines = d.sns.lines ∧ (toStart d).sns.dial = d.sns.dial ∧ (toStart d).vbl = d.vbl ∧ (toStart d).chg = d.chg ∧
    (toStart d).bgt.horizonSource = d.bgt.horizonSource ∧ (toStart d).bgt.defaultHorizon = d.bgt.defaultHorizon ∧
    (toStart d).bgt.last = d.bgt.last ∧ (toStart d).bgt.outlet = d.bgt.outlet ∧ (toStart d).htr = d.htr ∧
    (toStart d).lgt.channels = d.lgt.channels ∧ (toStart d).lgt.chSettings = d.lgt.chSettings ∧
    (toStart d).lgt.capStep = d.lgt.capStep ∧ (toStart d).lgt.written = d.lgt.written ∧ (toStart d).lgt.scenes = d.lgt.scenes ∧
    (toStart d).lgt.settings = d.lgt.settings ∧ (toStart d).lgt.courtesyTimer = d.lgt.courtesyTimer ∧
    (toStart d).lgt.ch7Applied = d.lgt.ch7Applied ∧ (toStart d).rtm = d.rtm ∧ (toStart d).npl = d.npl ∧
    (toStart d).lnk.receiver = d.lnk.receiver ∧ (toStart d).lnk.lastByte = d.lnk.lastByte ∧ (toStart d).lnk.queue = d.lnk.queue ∧
    (toStart d).lnk.out = d.lnk.out ∧ (toStart d).lnk.tx = d.lnk.tx ∧ (toStart d).lnk.sendEnd = d.lnk.sendEnd ∧
    (toStart d).lnk.awake = d.lnk.awake ∧ (toStart d).lnk.idle = d.lnk.idle ∧ (toStart d).lnk.lastFrame = d.lnk.lastFrame ∧
    (toStart d).lnk.enables = d.lnk.enables ∧ (toStart d).lnk.idleTime = d.lnk.idleTime ∧
    (toStart d).lnk.resetKind = d.lnk.resetKind ∧ (toStart d).lnk.resetUptime = d.lnk.resetUptime ∧ (toStart d).sched = d.sched := by
  unfold toStart
  (try simp)
  all_goals ((repeat' split) <;> (try simp))
  all_goals ((repeat' split) <;> simp_all)

@[simp] theorem backToHold_frame (d : Device) :
    (backToHold d).pins = d.pins ∧ (backToHold d).factory = d.factory ∧ (backToHold d).sns.ms = d.sns.ms ∧
    (backToHold d).sns.uptime = d.sns.uptime ∧ (backToHold d).sns.clockSet = d.sns.clockSet ∧
    (backToHold d).sns.clockOffset = d.sns.clockOffset ∧ (backToHold d).sns.analog = d.sns.analog ∧
    (backToHold d).sns.tables = d.sns.tables ∧ (backToHold d).sns.lines = d.sns.lines ∧ (backToHold d).sns.dial = d.sns.dial ∧
    (backToHold d).vbl = d.vbl ∧ (backToHold d).chg = d.chg ∧ (backToHold d).bgt.horizonSource = d.bgt.horizonSource ∧
    (backToHold d).bgt.defaultHorizon = d.bgt.defaultHorizon ∧ (backToHold d).bgt.last = d.bgt.last ∧
    (backToHold d).bgt.outlet = d.bgt.outlet ∧ (backToHold d).htr = d.htr ∧ (backToHold d).lgt = d.lgt ∧ (backToHold d).rtm = d.rtm ∧
    (backToHold d).npl = d.npl ∧ (backToHold d).lnk.receiver = d.lnk.receiver ∧ (backToHold d).lnk.lastByte = d.lnk.lastByte ∧
    (backToHold d).lnk.queue = d.lnk.queue ∧ (backToHold d).lnk.out = d.lnk.out ∧ (backToHold d).lnk.tx = d.lnk.tx ∧
    (backToHold d).lnk.sendEnd = d.lnk.sendEnd ∧ (backToHold d).lnk.awake = d.lnk.awake ∧ (backToHold d).lnk.idle = d.lnk.idle ∧
    (backToHold d).lnk.lastFrame = d.lnk.lastFrame ∧ (backToHold d).lnk.enables = d.lnk.enables ∧
    (backToHold d).lnk.idleTime = d.lnk.idleTime ∧ (backToHold d).lnk.resetKind = d.lnk.resetKind ∧
    (backToHold d).lnk.resetUptime = d.lnk.resetUptime ∧ (backToHold d).sched = d.sched := by
  unfold backToHold
  (try simp)
  all_goals ((repeat' split) <;> (try simp))
  all_goals ((repeat' split) <;> simp_all)

@[simp] theorem toCompWait_frame (d : Device) :
    (toCompWait d).pins = d.pins ∧ (toCompWait d).factory = d.factory ∧ (toCompWait d).sns.ms = d.sns.ms ∧
    (toCompWait d).sns.uptime = d.sns.uptime ∧ (toCompWait d).sns.clockSet = d.sns.clockSet ∧
    (toCompWait d).sns.clockOffset = d.sns.clockOffset ∧ (toCompWait d).sns.analog = d.sns.analog ∧
    (toCompWait d).sns.tables = d.sns.tables ∧ (toCompWait d).sns.lines = d.sns.lines ∧ (toCompWait d).sns.dial = d.sns.dial ∧
    (toCompWait d).vbl = d.vbl ∧ (toCompWait d).chg = d.chg ∧ (toCompWait d).bgt.horizonSource = d.bgt.horizonSource ∧
    (toCompWait d).bgt.defaultHorizon = d.bgt.defaultHorizon ∧ (toCompWait d).bgt.last = d.bgt.last ∧
    (toCompWait d).bgt.outlet = d.bgt.outlet ∧ (toCompWait d).htr = d.htr ∧ (toCompWait d).lgt.channels = d.lgt.channels ∧
    (toCompWait d).lgt.chSettings = d.lgt.chSettings ∧ (toCompWait d).lgt.capStep = d.lgt.capStep ∧
    (toCompWait d).lgt.written = d.lgt.written ∧ (toCompWait d).lgt.scenes = d.lgt.scenes ∧
    (toCompWait d).lgt.settings = d.lgt.settings ∧ (toCompWait d).lgt.courtesyTimer = d.lgt.courtesyTimer ∧
    (toCompWait d).lgt.ch7Applied = d.lgt.ch7Applied ∧ (toCompWait d).rtm = d.rtm ∧ (toCompWait d).npl = d.npl ∧
    (toCompWait d).lnk.receiver = d.lnk.receiver ∧ (toCompWait d).lnk.lastByte = d.lnk.lastByte ∧
    (toCompWait d).lnk.queue = d.lnk.queue ∧ (toCompWait d).lnk.out = d.lnk.out ∧ (toCompWait d).lnk.tx = d.lnk.tx ∧
    (toCompWait d).lnk.sendEnd = d.lnk.sendEnd ∧ (toCompWait d).lnk.awake = d.lnk.awake ∧ (toCompWait d).lnk.idle = d.lnk.idle ∧
    (toCompWait d).lnk.lastFrame = d.lnk.lastFrame ∧ (toCompWait d).lnk.enables = d.lnk.enables ∧
    (toCompWait d).lnk.idleTime = d.lnk.idleTime ∧ (toCompWait d).lnk.resetKind = d.lnk.resetKind ∧
    (toCompWait d).lnk.resetUptime = d.lnk.resetUptime ∧ (toCompWait d).sched = d.sched := by
  unfold toCompWait
  have h0 := requestAllowance_frame .compressor (enterComp .waitInrush d)
  (repeat' split) <;> simp_all

@[simp] theorem holdTest_frame (d : Device) :
    (holdTest d).pins = d.pins ∧ (holdTest d).factory = d.factory ∧ (holdTest d).sns.ms = d.sns.ms ∧
    (holdTest d).sns.uptime = d.sns.uptime ∧ (holdTest d).sns.clockSet = d.sns.clockSet ∧
    (holdTest d).sns.clockOffset = d.sns.clockOffset ∧ (holdTest d).sns.analog = d.sns.analog ∧
    (holdTest d).sns.tables = d.sns.tables ∧ (holdTest d).sns.lines = d.sns.lines ∧ (holdTest d).sns.dial = d.sns.dial ∧
    (holdTest d).vbl = d.vbl ∧ (holdTest d).chg = d.chg ∧ (holdTest d).bgt.horizonSource = d.bgt.horizonSource ∧
    (holdTest d).bgt.defaultHorizon = d.bgt.defaultHorizon ∧ (holdTest d).bgt.last = d.bgt.last ∧
    (holdTest d).bgt.outlet = d.bgt.outlet ∧ (holdTest d).htr = d.htr ∧ (holdTest d).lgt.channels = d.lgt.channels ∧
    (holdTest d).lgt.chSettings = d.lgt.chSettings ∧ (holdTest d).lgt.capStep = d.lgt.capStep ∧
    (holdTest d).lgt.written = d.lgt.written ∧ (holdTest d).lgt.scenes = d.lgt.scenes ∧ (holdTest d).lgt.settings = d.lgt.settings ∧
    (holdTest d).lgt.courtesyTimer = d.lgt.courtesyTimer ∧ (holdTest d).lgt.ch7Applied = d.lgt.ch7Applied ∧ (holdTest d).rtm = d.rtm ∧
    (holdTest d).npl = d.npl ∧ (holdTest d).lnk.receiver = d.lnk.receiver ∧ (holdTest d).lnk.lastByte = d.lnk.lastByte ∧
    (holdTest d).lnk.queue = d.lnk.queue ∧ (holdTest d).lnk.out = d.lnk.out ∧ (holdTest d).lnk.tx = d.lnk.tx ∧
    (holdTest d).lnk.sendEnd = d.lnk.sendEnd ∧ (holdTest d).lnk.awake = d.lnk.awake ∧ (holdTest d).lnk.idle = d.lnk.idle ∧
    (holdTest d).lnk.lastFrame = d.lnk.lastFrame ∧ (holdTest d).lnk.enables = d.lnk.enables ∧
    (holdTest d).lnk.idleTime = d.lnk.idleTime ∧ (holdTest d).lnk.resetKind = d.lnk.resetKind ∧
    (holdTest d).lnk.resetUptime = d.lnk.resetUptime ∧ (holdTest d).sched = d.sched := by
  unfold holdTest
  (try simp)
  all_goals ((repeat' split) <;> (try simp))
  all_goals ((repeat' split) <;> simp_all)

@[simp] theorem toOffHold_frame (d : Device) :
    (toOffHold d).pins = d.pins ∧ (toOffHold d).factory = d.factory ∧ (toOffHold d).sns.ms = d.sns.ms ∧
    (toOffHold d).sns.uptime = d.sns.uptime ∧ (toOffHold d).sns.clockSet = d.sns.clockSet ∧
    (toOffHold d).sns.clockOffset = d.sns.clockOffset ∧ (toOffHold d).sns.analog = d.sns.analog ∧
    (toOffHold d).sns.tables = d.sns.tables ∧ (toOffHold d).sns.lines = d.sns.lines ∧ (toOffHold d).sns.dial = d.sns.dial ∧
    (toOffHold d).vbl = d.vbl ∧ (toOffHold d).chg = d.chg ∧ (toOffHold d).bgt.horizonSource = d.bgt.horizonSource ∧
    (toOffHold d).bgt.defaultHorizon = d.bgt.defaultHorizon ∧ (toOffHold d).bgt.last = d.bgt.last ∧
    (toOffHold d).bgt.outlet = d.bgt.outlet ∧ (toOffHold d).htr = d.htr ∧ (toOffHold d).lgt.channels = d.lgt.channels ∧
    (toOffHold d).lgt.chSettings = d.lgt.chSettings ∧ (toOffHold d).lgt.capStep = d.lgt.capStep ∧
    (toOffHold d).lgt.written = d.lgt.written ∧ (toOffHold d).lgt.scenes = d.lgt.scenes ∧
    (toOffHold d).lgt.settings = d.lgt.settings ∧ (toOffHold d).lgt.courtesyTimer = d.lgt.courtesyTimer ∧
    (toOffHold d).lgt.ch7Applied = d.lgt.ch7Applied ∧ (toOffHold d).rtm = d.rtm ∧ (toOffHold d).npl = d.npl ∧
    (toOffHold d).lnk.receiver = d.lnk.receiver ∧ (toOffHold d).lnk.lastByte = d.lnk.lastByte ∧
    (toOffHold d).lnk.queue = d.lnk.queue ∧ (toOffHold d).lnk.out = d.lnk.out ∧ (toOffHold d).lnk.tx = d.lnk.tx ∧
    (toOffHold d).lnk.sendEnd = d.lnk.sendEnd ∧ (toOffHold d).lnk.awake = d.lnk.awake ∧ (toOffHold d).lnk.idle = d.lnk.idle ∧
    (toOffHold d).lnk.lastFrame = d.lnk.lastFrame ∧ (toOffHold d).lnk.enables = d.lnk.enables ∧
    (toOffHold d).lnk.idleTime = d.lnk.idleTime ∧ (toOffHold d).lnk.resetKind = d.lnk.resetKind ∧
    (toOffHold d).lnk.resetUptime = d.lnk.resetUptime ∧ (toOffHold d).sched = d.sched := by
  unfold toOffHold
  (try simp)
  all_goals ((repeat' split) <;> (try simp))
  all_goals ((repeat' split) <;> simp_all)

@[simp] theorem learnCutOut_frame (d : Device) :
    (learnCutOut d).pins = d.pins ∧ (learnCutOut d).factory = d.factory ∧ (learnCutOut d).sns = d.sns ∧ (learnCutOut d).vbl = d.vbl ∧
    (learnCutOut d).chg = d.chg ∧ (learnCutOut d).bgt = d.bgt ∧ (learnCutOut d).htr = d.htr ∧ (learnCutOut d).lgt = d.lgt ∧
    (learnCutOut d).rtm = d.rtm ∧ (learnCutOut d).npl = d.npl ∧ (learnCutOut d).lnk = d.lnk ∧ (learnCutOut d).sched = d.sched := by
  unfold learnCutOut
  (try simp)
  all_goals ((repeat' split) <;> (try simp))
  all_goals ((repeat' split) <;> simp_all)

@[simp] theorem cutOut_frame (d : Device) :
    (cutOut d).pins = d.pins ∧ (cutOut d).factory = d.factory ∧ (cutOut d).sns.ms = d.sns.ms ∧ (cutOut d).sns.uptime = d.sns.uptime ∧
    (cutOut d).sns.clockSet = d.sns.clockSet ∧ (cutOut d).sns.clockOffset = d.sns.clockOffset ∧ (cutOut d).sns.analog = d.sns.analog ∧
    (cutOut d).sns.tables = d.sns.tables ∧ (cutOut d).sns.lines = d.sns.lines ∧ (cutOut d).sns.dial = d.sns.dial ∧
    (cutOut d).vbl = d.vbl ∧ (cutOut d).chg = d.chg ∧ (cutOut d).bgt.horizonSource = d.bgt.horizonSource ∧
    (cutOut d).bgt.defaultHorizon = d.bgt.defaultHorizon ∧ (cutOut d).bgt.last = d.bgt.last ∧ (cutOut d).bgt.outlet = d.bgt.outlet ∧
    (cutOut d).htr = d.htr ∧ (cutOut d).lgt = d.lgt ∧ (cutOut d).rtm = d.rtm ∧ (cutOut d).npl = d.npl ∧
    (cutOut d).lnk.receiver = d.lnk.receiver ∧ (cutOut d).lnk.lastByte = d.lnk.lastByte ∧ (cutOut d).lnk.queue = d.lnk.queue ∧
    (cutOut d).lnk.out = d.lnk.out ∧ (cutOut d).lnk.tx = d.lnk.tx ∧ (cutOut d).lnk.sendEnd = d.lnk.sendEnd ∧
    (cutOut d).lnk.awake = d.lnk.awake ∧ (cutOut d).lnk.idle = d.lnk.idle ∧ (cutOut d).lnk.lastFrame = d.lnk.lastFrame ∧
    (cutOut d).lnk.enables = d.lnk.enables ∧ (cutOut d).lnk.idleTime = d.lnk.idleTime ∧ (cutOut d).lnk.resetKind = d.lnk.resetKind ∧
    (cutOut d).lnk.resetUptime = d.lnk.resetUptime ∧ (cutOut d).sched = d.sched := by
  unfold cutOut
  (try simp)
  all_goals ((repeat' split) <;> (try simp))
  all_goals ((repeat' split) <;> simp_all)

@[simp] theorem toCompRun_frame (d : Device) :
    (toCompRun d).pins = d.pins ∧ (toCompRun d).factory = d.factory ∧ (toCompRun d).sns.uptime = d.sns.uptime ∧
    (toCompRun d).sns.clockSet = d.sns.clockSet ∧ (toCompRun d).sns.clockOffset = d.sns.clockOffset ∧
    (toCompRun d).sns.analog = d.sns.analog ∧ (toCompRun d).sns.tables = d.sns.tables ∧ (toCompRun d).sns.lines = d.sns.lines ∧
    (toCompRun d).sns.dial = d.sns.dial ∧ (toCompRun d).vbl = d.vbl ∧ (toCompRun d).chg = d.chg ∧
    (toCompRun d).bgt.horizonSource = d.bgt.horizonSource ∧ (toCompRun d).bgt.defaultHorizon = d.bgt.defaultHorizon ∧
    (toCompRun d).bgt.last = d.bgt.last ∧ (toCompRun d).bgt.outlet = d.bgt.outlet ∧ (toCompRun d).htr = d.htr ∧
    (toCompRun d).lgt.channels = d.lgt.channels ∧ (toCompRun d).lgt.chSettings = d.lgt.chSettings ∧
    (toCompRun d).lgt.capStep = d.lgt.capStep ∧ (toCompRun d).lgt.written = d.lgt.written ∧ (toCompRun d).lgt.scenes = d.lgt.scenes ∧
    (toCompRun d).lgt.settings = d.lgt.settings ∧ (toCompRun d).lgt.courtesyTimer = d.lgt.courtesyTimer ∧
    (toCompRun d).lgt.ch7Applied = d.lgt.ch7Applied ∧ (toCompRun d).rtm = d.rtm ∧ (toCompRun d).npl = d.npl ∧
    (toCompRun d).lnk.receiver = d.lnk.receiver ∧ (toCompRun d).lnk.lastByte = d.lnk.lastByte ∧
    (toCompRun d).lnk.queue = d.lnk.queue ∧ (toCompRun d).lnk.out = d.lnk.out ∧ (toCompRun d).lnk.tx = d.lnk.tx ∧
    (toCompRun d).lnk.sendEnd = d.lnk.sendEnd ∧ (toCompRun d).lnk.awake = d.lnk.awake ∧ (toCompRun d).lnk.idle = d.lnk.idle ∧
    (toCompRun d).lnk.lastFrame = d.lnk.lastFrame ∧ (toCompRun d).lnk.enables = d.lnk.enables ∧
    (toCompRun d).lnk.idleTime = d.lnk.idleTime ∧ (toCompRun d).lnk.resetKind = d.lnk.resetKind ∧
    (toCompRun d).lnk.resetUptime = d.lnk.resetUptime ∧ (toCompRun d).sched = d.sched := by
  unfold toCompRun
  (try simp)
  all_goals ((repeat' split) <;> (try simp))
  all_goals ((repeat' split) <;> simp_all)

@[simp] theorem demandComes_frame (d0 : Device) :
    (demandComes d0).pins = d0.pins ∧ (demandComes d0).factory = d0.factory ∧ (demandComes d0).sns.ms = d0.sns.ms ∧
    (demandComes d0).sns.uptime = d0.sns.uptime ∧ (demandComes d0).sns.clockSet = d0.sns.clockSet ∧
    (demandComes d0).sns.clockOffset = d0.sns.clockOffset ∧ (demandComes d0).sns.analog = d0.sns.analog ∧
    (demandComes d0).sns.tables = d0.sns.tables ∧ (demandComes d0).sns.lines = d0.sns.lines ∧
    (demandComes d0).sns.dial = d0.sns.dial ∧ (demandComes d0).vbl = d0.vbl ∧ (demandComes d0).chg = d0.chg ∧
    (demandComes d0).bgt.horizonSource = d0.bgt.horizonSource ∧ (demandComes d0).bgt.defaultHorizon = d0.bgt.defaultHorizon ∧
    (demandComes d0).bgt.last = d0.bgt.last ∧ (demandComes d0).bgt.outlet = d0.bgt.outlet ∧ (demandComes d0).htr = d0.htr ∧
    (demandComes d0).lgt.channels = d0.lgt.channels ∧ (demandComes d0).lgt.chSettings = d0.lgt.chSettings ∧
    (demandComes d0).lgt.capStep = d0.lgt.capStep ∧ (demandComes d0).lgt.written = d0.lgt.written ∧
    (demandComes d0).lgt.scenes = d0.lgt.scenes ∧ (demandComes d0).lgt.settings = d0.lgt.settings ∧
    (demandComes d0).lgt.courtesyTimer = d0.lgt.courtesyTimer ∧ (demandComes d0).lgt.ch7Applied = d0.lgt.ch7Applied ∧
    (demandComes d0).rtm = d0.rtm ∧ (demandComes d0).npl = d0.npl ∧ (demandComes d0).lnk.receiver = d0.lnk.receiver ∧
    (demandComes d0).lnk.lastByte = d0.lnk.lastByte ∧ (demandComes d0).lnk.queue = d0.lnk.queue ∧
    (demandComes d0).lnk.out = d0.lnk.out ∧ (demandComes d0).lnk.tx = d0.lnk.tx ∧ (demandComes d0).lnk.sendEnd = d0.lnk.sendEnd ∧
    (demandComes d0).lnk.awake = d0.lnk.awake ∧ (demandComes d0).lnk.idle = d0.lnk.idle ∧
    (demandComes d0).lnk.lastFrame = d0.lnk.lastFrame ∧ (demandComes d0).lnk.enables = d0.lnk.enables ∧
    (demandComes d0).lnk.idleTime = d0.lnk.idleTime ∧ (demandComes d0).lnk.resetKind = d0.lnk.resetKind ∧
    (demandComes d0).lnk.resetUptime = d0.lnk.resetUptime ∧ (demandComes d0).sched = d0.sched := by
  unfold demandComes
  (try simp)
  all_goals ((repeat' split) <;> (try simp))
  all_goals ((repeat' split) <;> simp_all)

@[simp] theorem demandGoes_frame (d0 : Device) :
    (demandGoes d0).pins = d0.pins ∧ (demandGoes d0).factory = d0.factory ∧ (demandGoes d0).sns.ms = d0.sns.ms ∧
    (demandGoes d0).sns.uptime = d0.sns.uptime ∧ (demandGoes d0).sns.clockSet = d0.sns.clockSet ∧
    (demandGoes d0).sns.clockOffset = d0.sns.clockOffset ∧ (demandGoes d0).sns.analog = d0.sns.analog ∧
    (demandGoes d0).sns.tables = d0.sns.tables ∧ (demandGoes d0).sns.lines = d0.sns.lines ∧ (demandGoes d0).sns.dial = d0.sns.dial ∧
    (demandGoes d0).vbl = d0.vbl ∧ (demandGoes d0).chg = d0.chg ∧ (demandGoes d0).bgt.horizonSource = d0.bgt.horizonSource ∧
    (demandGoes d0).bgt.defaultHorizon = d0.bgt.defaultHorizon ∧ (demandGoes d0).bgt.last = d0.bgt.last ∧
    (demandGoes d0).bgt.outlet = d0.bgt.outlet ∧ (demandGoes d0).htr = d0.htr ∧ (demandGoes d0).lgt.channels = d0.lgt.channels ∧
    (demandGoes d0).lgt.chSettings = d0.lgt.chSettings ∧ (demandGoes d0).lgt.capStep = d0.lgt.capStep ∧
    (demandGoes d0).lgt.written = d0.lgt.written ∧ (demandGoes d0).lgt.scenes = d0.lgt.scenes ∧
    (demandGoes d0).lgt.settings = d0.lgt.settings ∧ (demandGoes d0).lgt.courtesyTimer = d0.lgt.courtesyTimer ∧
    (demandGoes d0).lgt.ch7Applied = d0.lgt.ch7Applied ∧ (demandGoes d0).rtm = d0.rtm ∧ (demandGoes d0).npl = d0.npl ∧
    (demandGoes d0).lnk.receiver = d0.lnk.receiver ∧ (demandGoes d0).lnk.lastByte = d0.lnk.lastByte ∧
    (demandGoes d0).lnk.queue = d0.lnk.queue ∧ (demandGoes d0).lnk.out = d0.lnk.out ∧ (demandGoes d0).lnk.tx = d0.lnk.tx ∧
    (demandGoes d0).lnk.sendEnd = d0.lnk.sendEnd ∧ (demandGoes d0).lnk.awake = d0.lnk.awake ∧ (demandGoes d0).lnk.idle = d0.lnk.idle ∧
    (demandGoes d0).lnk.lastFrame = d0.lnk.lastFrame ∧ (demandGoes d0).lnk.enables = d0.lnk.enables ∧
    (demandGoes d0).lnk.idleTime = d0.lnk.idleTime ∧ (demandGoes d0).lnk.resetKind = d0.lnk.resetKind ∧
    (demandGoes d0).lnk.resetUptime = d0.lnk.resetUptime ∧ (demandGoes d0).sched = d0.sched := by
  unfold demandGoes
  (try simp)
  all_goals ((repeat' split) <;> (try simp))
  all_goals ((repeat' split) <;> simp_all)

@[simp] theorem setDemand_frame (v : Bool) (d : Device) :
    (setDemand v d).pins = d.pins ∧ (setDemand v d).factory = d.factory ∧ (setDemand v d).sns.ms = d.sns.ms ∧
    (setDemand v d).sns.uptime = d.sns.uptime ∧ (setDemand v d).sns.clockSet = d.sns.clockSet ∧
    (setDemand v d).sns.clockOffset = d.sns.clockOffset ∧ (setDemand v d).sns.analog = d.sns.analog ∧
    (setDemand v d).sns.tables = d.sns.tables ∧ (setDemand v d).sns.lines = d.sns.lines ∧ (setDemand v d).sns.dial = d.sns.dial ∧
    (setDemand v d).vbl = d.vbl ∧ (setDemand v d).chg = d.chg ∧ (setDemand v d).bgt.horizonSource = d.bgt.horizonSource ∧
    (setDemand v d).bgt.defaultHorizon = d.bgt.defaultHorizon ∧ (setDemand v d).bgt.last = d.bgt.last ∧
    (setDemand v d).bgt.outlet = d.bgt.outlet ∧ (setDemand v d).htr = d.htr ∧ (setDemand v d).lgt.channels = d.lgt.channels ∧
    (setDemand v d).lgt.chSettings = d.lgt.chSettings ∧ (setDemand v d).lgt.capStep = d.lgt.capStep ∧
    (setDemand v d).lgt.written = d.lgt.written ∧ (setDemand v d).lgt.scenes = d.lgt.scenes ∧
    (setDemand v d).lgt.settings = d.lgt.settings ∧ (setDemand v d).lgt.courtesyTimer = d.lgt.courtesyTimer ∧
    (setDemand v d).lgt.ch7Applied = d.lgt.ch7Applied ∧ (setDemand v d).rtm = d.rtm ∧ (setDemand v d).npl = d.npl ∧
    (setDemand v d).lnk.receiver = d.lnk.receiver ∧ (setDemand v d).lnk.lastByte = d.lnk.lastByte ∧
    (setDemand v d).lnk.queue = d.lnk.queue ∧ (setDemand v d).lnk.out = d.lnk.out ∧ (setDemand v d).lnk.tx = d.lnk.tx ∧
    (setDemand v d).lnk.sendEnd = d.lnk.sendEnd ∧ (setDemand v d).lnk.awake = d.lnk.awake ∧ (setDemand v d).lnk.idle = d.lnk.idle ∧
    (setDemand v d).lnk.lastFrame = d.lnk.lastFrame ∧ (setDemand v d).lnk.enables = d.lnk.enables ∧
    (setDemand v d).lnk.idleTime = d.lnk.idleTime ∧ (setDemand v d).lnk.resetKind = d.lnk.resetKind ∧
    (setDemand v d).lnk.resetUptime = d.lnk.resetUptime ∧ (setDemand v d).sched = d.sched := by
  unfold setDemand
  (try simp)
  all_goals ((repeat' split) <;> (try simp))
  all_goals ((repeat' split) <;> simp_all)

@[simp] theorem thermostat_frame (d : Device) :
    (thermostat d).pins = d.pins ∧ (thermostat d).factory = d.factory ∧ (thermostat d).sns.ms = d.sns.ms ∧
    (thermostat d).sns.uptime = d.sns.uptime ∧ (thermostat d).sns.clockSet = d.sns.clockSet ∧
    (thermostat d).sns.clockOffset = d.sns.clockOffset ∧ (thermostat d).sns.analog = d.sns.analog ∧
    (thermostat d).sns.tables = d.sns.tables ∧ (thermostat d).sns.lines = d.sns.lines ∧ (thermostat d).sns.dial = d.sns.dial ∧
    (thermostat d).vbl = d.vbl ∧ (thermostat d).chg = d.chg ∧ (thermostat d).bgt.horizonSource = d.bgt.horizonSource ∧
    (thermostat d).bgt.defaultHorizon = d.bgt.defaultHorizon ∧ (thermostat d).bgt.last = d.bgt.last ∧
    (thermostat d).bgt.outlet = d.bgt.outlet ∧ (thermostat d).htr = d.htr ∧ (thermostat d).lgt.channels = d.lgt.channels ∧
    (thermostat d).lgt.chSettings = d.lgt.chSettings ∧ (thermostat d).lgt.capStep = d.lgt.capStep ∧
    (thermostat d).lgt.written = d.lgt.written ∧ (thermostat d).lgt.scenes = d.lgt.scenes ∧
    (thermostat d).lgt.settings = d.lgt.settings ∧ (thermostat d).lgt.courtesyTimer = d.lgt.courtesyTimer ∧
    (thermostat d).lgt.ch7Applied = d.lgt.ch7Applied ∧ (thermostat d).rtm = d.rtm ∧ (thermostat d).npl = d.npl ∧
    (thermostat d).lnk.receiver = d.lnk.receiver ∧ (thermostat d).lnk.lastByte = d.lnk.lastByte ∧
    (thermostat d).lnk.queue = d.lnk.queue ∧ (thermostat d).lnk.out = d.lnk.out ∧ (thermostat d).lnk.tx = d.lnk.tx ∧
    (thermostat d).lnk.sendEnd = d.lnk.sendEnd ∧ (thermostat d).lnk.awake = d.lnk.awake ∧ (thermostat d).lnk.idle = d.lnk.idle ∧
    (thermostat d).lnk.lastFrame = d.lnk.lastFrame ∧ (thermostat d).lnk.enables = d.lnk.enables ∧
    (thermostat d).lnk.idleTime = d.lnk.idleTime ∧ (thermostat d).lnk.resetKind = d.lnk.resetKind ∧
    (thermostat d).lnk.resetUptime = d.lnk.resetUptime ∧ (thermostat d).sched = d.sched := by
  unfold thermostat
  (try simp)
  all_goals ((repeat' split) <;> (try simp))
  all_goals ((repeat' split) <;> simp_all)

@[simp] theorem enterTimed_frame (d : Device) :
    (enterTimed d).pins = d.pins ∧ (enterTimed d).factory = d.factory ∧ (enterTimed d).sns.ms = d.sns.ms ∧
    (enterTimed d).sns.uptime = d.sns.uptime ∧ (enterTimed d).sns.clockSet = d.sns.clockSet ∧
    (enterTimed d).sns.clockOffset = d.sns.clockOffset ∧ (enterTimed d).sns.analog = d.sns.analog ∧
    (enterTimed d).sns.tables = d.sns.tables ∧ (enterTimed d).sns.lines = d.sns.lines ∧ (enterTimed d).sns.dial = d.sns.dial ∧
    (enterTimed d).vbl = d.vbl ∧ (enterTimed d).chg = d.chg ∧ (enterTimed d).bgt.horizonSource = d.bgt.horizonSource ∧
    (enterTimed d).bgt.defaultHorizon = d.bgt.defaultHorizon ∧ (enterTimed d).bgt.last = d.bgt.last ∧
    (enterTimed d).bgt.outlet = d.bgt.outlet ∧ (enterTimed d).htr = d.htr ∧ (enterTimed d).lgt.channels = d.lgt.channels ∧
    (enterTimed d).lgt.chSettings = d.lgt.chSettings ∧ (enterTimed d).lgt.capStep = d.lgt.capStep ∧
    (enterTimed d).lgt.written = d.lgt.written ∧ (enterTimed d).lgt.scenes = d.lgt.scenes ∧
    (enterTimed d).lgt.settings = d.lgt.settings ∧ (enterTimed d).lgt.courtesyTimer = d.lgt.courtesyTimer ∧
    (enterTimed d).lgt.ch7Applied = d.lgt.ch7Applied ∧ (enterTimed d).rtm = d.rtm ∧ (enterTimed d).npl = d.npl ∧
    (enterTimed d).lnk.receiver = d.lnk.receiver ∧ (enterTimed d).lnk.lastByte = d.lnk.lastByte ∧
    (enterTimed d).lnk.queue = d.lnk.queue ∧ (enterTimed d).lnk.out = d.lnk.out ∧ (enterTimed d).lnk.tx = d.lnk.tx ∧
    (enterTimed d).lnk.sendEnd = d.lnk.sendEnd ∧ (enterTimed d).lnk.awake = d.lnk.awake ∧ (enterTimed d).lnk.idle = d.lnk.idle ∧
    (enterTimed d).lnk.lastFrame = d.lnk.lastFrame ∧ (enterTimed d).lnk.enables = d.lnk.enables ∧
    (enterTimed d).lnk.idleTime = d.lnk.idleTime ∧ (enterTimed d).lnk.resetKind = d.lnk.resetKind ∧
    (enterTimed d).lnk.resetUptime = d.lnk.resetUptime ∧ (enterTimed d).sched = d.sched := by
  unfold enterTimed
  (try simp)
  all_goals ((repeat' split) <;> (try simp))
  all_goals ((repeat' split) <;> simp_all)

@[simp] theorem leaveTimed_frame (d : Device) :
    (leaveTimed d).pins = d.pins ∧ (leaveTimed d).factory = d.factory ∧ (leaveTimed d).sns = d.sns ∧ (leaveTimed d).vbl = d.vbl ∧
    (leaveTimed d).chg = d.chg ∧ (leaveTimed d).bgt.horizonSource = d.bgt.horizonSource ∧
    (leaveTimed d).bgt.defaultHorizon = d.bgt.defaultHorizon ∧ (leaveTimed d).bgt.last = d.bgt.last ∧
    (leaveTimed d).bgt.outlet = d.bgt.outlet ∧ (leaveTimed d).htr = d.htr ∧ (leaveTimed d).lgt = d.lgt ∧ (leaveTimed d).rtm = d.rtm ∧
    (leaveTimed d).npl = d.npl ∧ (leaveTimed d).lnk.receiver = d.lnk.receiver ∧ (leaveTimed d).lnk.lastByte = d.lnk.lastByte ∧
    (leaveTimed d).lnk.queue = d.lnk.queue ∧ (leaveTimed d).lnk.out = d.lnk.out ∧ (leaveTimed d).lnk.tx = d.lnk.tx ∧
    (leaveTimed d).lnk.sendEnd = d.lnk.sendEnd ∧ (leaveTimed d).lnk.awake = d.lnk.awake ∧ (leaveTimed d).lnk.idle = d.lnk.idle ∧
    (leaveTimed d).lnk.lastFrame = d.lnk.lastFrame ∧ (leaveTimed d).lnk.enables = d.lnk.enables ∧
    (leaveTimed d).lnk.idleTime = d.lnk.idleTime ∧ (leaveTimed d).lnk.resetKind = d.lnk.resetKind ∧
    (leaveTimed d).lnk.resetUptime = d.lnk.resetUptime ∧ (leaveTimed d).sched = d.sched := by
  unfold leaveTimed
  (try simp)
  all_goals ((repeat' split) <;> (try simp))
  all_goals ((repeat' split) <;> simp_all)

@[simp] theorem compSweep_frame (d : Device) :
    (compSweep d).pins = d.pins ∧ (compSweep d).factory = d.factory ∧ (compSweep d).sns.ms = d.sns.ms ∧
    (compSweep d).sns.uptime = d.sns.uptime ∧ (compSweep d).sns.clockSet = d.sns.clockSet ∧
    (compSweep d).sns.clockOffset = d.sns.clockOffset ∧ (compSweep d).sns.analog = d.sns.analog ∧
    (compSweep d).sns.tables = d.sns.tables ∧ (compSweep d).sns.lines = d.sns.lines ∧ (compSweep d).sns.dial = d.sns.dial ∧
    (compSweep d).vbl = d.vbl ∧ (compSweep d).chg = d.chg ∧ (compSweep d).bgt.horizonSource = d.bgt.horizonSource ∧
    (compSweep d).bgt.defaultHorizon = d.bgt.defaultHorizon ∧ (compSweep d).bgt.last = d.bgt.last ∧
    (compSweep d).bgt.outlet = d.bgt.outlet ∧ (compSweep d).htr = d.htr ∧ (compSweep d).lgt.channels = d.lgt.channels ∧
    (compSweep d).lgt.chSettings = d.lgt.chSettings ∧ (compSweep d).lgt.capStep = d.lgt.capStep ∧
    (compSweep d).lgt.written = d.lgt.written ∧ (compSweep d).lgt.scenes = d.lgt.scenes ∧
    (compSweep d).lgt.settings = d.lgt.settings ∧ (compSweep d).lgt.courtesyTimer = d.lgt.courtesyTimer ∧
    (compSweep d).lgt.ch7Applied = d.lgt.ch7Applied ∧ (compSweep d).rtm = d.rtm ∧ (compSweep d).npl = d.npl ∧
    (compSweep d).lnk.receiver = d.lnk.receiver ∧ (compSweep d).lnk.lastByte = d.lnk.lastByte ∧
    (compSweep d).lnk.queue = d.lnk.queue ∧ (compSweep d).lnk.out = d.lnk.out ∧ (compSweep d).lnk.tx = d.lnk.tx ∧
    (compSweep d).lnk.sendEnd = d.lnk.sendEnd ∧ (compSweep d).lnk.awake = d.lnk.awake ∧ (compSweep d).lnk.idle = d.lnk.idle ∧
    (compSweep d).lnk.lastFrame = d.lnk.lastFrame ∧ (compSweep d).lnk.enables = d.lnk.enables ∧
    (compSweep d).lnk.idleTime = d.lnk.idleTime ∧ (compSweep d).lnk.resetKind = d.lnk.resetKind ∧
    (compSweep d).lnk.resetUptime = d.lnk.resetUptime ∧ (compSweep d).sched = d.sched := by
  unfold compSweep
  (try simp)
  all_goals ((repeat' split) <;> (try simp))
  all_goals ((repeat' split) <;> simp_all)

@[simp] theorem phaseExpiry_frame (d : Device) :
    (phaseExpiry d).pins = d.pins ∧ (phaseExpiry d).factory = d.factory ∧ (phaseExpiry d).sns.ms = d.sns.ms ∧
    (phaseExpiry d).sns.uptime = d.sns.uptime ∧ (phaseExpiry d).sns.clockSet = d.sns.clockSet ∧
    (phaseExpiry d).sns.clockOffset = d.sns.clockOffset ∧ (phaseExpiry d).sns.analog = d.sns.analog ∧
    (phaseExpiry d).sns.tables = d.sns.tables ∧ (phaseExpiry d).sns.lines = d.sns.lines ∧ (phaseExpiry d).sns.dial = d.sns.dial ∧
    (phaseExpiry d).vbl = d.vbl ∧ (phaseExpiry d).chg = d.chg ∧ (phaseExpiry d).bgt.horizonSource = d.bgt.horizonSource ∧
    (phaseExpiry d).bgt.defaultHorizon = d.bgt.defaultHorizon ∧ (phaseExpiry d).bgt.last = d.bgt.last ∧
    (phaseExpiry d).bgt.outlet = d.bgt.outlet ∧ (phaseExpiry d).htr = d.htr ∧ (phaseExpiry d).lgt.channels = d.lgt.channels ∧
    (phaseExpiry d).lgt.chSettings = d.lgt.chSettings ∧ (phaseExpiry d).lgt.capStep = d.lgt.capStep ∧
    (phaseExpiry d).lgt.written = d.lgt.written ∧ (phaseExpiry d).lgt.scenes = d.lgt.scenes ∧
    (phaseExpiry d).lgt.settings = d.lgt.settings ∧ (phaseExpiry d).lgt.courtesyTimer = d.lgt.courtesyTimer ∧
    (phaseExpiry d).lgt.ch7Applied = d.lgt.ch7Applied ∧ (phaseExpiry d).rtm = d.rtm ∧ (phaseExpiry d).npl = d.npl ∧
    (phaseExpiry d).lnk.receiver = d.lnk.receiver ∧ (phaseExpiry d).lnk.lastByte = d.lnk.lastByte ∧
    (phaseExpiry d).lnk.queue = d.lnk.queue ∧ (phaseExpiry d).lnk.out = d.lnk.out ∧ (phaseExpiry d).lnk.tx = d.lnk.tx ∧
    (phaseExpiry d).lnk.sendEnd = d.lnk.sendEnd ∧ (phaseExpiry d).lnk.awake = d.lnk.awake ∧ (phaseExpiry d).lnk.idle = d.lnk.idle ∧
    (phaseExpiry d).lnk.lastFrame = d.lnk.lastFrame ∧ (phaseExpiry d).lnk.enables = d.lnk.enables ∧
    (phaseExpiry d).lnk.idleTime = d.lnk.idleTime ∧ (phaseExpiry d).lnk.resetKind = d.lnk.resetKind ∧
    (phaseExpiry d).lnk.resetUptime = d.lnk.resetUptime ∧ (phaseExpiry d).sched = d.sched := by
  unfold phaseExpiry
  (try simp)
  all_goals ((repeat' split) <;> (try simp))
  all_goals ((repeat' split) <;> simp_all)

@[simp] theorem compGrant_frame (d0 : Device) :
    (compGrant d0).pins = d0.pins ∧ (compGrant d0).factory = d0.factory ∧ (compGrant d0).sns.ms = d0.sns.ms ∧
    (compGrant d0).sns.uptime = d0.sns.uptime ∧ (compGrant d0).sns.clockSet = d0.sns.clockSet ∧
    (compGrant d0).sns.clockOffset = d0.sns.clockOffset ∧ (compGrant d0).sns.analog = d0.sns.analog ∧
    (compGrant d0).sns.tables = d0.sns.tables ∧ (compGrant d0).sns.lines = d0.sns.lines ∧ (compGrant d0).sns.dial = d0.sns.dial ∧
    (compGrant d0).vbl = d0.vbl ∧ (compGrant d0).chg = d0.chg ∧ (compGrant d0).bgt.horizonSource = d0.bgt.horizonSource ∧
    (compGrant d0).bgt.defaultHorizon = d0.bgt.defaultHorizon ∧ (compGrant d0).bgt.last = d0.bgt.last ∧
    (compGrant d0).bgt.outlet = d0.bgt.outlet ∧ (compGrant d0).htr = d0.htr ∧ (compGrant d0).lgt.channels = d0.lgt.channels ∧
    (compGrant d0).lgt.chSettings = d0.lgt.chSettings ∧ (compGrant d0).lgt.capStep = d0.lgt.capStep ∧
    (compGrant d0).lgt.written = d0.lgt.written ∧ (compGrant d0).lgt.scenes = d0.lgt.scenes ∧
    (compGrant d0).lgt.settings = d0.lgt.settings ∧ (compGrant d0).lgt.courtesyTimer = d0.lgt.courtesyTimer ∧
    (compGrant d0).lgt.ch7Applied = d0.lgt.ch7Applied ∧ (compGrant d0).rtm = d0.rtm ∧ (compGrant d0).npl = d0.npl ∧
    (compGrant d0).lnk.receiver = d0.lnk.receiver ∧ (compGrant d0).lnk.lastByte = d0.lnk.lastByte ∧
    (compGrant d0).lnk.queue = d0.lnk.queue ∧ (compGrant d0).lnk.out = d0.lnk.out ∧ (compGrant d0).lnk.tx = d0.lnk.tx ∧
    (compGrant d0).lnk.sendEnd = d0.lnk.sendEnd ∧ (compGrant d0).lnk.awake = d0.lnk.awake ∧ (compGrant d0).lnk.idle = d0.lnk.idle ∧
    (compGrant d0).lnk.lastFrame = d0.lnk.lastFrame ∧ (compGrant d0).lnk.enables = d0.lnk.enables ∧
    (compGrant d0).lnk.idleTime = d0.lnk.idleTime ∧ (compGrant d0).lnk.resetKind = d0.lnk.resetKind ∧
    (compGrant d0).lnk.resetUptime = d0.lnk.resetUptime ∧ (compGrant d0).sched = d0.sched := by
  unfold compGrant
  (try simp)
  all_goals ((repeat' split) <;> (try simp))
  all_goals ((repeat' split) <;> simp_all)

@[simp] theorem compGranted_frame (d : Device) :
    (compGranted d).pins = d.pins ∧ (compGranted d).factory = d.factory ∧ (compGranted d).sns.ms = d.sns.ms ∧
    (compGranted d).sns.uptime = d.sns.uptime ∧ (compGranted d).sns.clockSet = d.sns.clockSet ∧
    (compGranted d).sns.clockOffset = d.sns.clockOffset ∧ (compGranted d).sns.analog = d.sns.analog ∧
    (compGranted d).sns.tables = d.sns.tables ∧ (compGranted d).sns.lines = d.sns.lines ∧ (compGranted d).sns.dial = d.sns.dial ∧
    (compGranted d).vbl = d.vbl ∧ (compGranted d).chg = d.chg ∧ (compGranted d).bgt.horizonSource = d.bgt.horizonSource ∧
    (compGranted d).bgt.defaultHorizon = d.bgt.defaultHorizon ∧ (compGranted d).bgt.last = d.bgt.last ∧
    (compGranted d).bgt.outlet = d.bgt.outlet ∧ (compGranted d).htr = d.htr ∧ (compGranted d).lgt.channels = d.lgt.channels ∧
    (compGranted d).lgt.chSettings = d.lgt.chSettings ∧ (compGranted d).lgt.capStep = d.lgt.capStep ∧
    (compGranted d).lgt.written = d.lgt.written ∧ (compGranted d).lgt.scenes = d.lgt.scenes ∧
    (compGranted d).lgt.settings = d.lgt.settings ∧ (compGranted d).lgt.courtesyTimer = d.lgt.courtesyTimer ∧
    (compGranted d).lgt.ch7Applied = d.lgt.ch7Applied ∧ (compGranted d).rtm = d.rtm ∧ (compGranted d).npl = d.npl ∧
    (compGranted d).lnk.receiver = d.lnk.receiver ∧ (compGranted d).lnk.lastByte = d.lnk.lastByte ∧
    (compGranted d).lnk.queue = d.lnk.queue ∧ (compGranted d).lnk.out = d.lnk.out ∧ (compGranted d).lnk.tx = d.lnk.tx ∧
    (compGranted d).lnk.sendEnd = d.lnk.sendEnd ∧ (compGranted d).lnk.awake = d.lnk.awake ∧ (compGranted d).lnk.idle = d.lnk.idle ∧
    (compGranted d).lnk.lastFrame = d.lnk.lastFrame ∧ (compGranted d).lnk.enables = d.lnk.enables ∧
    (compGranted d).lnk.idleTime = d.lnk.idleTime ∧ (compGranted d).lnk.resetKind = d.lnk.resetKind ∧
    (compGranted d).lnk.resetUptime = d.lnk.resetUptime ∧ (compGranted d).sched = d.sched := by
  unfold compGranted
  (try simp)
  all_goals ((repeat' split) <;> (try simp))
  all_goals ((repeat' split) <;> simp_all)

@[simp] theorem compDenied_frame (d : Device) :
    (compDenied d).pins = d.pins ∧ (compDenied d).factory = d.factory ∧ (compDenied d).sns.ms = d.sns.ms ∧
    (compDenied d).sns.uptime = d.sns.uptime ∧ (compDenied d).sns.clockSet = d.sns.clockSet ∧
    (compDenied d).sns.clockOffset = d.sns.clockOffset ∧ (compDenied d).sns.analog = d.sns.analog ∧
    (compDenied d).sns.tables = d.sns.tables ∧ (compDenied d).sns.lines = d.sns.lines ∧ (compDenied d).sns.dial = d.sns.dial ∧
    (compDenied d).vbl = d.vbl ∧ (compDenied d).chg = d.chg ∧ (compDenied d).bgt.horizonSource = d.bgt.horizonSource ∧
    (compDenied d).bgt.defaultHorizon = d.bgt.defaultHorizon ∧ (compDenied d).bgt.last = d.bgt.last ∧
    (compDenied d).bgt.outlet = d.bgt.outlet ∧ (compDenied d).htr = d.htr ∧ (compDenied d).lgt = d.lgt ∧ (compDenied d).rtm = d.rtm ∧
    (compDenied d).npl = d.npl ∧ (compDenied d).lnk.receiver = d.lnk.receiver ∧ (compDenied d).lnk.lastByte = d.lnk.lastByte ∧
    (compDenied d).lnk.queue = d.lnk.queue ∧ (compDenied d).lnk.out = d.lnk.out ∧ (compDenied d).lnk.tx = d.lnk.tx ∧
    (compDenied d).lnk.sendEnd = d.lnk.sendEnd ∧ (compDenied d).lnk.awake = d.lnk.awake ∧ (compDenied d).lnk.idle = d.lnk.idle ∧
    (compDenied d).lnk.lastFrame = d.lnk.lastFrame ∧ (compDenied d).lnk.enables = d.lnk.enables ∧
    (compDenied d).lnk.idleTime = d.lnk.idleTime ∧ (compDenied d).lnk.resetKind = d.lnk.resetKind ∧
    (compDenied d).lnk.resetUptime = d.lnk.resetUptime ∧ (compDenied d).sched = d.sched := by
  unfold compDenied
  (try simp)
  all_goals ((repeat' split) <;> (try simp))
  all_goals ((repeat' split) <;> simp_all)

@[simp] theorem compRevoked_frame (d : Device) :
    (compRevoked d).pins = d.pins ∧ (compRevoked d).factory = d.factory ∧ (compRevoked d).sns.ms = d.sns.ms ∧
    (compRevoked d).sns.uptime = d.sns.uptime ∧ (compRevoked d).sns.clockSet = d.sns.clockSet ∧
    (compRevoked d).sns.clockOffset = d.sns.clockOffset ∧ (compRevoked d).sns.analog = d.sns.analog ∧
    (compRevoked d).sns.tables = d.sns.tables ∧ (compRevoked d).sns.lines = d.sns.lines ∧ (compRevoked d).sns.dial = d.sns.dial ∧
    (compRevoked d).vbl = d.vbl ∧ (compRevoked d).chg = d.chg ∧ (compRevoked d).bgt.horizonSource = d.bgt.horizonSource ∧
    (compRevoked d).bgt.defaultHorizon = d.bgt.defaultHorizon ∧ (compRevoked d).bgt.last = d.bgt.last ∧
    (compRevoked d).bgt.outlet = d.bgt.outlet ∧ (compRevoked d).htr = d.htr ∧ (compRevoked d).lgt.channels = d.lgt.channels ∧
    (compRevoked d).lgt.chSettings = d.lgt.chSettings ∧ (compRevoked d).lgt.capStep = d.lgt.capStep ∧
    (compRevoked d).lgt.written = d.lgt.written ∧ (compRevoked d).lgt.scenes = d.lgt.scenes ∧
    (compRevoked d).lgt.settings = d.lgt.settings ∧ (compRevoked d).lgt.courtesyTimer = d.lgt.courtesyTimer ∧
    (compRevoked d).lgt.ch7Applied = d.lgt.ch7Applied ∧ (compRevoked d).rtm = d.rtm ∧ (compRevoked d).npl = d.npl ∧
    (compRevoked d).lnk.receiver = d.lnk.receiver ∧ (compRevoked d).lnk.lastByte = d.lnk.lastByte ∧
    (compRevoked d).lnk.queue = d.lnk.queue ∧ (compRevoked d).lnk.out = d.lnk.out ∧ (compRevoked d).lnk.tx = d.lnk.tx ∧
    (compRevoked d).lnk.sendEnd = d.lnk.sendEnd ∧ (compRevoked d).lnk.awake = d.lnk.awake ∧ (compRevoked d).lnk.idle = d.lnk.idle ∧
    (compRevoked d).lnk.lastFrame = d.lnk.lastFrame ∧ (compRevoked d).lnk.enables = d.lnk.enables ∧
    (compRevoked d).lnk.idleTime = d.lnk.idleTime ∧ (compRevoked d).lnk.resetKind = d.lnk.resetKind ∧
    (compRevoked d).lnk.resetUptime = d.lnk.resetUptime ∧ (compRevoked d).sched = d.sched := by
  unfold compRevoked
  (try simp)
  all_goals ((repeat' split) <;> (try simp))
  all_goals ((repeat' split) <;> simp_all)

@[simp] theorem stageDuty_frame (duty : Nat) (d : Device) :
    (stageDuty duty d).pins = d.pins ∧ (stageDuty duty d).factory = d.factory ∧ (stageDuty duty d).sns = d.sns ∧
    (stageDuty duty d).vbl = d.vbl ∧ (stageDuty duty d).chg = d.chg ∧ (stageDuty duty d).bgt = d.bgt ∧
    (stageDuty duty d).htr = d.htr ∧ (stageDuty duty d).lgt = d.lgt ∧ (stageDuty duty d).rtm = d.rtm ∧
    (stageDuty duty d).npl = d.npl ∧ (stageDuty duty d).lnk = d.lnk ∧ (stageDuty duty d).sched = d.sched := by
  unfold stageDuty
  (try simp)
  all_goals ((repeat' split) <;> (try simp))
  all_goals ((repeat' split) <;> simp_all)

@[simp] theorem regulate_frame (mean : Option Nat) (d : Device) :
    (regulate mean d).pins = d.pins ∧ (regulate mean d).factory = d.factory ∧ (regulate mean d).sns = d.sns ∧
    (regulate mean d).vbl = d.vbl ∧ (regulate mean d).chg = d.chg ∧ (regulate mean d).bgt = d.bgt ∧ (regulate mean d).htr = d.htr ∧
    (regulate mean d).lgt = d.lgt ∧ (regulate mean d).rtm = d.rtm ∧ (regulate mean d).npl = d.npl ∧ (regulate mean d).lnk = d.lnk ∧
    (regulate mean d).sched = d.sched := by
  unfold regulate
  (try simp)
  all_goals ((repeat' split) <;> (try simp))
  all_goals ((repeat' split) <;> simp_all)

@[simp] theorem windowDone_frame (d0 : Device) :
    (windowDone d0).pins = d0.pins ∧ (windowDone d0).factory = d0.factory ∧ (windowDone d0).sns.uptime = d0.sns.uptime ∧
    (windowDone d0).sns.clockSet = d0.sns.clockSet ∧ (windowDone d0).sns.clockOffset = d0.sns.clockOffset ∧
    (windowDone d0).sns.analog = d0.sns.analog ∧ (windowDone d0).sns.tables = d0.sns.tables ∧
    (windowDone d0).sns.lines = d0.sns.lines ∧ (windowDone d0).sns.dial = d0.sns.dial ∧ (windowDone d0).vbl = d0.vbl ∧
    (windowDone d0).chg = d0.chg ∧ (windowDone d0).bgt.horizonSource = d0.bgt.horizonSource ∧
    (windowDone d0).bgt.defaultHorizon = d0.bgt.defaultHorizon ∧ (windowDone d0).bgt.last = d0.bgt.last ∧
    (windowDone d0).bgt.outlet = d0.bgt.outlet ∧ (windowDone d0).htr = d0.htr ∧ (windowDone d0).lgt.channels = d0.lgt.channels ∧
    (windowDone d0).lgt.chSettings = d0.lgt.chSettings ∧ (windowDone d0).lgt.capStep = d0.lgt.capStep ∧
    (windowDone d0).lgt.written = d0.lgt.written ∧ (windowDone d0).lgt.scenes = d0.lgt.scenes ∧
    (windowDone d0).lgt.settings = d0.lgt.settings ∧ (windowDone d0).lgt.courtesyTimer = d0.lgt.courtesyTimer ∧
    (windowDone d0).lgt.ch7Applied = d0.lgt.ch7Applied ∧ (windowDone d0).rtm = d0.rtm ∧ (windowDone d0).npl = d0.npl ∧
    (windowDone d0).lnk.receiver = d0.lnk.receiver ∧ (windowDone d0).lnk.lastByte = d0.lnk.lastByte ∧
    (windowDone d0).lnk.queue = d0.lnk.queue ∧ (windowDone d0).lnk.out = d0.lnk.out ∧ (windowDone d0).lnk.tx = d0.lnk.tx ∧
    (windowDone d0).lnk.sendEnd = d0.lnk.sendEnd ∧ (windowDone d0).lnk.awake = d0.lnk.awake ∧ (windowDone d0).lnk.idle = d0.lnk.idle ∧
    (windowDone d0).lnk.lastFrame = d0.lnk.lastFrame ∧ (windowDone d0).lnk.enables = d0.lnk.enables ∧
    (windowDone d0).lnk.idleTime = d0.lnk.idleTime ∧ (windowDone d0).lnk.resetKind = d0.lnk.resetKind ∧
    (windowDone d0).lnk.resetUptime = d0.lnk.resetUptime ∧ (windowDone d0).sched = d0.sched := by
  unfold windowDone
  by_cases h1 : 1500 ≤ windowRpm d0.cmp.window.intervals d0.cmp.polePairsNow d0.sns.ms <;> cases h : d0.cmp.state <;> simp [h, h1]

@[simp] theorem hallEdge_frame (code : HallCode) (intervalUs : Nat) (d0 : Device) :
    (hallEdge code intervalUs d0).factory = d0.factory ∧ (hallEdge code intervalUs d0).sns.uptime = d0.sns.uptime ∧
    (hallEdge code intervalUs d0).sns.clockSet = d0.sns.clockSet ∧
    (hallEdge code intervalUs d0).sns.clockOffset = d0.sns.clockOffset ∧ (hallEdge code intervalUs d0).sns.analog = d0.sns.analog ∧
    (hallEdge code intervalUs d0).sns.tables = d0.sns.tables ∧ (hallEdge code intervalUs d0).sns.lines = d0.sns.lines ∧
    (hallEdge code intervalUs d0).sns.dial = d0.sns.dial ∧ (hallEdge code intervalUs d0).vbl = d0.vbl ∧
    (hallEdge code intervalUs d0).chg = d0.chg ∧ (hallEdge code intervalUs d0).bgt.horizonSource = d0.bgt.horizonSource ∧
    (hallEdge code intervalUs d0).bgt.defaultHorizon = d0.bgt.defaultHorizon ∧ (hallEdge code intervalUs d0).bgt.last = d0.bgt.last ∧
    (hallEdge code intervalUs d0).bgt.outlet = d0.bgt.outlet ∧ (hallEdge code intervalUs d0).htr = d0.htr ∧
    (hallEdge code intervalUs d0).lgt.channels = d0.lgt.channels ∧ (hallEdge code intervalUs d0).lgt.chSettings = d0.lgt.chSettings ∧
    (hallEdge code intervalUs d0).lgt.capStep = d0.lgt.capStep ∧ (hallEdge code intervalUs d0).lgt.written = d0.lgt.written ∧
    (hallEdge code intervalUs d0).lgt.scenes = d0.lgt.scenes ∧ (hallEdge code intervalUs d0).lgt.settings = d0.lgt.settings ∧
    (hallEdge code intervalUs d0).lgt.courtesyTimer = d0.lgt.courtesyTimer ∧
    (hallEdge code intervalUs d0).lgt.ch7Applied = d0.lgt.ch7Applied ∧ (hallEdge code intervalUs d0).rtm = d0.rtm ∧
    (hallEdge code intervalUs d0).npl = d0.npl ∧ (hallEdge code intervalUs d0).lnk.receiver = d0.lnk.receiver ∧
    (hallEdge code intervalUs d0).lnk.lastByte = d0.lnk.lastByte ∧ (hallEdge code intervalUs d0).lnk.queue = d0.lnk.queue ∧
    (hallEdge code intervalUs d0).lnk.out = d0.lnk.out ∧ (hallEdge code intervalUs d0).lnk.tx = d0.lnk.tx ∧
    (hallEdge code intervalUs d0).lnk.sendEnd = d0.lnk.sendEnd ∧ (hallEdge code intervalUs d0).lnk.awake = d0.lnk.awake ∧
    (hallEdge code intervalUs d0).lnk.idle = d0.lnk.idle ∧ (hallEdge code intervalUs d0).lnk.lastFrame = d0.lnk.lastFrame ∧
    (hallEdge code intervalUs d0).lnk.enables = d0.lnk.enables ∧ (hallEdge code intervalUs d0).lnk.idleTime = d0.lnk.idleTime ∧
    (hallEdge code intervalUs d0).lnk.resetKind = d0.lnk.resetKind ∧
    (hallEdge code intervalUs d0).lnk.resetUptime = d0.lnk.resetUptime ∧ (hallEdge code intervalUs d0).sched = d0.sched := by
  unfold hallEdge
  (try simp)
  all_goals ((repeat' split) <;> (try simp))
  all_goals ((repeat' split) <;> simp_all)

@[simp] theorem hallInvalid_frame (code : HallCode) (d0 : Device) :
    (hallInvalid code d0).factory = d0.factory ∧ (hallInvalid code d0).sns.ms = d0.sns.ms ∧
    (hallInvalid code d0).sns.uptime = d0.sns.uptime ∧ (hallInvalid code d0).sns.clockSet = d0.sns.clockSet ∧
    (hallInvalid code d0).sns.clockOffset = d0.sns.clockOffset ∧ (hallInvalid code d0).sns.analog = d0.sns.analog ∧
    (hallInvalid code d0).sns.tables = d0.sns.tables ∧ (hallInvalid code d0).sns.lines = d0.sns.lines ∧
    (hallInvalid code d0).sns.dial = d0.sns.dial ∧ (hallInvalid code d0).vbl = d0.vbl ∧ (hallInvalid code d0).chg = d0.chg ∧
    (hallInvalid code d0).bgt.horizonSource = d0.bgt.horizonSource ∧
    (hallInvalid code d0).bgt.defaultHorizon = d0.bgt.defaultHorizon ∧ (hallInvalid code d0).bgt.last = d0.bgt.last ∧
    (hallInvalid code d0).bgt.outlet = d0.bgt.outlet ∧ (hallInvalid code d0).htr = d0.htr ∧
    (hallInvalid code d0).lgt.channels = d0.lgt.channels ∧ (hallInvalid code d0).lgt.chSettings = d0.lgt.chSettings ∧
    (hallInvalid code d0).lgt.capStep = d0.lgt.capStep ∧ (hallInvalid code d0).lgt.written = d0.lgt.written ∧
    (hallInvalid code d0).lgt.scenes = d0.lgt.scenes ∧ (hallInvalid code d0).lgt.settings = d0.lgt.settings ∧
    (hallInvalid code d0).lgt.courtesyTimer = d0.lgt.courtesyTimer ∧ (hallInvalid code d0).lgt.ch7Applied = d0.lgt.ch7Applied ∧
    (hallInvalid code d0).rtm = d0.rtm ∧ (hallInvalid code d0).npl = d0.npl ∧ (hallInvalid code d0).lnk.receiver = d0.lnk.receiver ∧
    (hallInvalid code d0).lnk.lastByte = d0.lnk.lastByte ∧ (hallInvalid code d0).lnk.queue = d0.lnk.queue ∧
    (hallInvalid code d0).lnk.out = d0.lnk.out ∧ (hallInvalid code d0).lnk.tx = d0.lnk.tx ∧
    (hallInvalid code d0).lnk.sendEnd = d0.lnk.sendEnd ∧ (hallInvalid code d0).lnk.awake = d0.lnk.awake ∧
    (hallInvalid code d0).lnk.idle = d0.lnk.idle ∧ (hallInvalid code d0).lnk.lastFrame = d0.lnk.lastFrame ∧
    (hallInvalid code d0).lnk.enables = d0.lnk.enables ∧ (hallInvalid code d0).lnk.idleTime = d0.lnk.idleTime ∧
    (hallInvalid code d0).lnk.resetKind = d0.lnk.resetKind ∧ (hallInvalid code d0).lnk.resetUptime = d0.lnk.resetUptime ∧
    (hallInvalid code d0).sched = d0.sched := by
  unfold hallInvalid
  (try simp)
  all_goals ((repeat' split) <;> (try simp))
  all_goals ((repeat' split) <;> simp_all)

@[simp] theorem dutyStep_frame (d : Device) :
    (dutyStep d).pins = d.pins ∧ (dutyStep d).factory = d.factory ∧ (dutyStep d).sns = d.sns ∧ (dutyStep d).vbl = d.vbl ∧
    (dutyStep d).chg = d.chg ∧ (dutyStep d).bgt = d.bgt ∧ (dutyStep d).htr = d.htr ∧ (dutyStep d).lgt = d.lgt ∧
    (dutyStep d).rtm = d.rtm ∧ (dutyStep d).npl = d.npl ∧ (dutyStep d).lnk = d.lnk ∧ (dutyStep d).sched = d.sched := by
  unfold dutyStep
  (try simp)
  all_goals ((repeat' split) <;> (try simp))
  all_goals ((repeat' split) <;> simp_all)

@[simp] theorem minRunExpiry_frame (d : Device) :
    (minRunExpiry d).pins = d.pins ∧ (minRunExpiry d).factory = d.factory ∧ (minRunExpiry d).sns.ms = d.sns.ms ∧
    (minRunExpiry d).sns.uptime = d.sns.uptime ∧ (minRunExpiry d).sns.clockSet = d.sns.clockSet ∧
    (minRunExpiry d).sns.clockOffset = d.sns.clockOffset ∧ (minRunExpiry d).sns.analog = d.sns.analog ∧
    (minRunExpiry d).sns.tables = d.sns.tables ∧ (minRunExpiry d).sns.lines = d.sns.lines ∧ (minRunExpiry d).sns.dial = d.sns.dial ∧
    (minRunExpiry d).vbl = d.vbl ∧ (minRunExpiry d).chg = d.chg ∧ (minRunExpiry d).bgt.horizonSource = d.bgt.horizonSource ∧
    (minRunExpiry d).bgt.defaultHorizon = d.bgt.defaultHorizon ∧ (minRunExpiry d).bgt.last = d.bgt.last ∧
    (minRunExpiry d).bgt.outlet = d.bgt.outlet ∧ (minRunExpiry d).htr = d.htr ∧ (minRunExpiry d).lgt = d.lgt ∧
    (minRunExpiry d).rtm = d.rtm ∧ (minRunExpiry d).npl = d.npl ∧ (minRunExpiry d).lnk.receiver = d.lnk.receiver ∧
    (minRunExpiry d).lnk.lastByte = d.lnk.lastByte ∧ (minRunExpiry d).lnk.queue = d.lnk.queue ∧ (minRunExpiry d).lnk.out = d.lnk.out ∧
    (minRunExpiry d).lnk.tx = d.lnk.tx ∧ (minRunExpiry d).lnk.sendEnd = d.lnk.sendEnd ∧ (minRunExpiry d).lnk.awake = d.lnk.awake ∧
    (minRunExpiry d).lnk.idle = d.lnk.idle ∧ (minRunExpiry d).lnk.lastFrame = d.lnk.lastFrame ∧
    (minRunExpiry d).lnk.enables = d.lnk.enables ∧ (minRunExpiry d).lnk.idleTime = d.lnk.idleTime ∧
    (minRunExpiry d).lnk.resetKind = d.lnk.resetKind ∧ (minRunExpiry d).lnk.resetUptime = d.lnk.resetUptime ∧
    (minRunExpiry d).sched = d.sched := by
  unfold minRunExpiry
  (try simp)
  all_goals ((repeat' split) <;> (try simp))
  all_goals ((repeat' split) <;> simp_all)

@[simp] theorem failureReset_frame (d : Device) :
    (failureReset d).pins = d.pins ∧ (failureReset d).factory = d.factory ∧ (failureReset d).sns = d.sns ∧
    (failureReset d).vbl = d.vbl ∧ (failureReset d).chg = d.chg ∧ (failureReset d).bgt = d.bgt ∧ (failureReset d).htr = d.htr ∧
    (failureReset d).lgt = d.lgt ∧ (failureReset d).rtm = d.rtm ∧ (failureReset d).npl = d.npl ∧ (failureReset d).lnk = d.lnk ∧
    (failureReset d).sched = d.sched := by
  unfold failureReset
  (try simp)
  all_goals ((repeat' split) <;> (try simp))
  all_goals ((repeat' split) <;> simp_all)

@[simp] theorem raiseExpiry_frame (d : Device) :
    (raiseExpiry d).pins = d.pins ∧ (raiseExpiry d).factory = d.factory ∧ (raiseExpiry d).sns = d.sns ∧ (raiseExpiry d).vbl = d.vbl ∧
    (raiseExpiry d).chg = d.chg ∧ (raiseExpiry d).bgt.horizonSource = d.bgt.horizonSource ∧
    (raiseExpiry d).bgt.defaultHorizon = d.bgt.defaultHorizon ∧ (raiseExpiry d).bgt.last = d.bgt.last ∧
    (raiseExpiry d).bgt.outlet = d.bgt.outlet ∧ (raiseExpiry d).htr = d.htr ∧ (raiseExpiry d).lgt = d.lgt ∧
    (raiseExpiry d).rtm = d.rtm ∧ (raiseExpiry d).npl = d.npl ∧ (raiseExpiry d).lnk = d.lnk ∧ (raiseExpiry d).sched = d.sched := by
  unfold raiseExpiry
  (try simp)
  all_goals ((repeat' split) <;> (try simp))
  all_goals ((repeat' split) <;> simp_all)

@[simp] theorem minOffExpiry_frame (d : Device) :
    (minOffExpiry d).pins = d.pins ∧ (minOffExpiry d).factory = d.factory ∧ (minOffExpiry d).sns.ms = d.sns.ms ∧
    (minOffExpiry d).sns.uptime = d.sns.uptime ∧ (minOffExpiry d).sns.clockSet = d.sns.clockSet ∧
    (minOffExpiry d).sns.clockOffset = d.sns.clockOffset ∧ (minOffExpiry d).sns.analog = d.sns.analog ∧
    (minOffExpiry d).sns.tables = d.sns.tables ∧ (minOffExpiry d).sns.lines = d.sns.lines ∧ (minOffExpiry d).sns.dial = d.sns.dial ∧
    (minOffExpiry d).vbl = d.vbl ∧ (minOffExpiry d).chg = d.chg ∧ (minOffExpiry d).bgt.horizonSource = d.bgt.horizonSource ∧
    (minOffExpiry d).bgt.defaultHorizon = d.bgt.defaultHorizon ∧ (minOffExpiry d).bgt.last = d.bgt.last ∧
    (minOffExpiry d).bgt.outlet = d.bgt.outlet ∧ (minOffExpiry d).htr = d.htr ∧ (minOffExpiry d).lgt.channels = d.lgt.channels ∧
    (minOffExpiry d).lgt.chSettings = d.lgt.chSettings ∧ (minOffExpiry d).lgt.capStep = d.lgt.capStep ∧
    (minOffExpiry d).lgt.written = d.lgt.written ∧ (minOffExpiry d).lgt.scenes = d.lgt.scenes ∧
    (minOffExpiry d).lgt.settings = d.lgt.settings ∧ (minOffExpiry d).lgt.courtesyTimer = d.lgt.courtesyTimer ∧
    (minOffExpiry d).lgt.ch7Applied = d.lgt.ch7Applied ∧ (minOffExpiry d).rtm = d.rtm ∧ (minOffExpiry d).npl = d.npl ∧
    (minOffExpiry d).lnk.receiver = d.lnk.receiver ∧ (minOffExpiry d).lnk.lastByte = d.lnk.lastByte ∧
    (minOffExpiry d).lnk.queue = d.lnk.queue ∧ (minOffExpiry d).lnk.out = d.lnk.out ∧ (minOffExpiry d).lnk.tx = d.lnk.tx ∧
    (minOffExpiry d).lnk.sendEnd = d.lnk.sendEnd ∧ (minOffExpiry d).lnk.awake = d.lnk.awake ∧ (minOffExpiry d).lnk.idle = d.lnk.idle ∧
    (minOffExpiry d).lnk.lastFrame = d.lnk.lastFrame ∧ (minOffExpiry d).lnk.enables = d.lnk.enables ∧
    (minOffExpiry d).lnk.idleTime = d.lnk.idleTime ∧ (minOffExpiry d).lnk.resetKind = d.lnk.resetKind ∧
    (minOffExpiry d).lnk.resetUptime = d.lnk.resetUptime ∧ (minOffExpiry d).sched = d.sched := by
  unfold minOffExpiry
  (try simp)
  all_goals ((repeat' split) <;> (try simp))
  all_goals ((repeat' split) <;> simp_all)

@[simp] theorem afterRest_frame (d : Device) :
    (afterRest d).pins = d.pins ∧ (afterRest d).factory = d.factory ∧ (afterRest d).sns.ms = d.sns.ms ∧
    (afterRest d).sns.uptime = d.sns.uptime ∧ (afterRest d).sns.clockSet = d.sns.clockSet ∧
    (afterRest d).sns.clockOffset = d.sns.clockOffset ∧ (afterRest d).sns.analog = d.sns.analog ∧
    (afterRest d).sns.tables = d.sns.tables ∧ (afterRest d).sns.lines = d.sns.lines ∧ (afterRest d).sns.dial = d.sns.dial ∧
    (afterRest d).vbl = d.vbl ∧ (afterRest d).chg = d.chg ∧ (afterRest d).bgt.horizonSource = d.bgt.horizonSource ∧
    (afterRest d).bgt.defaultHorizon = d.bgt.defaultHorizon ∧ (afterRest d).bgt.last = d.bgt.last ∧
    (afterRest d).bgt.outlet = d.bgt.outlet ∧ (afterRest d).htr = d.htr ∧ (afterRest d).lgt.channels = d.lgt.channels ∧
    (afterRest d).lgt.chSettings = d.lgt.chSettings ∧ (afterRest d).lgt.capStep = d.lgt.capStep ∧
    (afterRest d).lgt.written = d.lgt.written ∧ (afterRest d).lgt.scenes = d.lgt.scenes ∧
    (afterRest d).lgt.settings = d.lgt.settings ∧ (afterRest d).lgt.courtesyTimer = d.lgt.courtesyTimer ∧
    (afterRest d).lgt.ch7Applied = d.lgt.ch7Applied ∧ (afterRest d).rtm = d.rtm ∧ (afterRest d).npl = d.npl ∧
    (afterRest d).lnk.receiver = d.lnk.receiver ∧ (afterRest d).lnk.lastByte = d.lnk.lastByte ∧
    (afterRest d).lnk.queue = d.lnk.queue ∧ (afterRest d).lnk.out = d.lnk.out ∧ (afterRest d).lnk.tx = d.lnk.tx ∧
    (afterRest d).lnk.sendEnd = d.lnk.sendEnd ∧ (afterRest d).lnk.awake = d.lnk.awake ∧ (afterRest d).lnk.idle = d.lnk.idle ∧
    (afterRest d).lnk.lastFrame = d.lnk.lastFrame ∧ (afterRest d).lnk.enables = d.lnk.enables ∧
    (afterRest d).lnk.idleTime = d.lnk.idleTime ∧ (afterRest d).lnk.resetKind = d.lnk.resetKind ∧
    (afterRest d).lnk.resetUptime = d.lnk.resetUptime ∧ (afterRest d).sched = d.sched := by
  unfold afterRest
  (try simp)
  all_goals ((repeat' split) <;> (try simp))
  all_goals ((repeat' split) <;> simp_all)

@[simp] theorem coastEnd_frame (d : Device) :
    (coastEnd d).pins = d.pins ∧ (coastEnd d).factory = d.factory ∧ (coastEnd d).sns.ms = d.sns.ms ∧
    (coastEnd d).sns.uptime = d.sns.uptime ∧ (coastEnd d).sns.clockSet = d.sns.clockSet ∧
    (coastEnd d).sns.clockOffset = d.sns.clockOffset ∧ (coastEnd d).sns.analog = d.sns.analog ∧
    (coastEnd d).sns.tables = d.sns.tables ∧ (coastEnd d).sns.lines = d.sns.lines ∧ (coastEnd d).sns.dial = d.sns.dial ∧
    (coastEnd d).vbl = d.vbl ∧ (coastEnd d).chg = d.chg ∧ (coastEnd d).bgt.horizonSource = d.bgt.horizonSource ∧
    (coastEnd d).bgt.defaultHorizon = d.bgt.defaultHorizon ∧ (coastEnd d).bgt.last = d.bgt.last ∧
    (coastEnd d).bgt.outlet = d.bgt.outlet ∧ (coastEnd d).htr = d.htr ∧ (coastEnd d).lgt.channels = d.lgt.channels ∧
    (coastEnd d).lgt.chSettings = d.lgt.chSettings ∧ (coastEnd d).lgt.capStep = d.lgt.capStep ∧
    (coastEnd d).lgt.written = d.lgt.written ∧ (coastEnd d).lgt.scenes = d.lgt.scenes ∧ (coastEnd d).lgt.settings = d.lgt.settings ∧
    (coastEnd d).lgt.courtesyTimer = d.lgt.courtesyTimer ∧ (coastEnd d).lgt.ch7Applied = d.lgt.ch7Applied ∧ (coastEnd d).rtm = d.rtm ∧
    (coastEnd d).npl = d.npl ∧ (coastEnd d).lnk.receiver = d.lnk.receiver ∧ (coastEnd d).lnk.lastByte = d.lnk.lastByte ∧
    (coastEnd d).lnk.queue = d.lnk.queue ∧ (coastEnd d).lnk.out = d.lnk.out ∧ (coastEnd d).lnk.tx = d.lnk.tx ∧
    (coastEnd d).lnk.sendEnd = d.lnk.sendEnd ∧ (coastEnd d).lnk.awake = d.lnk.awake ∧ (coastEnd d).lnk.idle = d.lnk.idle ∧
    (coastEnd d).lnk.lastFrame = d.lnk.lastFrame ∧ (coastEnd d).lnk.enables = d.lnk.enables ∧
    (coastEnd d).lnk.idleTime = d.lnk.idleTime ∧ (coastEnd d).lnk.resetKind = d.lnk.resetKind ∧
    (coastEnd d).lnk.resetUptime = d.lnk.resetUptime ∧ (coastEnd d).sched = d.sched := by
  unfold coastEnd
  (try simp)
  all_goals ((repeat' split) <;> (try simp))
  all_goals ((repeat' split) <;> simp_all)

@[simp] theorem backoffExpiry_frame (d : Device) :
    (backoffExpiry d).pins = d.pins ∧ (backoffExpiry d).factory = d.factory ∧ (backoffExpiry d).sns.ms = d.sns.ms ∧
    (backoffExpiry d).sns.uptime = d.sns.uptime ∧ (backoffExpiry d).sns.clockSet = d.sns.clockSet ∧
    (backoffExpiry d).sns.clockOffset = d.sns.clockOffset ∧ (backoffExpiry d).sns.analog = d.sns.analog ∧
    (backoffExpiry d).sns.tables = d.sns.tables ∧ (backoffExpiry d).sns.lines = d.sns.lines ∧
    (backoffExpiry d).sns.dial = d.sns.dial ∧ (backoffExpiry d).vbl = d.vbl ∧ (backoffExpiry d).chg = d.chg ∧
    (backoffExpiry d).bgt.horizonSource = d.bgt.horizonSource ∧ (backoffExpiry d).bgt.defaultHorizon = d.bgt.defaultHorizon ∧
    (backoffExpiry d).bgt.last = d.bgt.last ∧ (backoffExpiry d).bgt.outlet = d.bgt.outlet ∧ (backoffExpiry d).htr = d.htr ∧
    (backoffExpiry d).lgt.channels = d.lgt.channels ∧ (backoffExpiry d).lgt.chSettings = d.lgt.chSettings ∧
    (backoffExpiry d).lgt.capStep = d.lgt.capStep ∧ (backoffExpiry d).lgt.written = d.lgt.written ∧
    (backoffExpiry d).lgt.scenes = d.lgt.scenes ∧ (backoffExpiry d).lgt.settings = d.lgt.settings ∧
    (backoffExpiry d).lgt.courtesyTimer = d.lgt.courtesyTimer ∧ (backoffExpiry d).lgt.ch7Applied = d.lgt.ch7Applied ∧
    (backoffExpiry d).rtm = d.rtm ∧ (backoffExpiry d).npl = d.npl ∧ (backoffExpiry d).lnk.receiver = d.lnk.receiver ∧
    (backoffExpiry d).lnk.lastByte = d.lnk.lastByte ∧ (backoffExpiry d).lnk.queue = d.lnk.queue ∧
    (backoffExpiry d).lnk.out = d.lnk.out ∧ (backoffExpiry d).lnk.tx = d.lnk.tx ∧ (backoffExpiry d).lnk.sendEnd = d.lnk.sendEnd ∧
    (backoffExpiry d).lnk.awake = d.lnk.awake ∧ (backoffExpiry d).lnk.idle = d.lnk.idle ∧
    (backoffExpiry d).lnk.lastFrame = d.lnk.lastFrame ∧ (backoffExpiry d).lnk.enables = d.lnk.enables ∧
    (backoffExpiry d).lnk.idleTime = d.lnk.idleTime ∧ (backoffExpiry d).lnk.resetKind = d.lnk.resetKind ∧
    (backoffExpiry d).lnk.resetUptime = d.lnk.resetUptime ∧ (backoffExpiry d).sched = d.sched := by
  unfold backoffExpiry
  (try simp)
  all_goals ((repeat' split) <;> (try simp))
  all_goals ((repeat' split) <;> simp_all)

@[simp] theorem leaveBlocked_frame (failures : Nat) (d : Device) :
    (leaveBlocked failures d).pins = d.pins ∧ (leaveBlocked failures d).factory = d.factory ∧
    (leaveBlocked failures d).sns.ms = d.sns.ms ∧ (leaveBlocked failures d).sns.uptime = d.sns.uptime ∧
    (leaveBlocked failures d).sns.clockSet = d.sns.clockSet ∧ (leaveBlocked failures d).sns.clockOffset = d.sns.clockOffset ∧
    (leaveBlocked failures d).sns.analog = d.sns.analog ∧ (leaveBlocked failures d).sns.tables = d.sns.tables ∧
    (leaveBlocked failures d).sns.lines = d.sns.lines ∧ (leaveBlocked failures d).sns.dial = d.sns.dial ∧
    (leaveBlocked failures d).vbl = d.vbl ∧ (leaveBlocked failures d).chg = d.chg ∧
    (leaveBlocked failures d).bgt.horizonSource = d.bgt.horizonSource ∧
    (leaveBlocked failures d).bgt.defaultHorizon = d.bgt.defaultHorizon ∧ (leaveBlocked failures d).bgt.last = d.bgt.last ∧
    (leaveBlocked failures d).bgt.outlet = d.bgt.outlet ∧ (leaveBlocked failures d).htr = d.htr ∧
    (leaveBlocked failures d).lgt.channels = d.lgt.channels ∧ (leaveBlocked failures d).lgt.chSettings = d.lgt.chSettings ∧
    (leaveBlocked failures d).lgt.capStep = d.lgt.capStep ∧ (leaveBlocked failures d).lgt.written = d.lgt.written ∧
    (leaveBlocked failures d).lgt.scenes = d.lgt.scenes ∧ (leaveBlocked failures d).lgt.settings = d.lgt.settings ∧
    (leaveBlocked failures d).lgt.courtesyTimer = d.lgt.courtesyTimer ∧ (leaveBlocked failures d).lgt.ch7Applied = d.lgt.ch7Applied ∧
    (leaveBlocked failures d).rtm = d.rtm ∧ (leaveBlocked failures d).npl = d.npl ∧
    (leaveBlocked failures d).lnk.receiver = d.lnk.receiver ∧ (leaveBlocked failures d).lnk.lastByte = d.lnk.lastByte ∧
    (leaveBlocked failures d).lnk.queue = d.lnk.queue ∧ (leaveBlocked failures d).lnk.out = d.lnk.out ∧
    (leaveBlocked failures d).lnk.tx = d.lnk.tx ∧ (leaveBlocked failures d).lnk.sendEnd = d.lnk.sendEnd ∧
    (leaveBlocked failures d).lnk.awake = d.lnk.awake ∧ (leaveBlocked failures d).lnk.idle = d.lnk.idle ∧
    (leaveBlocked failures d).lnk.lastFrame = d.lnk.lastFrame ∧ (leaveBlocked failures d).lnk.enables = d.lnk.enables ∧
    (leaveBlocked failures d).lnk.idleTime = d.lnk.idleTime ∧ (leaveBlocked failures d).lnk.resetKind = d.lnk.resetKind ∧
    (leaveBlocked failures d).lnk.resetUptime = d.lnk.resetUptime ∧ (leaveBlocked failures d).sched = d.sched := by
  unfold leaveBlocked
  by_cases h : d.cmp.state = .blocked <;> simp [h]

@[simp] theorem fridgeConfigRequest_frame (b : List Byte) (d : Device) :
    ((fridgeConfigRequest b d).dev).pins = d.pins ∧ ((fridgeConfigRequest b d).dev).factory = d.factory ∧
    ((fridgeConfigRequest b d).dev).sns = d.sns ∧ ((fridgeConfigRequest b d).dev).vbl = d.vbl ∧
    ((fridgeConfigRequest b d).dev).chg = d.chg ∧ ((fridgeConfigRequest b d).dev).bgt.horizonSource = d.bgt.horizonSource ∧
    ((fridgeConfigRequest b d).dev).bgt.defaultHorizon = d.bgt.defaultHorizon ∧
    ((fridgeConfigRequest b d).dev).bgt.last = d.bgt.last ∧ ((fridgeConfigRequest b d).dev).bgt.outlet = d.bgt.outlet ∧
    ((fridgeConfigRequest b d).dev).htr = d.htr ∧ ((fridgeConfigRequest b d).dev).lgt = d.lgt ∧
    ((fridgeConfigRequest b d).dev).rtm = d.rtm ∧ ((fridgeConfigRequest b d).dev).npl = d.npl ∧
    ((fridgeConfigRequest b d).dev).lnk = d.lnk ∧ ((fridgeConfigRequest b d).dev).sched = d.sched := by
  unfold fridgeConfigRequest
  (try simp)
  all_goals ((repeat' split) <;> (try simp))
  all_goals ((repeat' split) <;> simp_all)

@[simp] theorem enableComp_frame (d : Device) :
    (enableComp d).pins = d.pins ∧ (enableComp d).factory = d.factory ∧ (enableComp d).sns.ms = d.sns.ms ∧
    (enableComp d).sns.uptime = d.sns.uptime ∧ (enableComp d).sns.clockSet = d.sns.clockSet ∧
    (enableComp d).sns.clockOffset = d.sns.clockOffset ∧ (enableComp d).sns.analog = d.sns.analog ∧
    (enableComp d).sns.tables = d.sns.tables ∧ (enableComp d).sns.lines = d.sns.lines ∧ (enableComp d).sns.dial = d.sns.dial ∧
    (enableComp d).vbl = d.vbl ∧ (enableComp d).chg = d.chg ∧ (enableComp d).bgt.horizonSource = d.bgt.horizonSource ∧
    (enableComp d).bgt.defaultHorizon = d.bgt.defaultHorizon ∧ (enableComp d).bgt.last = d.bgt.last ∧
    (enableComp d).bgt.outlet = d.bgt.outlet ∧ (enableComp d).htr = d.htr ∧ (enableComp d).lgt = d.lgt ∧ (enableComp d).rtm = d.rtm ∧
    (enableComp d).npl = d.npl ∧ (enableComp d).lnk.receiver = d.lnk.receiver ∧ (enableComp d).lnk.lastByte = d.lnk.lastByte ∧
    (enableComp d).lnk.queue = d.lnk.queue ∧ (enableComp d).lnk.out = d.lnk.out ∧ (enableComp d).lnk.tx = d.lnk.tx ∧
    (enableComp d).lnk.sendEnd = d.lnk.sendEnd ∧ (enableComp d).lnk.awake = d.lnk.awake ∧ (enableComp d).lnk.idle = d.lnk.idle ∧
    (enableComp d).lnk.lastFrame = d.lnk.lastFrame ∧ (enableComp d).lnk.enables = d.lnk.enables ∧
    (enableComp d).lnk.idleTime = d.lnk.idleTime ∧ (enableComp d).lnk.resetKind = d.lnk.resetKind ∧
    (enableComp d).lnk.resetUptime = d.lnk.resetUptime ∧ (enableComp d).sched = d.sched := by
  unfold enableComp
  by_cases h : d.cmp.state = .disabled <;> simp [h]

@[simp] theorem disableComp_frame (d0 : Device) :
    (disableComp d0).pins = d0.pins ∧ (disableComp d0).factory = d0.factory ∧ (disableComp d0).sns.ms = d0.sns.ms ∧
    (disableComp d0).sns.uptime = d0.sns.uptime ∧ (disableComp d0).sns.clockSet = d0.sns.clockSet ∧
    (disableComp d0).sns.clockOffset = d0.sns.clockOffset ∧ (disableComp d0).sns.analog = d0.sns.analog ∧
    (disableComp d0).sns.tables = d0.sns.tables ∧ (disableComp d0).sns.lines = d0.sns.lines ∧
    (disableComp d0).sns.dial = d0.sns.dial ∧ (disableComp d0).vbl = d0.vbl ∧ (disableComp d0).chg = d0.chg ∧
    (disableComp d0).bgt.horizonSource = d0.bgt.horizonSource ∧ (disableComp d0).bgt.defaultHorizon = d0.bgt.defaultHorizon ∧
    (disableComp d0).bgt.last = d0.bgt.last ∧ (disableComp d0).bgt.outlet = d0.bgt.outlet ∧ (disableComp d0).htr = d0.htr ∧
    (disableComp d0).lgt = d0.lgt ∧ (disableComp d0).rtm = d0.rtm ∧ (disableComp d0).npl = d0.npl ∧
    (disableComp d0).lnk.receiver = d0.lnk.receiver ∧ (disableComp d0).lnk.lastByte = d0.lnk.lastByte ∧
    (disableComp d0).lnk.queue = d0.lnk.queue ∧ (disableComp d0).lnk.out = d0.lnk.out ∧ (disableComp d0).lnk.tx = d0.lnk.tx ∧
    (disableComp d0).lnk.sendEnd = d0.lnk.sendEnd ∧ (disableComp d0).lnk.awake = d0.lnk.awake ∧
    (disableComp d0).lnk.idle = d0.lnk.idle ∧ (disableComp d0).lnk.lastFrame = d0.lnk.lastFrame ∧
    (disableComp d0).lnk.enables = d0.lnk.enables ∧ (disableComp d0).lnk.idleTime = d0.lnk.idleTime ∧
    (disableComp d0).lnk.resetKind = d0.lnk.resetKind ∧ (disableComp d0).lnk.resetUptime = d0.lnk.resetUptime ∧
    (disableComp d0).sched = d0.sched := by
  unfold disableComp
  (try simp)
  all_goals ((repeat' split) <;> (try simp))
  all_goals ((repeat' split) <;> simp_all)

@[simp] theorem fridgeEnableRequest_frame (b : List Byte) (d : Device) :
    ((fridgeEnableRequest b d).dev).pins = d.pins ∧ ((fridgeEnableRequest b d).dev).factory = d.factory ∧
    ((fridgeEnableRequest b d).dev).sns.ms = d.sns.ms ∧ ((fridgeEnableRequest b d).dev).sns.uptime = d.sns.uptime ∧
    ((fridgeEnableRequest b d).dev).sns.clockSet = d.sns.clockSet ∧
    ((fridgeEnableRequest b d).dev).sns.clockOffset = d.sns.clockOffset ∧ ((fridgeEnableRequest b d).dev).sns.analog = d.sns.analog ∧
    ((fridgeEnableRequest b d).dev).sns.tables = d.sns.tables ∧ ((fridgeEnableRequest b d).dev).sns.lines = d.sns.lines ∧
    ((fridgeEnableRequest b d).dev).sns.dial = d.sns.dial ∧ ((fridgeEnableRequest b d).dev).vbl = d.vbl ∧
    ((fridgeEnableRequest b d).dev).chg = d.chg ∧ ((fridgeEnableRequest b d).dev).bgt.horizonSource = d.bgt.horizonSource ∧
    ((fridgeEnableRequest b d).dev).bgt.defaultHorizon = d.bgt.defaultHorizon ∧
    ((fridgeEnableRequest b d).dev).bgt.last = d.bgt.last ∧ ((fridgeEnableRequest b d).dev).bgt.outlet = d.bgt.outlet ∧
    ((fridgeEnableRequest b d).dev).htr = d.htr ∧ ((fridgeEnableRequest b d).dev).lgt = d.lgt ∧
    ((fridgeEnableRequest b d).dev).rtm = d.rtm ∧ ((fridgeEnableRequest b d).dev).npl = d.npl ∧
    ((fridgeEnableRequest b d).dev).lnk.receiver = d.lnk.receiver ∧ ((fridgeEnableRequest b d).dev).lnk.lastByte = d.lnk.lastByte ∧
    ((fridgeEnableRequest b d).dev).lnk.queue = d.lnk.queue ∧ ((fridgeEnableRequest b d).dev).lnk.out = d.lnk.out ∧
    ((fridgeEnableRequest b d).dev).lnk.tx = d.lnk.tx ∧ ((fridgeEnableRequest b d).dev).lnk.sendEnd = d.lnk.sendEnd ∧
    ((fridgeEnableRequest b d).dev).lnk.awake = d.lnk.awake ∧ ((fridgeEnableRequest b d).dev).lnk.idle = d.lnk.idle ∧
    ((fridgeEnableRequest b d).dev).lnk.lastFrame = d.lnk.lastFrame ∧ ((fridgeEnableRequest b d).dev).lnk.enables = d.lnk.enables ∧
    ((fridgeEnableRequest b d).dev).lnk.idleTime = d.lnk.idleTime ∧ ((fridgeEnableRequest b d).dev).lnk.resetKind = d.lnk.resetKind ∧
    ((fridgeEnableRequest b d).dev).lnk.resetUptime = d.lnk.resetUptime ∧ ((fridgeEnableRequest b d).dev).sched = d.sched := by
  unfold fridgeEnableRequest
  (try simp)
  all_goals ((repeat' split) <;> (try simp))
  all_goals ((repeat' split) <;> simp_all)

@[simp] theorem fridgeDisableRequest_frame (b : List Byte) (d : Device) :
    ((fridgeDisableRequest b d).dev).pins = d.pins ∧ ((fridgeDisableRequest b d).dev).factory = d.factory ∧
    ((fridgeDisableRequest b d).dev).sns.ms = d.sns.ms ∧ ((fridgeDisableRequest b d).dev).sns.uptime = d.sns.uptime ∧
    ((fridgeDisableRequest b d).dev).sns.clockSet = d.sns.clockSet ∧
    ((fridgeDisableRequest b d).dev).sns.clockOffset = d.sns.clockOffset ∧
    ((fridgeDisableRequest b d).dev).sns.analog = d.sns.analog ∧ ((fridgeDisableRequest b d).dev).sns.tables = d.sns.tables ∧
    ((fridgeDisableRequest b d).dev).sns.lines = d.sns.lines ∧ ((fridgeDisableRequest b d).dev).sns.dial = d.sns.dial ∧
    ((fridgeDisableRequest b d).dev).vbl = d.vbl ∧ ((fridgeDisableRequest b d).dev).chg = d.chg ∧
    ((fridgeDisableRequest b d).dev).bgt.horizonSource = d.bgt.horizonSource ∧
    ((fridgeDisableRequest b d).dev).bgt.defaultHorizon = d.bgt.defaultHorizon ∧
    ((fridgeDisableRequest b d).dev).bgt.last = d.bgt.last ∧ ((fridgeDisableRequest b d).dev).bgt.outlet = d.bgt.outlet ∧
    ((fridgeDisableRequest b d).dev).htr = d.htr ∧ ((fridgeDisableRequest b d).dev).lgt = d.lgt ∧
    ((fridgeDisableRequest b d).dev).rtm = d.rtm ∧ ((fridgeDisableRequest b d).dev).npl = d.npl ∧
    ((fridgeDisableRequest b d).dev).lnk.receiver = d.lnk.receiver ∧ ((fridgeDisableRequest b d).dev).lnk.lastByte = d.lnk.lastByte ∧
    ((fridgeDisableRequest b d).dev).lnk.queue = d.lnk.queue ∧ ((fridgeDisableRequest b d).dev).lnk.out = d.lnk.out ∧
    ((fridgeDisableRequest b d).dev).lnk.tx = d.lnk.tx ∧ ((fridgeDisableRequest b d).dev).lnk.sendEnd = d.lnk.sendEnd ∧
    ((fridgeDisableRequest b d).dev).lnk.awake = d.lnk.awake ∧ ((fridgeDisableRequest b d).dev).lnk.idle = d.lnk.idle ∧
    ((fridgeDisableRequest b d).dev).lnk.lastFrame = d.lnk.lastFrame ∧ ((fridgeDisableRequest b d).dev).lnk.enables = d.lnk.enables ∧
    ((fridgeDisableRequest b d).dev).lnk.idleTime = d.lnk.idleTime ∧
    ((fridgeDisableRequest b d).dev).lnk.resetKind = d.lnk.resetKind ∧
    ((fridgeDisableRequest b d).dev).lnk.resetUptime = d.lnk.resetUptime ∧ ((fridgeDisableRequest b d).dev).sched = d.sched := by
  unfold fridgeDisableRequest
  (try simp)
  all_goals ((repeat' split) <;> (try simp))
  all_goals ((repeat' split) <;> simp_all)

@[simp] theorem fridgeClearRequest_frame (b : List Byte) (d : Device) :
    ((fridgeClearRequest b d).dev).pins = d.pins ∧ ((fridgeClearRequest b d).dev).factory = d.factory ∧
    ((fridgeClearRequest b d).dev).sns.ms = d.sns.ms ∧ ((fridgeClearRequest b d).dev).sns.uptime = d.sns.uptime ∧
    ((fridgeClearRequest b d).dev).sns.clockSet = d.sns.clockSet ∧
    ((fridgeClearRequest b d).dev).sns.clockOffset = d.sns.clockOffset ∧ ((fridgeClearRequest b d).dev).sns.analog = d.sns.analog ∧
    ((fridgeClearRequest b d).dev).sns.tables = d.sns.tables ∧ ((fridgeClearRequest b d).dev).sns.lines = d.sns.lines ∧
    ((fridgeClearRequest b d).dev).sns.dial = d.sns.dial ∧ ((fridgeClearRequest b d).dev).vbl = d.vbl ∧
    ((fridgeClearRequest b d).dev).chg = d.chg ∧ ((fridgeClearRequest b d).dev).bgt.horizonSource = d.bgt.horizonSource ∧
    ((fridgeClearRequest b d).dev).bgt.defaultHorizon = d.bgt.defaultHorizon ∧ ((fridgeClearRequest b d).dev).bgt.last = d.bgt.last ∧
    ((fridgeClearRequest b d).dev).bgt.outlet = d.bgt.outlet ∧ ((fridgeClearRequest b d).dev).htr = d.htr ∧
    ((fridgeClearRequest b d).dev).lgt.channels = d.lgt.channels ∧ ((fridgeClearRequest b d).dev).lgt.chSettings = d.lgt.chSettings ∧
    ((fridgeClearRequest b d).dev).lgt.capStep = d.lgt.capStep ∧ ((fridgeClearRequest b d).dev).lgt.written = d.lgt.written ∧
    ((fridgeClearRequest b d).dev).lgt.scenes = d.lgt.scenes ∧ ((fridgeClearRequest b d).dev).lgt.settings = d.lgt.settings ∧
    ((fridgeClearRequest b d).dev).lgt.courtesyTimer = d.lgt.courtesyTimer ∧
    ((fridgeClearRequest b d).dev).lgt.ch7Applied = d.lgt.ch7Applied ∧ ((fridgeClearRequest b d).dev).rtm = d.rtm ∧
    ((fridgeClearRequest b d).dev).npl = d.npl ∧ ((fridgeClearRequest b d).dev).lnk.receiver = d.lnk.receiver ∧
    ((fridgeClearRequest b d).dev).lnk.lastByte = d.lnk.lastByte ∧ ((fridgeClearRequest b d).dev).lnk.queue = d.lnk.queue ∧
    ((fridgeClearRequest b d).dev).lnk.out = d.lnk.out ∧ ((fridgeClearRequest b d).dev).lnk.tx = d.lnk.tx ∧
    ((fridgeClearRequest b d).dev).lnk.sendEnd = d.lnk.sendEnd ∧ ((fridgeClearRequest b d).dev).lnk.awake = d.lnk.awake ∧
    ((fridgeClearRequest b d).dev).lnk.idle = d.lnk.idle ∧ ((fridgeClearRequest b d).dev).lnk.lastFrame = d.lnk.lastFrame ∧
    ((fridgeClearRequest b d).dev).lnk.enables = d.lnk.enables ∧ ((fridgeClearRequest b d).dev).lnk.idleTime = d.lnk.idleTime ∧
    ((fridgeClearRequest b d).dev).lnk.resetKind = d.lnk.resetKind ∧
    ((fridgeClearRequest b d).dev).lnk.resetUptime = d.lnk.resetUptime ∧ ((fridgeClearRequest b d).dev).sched = d.sched := by
  unfold fridgeClearRequest
  (try simp)
  all_goals ((repeat' split) <;> (try simp))
  all_goals ((repeat' split) <;> simp_all)

@[simp] theorem restartComp_frame (d0 : Device) :
    (restartComp d0).pins = d0.pins ∧ (restartComp d0).factory = d0.factory ∧ (restartComp d0).sns.ms = d0.sns.ms ∧
    (restartComp d0).sns.uptime = d0.sns.uptime ∧ (restartComp d0).sns.clockSet = d0.sns.clockSet ∧
    (restartComp d0).sns.clockOffset = d0.sns.clockOffset ∧ (restartComp d0).sns.analog = d0.sns.analog ∧
    (restartComp d0).sns.tables = d0.sns.tables ∧ (restartComp d0).sns.lines = d0.sns.lines ∧
    (restartComp d0).sns.dial = d0.sns.dial ∧ (restartComp d0).vbl = d0.vbl ∧ (restartComp d0).chg = d0.chg ∧
    (restartComp d0).bgt.horizonSource = d0.bgt.horizonSource ∧ (restartComp d0).bgt.defaultHorizon = d0.bgt.defaultHorizon ∧
    (restartComp d0).bgt.last = d0.bgt.last ∧ (restartComp d0).bgt.outlet = d0.bgt.outlet ∧ (restartComp d0).htr = d0.htr ∧
    (restartComp d0).lgt.channels = d0.lgt.channels ∧ (restartComp d0).lgt.chSettings = d0.lgt.chSettings ∧
    (restartComp d0).lgt.capStep = d0.lgt.capStep ∧ (restartComp d0).lgt.written = d0.lgt.written ∧
    (restartComp d0).lgt.scenes = d0.lgt.scenes ∧ (restartComp d0).lgt.settings = d0.lgt.settings ∧
    (restartComp d0).lgt.courtesyTimer = d0.lgt.courtesyTimer ∧ (restartComp d0).lgt.ch7Applied = d0.lgt.ch7Applied ∧
    (restartComp d0).rtm = d0.rtm ∧ (restartComp d0).npl = d0.npl ∧ (restartComp d0).lnk.receiver = d0.lnk.receiver ∧
    (restartComp d0).lnk.lastByte = d0.lnk.lastByte ∧ (restartComp d0).lnk.queue = d0.lnk.queue ∧
    (restartComp d0).lnk.out = d0.lnk.out ∧ (restartComp d0).lnk.tx = d0.lnk.tx ∧ (restartComp d0).lnk.sendEnd = d0.lnk.sendEnd ∧
    (restartComp d0).lnk.awake = d0.lnk.awake ∧ (restartComp d0).lnk.idle = d0.lnk.idle ∧
    (restartComp d0).lnk.lastFrame = d0.lnk.lastFrame ∧ (restartComp d0).lnk.enables = d0.lnk.enables ∧
    (restartComp d0).lnk.idleTime = d0.lnk.idleTime ∧ (restartComp d0).lnk.resetKind = d0.lnk.resetKind ∧
    (restartComp d0).lnk.resetUptime = d0.lnk.resetUptime ∧ (restartComp d0).sched = d0.sched := by
  unfold restartComp
  (try simp)
  all_goals ((repeat' split) <;> (try simp))
  all_goals ((repeat' split) <;> simp_all)

/-! ## Budget -/

@[simp] theorem setOutlet_frame (st : OutletState) (closing : Option Nat) (d : Device) :
    (setOutlet st closing d).pins = d.pins ∧ (setOutlet st closing d).factory = d.factory ∧ (setOutlet st closing d).sns = d.sns ∧
    (setOutlet st closing d).vbl = d.vbl ∧ (setOutlet st closing d).chg = d.chg ∧ (setOutlet st closing d).bgt.table = d.bgt.table ∧
    (setOutlet st closing d).bgt.horizonSource = d.bgt.horizonSource ∧
    (setOutlet st closing d).bgt.defaultHorizon = d.bgt.defaultHorizon ∧ (setOutlet st closing d).bgt.last = d.bgt.last ∧
    (setOutlet st closing d).bgt.allowance = d.bgt.allowance ∧ (setOutlet st closing d).bgt.passesDue = d.bgt.passesDue ∧
    (setOutlet st closing d).htr = d.htr ∧ (setOutlet st closing d).cmp = d.cmp ∧ (setOutlet st closing d).lgt = d.lgt ∧
    (setOutlet st closing d).rtm = d.rtm ∧ (setOutlet st closing d).npl = d.npl ∧
    (setOutlet st closing d).lnk.receiver = d.lnk.receiver ∧ (setOutlet st closing d).lnk.lastByte = d.lnk.lastByte ∧
    (setOutlet st closing d).lnk.queue = d.lnk.queue ∧ (setOutlet st closing d).lnk.out = d.lnk.out ∧
    (setOutlet st closing d).lnk.tx = d.lnk.tx ∧ (setOutlet st closing d).lnk.sendEnd = d.lnk.sendEnd ∧
    (setOutlet st closing d).lnk.awake = d.lnk.awake ∧ (setOutlet st closing d).lnk.idle = d.lnk.idle ∧
    (setOutlet st closing d).lnk.lastFrame = d.lnk.lastFrame ∧ (setOutlet st closing d).lnk.enables = d.lnk.enables ∧
    (setOutlet st closing d).lnk.idleTime = d.lnk.idleTime ∧ (setOutlet st closing d).lnk.resetKind = d.lnk.resetKind ∧
    (setOutlet st closing d).lnk.resetUptime = d.lnk.resetUptime ∧ (setOutlet st closing d).sched = d.sched := by
  unfold setOutlet
  (try simp)
  all_goals ((repeat' split) <;> (try simp))
  all_goals ((repeat' split) <;> simp_all)

@[simp] theorem toClosing_frame (d : Device) :
    (toClosing d).pins = d.pins ∧ (toClosing d).factory = d.factory ∧ (toClosing d).sns = d.sns ∧ (toClosing d).vbl = d.vbl ∧
    (toClosing d).chg = d.chg ∧ (toClosing d).bgt.table = d.bgt.table ∧ (toClosing d).bgt.horizonSource = d.bgt.horizonSource ∧
    (toClosing d).bgt.defaultHorizon = d.bgt.defaultHorizon ∧ (toClosing d).bgt.last = d.bgt.last ∧
    (toClosing d).bgt.allowance = d.bgt.allowance ∧ (toClosing d).bgt.passesDue = d.bgt.passesDue ∧ (toClosing d).htr = d.htr ∧
    (toClosing d).cmp = d.cmp ∧ (toClosing d).lgt = d.lgt ∧ (toClosing d).rtm = d.rtm ∧ (toClosing d).npl = d.npl ∧
    (toClosing d).lnk.receiver = d.lnk.receiver ∧ (toClosing d).lnk.lastByte = d.lnk.lastByte ∧
    (toClosing d).lnk.queue = d.lnk.queue ∧ (toClosing d).lnk.out = d.lnk.out ∧ (toClosing d).lnk.tx = d.lnk.tx ∧
    (toClosing d).lnk.sendEnd = d.lnk.sendEnd ∧ (toClosing d).lnk.awake = d.lnk.awake ∧ (toClosing d).lnk.idle = d.lnk.idle ∧
    (toClosing d).lnk.lastFrame = d.lnk.lastFrame ∧ (toClosing d).lnk.enables = d.lnk.enables ∧
    (toClosing d).lnk.idleTime = d.lnk.idleTime ∧ (toClosing d).lnk.resetKind = d.lnk.resetKind ∧
    (toClosing d).lnk.resetUptime = d.lnk.resetUptime ∧ (toClosing d).sched = d.sched := by
  unfold toClosing
  (try simp)
  all_goals ((repeat' split) <;> (try simp))
  all_goals ((repeat' split) <;> simp_all)

@[simp] theorem outletRequest_frame (d : Device) :
    (outletRequest d).pins = d.pins ∧ (outletRequest d).factory = d.factory ∧ (outletRequest d).sns = d.sns ∧
    (outletRequest d).vbl = d.vbl ∧ (outletRequest d).chg = d.chg ∧ (outletRequest d).bgt.table = d.bgt.table ∧
    (outletRequest d).bgt.horizonSource = d.bgt.horizonSource ∧ (outletRequest d).bgt.defaultHorizon = d.bgt.defaultHorizon ∧
    (outletRequest d).bgt.last = d.bgt.last ∧ (outletRequest d).bgt.passesDue = d.bgt.passesDue ∧ (outletRequest d).htr = d.htr ∧
    (outletRequest d).cmp = d.cmp ∧ (outletRequest d).lgt = d.lgt ∧ (outletRequest d).rtm = d.rtm ∧ (outletRequest d).npl = d.npl ∧
    (outletRequest d).lnk.receiver = d.lnk.receiver ∧ (outletRequest d).lnk.lastByte = d.lnk.lastByte ∧
    (outletRequest d).lnk.queue = d.lnk.queue ∧ (outletRequest d).lnk.out = d.lnk.out ∧ (outletRequest d).lnk.tx = d.lnk.tx ∧
    (outletRequest d).lnk.sendEnd = d.lnk.sendEnd ∧ (outletRequest d).lnk.awake = d.lnk.awake ∧
    (outletRequest d).lnk.idle = d.lnk.idle ∧ (outletRequest d).lnk.lastFrame = d.lnk.lastFrame ∧
    (outletRequest d).lnk.enables = d.lnk.enables ∧ (outletRequest d).lnk.idleTime = d.lnk.idleTime ∧
    (outletRequest d).lnk.resetKind = d.lnk.resetKind ∧ (outletRequest d).lnk.resetUptime = d.lnk.resetUptime ∧
    (outletRequest d).sched = d.sched := by
  unfold outletRequest
  have h0 := requestAllowance_frame .outlet d
  (repeat' split) <;> simp_all

@[simp] theorem outletGrant_frame (d : Device) :
    (outletGrant d).pins = d.pins ∧ (outletGrant d).factory = d.factory ∧ (outletGrant d).sns = d.sns ∧ (outletGrant d).vbl = d.vbl ∧
    (outletGrant d).chg = d.chg ∧ (outletGrant d).bgt.table = d.bgt.table ∧ (outletGrant d).bgt.horizonSource = d.bgt.horizonSource ∧
    (outletGrant d).bgt.defaultHorizon = d.bgt.defaultHorizon ∧ (outletGrant d).bgt.last = d.bgt.last ∧
    (outletGrant d).bgt.passesDue = d.bgt.passesDue ∧ (outletGrant d).htr = d.htr ∧ (outletGrant d).cmp = d.cmp ∧
    (outletGrant d).lgt = d.lgt ∧ (outletGrant d).rtm = d.rtm ∧ (outletGrant d).npl = d.npl ∧
    (outletGrant d).lnk.receiver = d.lnk.receiver ∧ (outletGrant d).lnk.lastByte = d.lnk.lastByte ∧
    (outletGrant d).lnk.queue = d.lnk.queue ∧ (outletGrant d).lnk.out = d.lnk.out ∧ (outletGrant d).lnk.tx = d.lnk.tx ∧
    (outletGrant d).lnk.sendEnd = d.lnk.sendEnd ∧ (outletGrant d).lnk.awake = d.lnk.awake ∧ (outletGrant d).lnk.idle = d.lnk.idle ∧
    (outletGrant d).lnk.lastFrame = d.lnk.lastFrame ∧ (outletGrant d).lnk.enables = d.lnk.enables ∧
    (outletGrant d).lnk.idleTime = d.lnk.idleTime ∧ (outletGrant d).lnk.resetKind = d.lnk.resetKind ∧
    (outletGrant d).lnk.resetUptime = d.lnk.resetUptime ∧ (outletGrant d).sched = d.sched := by
  unfold outletGrant
  (try simp)
  all_goals ((repeat' split) <;> (try simp))
  all_goals ((repeat' split) <;> simp_all)

@[simp] theorem outletGranted_frame (d : Device) :
    (outletGranted d).pins = d.pins ∧ (outletGranted d).factory = d.factory ∧ (outletGranted d).sns = d.sns ∧
    (outletGranted d).vbl = d.vbl ∧ (outletGranted d).chg = d.chg ∧ (outletGranted d).bgt.table = d.bgt.table ∧
    (outletGranted d).bgt.horizonSource = d.bgt.horizonSource ∧ (outletGranted d).bgt.defaultHorizon = d.bgt.defaultHorizon ∧
    (outletGranted d).bgt.last = d.bgt.last ∧ (outletGranted d).bgt.allowance = d.bgt.allowance ∧
    (outletGranted d).bgt.passesDue = d.bgt.passesDue ∧ (outletGranted d).htr = d.htr ∧ (outletGranted d).cmp = d.cmp ∧
    (outletGranted d).lgt = d.lgt ∧ (outletGranted d).rtm = d.rtm ∧ (outletGranted d).npl = d.npl ∧
    (outletGranted d).lnk.receiver = d.lnk.receiver ∧ (outletGranted d).lnk.lastByte = d.lnk.lastByte ∧
    (outletGranted d).lnk.queue = d.lnk.queue ∧ (outletGranted d).lnk.out = d.lnk.out ∧ (outletGranted d).lnk.tx = d.lnk.tx ∧
    (outletGranted d).lnk.sendEnd = d.lnk.sendEnd ∧ (outletGranted d).lnk.awake = d.lnk.awake ∧
    (outletGranted d).lnk.idle = d.lnk.idle ∧ (outletGranted d).lnk.lastFrame = d.lnk.lastFrame ∧
    (outletGranted d).lnk.enables = d.lnk.enables ∧ (outletGranted d).lnk.idleTime = d.lnk.idleTime ∧
    (outletGranted d).lnk.resetKind = d.lnk.resetKind ∧ (outletGranted d).lnk.resetUptime = d.lnk.resetUptime ∧
    (outletGranted d).sched = d.sched := by
  unfold outletGranted
  (try simp)
  all_goals ((repeat' split) <;> (try simp))
  all_goals ((repeat' split) <;> simp_all)

@[simp] theorem outletDenied_frame (d : Device) :
    (outletDenied d).pins = d.pins ∧ (outletDenied d).factory = d.factory ∧ (outletDenied d).sns = d.sns ∧
    (outletDenied d).vbl = d.vbl ∧ (outletDenied d).chg = d.chg ∧ (outletDenied d).bgt.table = d.bgt.table ∧
    (outletDenied d).bgt.horizonSource = d.bgt.horizonSource ∧ (outletDenied d).bgt.defaultHorizon = d.bgt.defaultHorizon ∧
    (outletDenied d).bgt.last = d.bgt.last ∧ (outletDenied d).bgt.allowance = d.bgt.allowance ∧
    (outletDenied d).bgt.passesDue = d.bgt.passesDue ∧ (outletDenied d).htr = d.htr ∧ (outletDenied d).cmp = d.cmp ∧
    (outletDenied d).lgt = d.lgt ∧ (outletDenied d).rtm = d.rtm ∧ (outletDenied d).npl = d.npl ∧
    (outletDenied d).lnk.receiver = d.lnk.receiver ∧ (outletDenied d).lnk.lastByte = d.lnk.lastByte ∧
    (outletDenied d).lnk.queue = d.lnk.queue ∧ (outletDenied d).lnk.out = d.lnk.out ∧ (outletDenied d).lnk.tx = d.lnk.tx ∧
    (outletDenied d).lnk.sendEnd = d.lnk.sendEnd ∧ (outletDenied d).lnk.awake = d.lnk.awake ∧ (outletDenied d).lnk.idle = d.lnk.idle ∧
    (outletDenied d).lnk.lastFrame = d.lnk.lastFrame ∧ (outletDenied d).lnk.enables = d.lnk.enables ∧
    (outletDenied d).lnk.idleTime = d.lnk.idleTime ∧ (outletDenied d).lnk.resetKind = d.lnk.resetKind ∧
    (outletDenied d).lnk.resetUptime = d.lnk.resetUptime ∧ (outletDenied d).sched = d.sched := by
  unfold outletDenied
  (try simp)
  all_goals ((repeat' split) <;> (try simp))
  all_goals ((repeat' split) <;> simp_all)

@[simp] theorem outletRevoked_frame (d : Device) :
    (outletRevoked d).pins = d.pins ∧ (outletRevoked d).factory = d.factory ∧ (outletRevoked d).sns = d.sns ∧
    (outletRevoked d).vbl = d.vbl ∧ (outletRevoked d).chg = d.chg ∧ (outletRevoked d).bgt.table = d.bgt.table ∧
    (outletRevoked d).bgt.horizonSource = d.bgt.horizonSource ∧ (outletRevoked d).bgt.defaultHorizon = d.bgt.defaultHorizon ∧
    (outletRevoked d).bgt.last = d.bgt.last ∧ (outletRevoked d).bgt.allowance = d.bgt.allowance ∧
    (outletRevoked d).bgt.passesDue = d.bgt.passesDue ∧ (outletRevoked d).htr = d.htr ∧ (outletRevoked d).cmp = d.cmp ∧
    (outletRevoked d).lgt = d.lgt ∧ (outletRevoked d).rtm = d.rtm ∧ (outletRevoked d).npl = d.npl ∧
    (outletRevoked d).lnk.receiver = d.lnk.receiver ∧ (outletRevoked d).lnk.lastByte = d.lnk.lastByte ∧
    (outletRevoked d).lnk.queue = d.lnk.queue ∧ (outletRevoked d).lnk.out = d.lnk.out ∧ (outletRevoked d).lnk.tx = d.lnk.tx ∧
    (outletRevoked d).lnk.sendEnd = d.lnk.sendEnd ∧ (outletRevoked d).lnk.awake = d.lnk.awake ∧
    (outletRevoked d).lnk.idle = d.lnk.idle ∧ (outletRevoked d).lnk.lastFrame = d.lnk.lastFrame ∧
    (outletRevoked d).lnk.enables = d.lnk.enables ∧ (outletRevoked d).lnk.idleTime = d.lnk.idleTime ∧
    (outletRevoked d).lnk.resetKind = d.lnk.resetKind ∧ (outletRevoked d).lnk.resetUptime = d.lnk.resetUptime ∧
    (outletRevoked d).sched = d.sched := by
  unfold outletRevoked
  (try simp)
  all_goals ((repeat' split) <;> (try simp))
  all_goals ((repeat' split) <;> simp_all)

@[simp] theorem closingExpiry_frame (d : Device) :
    (closingExpiry d).pins = d.pins ∧ (closingExpiry d).factory = d.factory ∧ (closingExpiry d).sns = d.sns ∧
    (closingExpiry d).vbl = d.vbl ∧ (closingExpiry d).chg = d.chg ∧ (closingExpiry d).bgt.table = d.bgt.table ∧
    (closingExpiry d).bgt.horizonSource = d.bgt.horizonSource ∧ (closingExpiry d).bgt.defaultHorizon = d.bgt.defaultHorizon ∧
    (closingExpiry d).bgt.last = d.bgt.last ∧ (closingExpiry d).bgt.passesDue = d.bgt.passesDue ∧ (closingExpiry d).htr = d.htr ∧
    (closingExpiry d).cmp = d.cmp ∧ (closingExpiry d).lgt = d.lgt ∧ (closingExpiry d).rtm = d.rtm ∧ (closingExpiry d).npl = d.npl ∧
    (closingExpiry d).lnk.receiver = d.lnk.receiver ∧ (closingExpiry d).lnk.lastByte = d.lnk.lastByte ∧
    (closingExpiry d).lnk.queue = d.lnk.queue ∧ (closingExpiry d).lnk.out = d.lnk.out ∧ (closingExpiry d).lnk.tx = d.lnk.tx ∧
    (closingExpiry d).lnk.sendEnd = d.lnk.sendEnd ∧ (closingExpiry d).lnk.awake = d.lnk.awake ∧
    (closingExpiry d).lnk.idle = d.lnk.idle ∧ (closingExpiry d).lnk.lastFrame = d.lnk.lastFrame ∧
    (closingExpiry d).lnk.enables = d.lnk.enables ∧ (closingExpiry d).lnk.idleTime = d.lnk.idleTime ∧
    (closingExpiry d).lnk.resetKind = d.lnk.resetKind ∧ (closingExpiry d).lnk.resetUptime = d.lnk.resetUptime ∧
    (closingExpiry d).sched = d.sched := by
  unfold closingExpiry
  (try simp)
  all_goals ((repeat' split) <;> (try simp))
  all_goals ((repeat' split) <;> simp_all)

@[simp] theorem outletOn_frame (d : Device) :
    (outletOn d).pins = d.pins ∧ (outletOn d).factory = d.factory ∧ (outletOn d).sns = d.sns ∧ (outletOn d).vbl = d.vbl ∧
    (outletOn d).chg = d.chg ∧ (outletOn d).bgt.horizonSource = d.bgt.horizonSource ∧
    (outletOn d).bgt.defaultHorizon = d.bgt.defaultHorizon ∧ (outletOn d).bgt.last = d.bgt.last ∧ (outletOn d).htr = d.htr ∧
    (outletOn d).cmp = d.cmp ∧ (outletOn d).lgt = d.lgt ∧ (outletOn d).rtm = d.rtm ∧ (outletOn d).npl = d.npl ∧
    (outletOn d).lnk.receiver = d.lnk.receiver ∧ (outletOn d).lnk.lastByte = d.lnk.lastByte ∧ (outletOn d).lnk.queue = d.lnk.queue ∧
    (outletOn d).lnk.out = d.lnk.out ∧ (outletOn d).lnk.tx = d.lnk.tx ∧ (outletOn d).lnk.sendEnd = d.lnk.sendEnd ∧
    (outletOn d).lnk.awake = d.lnk.awake ∧ (outletOn d).lnk.idle = d.lnk.idle ∧ (outletOn d).lnk.lastFrame = d.lnk.lastFrame ∧
    (outletOn d).lnk.enables = d.lnk.enables ∧ (outletOn d).lnk.idleTime = d.lnk.idleTime ∧
    (outletOn d).lnk.resetKind = d.lnk.resetKind ∧ (outletOn d).lnk.resetUptime = d.lnk.resetUptime ∧ (outletOn d).sched = d.sched := by
  unfold outletOn
  (try simp)
  all_goals ((repeat' split) <;> (try simp))
  all_goals ((repeat' split) <;> simp_all)

@[simp] theorem outletOff_frame (d : Device) :
    (outletOff d).pins = d.pins ∧ (outletOff d).factory = d.factory ∧ (outletOff d).sns = d.sns ∧ (outletOff d).vbl = d.vbl ∧
    (outletOff d).chg = d.chg ∧ (outletOff d).bgt.horizonSource = d.bgt.horizonSource ∧
    (outletOff d).bgt.defaultHorizon = d.bgt.defaultHorizon ∧ (outletOff d).bgt.last = d.bgt.last ∧ (outletOff d).htr = d.htr ∧
    (outletOff d).cmp = d.cmp ∧ (outletOff d).lgt = d.lgt ∧ (outletOff d).rtm = d.rtm ∧ (outletOff d).npl = d.npl ∧
    (outletOff d).lnk.receiver = d.lnk.receiver ∧ (outletOff d).lnk.lastByte = d.lnk.lastByte ∧
    (outletOff d).lnk.queue = d.lnk.queue ∧ (outletOff d).lnk.out = d.lnk.out ∧ (outletOff d).lnk.tx = d.lnk.tx ∧
    (outletOff d).lnk.sendEnd = d.lnk.sendEnd ∧ (outletOff d).lnk.awake = d.lnk.awake ∧ (outletOff d).lnk.idle = d.lnk.idle ∧
    (outletOff d).lnk.lastFrame = d.lnk.lastFrame ∧ (outletOff d).lnk.enables = d.lnk.enables ∧
    (outletOff d).lnk.idleTime = d.lnk.idleTime ∧ (outletOff d).lnk.resetKind = d.lnk.resetKind ∧
    (outletOff d).lnk.resetUptime = d.lnk.resetUptime ∧ (outletOff d).sched = d.sched := by
  unfold outletOff
  (try simp)
  all_goals ((repeat' split) <;> (try simp))
  all_goals ((repeat' split) <;> simp_all)

@[simp] theorem outletToggle_frame (d : Device) :
    (outletToggle d).pins = d.pins ∧ (outletToggle d).factory = d.factory ∧ (outletToggle d).sns = d.sns ∧
    (outletToggle d).vbl = d.vbl ∧ (outletToggle d).chg = d.chg ∧ (outletToggle d).bgt.horizonSource = d.bgt.horizonSource ∧
    (outletToggle d).bgt.defaultHorizon = d.bgt.defaultHorizon ∧ (outletToggle d).bgt.last = d.bgt.last ∧
    (outletToggle d).htr = d.htr ∧ (outletToggle d).cmp = d.cmp ∧ (outletToggle d).lgt = d.lgt ∧ (outletToggle d).rtm = d.rtm ∧
    (outletToggle d).npl = d.npl ∧ (outletToggle d).lnk.receiver = d.lnk.receiver ∧ (outletToggle d).lnk.lastByte = d.lnk.lastByte ∧
    (outletToggle d).lnk.queue = d.lnk.queue ∧ (outletToggle d).lnk.out = d.lnk.out ∧ (outletToggle d).lnk.tx = d.lnk.tx ∧
    (outletToggle d).lnk.sendEnd = d.lnk.sendEnd ∧ (outletToggle d).lnk.awake = d.lnk.awake ∧ (outletToggle d).lnk.idle = d.lnk.idle ∧
    (outletToggle d).lnk.lastFrame = d.lnk.lastFrame ∧ (outletToggle d).lnk.enables = d.lnk.enables ∧
    (outletToggle d).lnk.idleTime = d.lnk.idleTime ∧ (outletToggle d).lnk.resetKind = d.lnk.resetKind ∧
    (outletToggle d).lnk.resetUptime = d.lnk.resetUptime ∧ (outletToggle d).sched = d.sched := by
  unfold outletToggle
  (try simp)
  all_goals ((repeat' split) <;> (try simp))
  all_goals ((repeat' split) <;> simp_all)

@[simp] theorem outletSetRequest_frame (b : List Byte) (d : Device) :
    ((outletSetRequest b d).dev).pins = d.pins ∧ ((outletSetRequest b d).dev).factory = d.factory ∧
    ((outletSetRequest b d).dev).sns = d.sns ∧ ((outletSetRequest b d).dev).vbl = d.vbl ∧ ((outletSetRequest b d).dev).chg = d.chg ∧
    ((outletSetRequest b d).dev).bgt.horizonSource = d.bgt.horizonSource ∧
    ((outletSetRequest b d).dev).bgt.defaultHorizon = d.bgt.defaultHorizon ∧ ((outletSetRequest b d).dev).bgt.last = d.bgt.last ∧
    ((outletSetRequest b d).dev).htr = d.htr ∧ ((outletSetRequest b d).dev).cmp = d.cmp ∧ ((outletSetRequest b d).dev).lgt = d.lgt ∧
    ((outletSetRequest b d).dev).rtm = d.rtm ∧ ((outletSetRequest b d).dev).npl = d.npl ∧
    ((outletSetRequest b d).dev).lnk.receiver = d.lnk.receiver ∧ ((outletSetRequest b d).dev).lnk.lastByte = d.lnk.lastByte ∧
    ((outletSetRequest b d).dev).lnk.queue = d.lnk.queue ∧ ((outletSetRequest b d).dev).lnk.out = d.lnk.out ∧
    ((outletSetRequest b d).dev).lnk.tx = d.lnk.tx ∧ ((outletSetRequest b d).dev).lnk.sendEnd = d.lnk.sendEnd ∧
    ((outletSetRequest b d).dev).lnk.awake = d.lnk.awake ∧ ((outletSetRequest b d).dev).lnk.idle = d.lnk.idle ∧
    ((outletSetRequest b d).dev).lnk.lastFrame = d.lnk.lastFrame ∧ ((outletSetRequest b d).dev).lnk.enables = d.lnk.enables ∧
    ((outletSetRequest b d).dev).lnk.idleTime = d.lnk.idleTime ∧ ((outletSetRequest b d).dev).lnk.resetKind = d.lnk.resetKind ∧
    ((outletSetRequest b d).dev).lnk.resetUptime = d.lnk.resetUptime ∧ ((outletSetRequest b d).dev).sched = d.sched := by
  unfold outletSetRequest
  (try simp)
  all_goals ((repeat' split) <;> (try simp))
  all_goals ((repeat' split) <;> simp_all)

@[simp] theorem answerGranted_frame (l : Load) (d : Device) :
    (answerGranted l d).pins = d.pins ∧ (answerGranted l d).factory = d.factory ∧ (answerGranted l d).sns.ms = d.sns.ms ∧
    (answerGranted l d).sns.uptime = d.sns.uptime ∧ (answerGranted l d).sns.clockSet = d.sns.clockSet ∧
    (answerGranted l d).sns.clockOffset = d.sns.clockOffset ∧ (answerGranted l d).sns.analog = d.sns.analog ∧
    (answerGranted l d).sns.tables = d.sns.tables ∧ (answerGranted l d).sns.lines = d.sns.lines ∧
    (answerGranted l d).sns.dial = d.sns.dial ∧ (answerGranted l d).vbl = d.vbl ∧ (answerGranted l d).chg = d.chg ∧
    (answerGranted l d).bgt.horizonSource = d.bgt.horizonSource ∧ (answerGranted l d).bgt.defaultHorizon = d.bgt.defaultHorizon ∧
    (answerGranted l d).bgt.last = d.bgt.last ∧ (answerGranted l d).lgt.channels = d.lgt.channels ∧
    (answerGranted l d).lgt.chSettings = d.lgt.chSettings ∧ (answerGranted l d).lgt.capStep = d.lgt.capStep ∧
    (answerGranted l d).lgt.written = d.lgt.written ∧ (answerGranted l d).lgt.scenes = d.lgt.scenes ∧
    (answerGranted l d).lgt.settings = d.lgt.settings ∧ (answerGranted l d).lgt.courtesyTimer = d.lgt.courtesyTimer ∧
    (answerGranted l d).lgt.ch7Applied = d.lgt.ch7Applied ∧ (answerGranted l d).rtm = d.rtm ∧ (answerGranted l d).npl = d.npl ∧
    (answerGranted l d).lnk.receiver = d.lnk.receiver ∧ (answerGranted l d).lnk.lastByte = d.lnk.lastByte ∧
    (answerGranted l d).lnk.queue = d.lnk.queue ∧ (answerGranted l d).lnk.out = d.lnk.out ∧ (answerGranted l d).lnk.tx = d.lnk.tx ∧
    (answerGranted l d).lnk.sendEnd = d.lnk.sendEnd ∧ (answerGranted l d).lnk.awake = d.lnk.awake ∧
    (answerGranted l d).lnk.idle = d.lnk.idle ∧ (answerGranted l d).lnk.lastFrame = d.lnk.lastFrame ∧
    (answerGranted l d).lnk.enables = d.lnk.enables ∧ (answerGranted l d).lnk.idleTime = d.lnk.idleTime ∧
    (answerGranted l d).lnk.resetKind = d.lnk.resetKind ∧ (answerGranted l d).lnk.resetUptime = d.lnk.resetUptime ∧
    (answerGranted l d).sched = d.sched := by
  unfold answerGranted
  (try simp)
  all_goals ((repeat' split) <;> (try simp))
  all_goals ((repeat' split) <;> simp_all)

@[simp] theorem answerDenied_frame (l : Load) (d : Device) :
    (answerDenied l d).pins = d.pins ∧ (answerDenied l d).factory = d.factory ∧ (answerDenied l d).sns.ms = d.sns.ms ∧
    (answerDenied l d).sns.uptime = d.sns.uptime ∧ (answerDenied l d).sns.clockSet = d.sns.clockSet ∧
    (answerDenied l d).sns.clockOffset = d.sns.clockOffset ∧ (answerDenied l d).sns.analog = d.sns.analog ∧
    (answerDenied l d).sns.tables = d.sns.tables ∧ (answerDenied l d).sns.lines = d.sns.lines ∧
    (answerDenied l d).sns.dial = d.sns.dial ∧ (answerDenied l d).vbl = d.vbl ∧ (answerDenied l d).chg = d.chg ∧
    (answerDenied l d).bgt.horizonSource = d.bgt.horizonSource ∧ (answerDenied l d).bgt.defaultHorizon = d.bgt.defaultHorizon ∧
    (answerDenied l d).bgt.last = d.bgt.last ∧ (answerDenied l d).lgt = d.lgt ∧ (answerDenied l d).rtm = d.rtm ∧
    (answerDenied l d).npl = d.npl ∧ (answerDenied l d).lnk.receiver = d.lnk.receiver ∧
    (answerDenied l d).lnk.lastByte = d.lnk.lastByte ∧ (answerDenied l d).lnk.queue = d.lnk.queue ∧
    (answerDenied l d).lnk.out = d.lnk.out ∧ (answerDenied l d).lnk.tx = d.lnk.tx ∧ (answerDenied l d).lnk.sendEnd = d.lnk.sendEnd ∧
    (answerDenied l d).lnk.awake = d.lnk.awake ∧ (answerDenied l d).lnk.idle = d.lnk.idle ∧
    (answerDenied l d).lnk.lastFrame = d.lnk.lastFrame ∧ (answerDenied l d).lnk.enables = d.lnk.enables ∧
    (answerDenied l d).lnk.idleTime = d.lnk.idleTime ∧ (answerDenied l d).lnk.resetKind = d.lnk.resetKind ∧
    (answerDenied l d).lnk.resetUptime = d.lnk.resetUptime ∧ (answerDenied l d).sched = d.sched := by
  unfold answerDenied
  (try simp)
  all_goals ((repeat' split) <;> (try simp))
  all_goals ((repeat' split) <;> simp_all)

@[simp] theorem answerDenieds_frame (l : List Load) (d : Device) :
    (l.foldl (fun acc l => answerDenied l acc) d).pins = d.pins ∧ (l.foldl (fun acc l => answerDenied l acc) d).factory = d.factory ∧
    (l.foldl (fun acc l => answerDenied l acc) d).sns.ms = d.sns.ms ∧
    (l.foldl (fun acc l => answerDenied l acc) d).sns.uptime = d.sns.uptime ∧
    (l.foldl (fun acc l => answerDenied l acc) d).sns.clockSet = d.sns.clockSet ∧
    (l.foldl (fun acc l => answerDenied l acc) d).sns.clockOffset = d.sns.clockOffset ∧
    (l.foldl (fun acc l => answerDenied l acc) d).sns.analog = d.sns.analog ∧
    (l.foldl (fun acc l => answerDenied l acc) d).sns.tables = d.sns.tables ∧
    (l.foldl (fun acc l => answerDenied l acc) d).sns.lines = d.sns.lines ∧
    (l.foldl (fun acc l => answerDenied l acc) d).sns.dial = d.sns.dial ∧ (l.foldl (fun acc l => answerDenied l acc) d).vbl = d.vbl ∧
    (l.foldl (fun acc l => answerDenied l acc) d).chg = d.chg ∧
    (l.foldl (fun acc l => answerDenied l acc) d).bgt.horizonSource = d.bgt.horizonSource ∧
    (l.foldl (fun acc l => answerDenied l acc) d).bgt.defaultHorizon = d.bgt.defaultHorizon ∧
    (l.foldl (fun acc l => answerDenied l acc) d).bgt.last = d.bgt.last ∧ (l.foldl (fun acc l => answerDenied l acc) d).lgt = d.lgt ∧
    (l.foldl (fun acc l => answerDenied l acc) d).rtm = d.rtm ∧ (l.foldl (fun acc l => answerDenied l acc) d).npl = d.npl ∧
    (l.foldl (fun acc l => answerDenied l acc) d).lnk.receiver = d.lnk.receiver ∧
    (l.foldl (fun acc l => answerDenied l acc) d).lnk.lastByte = d.lnk.lastByte ∧
    (l.foldl (fun acc l => answerDenied l acc) d).lnk.queue = d.lnk.queue ∧
    (l.foldl (fun acc l => answerDenied l acc) d).lnk.out = d.lnk.out ∧
    (l.foldl (fun acc l => answerDenied l acc) d).lnk.tx = d.lnk.tx ∧
    (l.foldl (fun acc l => answerDenied l acc) d).lnk.sendEnd = d.lnk.sendEnd ∧
    (l.foldl (fun acc l => answerDenied l acc) d).lnk.awake = d.lnk.awake ∧
    (l.foldl (fun acc l => answerDenied l acc) d).lnk.idle = d.lnk.idle ∧
    (l.foldl (fun acc l => answerDenied l acc) d).lnk.lastFrame = d.lnk.lastFrame ∧
    (l.foldl (fun acc l => answerDenied l acc) d).lnk.enables = d.lnk.enables ∧
    (l.foldl (fun acc l => answerDenied l acc) d).lnk.idleTime = d.lnk.idleTime ∧
    (l.foldl (fun acc l => answerDenied l acc) d).lnk.resetKind = d.lnk.resetKind ∧
    (l.foldl (fun acc l => answerDenied l acc) d).lnk.resetUptime = d.lnk.resetUptime ∧
    (l.foldl (fun acc l => answerDenied l acc) d).sched = d.sched := by
  induction l generalizing d with
  | nil => simp
  | cons a l ih => simp [ih]

@[simp] theorem answerRevoked_frame (l : Load) (d : Device) :
    (answerRevoked l d).pins = d.pins ∧ (answerRevoked l d).factory = d.factory ∧ (answerRevoked l d).sns.ms = d.sns.ms ∧
    (answerRevoked l d).sns.uptime = d.sns.uptime ∧ (answerRevoked l d).sns.clockSet = d.sns.clockSet ∧
    (answerRevoked l d).sns.clockOffset = d.sns.clockOffset ∧ (answerRevoked l d).sns.analog = d.sns.analog ∧
    (answerRevoked l d).sns.tables = d.sns.tables ∧ (answerRevoked l d).sns.lines = d.sns.lines ∧
    (answerRevoked l d).sns.dial = d.sns.dial ∧ (answerRevoked l d).vbl = d.vbl ∧ (answerRevoked l d).chg = d.chg ∧
    (answerRevoked l d).bgt.horizonSource = d.bgt.horizonSource ∧ (answerRevoked l d).bgt.defaultHorizon = d.bgt.defaultHorizon ∧
    (answerRevoked l d).bgt.last = d.bgt.last ∧ (answerRevoked l d).lgt.channels = d.lgt.channels ∧
    (answerRevoked l d).lgt.chSettings = d.lgt.chSettings ∧ (answerRevoked l d).lgt.capStep = d.lgt.capStep ∧
    (answerRevoked l d).lgt.written = d.lgt.written ∧ (answerRevoked l d).lgt.scenes = d.lgt.scenes ∧
    (answerRevoked l d).lgt.settings = d.lgt.settings ∧ (answerRevoked l d).lgt.courtesyTimer = d.lgt.courtesyTimer ∧
    (answerRevoked l d).lgt.ch7Applied = d.lgt.ch7Applied ∧ (answerRevoked l d).rtm = d.rtm ∧ (answerRevoked l d).npl = d.npl ∧
    (answerRevoked l d).lnk.receiver = d.lnk.receiver ∧ (answerRevoked l d).lnk.lastByte = d.lnk.lastByte ∧
    (answerRevoked l d).lnk.queue = d.lnk.queue ∧ (answerRevoked l d).lnk.out = d.lnk.out ∧ (answerRevoked l d).lnk.tx = d.lnk.tx ∧
    (answerRevoked l d).lnk.sendEnd = d.lnk.sendEnd ∧ (answerRevoked l d).lnk.awake = d.lnk.awake ∧
    (answerRevoked l d).lnk.idle = d.lnk.idle ∧ (answerRevoked l d).lnk.lastFrame = d.lnk.lastFrame ∧
    (answerRevoked l d).lnk.enables = d.lnk.enables ∧ (answerRevoked l d).lnk.idleTime = d.lnk.idleTime ∧
    (answerRevoked l d).lnk.resetKind = d.lnk.resetKind ∧ (answerRevoked l d).lnk.resetUptime = d.lnk.resetUptime ∧
    (answerRevoked l d).sched = d.sched := by
  unfold answerRevoked
  (try simp)
  all_goals ((repeat' split) <;> (try simp))
  all_goals ((repeat' split) <;> simp_all)

@[simp] theorem revokeHolder_frame (d : Device) :
    (revokeHolder d).pins = d.pins ∧ (revokeHolder d).factory = d.factory ∧ (revokeHolder d).sns.ms = d.sns.ms ∧
    (revokeHolder d).sns.uptime = d.sns.uptime ∧ (revokeHolder d).sns.clockSet = d.sns.clockSet ∧
    (revokeHolder d).sns.clockOffset = d.sns.clockOffset ∧ (revokeHolder d).sns.analog = d.sns.analog ∧
    (revokeHolder d).sns.tables = d.sns.tables ∧ (revokeHolder d).sns.lines = d.sns.lines ∧ (revokeHolder d).sns.dial = d.sns.dial ∧
    (revokeHolder d).vbl = d.vbl ∧ (revokeHolder d).chg = d.chg ∧ (revokeHolder d).bgt.horizonSource = d.bgt.horizonSource ∧
    (revokeHolder d).bgt.defaultHorizon = d.bgt.defaultHorizon ∧ (revokeHolder d).bgt.last = d.bgt.last ∧
    (revokeHolder d).lgt.channels = d.lgt.channels ∧ (revokeHolder d).lgt.chSettings = d.lgt.chSettings ∧
    (revokeHolder d).lgt.capStep = d.lgt.capStep ∧ (revokeHolder d).lgt.written = d.lgt.written ∧
    (revokeHolder d).lgt.scenes = d.lgt.scenes ∧ (revokeHolder d).lgt.settings = d.lgt.settings ∧
    (revokeHolder d).lgt.courtesyTimer = d.lgt.courtesyTimer ∧ (revokeHolder d).lgt.ch7Applied = d.lgt.ch7Applied ∧
    (revokeHolder d).rtm = d.rtm ∧ (revokeHolder d).npl = d.npl ∧ (revokeHolder d).lnk.receiver = d.lnk.receiver ∧
    (revokeHolder d).lnk.lastByte = d.lnk.lastByte ∧ (revokeHolder d).lnk.queue = d.lnk.queue ∧ (revokeHolder d).lnk.out = d.lnk.out ∧
    (revokeHolder d).lnk.tx = d.lnk.tx ∧ (revokeHolder d).lnk.sendEnd = d.lnk.sendEnd ∧ (revokeHolder d).lnk.awake = d.lnk.awake ∧
    (revokeHolder d).lnk.idle = d.lnk.idle ∧ (revokeHolder d).lnk.lastFrame = d.lnk.lastFrame ∧
    (revokeHolder d).lnk.enables = d.lnk.enables ∧ (revokeHolder d).lnk.idleTime = d.lnk.idleTime ∧
    (revokeHolder d).lnk.resetKind = d.lnk.resetKind ∧ (revokeHolder d).lnk.resetUptime = d.lnk.resetUptime ∧
    (revokeHolder d).sched = d.sched := by
  unfold revokeHolder
  (try simp)
  all_goals ((repeat' split) <;> (try simp))
  all_goals ((repeat' split) <;> simp_all)

@[simp] theorem settlingExpiry_frame (d : Device) :
    (settlingExpiry d).pins = d.pins ∧ (settlingExpiry d).factory = d.factory ∧ (settlingExpiry d).sns.ms = d.sns.ms ∧
    (settlingExpiry d).sns.uptime = d.sns.uptime ∧ (settlingExpiry d).sns.clockSet = d.sns.clockSet ∧
    (settlingExpiry d).sns.clockOffset = d.sns.clockOffset ∧ (settlingExpiry d).sns.analog = d.sns.analog ∧
    (settlingExpiry d).sns.tables = d.sns.tables ∧ (settlingExpiry d).sns.lines = d.sns.lines ∧
    (settlingExpiry d).sns.dial = d.sns.dial ∧ (settlingExpiry d).vbl = d.vbl ∧ (settlingExpiry d).chg = d.chg ∧
    (settlingExpiry d).bgt.horizonSource = d.bgt.horizonSource ∧ (settlingExpiry d).bgt.defaultHorizon = d.bgt.defaultHorizon ∧
    (settlingExpiry d).bgt.last = d.bgt.last ∧ (settlingExpiry d).lgt.channels = d.lgt.channels ∧
    (settlingExpiry d).lgt.chSettings = d.lgt.chSettings ∧ (settlingExpiry d).lgt.capStep = d.lgt.capStep ∧
    (settlingExpiry d).lgt.written = d.lgt.written ∧ (settlingExpiry d).lgt.scenes = d.lgt.scenes ∧
    (settlingExpiry d).lgt.settings = d.lgt.settings ∧ (settlingExpiry d).lgt.courtesyTimer = d.lgt.courtesyTimer ∧
    (settlingExpiry d).lgt.ch7Applied = d.lgt.ch7Applied ∧ (settlingExpiry d).rtm = d.rtm ∧ (settlingExpiry d).npl = d.npl ∧
    (settlingExpiry d).lnk.receiver = d.lnk.receiver ∧ (settlingExpiry d).lnk.lastByte = d.lnk.lastByte ∧
    (settlingExpiry d).lnk.queue = d.lnk.queue ∧ (settlingExpiry d).lnk.out = d.lnk.out ∧ (settlingExpiry d).lnk.tx = d.lnk.tx ∧
    (settlingExpiry d).lnk.sendEnd = d.lnk.sendEnd ∧ (settlingExpiry d).lnk.awake = d.lnk.awake ∧
    (settlingExpiry d).lnk.idle = d.lnk.idle ∧ (settlingExpiry d).lnk.lastFrame = d.lnk.lastFrame ∧
    (settlingExpiry d).lnk.enables = d.lnk.enables ∧ (settlingExpiry d).lnk.idleTime = d.lnk.idleTime ∧
    (settlingExpiry d).lnk.resetKind = d.lnk.resetKind ∧ (settlingExpiry d).lnk.resetUptime = d.lnk.resetUptime ∧
    (settlingExpiry d).sched = d.sched := by
  unfold settlingExpiry
  (try simp)
  all_goals ((repeat' split) <;> (try simp))
  all_goals ((repeat' split) <;> simp_all)

@[simp] theorem flushAllowance_frame (d : Device) :
    (flushAllowance d).pins = d.pins ∧ (flushAllowance d).factory = d.factory ∧ (flushAllowance d).sns.ms = d.sns.ms ∧
    (flushAllowance d).sns.uptime = d.sns.uptime ∧ (flushAllowance d).sns.clockSet = d.sns.clockSet ∧
    (flushAllowance d).sns.clockOffset = d.sns.clockOffset ∧ (flushAllowance d).sns.analog = d.sns.analog ∧
    (flushAllowance d).sns.tables = d.sns.tables ∧ (flushAllowance d).sns.lines = d.sns.lines ∧
    (flushAllowance d).sns.dial = d.sns.dial ∧ (flushAllowance d).vbl = d.vbl ∧ (flushAllowance d).chg = d.chg ∧
    (flushAllowance d).bgt.horizonSource = d.bgt.horizonSource ∧ (flushAllowance d).bgt.defaultHorizon = d.bgt.defaultHorizon ∧
    (flushAllowance d).bgt.last = d.bgt.last ∧ (flushAllowance d).lgt.channels = d.lgt.channels ∧
    (flushAllowance d).lgt.chSettings = d.lgt.chSettings ∧ (flushAllowance d).lgt.capStep = d.lgt.capStep ∧
    (flushAllowance d).lgt.written = d.lgt.written ∧ (flushAllowance d).lgt.scenes = d.lgt.scenes ∧
    (flushAllowance d).lgt.settings = d.lgt.settings ∧ (flushAllowance d).lgt.courtesyTimer = d.lgt.courtesyTimer ∧
    (flushAllowance d).lgt.ch7Applied = d.lgt.ch7Applied ∧ (flushAllowance d).rtm = d.rtm ∧ (flushAllowance d).npl = d.npl ∧
    (flushAllowance d).lnk.receiver = d.lnk.receiver ∧ (flushAllowance d).lnk.lastByte = d.lnk.lastByte ∧
    (flushAllowance d).lnk.queue = d.lnk.queue ∧ (flushAllowance d).lnk.out = d.lnk.out ∧ (flushAllowance d).lnk.tx = d.lnk.tx ∧
    (flushAllowance d).lnk.sendEnd = d.lnk.sendEnd ∧ (flushAllowance d).lnk.awake = d.lnk.awake ∧
    (flushAllowance d).lnk.idle = d.lnk.idle ∧ (flushAllowance d).lnk.lastFrame = d.lnk.lastFrame ∧
    (flushAllowance d).lnk.enables = d.lnk.enables ∧ (flushAllowance d).lnk.idleTime = d.lnk.idleTime ∧
    (flushAllowance d).lnk.resetKind = d.lnk.resetKind ∧ (flushAllowance d).lnk.resetUptime = d.lnk.resetUptime ∧
    (flushAllowance d).sched = d.sched := by
  unfold flushAllowance
  (try simp)
  all_goals ((repeat' split) <;> (try simp))
  all_goals ((repeat' split) <;> simp_all)

@[simp] theorem putHorizon_frame (source : Option Nat) (d : Device) :
    (putHorizon source d).pins = d.pins ∧ (putHorizon source d).factory = d.factory ∧ (putHorizon source d).sns = d.sns ∧
    (putHorizon source d).vbl = d.vbl ∧ (putHorizon source d).chg = d.chg ∧ (putHorizon source d).bgt.table = d.bgt.table ∧
    (putHorizon source d).bgt.defaultHorizon = d.bgt.defaultHorizon ∧ (putHorizon source d).bgt.last = d.bgt.last ∧
    (putHorizon source d).bgt.allowance = d.bgt.allowance ∧ (putHorizon source d).bgt.outlet = d.bgt.outlet ∧
    (putHorizon source d).htr = d.htr ∧ (putHorizon source d).cmp = d.cmp ∧ (putHorizon source d).lgt = d.lgt ∧
    (putHorizon source d).rtm = d.rtm ∧ (putHorizon source d).npl = d.npl ∧ (putHorizon source d).lnk = d.lnk ∧
    (putHorizon source d).sched = d.sched := by
  unfold putHorizon
  (try simp)
  all_goals ((repeat' split) <;> (try simp))
  all_goals ((repeat' split) <;> simp_all)

@[simp] theorem handGrant_frame (l : Load) (d : Device) :
    (handGrant l d).pins = d.pins ∧ (handGrant l d).factory = d.factory ∧ (handGrant l d).sns.ms = d.sns.ms ∧
    (handGrant l d).sns.uptime = d.sns.uptime ∧ (handGrant l d).sns.clockSet = d.sns.clockSet ∧
    (handGrant l d).sns.clockOffset = d.sns.clockOffset ∧ (handGrant l d).sns.analog = d.sns.analog ∧
    (handGrant l d).sns.tables = d.sns.tables ∧ (handGrant l d).sns.lines = d.sns.lines ∧ (handGrant l d).sns.dial = d.sns.dial ∧
    (handGrant l d).vbl = d.vbl ∧ (handGrant l d).chg = d.chg ∧ (handGrant l d).bgt.horizonSource = d.bgt.horizonSource ∧
    (handGrant l d).bgt.defaultHorizon = d.bgt.defaultHorizon ∧ (handGrant l d).bgt.last = d.bgt.last ∧
    (handGrant l d).lgt.chSettings = d.lgt.chSettings ∧ (handGrant l d).lgt.written = d.lgt.written ∧
    (handGrant l d).lgt.scenes = d.lgt.scenes ∧ (handGrant l d).lgt.settings = d.lgt.settings ∧
    (handGrant l d).lgt.courtesyTimer = d.lgt.courtesyTimer ∧ (handGrant l d).lgt.ch7Applied = d.lgt.ch7Applied ∧
    (handGrant l d).rtm = d.rtm ∧ (handGrant l d).npl = d.npl ∧ (handGrant l d).lnk.receiver = d.lnk.receiver ∧
    (handGrant l d).lnk.lastByte = d.lnk.lastByte ∧ (handGrant l d).lnk.queue = d.lnk.queue ∧ (handGrant l d).lnk.out = d.lnk.out ∧
    (handGrant l d).lnk.tx = d.lnk.tx ∧ (handGrant l d).lnk.sendEnd = d.lnk.sendEnd ∧ (handGrant l d).lnk.awake = d.lnk.awake ∧
    (handGrant l d).lnk.idle = d.lnk.idle ∧ (handGrant l d).lnk.lastFrame = d.lnk.lastFrame ∧
    (handGrant l d).lnk.enables = d.lnk.enables ∧ (handGrant l d).lnk.idleTime = d.lnk.idleTime ∧
    (handGrant l d).lnk.resetKind = d.lnk.resetKind ∧ (handGrant l d).lnk.resetUptime = d.lnk.resetUptime ∧
    (handGrant l d).sched = d.sched := by
  unfold handGrant
  (try simp)
  all_goals ((repeat' split) <;> (try simp))
  all_goals ((repeat' split) <;> simp_all)

@[simp] theorem handGrants_frame (l : List Load) (d : Device) :
    (l.foldl (fun acc l => handGrant l acc) d).pins = d.pins ∧ (l.foldl (fun acc l => handGrant l acc) d).factory = d.factory ∧
    (l.foldl (fun acc l => handGrant l acc) d).sns.ms = d.sns.ms ∧
    (l.foldl (fun acc l => handGrant l acc) d).sns.uptime = d.sns.uptime ∧
    (l.foldl (fun acc l => handGrant l acc) d).sns.clockSet = d.sns.clockSet ∧
    (l.foldl (fun acc l => handGrant l acc) d).sns.clockOffset = d.sns.clockOffset ∧
    (l.foldl (fun acc l => handGrant l acc) d).sns.analog = d.sns.analog ∧
    (l.foldl (fun acc l => handGrant l acc) d).sns.tables = d.sns.tables ∧
    (l.foldl (fun acc l => handGrant l acc) d).sns.lines = d.sns.lines ∧
    (l.foldl (fun acc l => handGrant l acc) d).sns.dial = d.sns.dial ∧ (l.foldl (fun acc l => handGrant l acc) d).vbl = d.vbl ∧
    (l.foldl (fun acc l => handGrant l acc) d).chg = d.chg ∧
    (l.foldl (fun acc l => handGrant l acc) d).bgt.horizonSource = d.bgt.horizonSource ∧
    (l.foldl (fun acc l => handGrant l acc) d).bgt.defaultHorizon = d.bgt.defaultHorizon ∧
    (l.foldl (fun acc l => handGrant l acc) d).bgt.last = d.bgt.last ∧
    (l.foldl (fun acc l => handGrant l acc) d).lgt.chSettings = d.lgt.chSettings ∧
    (l.foldl (fun acc l => handGrant l acc) d).lgt.written = d.lgt.written ∧
    (l.foldl (fun acc l => handGrant l acc) d).lgt.scenes = d.lgt.scenes ∧
    (l.foldl (fun acc l => handGrant l acc) d).lgt.settings = d.lgt.settings ∧
    (l.foldl (fun acc l => handGrant l acc) d).lgt.courtesyTimer = d.lgt.courtesyTimer ∧
    (l.foldl (fun acc l => handGrant l acc) d).lgt.ch7Applied = d.lgt.ch7Applied ∧
    (l.foldl (fun acc l => handGrant l acc) d).rtm = d.rtm ∧ (l.foldl (fun acc l => handGrant l acc) d).npl = d.npl ∧
    (l.foldl (fun acc l => handGrant l acc) d).lnk.receiver = d.lnk.receiver ∧
    (l.foldl (fun acc l => handGrant l acc) d).lnk.lastByte = d.lnk.lastByte ∧
    (l.foldl (fun acc l => handGrant l acc) d).lnk.queue = d.lnk.queue ∧
    (l.foldl (fun acc l => handGrant l acc) d).lnk.out = d.lnk.out ∧ (l.foldl (fun acc l => handGrant l acc) d).lnk.tx = d.lnk.tx ∧
    (l.foldl (fun acc l => handGrant l acc) d).lnk.sendEnd = d.lnk.sendEnd ∧
    (l.foldl (fun acc l => handGrant l acc) d).lnk.awake = d.lnk.awake ∧
    (l.foldl (fun acc l => handGrant l acc) d).lnk.idle = d.lnk.idle ∧
    (l.foldl (fun acc l => handGrant l acc) d).lnk.lastFrame = d.lnk.lastFrame ∧
    (l.foldl (fun acc l => handGrant l acc) d).lnk.enables = d.lnk.enables ∧
    (l.foldl (fun acc l => handGrant l acc) d).lnk.idleTime = d.lnk.idleTime ∧
    (l.foldl (fun acc l => handGrant l acc) d).lnk.resetKind = d.lnk.resetKind ∧
    (l.foldl (fun acc l => handGrant l acc) d).lnk.resetUptime = d.lnk.resetUptime ∧
    (l.foldl (fun acc l => handGrant l acc) d).sched = d.sched := by
  induction l generalizing d with
  | nil => simp
  | cons a l ih => simp [ih]

@[simp] theorem showShort_frame (was now : Bool) (d : Device) :
    (showShort was now d).pins = d.pins ∧ (showShort was now d).factory = d.factory ∧ (showShort was now d).sns = d.sns ∧
    (showShort was now d).vbl = d.vbl ∧ (showShort was now d).chg = d.chg ∧ (showShort was now d).bgt = d.bgt ∧
    (showShort was now d).htr = d.htr ∧ (showShort was now d).cmp = d.cmp ∧ (showShort was now d).lgt.channels = d.lgt.channels ∧
    (showShort was now d).lgt.chSettings = d.lgt.chSettings ∧ (showShort was now d).lgt.capStep = d.lgt.capStep ∧
    (showShort was now d).lgt.written = d.lgt.written ∧ (showShort was now d).lgt.scenes = d.lgt.scenes ∧
    (showShort was now d).lgt.settings = d.lgt.settings ∧ (showShort was now d).lgt.courtesyTimer = d.lgt.courtesyTimer ∧
    (showShort was now d).lgt.ch7Applied = d.lgt.ch7Applied ∧ (showShort was now d).rtm = d.rtm ∧ (showShort was now d).npl = d.npl ∧
    (showShort was now d).lnk = d.lnk ∧ (showShort was now d).sched = d.sched := by
  unfold showShort
  (try simp)
  all_goals ((repeat' split) <;> (try simp))
  all_goals ((repeat' split) <;> simp_all)

@[simp] theorem runPass_frame (d : Device) :
    (runPass d).pins = d.pins ∧ (runPass d).factory = d.factory ∧ (runPass d).sns.ms = d.sns.ms ∧
    (runPass d).sns.uptime = d.sns.uptime ∧ (runPass d).sns.clockSet = d.sns.clockSet ∧
    (runPass d).sns.clockOffset = d.sns.clockOffset ∧ (runPass d).sns.analog = d.sns.analog ∧ (runPass d).sns.tables = d.sns.tables ∧
    (runPass d).sns.lines = d.sns.lines ∧ (runPass d).sns.dial = d.sns.dial ∧ (runPass d).vbl = d.vbl ∧ (runPass d).chg = d.chg ∧
    (runPass d).bgt.horizonSource = d.bgt.horizonSource ∧ (runPass d).bgt.defaultHorizon = d.bgt.defaultHorizon ∧
    (runPass d).lgt.chSettings = d.lgt.chSettings ∧ (runPass d).lgt.written = d.lgt.written ∧ (runPass d).lgt.scenes = d.lgt.scenes ∧
    (runPass d).lgt.settings = d.lgt.settings ∧ (runPass d).lgt.courtesyTimer = d.lgt.courtesyTimer ∧
    (runPass d).lgt.ch7Applied = d.lgt.ch7Applied ∧ (runPass d).rtm = d.rtm ∧ (runPass d).npl = d.npl ∧
    (runPass d).lnk.receiver = d.lnk.receiver ∧ (runPass d).lnk.lastByte = d.lnk.lastByte ∧ (runPass d).lnk.queue = d.lnk.queue ∧
    (runPass d).lnk.out = d.lnk.out ∧ (runPass d).lnk.tx = d.lnk.tx ∧ (runPass d).lnk.sendEnd = d.lnk.sendEnd ∧
    (runPass d).lnk.awake = d.lnk.awake ∧ (runPass d).lnk.idle = d.lnk.idle ∧ (runPass d).lnk.lastFrame = d.lnk.lastFrame ∧
    (runPass d).lnk.enables = d.lnk.enables ∧ (runPass d).lnk.idleTime = d.lnk.idleTime ∧
    (runPass d).lnk.resetKind = d.lnk.resetKind ∧ (runPass d).lnk.resetUptime = d.lnk.resetUptime ∧ (runPass d).sched = d.sched := by
  unfold runPass
  (try simp)
  all_goals ((repeat' split) <;> (try simp))
  all_goals ((repeat' split) <;> simp_all)

@[simp] theorem budgetPass_frame (d : Device) :
    (budgetPass d).pins = d.pins ∧ (budgetPass d).factory = d.factory ∧ (budgetPass d).sns.ms = d.sns.ms ∧
    (budgetPass d).sns.uptime = d.sns.uptime ∧ (budgetPass d).sns.clockSet = d.sns.clockSet ∧
    (budgetPass d).sns.clockOffset = d.sns.clockOffset ∧ (budgetPass d).sns.analog = d.sns.analog ∧
    (budgetPass d).sns.tables = d.sns.tables ∧ (budgetPass d).sns.lines = d.sns.lines ∧ (budgetPass d).sns.dial = d.sns.dial ∧
    (budgetPass d).vbl = d.vbl ∧ (budgetPass d).chg = d.chg ∧ (budgetPass d).bgt.horizonSource = d.bgt.horizonSource ∧
    (budgetPass d).bgt.defaultHorizon = d.bgt.defaultHorizon ∧ (budgetPass d).lgt.chSettings = d.lgt.chSettings ∧
    (budgetPass d).lgt.written = d.lgt.written ∧ (budgetPass d).lgt.scenes = d.lgt.scenes ∧
    (budgetPass d).lgt.settings = d.lgt.settings ∧ (budgetPass d).lgt.courtesyTimer = d.lgt.courtesyTimer ∧
    (budgetPass d).lgt.ch7Applied = d.lgt.ch7Applied ∧ (budgetPass d).rtm = d.rtm ∧ (budgetPass d).npl = d.npl ∧
    (budgetPass d).lnk.receiver = d.lnk.receiver ∧ (budgetPass d).lnk.lastByte = d.lnk.lastByte ∧
    (budgetPass d).lnk.queue = d.lnk.queue ∧ (budgetPass d).lnk.out = d.lnk.out ∧ (budgetPass d).lnk.tx = d.lnk.tx ∧
    (budgetPass d).lnk.sendEnd = d.lnk.sendEnd ∧ (budgetPass d).lnk.awake = d.lnk.awake ∧ (budgetPass d).lnk.idle = d.lnk.idle ∧
    (budgetPass d).lnk.lastFrame = d.lnk.lastFrame ∧ (budgetPass d).lnk.enables = d.lnk.enables ∧
    (budgetPass d).lnk.idleTime = d.lnk.idleTime ∧ (budgetPass d).lnk.resetKind = d.lnk.resetKind ∧
    (budgetPass d).lnk.resetUptime = d.lnk.resetUptime ∧ (budgetPass d).sched = d.sched := by
  unfold budgetPass
  (try simp)
  all_goals ((repeat' split) <;> (try simp))
  all_goals ((repeat' split) <;> simp_all)

@[simp] theorem budgetConfigRequest_frame (b : List Byte) (d : Device) :
    ((budgetConfigRequest b d).dev).pins = d.pins ∧ ((budgetConfigRequest b d).dev).factory = d.factory ∧
    ((budgetConfigRequest b d).dev).sns = d.sns ∧ ((budgetConfigRequest b d).dev).vbl = d.vbl ∧
    ((budgetConfigRequest b d).dev).chg = d.chg ∧ ((budgetConfigRequest b d).dev).bgt.horizonSource = d.bgt.horizonSource ∧
    ((budgetConfigRequest b d).dev).bgt.last = d.bgt.last ∧ ((budgetConfigRequest b d).dev).bgt.allowance = d.bgt.allowance ∧
    ((budgetConfigRequest b d).dev).htr = d.htr ∧ ((budgetConfigRequest b d).dev).cmp = d.cmp ∧
    ((budgetConfigRequest b d).dev).lgt = d.lgt ∧ ((budgetConfigRequest b d).dev).rtm = d.rtm ∧
    ((budgetConfigRequest b d).dev).npl = d.npl ∧ ((budgetConfigRequest b d).dev).lnk = d.lnk ∧
    ((budgetConfigRequest b d).dev).sched = d.sched := by
  unfold budgetConfigRequest
  (try simp)
  all_goals ((repeat' split) <;> (try simp))
  all_goals ((repeat' split) <;> simp_all)

@[simp] theorem defaultBudget_frame (d : Device) :
    (defaultBudget d).pins = d.pins ∧ (defaultBudget d).factory = d.factory ∧ (defaultBudget d).sns = d.sns ∧
    (defaultBudget d).vbl = d.vbl ∧ (defaultBudget d).chg = d.chg ∧ (defaultBudget d).bgt.horizonSource = d.bgt.horizonSource ∧
    (defaultBudget d).bgt.last = d.bgt.last ∧ (defaultBudget d).bgt.allowance = d.bgt.allowance ∧
    (defaultBudget d).bgt.passesDue = d.bgt.passesDue ∧ (defaultBudget d).htr = d.htr ∧ (defaultBudget d).cmp = d.cmp ∧
    (defaultBudget d).lgt = d.lgt ∧ (defaultBudget d).rtm = d.rtm ∧ (defaultBudget d).npl = d.npl ∧ (defaultBudget d).lnk = d.lnk ∧
    (defaultBudget d).sched = d.sched := by
  unfold defaultBudget
  (try simp)
  all_goals ((repeat' split) <;> (try simp))
  all_goals ((repeat' split) <;> simp_all)

@[simp] theorem restartBudget_frame (d : Device) :
    (restartBudget d).pins = d.pins ∧ (restartBudget d).factory = d.factory ∧ (restartBudget d).sns.ms = d.sns.ms ∧
    (restartBudget d).sns.uptime = d.sns.uptime ∧ (restartBudget d).sns.clockSet = d.sns.clockSet ∧
    (restartBudget d).sns.clockOffset = d.sns.clockOffset ∧ (restartBudget d).sns.analog = d.sns.analog ∧
    (restartBudget d).sns.tables = d.sns.tables ∧ (restartBudget d).sns.lines = d.sns.lines ∧
    (restartBudget d).sns.dial = d.sns.dial ∧ (restartBudget d).vbl = d.vbl ∧ (restartBudget d).chg = d.chg ∧
    (restartBudget d).bgt.horizonSource = d.bgt.horizonSource ∧ (restartBudget d).lgt.chSettings = d.lgt.chSettings ∧
    (restartBudget d).lgt.written = d.lgt.written ∧ (restartBudget d).lgt.scenes = d.lgt.scenes ∧
    (restartBudget d).lgt.settings = d.lgt.settings ∧ (restartBudget d).lgt.courtesyTimer = d.lgt.courtesyTimer ∧
    (restartBudget d).lgt.ch7Applied = d.lgt.ch7Applied ∧ (restartBudget d).rtm = d.rtm ∧ (restartBudget d).npl = d.npl ∧
    (restartBudget d).lnk.receiver = d.lnk.receiver ∧ (restartBudget d).lnk.lastByte = d.lnk.lastByte ∧
    (restartBudget d).lnk.queue = d.lnk.queue ∧ (restartBudget d).lnk.out = d.lnk.out ∧ (restartBudget d).lnk.tx = d.lnk.tx ∧
    (restartBudget d).lnk.sendEnd = d.lnk.sendEnd ∧ (restartBudget d).lnk.awake = d.lnk.awake ∧
    (restartBudget d).lnk.idle = d.lnk.idle ∧ (restartBudget d).lnk.lastFrame = d.lnk.lastFrame ∧
    (restartBudget d).lnk.enables = d.lnk.enables ∧ (restartBudget d).lnk.idleTime = d.lnk.idleTime ∧
    (restartBudget d).lnk.resetKind = d.lnk.resetKind ∧ (restartBudget d).lnk.resetUptime = d.lnk.resetUptime ∧
    (restartBudget d).sched = d.sched := by
  unfold restartBudget
  (try simp)
  all_goals ((repeat' split) <;> (try simp))
  all_goals ((repeat' split) <;> simp_all)

/-! ## Plan -/

@[simp] theorem putPlan_frame (p : Plan) (d : Device) :
    (putPlan p d).pins = d.pins ∧ (putPlan p d).factory = d.factory ∧ (putPlan p d).sns = d.sns ∧ (putPlan p d).vbl = d.vbl ∧
    (putPlan p d).chg = d.chg ∧ (putPlan p d).bgt = d.bgt ∧ (putPlan p d).htr = d.htr ∧ (putPlan p d).cmp = d.cmp ∧
    (putPlan p d).lgt = d.lgt ∧ (putPlan p d).rtm = d.rtm ∧ (putPlan p d).lnk = d.lnk ∧ (putPlan p d).sched = d.sched := by
  unfold putPlan
  (try simp)
  all_goals ((repeat' split) <;> (try simp))
  all_goals ((repeat' split) <;> simp_all)

@[simp] theorem refreshQuiet_frame (d : Device) :
    (refreshQuiet d).pins = d.pins ∧ (refreshQuiet d).factory = d.factory ∧ (refreshQuiet d).sns = d.sns ∧
    (refreshQuiet d).vbl = d.vbl ∧ (refreshQuiet d).chg = d.chg ∧ (refreshQuiet d).bgt.horizonSource = d.bgt.horizonSource ∧
    (refreshQuiet d).bgt.defaultHorizon = d.bgt.defaultHorizon ∧ (refreshQuiet d).bgt.last = d.bgt.last ∧
    (refreshQuiet d).bgt.outlet = d.bgt.outlet ∧ (refreshQuiet d).lgt.channels = d.lgt.channels ∧
    (refreshQuiet d).lgt.chSettings = d.lgt.chSettings ∧ (refreshQuiet d).lgt.capStep = d.lgt.capStep ∧
    (refreshQuiet d).lgt.written = d.lgt.written ∧ (refreshQuiet d).lgt.scenes = d.lgt.scenes ∧
    (refreshQuiet d).lgt.settings = d.lgt.settings ∧ (refreshQuiet d).lgt.courtesyTimer = d.lgt.courtesyTimer ∧
    (refreshQuiet d).lgt.ch7Applied = d.lgt.ch7Applied ∧ (refreshQuiet d).lgt.ch7On = d.lgt.ch7On ∧
    (refreshQuiet d).lgt.ch7Timer = d.lgt.ch7Timer ∧ (refreshQuiet d).rtm = d.rtm ∧ (refreshQuiet d).npl.state = d.npl.state ∧
    (refreshQuiet d).npl.source = d.npl.source ∧ (refreshQuiet d).npl.wake = d.npl.wake ∧
    (refreshQuiet d).npl.setpoint = d.npl.setpoint ∧ (refreshQuiet d).npl.lead = d.npl.lead ∧
    (refreshQuiet d).npl.wakeLights = d.npl.wakeLights ∧ (refreshQuiet d).npl.hostQuiet = d.npl.hostQuiet ∧
    (refreshQuiet d).npl.lastClass = d.npl.lastClass ∧ (refreshQuiet d).npl.lastProjection = d.npl.lastProjection ∧
    (refreshQuiet d).npl.horizonHanded = d.npl.horizonHanded ∧ (refreshQuiet d).npl.result = d.npl.result ∧
    (refreshQuiet d).npl.prewarmMark = d.npl.prewarmMark ∧ (refreshQuiet d).lnk.receiver = d.lnk.receiver ∧
    (refreshQuiet d).lnk.lastByte = d.lnk.lastByte ∧ (refreshQuiet d).lnk.queue = d.lnk.queue ∧ (refreshQuiet d).lnk.out = d.lnk.out ∧
    (refreshQuiet d).lnk.tx = d.lnk.tx ∧ (refreshQuiet d).lnk.sendEnd = d.lnk.sendEnd ∧ (refreshQuiet d).lnk.awake = d.lnk.awake ∧
    (refreshQuiet d).lnk.idle = d.lnk.idle ∧ (refreshQuiet d).lnk.lastFrame = d.lnk.lastFrame ∧
    (refreshQuiet d).lnk.enables = d.lnk.enables ∧ (refreshQuiet d).lnk.idleTime = d.lnk.idleTime ∧
    (refreshQuiet d).lnk.resetKind = d.lnk.resetKind ∧ (refreshQuiet d).lnk.resetUptime = d.lnk.resetUptime ∧
    (refreshQuiet d).sched = d.sched := by
  unfold refreshQuiet
  (try simp)
  all_goals ((repeat' split) <;> (try simp))
  all_goals ((repeat' split) <;> simp_all)

@[simp] theorem resolveMark_frame (d : Device) :
    (resolveMark d).pins = d.pins ∧ (resolveMark d).factory = d.factory ∧ (resolveMark d).sns = d.sns ∧ (resolveMark d).vbl = d.vbl ∧
    (resolveMark d).chg = d.chg ∧ (resolveMark d).bgt = d.bgt ∧ (resolveMark d).htr = d.htr ∧ (resolveMark d).cmp = d.cmp ∧
    (resolveMark d).lgt.channels = d.lgt.channels ∧ (resolveMark d).lgt.chSettings = d.lgt.chSettings ∧
    (resolveMark d).lgt.capStep = d.lgt.capStep ∧ (resolveMark d).lgt.written = d.lgt.written ∧
    (resolveMark d).lgt.scenes = d.lgt.scenes ∧ (resolveMark d).lgt.settings = d.lgt.settings ∧
    (resolveMark d).lgt.courtesyTimer = d.lgt.courtesyTimer ∧ (resolveMark d).lgt.ch7Applied = d.lgt.ch7Applied ∧
    (resolveMark d).rtm = d.rtm ∧ (resolveMark d).npl.state = d.npl.state ∧ (resolveMark d).npl.source = d.npl.source ∧
    (resolveMark d).npl.wake = d.npl.wake ∧ (resolveMark d).npl.setpoint = d.npl.setpoint ∧ (resolveMark d).npl.lead = d.npl.lead ∧
    (resolveMark d).npl.wakeLights = d.npl.wakeLights ∧ (resolveMark d).npl.quiet = d.npl.quiet ∧
    (resolveMark d).npl.hostQuiet = d.npl.hostQuiet ∧ (resolveMark d).npl.lastClass = d.npl.lastClass ∧
    (resolveMark d).npl.lastProjection = d.npl.lastProjection ∧ (resolveMark d).npl.horizonHanded = d.npl.horizonHanded ∧
    (resolveMark d).npl.result = d.npl.result ∧ (resolveMark d).npl.causes = d.npl.causes ∧ (resolveMark d).lnk = d.lnk ∧
    (resolveMark d).sched = d.sched := by
  unfold resolveMark
  (try simp)
  all_goals ((repeat' split) <;> (try simp))
  all_goals ((repeat' split) <;> simp_all)

@[simp] theorem showPrewarmFailure_frame (d : Device) :
    (showPrewarmFailure d).pins = d.pins ∧ (showPrewarmFailure d).factory = d.factory ∧ (showPrewarmFailure d).sns = d.sns ∧
    (showPrewarmFailure d).vbl = d.vbl ∧ (showPrewarmFailure d).chg = d.chg ∧ (showPrewarmFailure d).bgt = d.bgt ∧
    (showPrewarmFailure d).htr = d.htr ∧ (showPrewarmFailure d).cmp = d.cmp ∧ (showPrewarmFailure d).lgt.channels = d.lgt.channels ∧
    (showPrewarmFailure d).lgt.chSettings = d.lgt.chSettings ∧ (showPrewarmFailure d).lgt.capStep = d.lgt.capStep ∧
    (showPrewarmFailure d).lgt.written = d.lgt.written ∧ (showPrewarmFailure d).lgt.scenes = d.lgt.scenes ∧
    (showPrewarmFailure d).lgt.settings = d.lgt.settings ∧ (showPrewarmFailure d).lgt.courtesyTimer = d.lgt.courtesyTimer ∧
    (showPrewarmFailure d).lgt.ch7Applied = d.lgt.ch7Applied ∧ (showPrewarmFailure d).rtm = d.rtm ∧
    (showPrewarmFailure d).npl.state = d.npl.state ∧ (showPrewarmFailure d).npl.source = d.npl.source ∧
    (showPrewarmFailure d).npl.wake = d.npl.wake ∧ (showPrewarmFailure d).npl.setpoint = d.npl.setpoint ∧
    (showPrewarmFailure d).npl.lead = d.npl.lead ∧ (showPrewarmFailure d).npl.wakeLights = d.npl.wakeLights ∧
    (showPrewarmFailure d).npl.quiet = d.npl.quiet ∧ (showPrewarmFailure d).npl.hostQuiet = d.npl.hostQuiet ∧
    (showPrewarmFailure d).npl.lastClass = d.npl.lastClass ∧ (showPrewarmFailure d).npl.lastProjection = d.npl.lastProjection ∧
    (showPrewarmFailure d).npl.horizonHanded = d.npl.horizonHanded ∧ (showPrewarmFailure d).npl.result = d.npl.result ∧
    (showPrewarmFailure d).npl.causes = d.npl.causes ∧ (showPrewarmFailure d).lnk = d.lnk ∧ (showPrewarmFailure d).sched = d.sched := by
  unfold showPrewarmFailure
  (try simp)
  all_goals ((repeat' split) <;> (try simp))
  all_goals ((repeat' split) <;> simp_all)

@[simp] theorem givePrewarm_frame (d : Device) :
    (givePrewarm d).pins = d.pins ∧ (givePrewarm d).factory = d.factory ∧ (givePrewarm d).sns = d.sns ∧ (givePrewarm d).vbl = d.vbl ∧
    (givePrewarm d).chg = d.chg ∧ (givePrewarm d).bgt.horizonSource = d.bgt.horizonSource ∧
    (givePrewarm d).bgt.defaultHorizon = d.bgt.defaultHorizon ∧ (givePrewarm d).bgt.last = d.bgt.last ∧
    (givePrewarm d).bgt.outlet = d.bgt.outlet ∧ (givePrewarm d).cmp = d.cmp ∧ (givePrewarm d).lgt.channels = d.lgt.channels ∧
    (givePrewarm d).lgt.chSettings = d.lgt.chSettings ∧ (givePrewarm d).lgt.capStep = d.lgt.capStep ∧
    (givePrewarm d).lgt.written = d.lgt.written ∧ (givePrewarm d).lgt.scenes = d.lgt.scenes ∧
    (givePrewarm d).lgt.settings = d.lgt.settings ∧ (givePrewarm d).lgt.courtesyTimer = d.lgt.courtesyTimer ∧
    (givePrewarm d).lgt.ch7Applied = d.lgt.ch7Applied ∧ (givePrewarm d).rtm = d.rtm ∧ (givePrewarm d).npl.source = d.npl.source ∧
    (givePrewarm d).npl.wake = d.npl.wake ∧ (givePrewarm d).npl.setpoint = d.npl.setpoint ∧ (givePrewarm d).npl.lead = d.npl.lead ∧
    (givePrewarm d).npl.wakeLights = d.npl.wakeLights ∧ (givePrewarm d).npl.quiet = d.npl.quiet ∧
    (givePrewarm d).npl.hostQuiet = d.npl.hostQuiet ∧ (givePrewarm d).npl.lastClass = d.npl.lastClass ∧
    (givePrewarm d).npl.lastProjection = d.npl.lastProjection ∧ (givePrewarm d).npl.horizonHanded = d.npl.horizonHanded ∧
    (givePrewarm d).lnk.receiver = d.lnk.receiver ∧ (givePrewarm d).lnk.lastByte = d.lnk.lastByte ∧
    (givePrewarm d).lnk.queue = d.lnk.queue ∧ (givePrewarm d).lnk.out = d.lnk.out ∧ (givePrewarm d).lnk.tx = d.lnk.tx ∧
    (givePrewarm d).lnk.sendEnd = d.lnk.sendEnd ∧ (givePrewarm d).lnk.awake = d.lnk.awake ∧ (givePrewarm d).lnk.idle = d.lnk.idle ∧
    (givePrewarm d).lnk.lastFrame = d.lnk.lastFrame ∧ (givePrewarm d).lnk.enables = d.lnk.enables ∧
    (givePrewarm d).lnk.idleTime = d.lnk.idleTime ∧ (givePrewarm d).lnk.resetKind = d.lnk.resetKind ∧
    (givePrewarm d).lnk.resetUptime = d.lnk.resetUptime ∧ (givePrewarm d).sched = d.sched := by
  unfold givePrewarm
  have h0 := startHeater_frame .prewarm d.npl.setpoint (putPlan { d.npl with state := .prewarm } d)
  split <;> rename_i h <;> rw [h] at h0 <;> simp_all

@[simp] theorem prewarmTest_frame (d : Device) :
    (prewarmTest d).pins = d.pins ∧ (prewarmTest d).factory = d.factory ∧ (prewarmTest d).sns = d.sns ∧ (prewarmTest d).vbl = d.vbl ∧
    (prewarmTest d).chg = d.chg ∧ (prewarmTest d).bgt.horizonSource = d.bgt.horizonSource ∧
    (prewarmTest d).bgt.defaultHorizon = d.bgt.defaultHorizon ∧ (prewarmTest d).bgt.last = d.bgt.last ∧
    (prewarmTest d).bgt.outlet = d.bgt.outlet ∧ (prewarmTest d).cmp = d.cmp ∧ (prewarmTest d).lgt.channels = d.lgt.channels ∧
    (prewarmTest d).lgt.chSettings = d.lgt.chSettings ∧ (prewarmTest d).lgt.capStep = d.lgt.capStep ∧
    (prewarmTest d).lgt.written = d.lgt.written ∧ (prewarmTest d).lgt.scenes = d.lgt.scenes ∧
    (prewarmTest d).lgt.settings = d.lgt.settings ∧ (prewarmTest d).lgt.courtesyTimer = d.lgt.courtesyTimer ∧
    (prewarmTest d).lgt.ch7Applied = d.lgt.ch7Applied ∧ (prewarmTest d).rtm = d.rtm ∧ (prewarmTest d).npl.source = d.npl.source ∧
    (prewarmTest d).npl.wake = d.npl.wake ∧ (prewarmTest d).npl.setpoint = d.npl.setpoint ∧ (prewarmTest d).npl.lead = d.npl.lead ∧
    (prewarmTest d).npl.wakeLights = d.npl.wakeLights ∧ (prewarmTest d).npl.quiet = d.npl.quiet ∧
    (prewarmTest d).npl.hostQuiet = d.npl.hostQuiet ∧ (prewarmTest d).npl.lastClass = d.npl.lastClass ∧
    (prewarmTest d).npl.lastProjection = d.npl.lastProjection ∧ (prewarmTest d).npl.horizonHanded = d.npl.horizonHanded ∧
    (prewarmTest d).lnk.receiver = d.lnk.receiver ∧ (prewarmTest d).lnk.lastByte = d.lnk.lastByte ∧
    (prewarmTest d).lnk.queue = d.lnk.queue ∧ (prewarmTest d).lnk.out = d.lnk.out ∧ (prewarmTest d).lnk.tx = d.lnk.tx ∧
    (prewarmTest d).lnk.sendEnd = d.lnk.sendEnd ∧ (prewarmTest d).lnk.awake = d.lnk.awake ∧ (prewarmTest d).lnk.idle = d.lnk.idle ∧
    (prewarmTest d).lnk.lastFrame = d.lnk.lastFrame ∧ (prewarmTest d).lnk.enables = d.lnk.enables ∧
    (prewarmTest d).lnk.idleTime = d.lnk.idleTime ∧ (prewarmTest d).lnk.resetKind = d.lnk.resetKind ∧
    (prewarmTest d).lnk.resetUptime = d.lnk.resetUptime ∧ (prewarmTest d).sched = d.sched := by
  unfold prewarmTest
  (try simp)
  all_goals ((repeat' split) <;> (try simp))
  all_goals ((repeat' split) <;> simp_all)

@[simp] theorem leadRecompute_frame (d : Device) :
    (leadRecompute d).pins = d.pins ∧ (leadRecompute d).factory = d.factory ∧ (leadRecompute d).sns = d.sns ∧
    (leadRecompute d).vbl = d.vbl ∧ (leadRecompute d).chg = d.chg ∧ (leadRecompute d).bgt.horizonSource = d.bgt.horizonSource ∧
    (leadRecompute d).bgt.defaultHorizon = d.bgt.defaultHorizon ∧ (leadRecompute d).bgt.last = d.bgt.last ∧
    (leadRecompute d).bgt.outlet = d.bgt.outlet ∧ (leadRecompute d).cmp = d.cmp ∧ (leadRecompute d).lgt.channels = d.lgt.channels ∧
    (leadRecompute d).lgt.chSettings = d.lgt.chSettings ∧ (leadRecompute d).lgt.capStep = d.lgt.capStep ∧
    (leadRecompute d).lgt.written = d.lgt.written ∧ (leadRecompute d).lgt.scenes = d.lgt.scenes ∧
    (leadRecompute d).lgt.settings = d.lgt.settings ∧ (leadRecompute d).lgt.courtesyTimer = d.lgt.courtesyTimer ∧
    (leadRecompute d).lgt.ch7Applied = d.lgt.ch7Applied ∧ (leadRecompute d).rtm = d.rtm ∧
    (leadRecompute d).npl.source = d.npl.source ∧ (leadRecompute d).npl.wake = d.npl.wake ∧
    (leadRecompute d).npl.setpoint = d.npl.setpoint ∧ (leadRecompute d).npl.wakeLights = d.npl.wakeLights ∧
    (leadRecompute d).npl.quiet = d.npl.quiet ∧ (leadRecompute d).npl.hostQuiet = d.npl.hostQuiet ∧
    (leadRecompute d).npl.lastClass = d.npl.lastClass ∧ (leadRecompute d).npl.lastProjection = d.npl.lastProjection ∧
    (leadRecompute d).npl.horizonHanded = d.npl.horizonHanded ∧ (leadRecompute d).lnk.receiver = d.lnk.receiver ∧
    (leadRecompute d).lnk.lastByte = d.lnk.lastByte ∧ (leadRecompute d).lnk.queue = d.lnk.queue ∧
    (leadRecompute d).lnk.out = d.lnk.out ∧ (leadRecompute d).lnk.tx = d.lnk.tx ∧ (leadRecompute d).lnk.sendEnd = d.lnk.sendEnd ∧
    (leadRecompute d).lnk.awake = d.lnk.awake ∧ (leadRecompute d).lnk.idle = d.lnk.idle ∧
    (leadRecompute d).lnk.lastFrame = d.lnk.lastFrame ∧ (leadRecompute d).lnk.enables = d.lnk.enables ∧
    (leadRecompute d).lnk.idleTime = d.lnk.idleTime ∧ (leadRecompute d).lnk.resetKind = d.lnk.resetKind ∧
    (leadRecompute d).lnk.resetUptime = d.lnk.resetUptime ∧ (leadRecompute d).sched = d.sched := by
  unfold leadRecompute
  (try simp)
  all_goals ((repeat' split) <;> (try simp))
  all_goals ((repeat' split) <;> simp_all)

@[simp] theorem handHorizon_frame (d : Device) :
    (handHorizon d).pins = d.pins ∧ (handHorizon d).factory = d.factory ∧ (handHorizon d).sns = d.sns ∧ (handHorizon d).vbl = d.vbl ∧
    (handHorizon d).chg = d.chg ∧ (handHorizon d).bgt.table = d.bgt.table ∧
    (handHorizon d).bgt.defaultHorizon = d.bgt.defaultHorizon ∧ (handHorizon d).bgt.last = d.bgt.last ∧
    (handHorizon d).bgt.allowance = d.bgt.allowance ∧ (handHorizon d).bgt.outlet = d.bgt.outlet ∧ (handHorizon d).htr = d.htr ∧
    (handHorizon d).cmp = d.cmp ∧ (handHorizon d).lgt = d.lgt ∧ (handHorizon d).rtm = d.rtm ∧
    (handHorizon d).npl.state = d.npl.state ∧ (handHorizon d).npl.source = d.npl.source ∧ (handHorizon d).npl.wake = d.npl.wake ∧
    (handHorizon d).npl.setpoint = d.npl.setpoint ∧ (handHorizon d).npl.lead = d.npl.lead ∧
    (handHorizon d).npl.wakeLights = d.npl.wakeLights ∧ (handHorizon d).npl.quiet = d.npl.quiet ∧
    (handHorizon d).npl.hostQuiet = d.npl.hostQuiet ∧ (handHorizon d).npl.lastClass = d.npl.lastClass ∧
    (handHorizon d).npl.lastProjection = d.npl.lastProjection ∧ (handHorizon d).npl.result = d.npl.result ∧
    (handHorizon d).npl.prewarmMark = d.npl.prewarmMark ∧ (handHorizon d).npl.causes = d.npl.causes ∧ (handHorizon d).lnk = d.lnk ∧
    (handHorizon d).sched = d.sched := by
  unfold handHorizon
  (try simp)
  all_goals ((repeat' split) <;> (try simp))
  all_goals ((repeat' split) <;> simp_all)

@[simp] theorem wakeChange_frame (d : Device) :
    (wakeChange d).pins = d.pins ∧ (wakeChange d).factory = d.factory ∧ (wakeChange d).sns = d.sns ∧ (wakeChange d).vbl = d.vbl ∧
    (wakeChange d).chg = d.chg ∧ (wakeChange d).bgt.table = d.bgt.table ∧ (wakeChange d).bgt.defaultHorizon = d.bgt.defaultHorizon ∧
    (wakeChange d).bgt.last = d.bgt.last ∧ (wakeChange d).bgt.allowance = d.bgt.allowance ∧ (wakeChange d).bgt.outlet = d.bgt.outlet ∧
    (wakeChange d).htr = d.htr ∧ (wakeChange d).cmp = d.cmp ∧ (wakeChange d).lgt = d.lgt ∧ (wakeChange d).rtm = d.rtm ∧
    (wakeChange d).npl.source = d.npl.source ∧ (wakeChange d).npl.wake = d.npl.wake ∧ (wakeChange d).npl.setpoint = d.npl.setpoint ∧
    (wakeChange d).npl.wakeLights = d.npl.wakeLights ∧ (wakeChange d).npl.quiet = d.npl.quiet ∧
    (wakeChange d).npl.hostQuiet = d.npl.hostQuiet ∧ (wakeChange d).npl.lastClass = d.npl.lastClass ∧
    (wakeChange d).npl.lastProjection = d.npl.lastProjection ∧ (wakeChange d).npl.result = d.npl.result ∧
    (wakeChange d).npl.prewarmMark = d.npl.prewarmMark ∧ (wakeChange d).npl.causes = d.npl.causes ∧ (wakeChange d).lnk = d.lnk ∧
    (wakeChange d).sched = d.sched := by
  unfold wakeChange
  (try simp)
  all_goals ((repeat' split) <;> (try simp))
  all_goals ((repeat' split) <;> simp_all)

@[simp] theorem moveWake_frame (wake : Option Nat) (d : Device) :
    (moveWake wake d).pins = d.pins ∧ (moveWake wake d).factory = d.factory ∧ (moveWake wake d).sns = d.sns ∧
    (moveWake wake d).vbl = d.vbl ∧ (moveWake wake d).chg = d.chg ∧ (moveWake wake d).bgt.defaultHorizon = d.bgt.defaultHorizon ∧
    (moveWake wake d).bgt.last = d.bgt.last ∧ (moveWake wake d).bgt.outlet = d.bgt.outlet ∧ (moveWake wake d).cmp = d.cmp ∧
    (moveWake wake d).lgt.channels = d.lgt.channels ∧ (moveWake wake d).lgt.chSettings = d.lgt.chSettings ∧
    (moveWake wake d).lgt.capStep = d.lgt.capStep ∧ (moveWake wake d).lgt.written = d.lgt.written ∧
    (moveWake wake d).lgt.scenes = d.lgt.scenes ∧ (moveWake wake d).lgt.settings = d.lgt.settings ∧
    (moveWake wake d).lgt.courtesyTimer = d.lgt.courtesyTimer ∧ (moveWake wake d).lgt.ch7Applied = d.lgt.ch7Applied ∧
    (moveWake wake d).rtm = d.rtm ∧ (moveWake wake d).npl.source = d.npl.source ∧ (moveWake wake d).npl.setpoint = d.npl.setpoint ∧
    (moveWake wake d).npl.wakeLights = d.npl.wakeLights ∧ (moveWake wake d).npl.quiet = d.npl.quiet ∧
    (moveWake wake d).npl.hostQuiet = d.npl.hostQuiet ∧ (moveWake wake d).npl.lastClass = d.npl.lastClass ∧
    (moveWake wake d).npl.lastProjection = d.npl.lastProjection ∧ (moveWake wake d).lnk.receiver = d.lnk.receiver ∧
    (moveWake wake d).lnk.lastByte = d.lnk.lastByte ∧ (moveWake wake d).lnk.queue = d.lnk.queue ∧
    (moveWake wake d).lnk.out = d.lnk.out ∧ (moveWake wake d).lnk.tx = d.lnk.tx ∧ (moveWake wake d).lnk.sendEnd = d.lnk.sendEnd ∧
    (moveWake wake d).lnk.awake = d.lnk.awake ∧ (moveWake wake d).lnk.idle = d.lnk.idle ∧
    (moveWake wake d).lnk.lastFrame = d.lnk.lastFrame ∧ (moveWake wake d).lnk.enables = d.lnk.enables ∧
    (moveWake wake d).lnk.idleTime = d.lnk.idleTime ∧ (moveWake wake d).lnk.resetKind = d.lnk.resetKind ∧
    (moveWake wake d).lnk.resetUptime = d.lnk.resetUptime ∧ (moveWake wake d).sched = d.sched := by
  unfold moveWake
  (try simp)
  all_goals ((repeat' split) <;> (try simp))
  all_goals ((repeat' split) <;> simp_all)

@[simp] theorem carryOutWake_frame (d : Device) :
    (carryOutWake d).pins = d.pins ∧ (carryOutWake d).factory = d.factory ∧ (carryOutWake d).sns = d.sns ∧
    (carryOutWake d).vbl = d.vbl ∧ (carryOutWake d).chg = d.chg ∧ (carryOutWake d).bgt.defaultHorizon = d.bgt.defaultHorizon ∧
    (carryOutWake d).bgt.last = d.bgt.last ∧ (carryOutWake d).bgt.outlet = d.bgt.outlet ∧
    (carryOutWake d).lgt.chSettings = d.lgt.chSettings ∧ (carryOutWake d).lgt.scenes = d.lgt.scenes ∧
    (carryOutWake d).lgt.settings = d.lgt.settings ∧ (carryOutWake d).lgt.courtesyTimer = d.lgt.courtesyTimer ∧
    (carryOutWake d).lgt.ch7Applied = d.lgt.ch7Applied ∧ (carryOutWake d).rtm = d.rtm ∧ (carryOutWake d).npl.source = d.npl.source ∧
    (carryOutWake d).npl.setpoint = d.npl.setpoint ∧ (carryOutWake d).npl.lead = d.npl.lead ∧
    (carryOutWake d).npl.wakeLights = d.npl.wakeLights ∧ (carryOutWake d).npl.lastClass = d.npl.lastClass ∧
    (carryOutWake d).npl.lastProjection = d.npl.lastProjection ∧ (carryOutWake d).npl.result = d.npl.result ∧
    (carryOutWake d).lnk.receiver = d.lnk.receiver ∧ (carryOutWake d).lnk.lastByte = d.lnk.lastByte ∧
    (carryOutWake d).lnk.queue = d.lnk.queue ∧ (carryOutWake d).lnk.out = d.lnk.out ∧ (carryOutWake d).lnk.tx = d.lnk.tx ∧
    (carryOutWake d).lnk.sendEnd = d.lnk.sendEnd ∧ (carryOutWake d).lnk.awake = d.lnk.awake ∧ (carryOutWake d).lnk.idle = d.lnk.idle ∧
    (carryOutWake d).lnk.lastFrame = d.lnk.lastFrame ∧ (carryOutWake d).lnk.enables = d.lnk.enables ∧
    (carryOutWake d).lnk.idleTime = d.lnk.idleTime ∧ (carryOutWake d).lnk.resetKind = d.lnk.resetKind ∧
    (carryOutWake d).lnk.resetUptime = d.lnk.resetUptime ∧ (carryOutWake d).sched = d.sched := by
  unfold carryOutWake
  (try simp)
  all_goals ((repeat' split) <;> (try simp))
  all_goals ((repeat' split) <;> simp_all)

@[simp] theorem wakeTest_frame (d : Device) :
    (wakeTest d).pins = d.pins ∧ (wakeTest d).factory = d.factory ∧ (wakeTest d).sns = d.sns ∧ (wakeTest d).vbl = d.vbl ∧
    (wakeTest d).chg = d.chg ∧ (wakeTest d).bgt.defaultHorizon = d.bgt.defaultHorizon ∧ (wakeTest d).bgt.last = d.bgt.last ∧
    (wakeTest d).bgt.outlet = d.bgt.outlet ∧ (wakeTest d).lgt.chSettings = d.lgt.chSettings ∧ (wakeTest d).lgt.scenes = d.lgt.scenes ∧
    (wakeTest d).lgt.settings = d.lgt.settings ∧ (wakeTest d).lgt.courtesyTimer = d.lgt.courtesyTimer ∧
    (wakeTest d).lgt.ch7Applied = d.lgt.ch7Applied ∧ (wakeTest d).rtm = d.rtm ∧ (wakeTest d).npl.source = d.npl.source ∧
    (wakeTest d).npl.setpoint = d.npl.setpoint ∧ (wakeTest d).npl.lead = d.npl.lead ∧ (wakeTest d).npl.wakeLights = d.npl.wakeLights ∧
    (wakeTest d).npl.lastClass = d.npl.lastClass ∧ (wakeTest d).npl.lastProjection = d.npl.lastProjection ∧
    (wakeTest d).npl.result = d.npl.result ∧ (wakeTest d).lnk.receiver = d.lnk.receiver ∧ (wakeTest d).lnk.lastByte = d.lnk.lastByte ∧
    (wakeTest d).lnk.queue = d.lnk.queue ∧ (wakeTest d).lnk.out = d.lnk.out ∧ (wakeTest d).lnk.tx = d.lnk.tx ∧
    (wakeTest d).lnk.sendEnd = d.lnk.sendEnd ∧ (wakeTest d).lnk.awake = d.lnk.awake ∧ (wakeTest d).lnk.idle = d.lnk.idle ∧
    (wakeTest d).lnk.lastFrame = d.lnk.lastFrame ∧ (wakeTest d).lnk.enables = d.lnk.enables ∧
    (wakeTest d).lnk.idleTime = d.lnk.idleTime ∧ (wakeTest d).lnk.resetKind = d.lnk.resetKind ∧
    (wakeTest d).lnk.resetUptime = d.lnk.resetUptime ∧ (wakeTest d).sched = d.sched := by
  unfold wakeTest
  (try simp)
  all_goals ((repeat' split) <;> (try simp))
  all_goals ((repeat' split) <;> simp_all)

@[simp] theorem retarget_frame (projection : Option Nat) (d : Device) :
    (retarget projection d).pins = d.pins ∧ (retarget projection d).factory = d.factory ∧ (retarget projection d).sns = d.sns ∧
    (retarget projection d).vbl = d.vbl ∧ (retarget projection d).chg = d.chg ∧
    (retarget projection d).bgt.defaultHorizon = d.bgt.defaultHorizon ∧ (retarget projection d).bgt.last = d.bgt.last ∧
    (retarget projection d).bgt.outlet = d.bgt.outlet ∧ (retarget projection d).lgt.chSettings = d.lgt.chSettings ∧
    (retarget projection d).lgt.scenes = d.lgt.scenes ∧ (retarget projection d).lgt.settings = d.lgt.settings ∧
    (retarget projection d).lgt.courtesyTimer = d.lgt.courtesyTimer ∧ (retarget projection d).lgt.ch7Applied = d.lgt.ch7Applied ∧
    (retarget projection d).rtm = d.rtm ∧ (retarget projection d).npl.source = d.npl.source ∧
    (retarget projection d).npl.setpoint = d.npl.setpoint ∧ (retarget projection d).npl.wakeLights = d.npl.wakeLights ∧
    (retarget projection d).npl.lastClass = d.npl.lastClass ∧ (retarget projection d).npl.lastProjection = d.npl.lastProjection ∧
    (retarget projection d).lnk.receiver = d.lnk.receiver ∧ (retarget projection d).lnk.lastByte = d.lnk.lastByte ∧
    (retarget projection d).lnk.queue = d.lnk.queue ∧ (retarget projection d).lnk.out = d.lnk.out ∧
    (retarget projection d).lnk.tx = d.lnk.tx ∧ (retarget projection d).lnk.sendEnd = d.lnk.sendEnd ∧
    (retarget projection d).lnk.awake = d.lnk.awake ∧ (retarget projection d).lnk.idle = d.lnk.idle ∧
    (retarget projection d).lnk.lastFrame = d.lnk.lastFrame ∧ (retarget projection d).lnk.enables = d.lnk.enables ∧
    (retarget projection d).lnk.idleTime = d.lnk.idleTime ∧ (retarget projection d).lnk.resetKind = d.lnk.resetKind ∧
    (retarget projection d).lnk.resetUptime = d.lnk.resetUptime ∧ (retarget projection d).sched = d.sched := by
  unfold retarget
  (try simp)
  all_goals ((repeat' split) <;> (try simp))
  all_goals ((repeat' split) <;> simp_all)

@[simp] theorem planHandoff_frame (cls : ActClass) (projection : Option Nat) (d : Device) :
    (planHandoff cls projection d).pins = d.pins ∧ (planHandoff cls projection d).factory = d.factory ∧
    (planHandoff cls projection d).sns = d.sns ∧ (planHandoff cls projection d).vbl = d.vbl ∧
    (planHandoff cls projection d).chg = d.chg ∧ (planHandoff cls projection d).bgt.defaultHorizon = d.bgt.defaultHorizon ∧
    (planHandoff cls projection d).bgt.last = d.bgt.last ∧ (planHandoff cls projection d).bgt.outlet = d.bgt.outlet ∧
    (planHandoff cls projection d).lgt.chSettings = d.lgt.chSettings ∧ (planHandoff cls projection d).lgt.scenes = d.lgt.scenes ∧
    (planHandoff cls projection d).lgt.settings = d.lgt.settings ∧
    (planHandoff cls projection d).lgt.courtesyTimer = d.lgt.courtesyTimer ∧
    (planHandoff cls projection d).lgt.ch7Applied = d.lgt.ch7Applied ∧ (planHandoff cls projection d).rtm = d.rtm ∧
    (planHandoff cls projection d).npl.source = d.npl.source ∧ (planHandoff cls projection d).npl.setpoint = d.npl.setpoint ∧
    (planHandoff cls projection d).npl.wakeLights = d.npl.wakeLights ∧ (planHandoff cls projection d).lnk.receiver = d.lnk.receiver ∧
    (planHandoff cls projection d).lnk.lastByte = d.lnk.lastByte ∧ (planHandoff cls projection d).lnk.queue = d.lnk.queue ∧
    (planHandoff cls projection d).lnk.out = d.lnk.out ∧ (planHandoff cls projection d).lnk.tx = d.lnk.tx ∧
    (planHandoff cls projection d).lnk.sendEnd = d.lnk.sendEnd ∧ (planHandoff cls projection d).lnk.awake = d.lnk.awake ∧
    (planHandoff cls projection d).lnk.idle = d.lnk.idle ∧ (planHandoff cls projection d).lnk.lastFrame = d.lnk.lastFrame ∧
    (planHandoff cls projection d).lnk.enables = d.lnk.enables ∧ (planHandoff cls projection d).lnk.idleTime = d.lnk.idleTime ∧
    (planHandoff cls projection d).lnk.resetKind = d.lnk.resetKind ∧
    (planHandoff cls projection d).lnk.resetUptime = d.lnk.resetUptime ∧ (planHandoff cls projection d).sched = d.sched := by
  unfold planHandoff
  (try simp)
  all_goals ((repeat' split) <;> (try simp))
  all_goals ((repeat' split) <;> simp_all)

@[simp] theorem setPlan_frame (source : WakeSource) (wall setpoint : Nat) (lights : Bool) (d0 : Device) :
    (setPlan source wall setpoint lights d0).pins = d0.pins ∧ (setPlan source wall setpoint lights d0).factory = d0.factory ∧
    (setPlan source wall setpoint lights d0).sns = d0.sns ∧ (setPlan source wall setpoint lights d0).vbl = d0.vbl ∧
    (setPlan source wall setpoint lights d0).chg = d0.chg ∧
    (setPlan source wall setpoint lights d0).bgt.defaultHorizon = d0.bgt.defaultHorizon ∧
    (setPlan source wall setpoint lights d0).bgt.last = d0.bgt.last ∧
    (setPlan source wall setpoint lights d0).bgt.outlet = d0.bgt.outlet ∧
    (setPlan source wall setpoint lights d0).lgt.channels = d0.lgt.channels ∧
    (setPlan source wall setpoint lights d0).lgt.chSettings = d0.lgt.chSettings ∧
    (setPlan source wall setpoint lights d0).lgt.capStep = d0.lgt.capStep ∧
    (setPlan source wall setpoint lights d0).lgt.written = d0.lgt.written ∧
    (setPlan source wall setpoint lights d0).lgt.scenes = d0.lgt.scenes ∧
    (setPlan source wall setpoint lights d0).lgt.settings = d0.lgt.settings ∧
    (setPlan source wall setpoint lights d0).lgt.courtesyTimer = d0.lgt.courtesyTimer ∧
    (setPlan source wall setpoint lights d0).lgt.ch7Applied = d0.lgt.ch7Applied ∧
    (setPlan source wall setpoint lights d0).rtm = d0.rtm ∧
    (setPlan source wall setpoint lights d0).npl.hostQuiet = d0.npl.hostQuiet ∧
    (setPlan source wall setpoint lights d0).npl.lastClass = d0.npl.lastClass ∧
    (setPlan source wall setpoint lights d0).npl.lastProjection = d0.npl.lastProjection ∧
    (setPlan source wall setpoint lights d0).lnk.receiver = d0.lnk.receiver ∧
    (setPlan source wall setpoint lights d0).lnk.lastByte = d0.lnk.lastByte ∧
    (setPlan source wall setpoint lights d0).lnk.queue = d0.lnk.queue ∧
    (setPlan source wall setpoint lights d0).lnk.out = d0.lnk.out ∧ (setPlan source wall setpoint lights d0).lnk.tx = d0.lnk.tx ∧
    (setPlan source wall setpoint lights d0).lnk.sendEnd = d0.lnk.sendEnd ∧
    (setPlan source wall setpoint lights d0).lnk.awake = d0.lnk.awake ∧
    (setPlan source wall setpoint lights d0).lnk.idle = d0.lnk.idle ∧
    (setPlan source wall setpoint lights d0).lnk.lastFrame = d0.lnk.lastFrame ∧
    (setPlan source wall setpoint lights d0).lnk.enables = d0.lnk.enables ∧
    (setPlan source wall setpoint lights d0).lnk.idleTime = d0.lnk.idleTime ∧
    (setPlan source wall setpoint lights d0).lnk.resetKind = d0.lnk.resetKind ∧
    (setPlan source wall setpoint lights d0).lnk.resetUptime = d0.lnk.resetUptime ∧
    (setPlan source wall setpoint lights d0).sched = d0.sched := by
  unfold setPlan
  (try simp)
  all_goals ((repeat' split) <;> (try simp))
  all_goals ((repeat' split) <;> simp_all)

@[simp] theorem planSetRequest_frame (b : List Byte) (d : Device) :
    ((planSetRequest b d).dev).pins = d.pins ∧ ((planSetRequest b d).dev).factory = d.factory ∧
    ((planSetRequest b d).dev).sns = d.sns ∧ ((planSetRequest b d).dev).vbl = d.vbl ∧ ((planSetRequest b d).dev).chg = d.chg ∧
    ((planSetRequest b d).dev).bgt.defaultHorizon = d.bgt.defaultHorizon ∧ ((planSetRequest b d).dev).bgt.last = d.bgt.last ∧
    ((planSetRequest b d).dev).bgt.outlet = d.bgt.outlet ∧ ((planSetRequest b d).dev).lgt.channels = d.lgt.channels ∧
    ((planSetRequest b d).dev).lgt.chSettings = d.lgt.chSettings ∧ ((planSetRequest b d).dev).lgt.capStep = d.lgt.capStep ∧
    ((planSetRequest b d).dev).lgt.written = d.lgt.written ∧ ((planSetRequest b d).dev).lgt.scenes = d.lgt.scenes ∧
    ((planSetRequest b d).dev).lgt.settings = d.lgt.settings ∧ ((planSetRequest b d).dev).lgt.courtesyTimer = d.lgt.courtesyTimer ∧
    ((planSetRequest b d).dev).lgt.ch7Applied = d.lgt.ch7Applied ∧ ((planSetRequest b d).dev).rtm = d.rtm ∧
    ((planSetRequest b d).dev).npl.hostQuiet = d.npl.hostQuiet ∧ ((planSetRequest b d).dev).npl.lastClass = d.npl.lastClass ∧
    ((planSetRequest b d).dev).npl.lastProjection = d.npl.lastProjection ∧ ((planSetRequest b d).dev).lnk.receiver = d.lnk.receiver ∧
    ((planSetRequest b d).dev).lnk.lastByte = d.lnk.lastByte ∧ ((planSetRequest b d).dev).lnk.queue = d.lnk.queue ∧
    ((planSetRequest b d).dev).lnk.out = d.lnk.out ∧ ((planSetRequest b d).dev).lnk.tx = d.lnk.tx ∧
    ((planSetRequest b d).dev).lnk.sendEnd = d.lnk.sendEnd ∧ ((planSetRequest b d).dev).lnk.awake = d.lnk.awake ∧
    ((planSetRequest b d).dev).lnk.idle = d.lnk.idle ∧ ((planSetRequest b d).dev).lnk.lastFrame = d.lnk.lastFrame ∧
    ((planSetRequest b d).dev).lnk.enables = d.lnk.enables ∧ ((planSetRequest b d).dev).lnk.idleTime = d.lnk.idleTime ∧
    ((planSetRequest b d).dev).lnk.resetKind = d.lnk.resetKind ∧ ((planSetRequest b d).dev).lnk.resetUptime = d.lnk.resetUptime ∧
    ((planSetRequest b d).dev).sched = d.sched := by
  unfold planSetRequest
  (try simp)
  all_goals ((repeat' split) <;> (try simp))
  all_goals ((repeat' split) <;> simp_all)

@[simp] theorem cancelPlan_frame (d : Device) :
    (cancelPlan d).pins = d.pins ∧ (cancelPlan d).factory = d.factory ∧ (cancelPlan d).sns = d.sns ∧ (cancelPlan d).vbl = d.vbl ∧
    (cancelPlan d).chg = d.chg ∧ (cancelPlan d).bgt.defaultHorizon = d.bgt.defaultHorizon ∧ (cancelPlan d).bgt.last = d.bgt.last ∧
    (cancelPlan d).bgt.outlet = d.bgt.outlet ∧ (cancelPlan d).lgt.channels = d.lgt.channels ∧
    (cancelPlan d).lgt.chSettings = d.lgt.chSettings ∧ (cancelPlan d).lgt.capStep = d.lgt.capStep ∧
    (cancelPlan d).lgt.written = d.lgt.written ∧ (cancelPlan d).lgt.scenes = d.lgt.scenes ∧
    (cancelPlan d).lgt.settings = d.lgt.settings ∧ (cancelPlan d).lgt.courtesyTimer = d.lgt.courtesyTimer ∧
    (cancelPlan d).lgt.ch7Applied = d.lgt.ch7Applied ∧ (cancelPlan d).rtm = d.rtm ∧ (cancelPlan d).npl.source = d.npl.source ∧
    (cancelPlan d).npl.setpoint = d.npl.setpoint ∧ (cancelPlan d).npl.lead = d.npl.lead ∧
    (cancelPlan d).npl.wakeLights = d.npl.wakeLights ∧ (cancelPlan d).npl.lastClass = d.npl.lastClass ∧
    (cancelPlan d).npl.lastProjection = d.npl.lastProjection ∧ (cancelPlan d).npl.result = d.npl.result ∧
    (cancelPlan d).lnk.receiver = d.lnk.receiver ∧ (cancelPlan d).lnk.lastByte = d.lnk.lastByte ∧
    (cancelPlan d).lnk.queue = d.lnk.queue ∧ (cancelPlan d).lnk.out = d.lnk.out ∧ (cancelPlan d).lnk.tx = d.lnk.tx ∧
    (cancelPlan d).lnk.sendEnd = d.lnk.sendEnd ∧ (cancelPlan d).lnk.awake = d.lnk.awake ∧ (cancelPlan d).lnk.idle = d.lnk.idle ∧
    (cancelPlan d).lnk.lastFrame = d.lnk.lastFrame ∧ (cancelPlan d).lnk.enables = d.lnk.enables ∧
    (cancelPlan d).lnk.idleTime = d.lnk.idleTime ∧ (cancelPlan d).lnk.resetKind = d.lnk.resetKind ∧
    (cancelPlan d).lnk.resetUptime = d.lnk.resetUptime ∧ (cancelPlan d).sched = d.sched := by
  unfold cancelPlan
  (try simp)
  all_goals ((repeat' split) <;> (try simp))
  all_goals ((repeat' split) <;> simp_all)

@[simp] theorem planCancelRequest_frame (b : List Byte) (d : Device) :
    ((planCancelRequest b d).dev).pins = d.pins ∧ ((planCancelRequest b d).dev).factory = d.factory ∧
    ((planCancelRequest b d).dev).sns = d.sns ∧ ((planCancelRequest b d).dev).vbl = d.vbl ∧
    ((planCancelRequest b d).dev).chg = d.chg ∧ ((planCancelRequest b d).dev).bgt.defaultHorizon = d.bgt.defaultHorizon ∧
    ((planCancelRequest b d).dev).bgt.last = d.bgt.last ∧ ((planCancelRequest b d).dev).bgt.outlet = d.bgt.outlet ∧
    ((planCancelRequest b d).dev).lgt.channels = d.lgt.channels ∧ ((planCancelRequest b d).dev).lgt.chSettings = d.lgt.chSettings ∧
    ((planCancelRequest b d).dev).lgt.capStep = d.lgt.capStep ∧ ((planCancelRequest b d).dev).lgt.written = d.lgt.written ∧
    ((planCancelRequest b d).dev).lgt.scenes = d.lgt.scenes ∧ ((planCancelRequest b d).dev).lgt.settings = d.lgt.settings ∧
    ((planCancelRequest b d).dev).lgt.courtesyTimer = d.lgt.courtesyTimer ∧
    ((planCancelRequest b d).dev).lgt.ch7Applied = d.lgt.ch7Applied ∧ ((planCancelRequest b d).dev).rtm = d.rtm ∧
    ((planCancelRequest b d).dev).npl.source = d.npl.source ∧ ((planCancelRequest b d).dev).npl.setpoint = d.npl.setpoint ∧
    ((planCancelRequest b d).dev).npl.lead = d.npl.lead ∧ ((planCancelRequest b d).dev).npl.wakeLights = d.npl.wakeLights ∧
    ((planCancelRequest b d).dev).npl.lastClass = d.npl.lastClass ∧
    ((planCancelRequest b d).dev).npl.lastProjection = d.npl.lastProjection ∧
    ((planCancelRequest b d).dev).npl.result = d.npl.result ∧ ((planCancelRequest b d).dev).lnk.receiver = d.lnk.receiver ∧
    ((planCancelRequest b d).dev).lnk.lastByte = d.lnk.lastByte ∧ ((planCancelRequest b d).dev).lnk.queue = d.lnk.queue ∧
    ((planCancelRequest b d).dev).lnk.out = d.lnk.out ∧ ((planCancelRequest b d).dev).lnk.tx = d.lnk.tx ∧
    ((planCancelRequest b d).dev).lnk.sendEnd = d.lnk.sendEnd ∧ ((planCancelRequest b d).dev).lnk.awake = d.lnk.awake ∧
    ((planCancelRequest b d).dev).lnk.idle = d.lnk.idle ∧ ((planCancelRequest b d).dev).lnk.lastFrame = d.lnk.lastFrame ∧
    ((planCancelRequest b d).dev).lnk.enables = d.lnk.enables ∧ ((planCancelRequest b d).dev).lnk.idleTime = d.lnk.idleTime ∧
    ((planCancelRequest b d).dev).lnk.resetKind = d.lnk.resetKind ∧
    ((planCancelRequest b d).dev).lnk.resetUptime = d.lnk.resetUptime ∧ ((planCancelRequest b d).dev).sched = d.sched := by
  unfold planCancelRequest
  (try simp)
  all_goals ((repeat' split) <;> (try simp))
  all_goals ((repeat' split) <;> simp_all)

@[simp] theorem quietSetRequest_frame (b : List Byte) (d : Device) :
    ((quietSetRequest b d).dev).pins = d.pins ∧ ((quietSetRequest b d).dev).factory = d.factory ∧
    ((quietSetRequest b d).dev).sns = d.sns ∧ ((quietSetRequest b d).dev).vbl = d.vbl ∧ ((quietSetRequest b d).dev).chg = d.chg ∧
    ((quietSetRequest b d).dev).bgt.horizonSource = d.bgt.horizonSource ∧
    ((quietSetRequest b d).dev).bgt.defaultHorizon = d.bgt.defaultHorizon ∧ ((quietSetRequest b d).dev).bgt.last = d.bgt.last ∧
    ((quietSetRequest b d).dev).bgt.outlet = d.bgt.outlet ∧ ((quietSetRequest b d).dev).lgt.channels = d.lgt.channels ∧
    ((quietSetRequest b d).dev).lgt.chSettings = d.lgt.chSettings ∧ ((quietSetRequest b d).dev).lgt.capStep = d.lgt.capStep ∧
    ((quietSetRequest b d).dev).lgt.written = d.lgt.written ∧ ((quietSetRequest b d).dev).lgt.scenes = d.lgt.scenes ∧
    ((quietSetRequest b d).dev).lgt.settings = d.lgt.settings ∧ ((quietSetRequest b d).dev).lgt.courtesyTimer = d.lgt.courtesyTimer ∧
    ((quietSetRequest b d).dev).lgt.ch7Applied = d.lgt.ch7Applied ∧ ((quietSetRequest b d).dev).lgt.ch7On = d.lgt.ch7On ∧
    ((quietSetRequest b d).dev).lgt.ch7Timer = d.lgt.ch7Timer ∧ ((quietSetRequest b d).dev).rtm = d.rtm ∧
    ((quietSetRequest b d).dev).npl.state = d.npl.state ∧ ((quietSetRequest b d).dev).npl.source = d.npl.source ∧
    ((quietSetRequest b d).dev).npl.wake = d.npl.wake ∧ ((quietSetRequest b d).dev).npl.setpoint = d.npl.setpoint ∧
    ((quietSetRequest b d).dev).npl.lead = d.npl.lead ∧ ((quietSetRequest b d).dev).npl.wakeLights = d.npl.wakeLights ∧
    ((quietSetRequest b d).dev).npl.lastClass = d.npl.lastClass ∧
    ((quietSetRequest b d).dev).npl.lastProjection = d.npl.lastProjection ∧
    ((quietSetRequest b d).dev).npl.horizonHanded = d.npl.horizonHanded ∧ ((quietSetRequest b d).dev).npl.result = d.npl.result ∧
    ((quietSetRequest b d).dev).npl.prewarmMark = d.npl.prewarmMark ∧ ((quietSetRequest b d).dev).lnk.receiver = d.lnk.receiver ∧
    ((quietSetRequest b d).dev).lnk.lastByte = d.lnk.lastByte ∧ ((quietSetRequest b d).dev).lnk.queue = d.lnk.queue ∧
    ((quietSetRequest b d).dev).lnk.out = d.lnk.out ∧ ((quietSetRequest b d).dev).lnk.tx = d.lnk.tx ∧
    ((quietSetRequest b d).dev).lnk.sendEnd = d.lnk.sendEnd ∧ ((quietSetRequest b d).dev).lnk.awake = d.lnk.awake ∧
    ((quietSetRequest b d).dev).lnk.idle = d.lnk.idle ∧ ((quietSetRequest b d).dev).lnk.lastFrame = d.lnk.lastFrame ∧
    ((quietSetRequest b d).dev).lnk.enables = d.lnk.enables ∧ ((quietSetRequest b d).dev).lnk.idleTime = d.lnk.idleTime ∧
    ((quietSetRequest b d).dev).lnk.resetKind = d.lnk.resetKind ∧ ((quietSetRequest b d).dev).lnk.resetUptime = d.lnk.resetUptime ∧
    ((quietSetRequest b d).dev).sched = d.sched := by
  unfold quietSetRequest
  (try simp)
  all_goals ((repeat' split) <;> (try simp))
  all_goals ((repeat' split) <;> simp_all)

@[simp] theorem restartPlan_frame (d : Device) :
    (restartPlan d).pins = d.pins ∧ (restartPlan d).factory = d.factory ∧ (restartPlan d).sns = d.sns ∧ (restartPlan d).vbl = d.vbl ∧
    (restartPlan d).chg = d.chg ∧ (restartPlan d).bgt.defaultHorizon = d.bgt.defaultHorizon ∧ (restartPlan d).bgt.last = d.bgt.last ∧
    (restartPlan d).bgt.outlet = d.bgt.outlet ∧ (restartPlan d).lgt.channels = d.lgt.channels ∧
    (restartPlan d).lgt.chSettings = d.lgt.chSettings ∧ (restartPlan d).lgt.capStep = d.lgt.capStep ∧
    (restartPlan d).lgt.written = d.lgt.written ∧ (restartPlan d).lgt.scenes = d.lgt.scenes ∧
    (restartPlan d).lgt.settings = d.lgt.settings ∧ (restartPlan d).lgt.courtesyTimer = d.lgt.courtesyTimer ∧
    (restartPlan d).lgt.ch7Applied = d.lgt.ch7Applied ∧ (restartPlan d).rtm = d.rtm ∧ (restartPlan d).npl.source = d.npl.source ∧
    (restartPlan d).npl.lastClass = d.npl.lastClass ∧ (restartPlan d).npl.lastProjection = d.npl.lastProjection ∧
    (restartPlan d).lnk.receiver = d.lnk.receiver ∧ (restartPlan d).lnk.lastByte = d.lnk.lastByte ∧
    (restartPlan d).lnk.queue = d.lnk.queue ∧ (restartPlan d).lnk.out = d.lnk.out ∧ (restartPlan d).lnk.tx = d.lnk.tx ∧
    (restartPlan d).lnk.sendEnd = d.lnk.sendEnd ∧ (restartPlan d).lnk.awake = d.lnk.awake ∧ (restartPlan d).lnk.idle = d.lnk.idle ∧
    (restartPlan d).lnk.lastFrame = d.lnk.lastFrame ∧ (restartPlan d).lnk.enables = d.lnk.enables ∧
    (restartPlan d).lnk.idleTime = d.lnk.idleTime ∧ (restartPlan d).lnk.resetKind = d.lnk.resetKind ∧
    (restartPlan d).lnk.resetUptime = d.lnk.resetUptime ∧ (restartPlan d).sched = d.sched := by
  unfold restartPlan
  (try simp)
  all_goals ((repeat' split) <;> (try simp))
  all_goals ((repeat' split) <;> simp_all)

/-! ## Rest -/

@[simp] theorem putRest_frame (r : Rest) (d : Device) :
    (putRest r d).pins = d.pins ∧ (putRest r d).factory = d.factory ∧ (putRest r d).sns = d.sns ∧ (putRest r d).vbl = d.vbl ∧
    (putRest r d).chg = d.chg ∧ (putRest r d).bgt = d.bgt ∧ (putRest r d).htr = d.htr ∧ (putRest r d).cmp = d.cmp ∧
    (putRest r d).lgt = d.lgt ∧ (putRest r d).npl = d.npl ∧ (putRest r d).lnk = d.lnk ∧ (putRest r d).sched = d.sched := by
  unfold putRest
  (try simp)
  all_goals ((repeat' split) <;> (try simp))
  all_goals ((repeat' split) <;> simp_all)

@[simp] theorem countSecond_frame (d : Device) :
    (countSecond d).pins = d.pins ∧ (countSecond d).factory = d.factory ∧ (countSecond d).sns = d.sns ∧ (countSecond d).vbl = d.vbl ∧
    (countSecond d).chg = d.chg ∧ (countSecond d).bgt = d.bgt ∧ (countSecond d).htr = d.htr ∧ (countSecond d).cmp = d.cmp ∧
    (countSecond d).lgt = d.lgt ∧ (countSecond d).npl = d.npl ∧ (countSecond d).lnk = d.lnk ∧ (countSecond d).sched = d.sched := by
  unfold countSecond
  (try simp)
  all_goals ((repeat' split) <;> (try simp))
  all_goals ((repeat' split) <;> simp_all)

@[simp] theorem takeClass_frame (run : SettlingRun) (d : Device) :
    (takeClass run d).pins = d.pins ∧ (takeClass run d).factory = d.factory ∧ (takeClass run d).sns = d.sns ∧
    (takeClass run d).vbl = d.vbl ∧ (takeClass run d).chg = d.chg ∧ (takeClass run d).bgt = d.bgt ∧ (takeClass run d).htr = d.htr ∧
    (takeClass run d).cmp = d.cmp ∧ (takeClass run d).lgt = d.lgt ∧ (takeClass run d).npl = d.npl ∧
    (takeClass run d).lnk.receiver = d.lnk.receiver ∧ (takeClass run d).lnk.lastByte = d.lnk.lastByte ∧
    (takeClass run d).lnk.queue = d.lnk.queue ∧ (takeClass run d).lnk.out = d.lnk.out ∧ (takeClass run d).lnk.tx = d.lnk.tx ∧
    (takeClass run d).lnk.sendEnd = d.lnk.sendEnd ∧ (takeClass run d).lnk.awake = d.lnk.awake ∧
    (takeClass run d).lnk.idle = d.lnk.idle ∧ (takeClass run d).lnk.lastFrame = d.lnk.lastFrame ∧
    (takeClass run d).lnk.enables = d.lnk.enables ∧ (takeClass run d).lnk.idleTime = d.lnk.idleTime ∧
    (takeClass run d).lnk.resetKind = d.lnk.resetKind ∧ (takeClass run d).lnk.resetUptime = d.lnk.resetUptime ∧
    (takeClass run d).sched = d.sched := by
  unfold takeClass
  (try simp)
  all_goals ((repeat' split) <;> (try simp))
  all_goals ((repeat' split) <;> simp_all)

@[simp] theorem takeIfSettled_frame (d : Device) :
    ((takeIfSettled d).1).pins = d.pins ∧ ((takeIfSettled d).1).factory = d.factory ∧ ((takeIfSettled d).1).sns = d.sns ∧
    ((takeIfSettled d).1).vbl = d.vbl ∧ ((takeIfSettled d).1).chg = d.chg ∧ ((takeIfSettled d).1).bgt = d.bgt ∧
    ((takeIfSettled d).1).htr = d.htr ∧ ((takeIfSettled d).1).cmp = d.cmp ∧ ((takeIfSettled d).1).lgt = d.lgt ∧
    ((takeIfSettled d).1).npl = d.npl ∧ ((takeIfSettled d).1).lnk.receiver = d.lnk.receiver ∧
    ((takeIfSettled d).1).lnk.lastByte = d.lnk.lastByte ∧ ((takeIfSettled d).1).lnk.queue = d.lnk.queue ∧
    ((takeIfSettled d).1).lnk.out = d.lnk.out ∧ ((takeIfSettled d).1).lnk.tx = d.lnk.tx ∧
    ((takeIfSettled d).1).lnk.sendEnd = d.lnk.sendEnd ∧ ((takeIfSettled d).1).lnk.awake = d.lnk.awake ∧
    ((takeIfSettled d).1).lnk.idle = d.lnk.idle ∧ ((takeIfSettled d).1).lnk.lastFrame = d.lnk.lastFrame ∧
    ((takeIfSettled d).1).lnk.enables = d.lnk.enables ∧ ((takeIfSettled d).1).lnk.idleTime = d.lnk.idleTime ∧
    ((takeIfSettled d).1).lnk.resetKind = d.lnk.resetKind ∧ ((takeIfSettled d).1).lnk.resetUptime = d.lnk.resetUptime ∧
    ((takeIfSettled d).1).sched = d.sched := by
  unfold takeIfSettled
  (try simp)
  all_goals ((repeat' split) <;> (try simp))
  all_goals ((repeat' split) <;> simp_all)

@[simp] theorem breakTaken_frame (d : Device) :
    (breakTaken d).pins = d.pins ∧ (breakTaken d).factory = d.factory ∧ (breakTaken d).sns = d.sns ∧ (breakTaken d).vbl = d.vbl ∧
    (breakTaken d).chg = d.chg ∧ (breakTaken d).bgt = d.bgt ∧ (breakTaken d).htr = d.htr ∧ (breakTaken d).cmp = d.cmp ∧
    (breakTaken d).lgt = d.lgt ∧ (breakTaken d).npl = d.npl ∧ (breakTaken d).lnk.receiver = d.lnk.receiver ∧
    (breakTaken d).lnk.lastByte = d.lnk.lastByte ∧ (breakTaken d).lnk.queue = d.lnk.queue ∧ (breakTaken d).lnk.out = d.lnk.out ∧
    (breakTaken d).lnk.tx = d.lnk.tx ∧ (breakTaken d).lnk.sendEnd = d.lnk.sendEnd ∧ (breakTaken d).lnk.awake = d.lnk.awake ∧
    (breakTaken d).lnk.idle = d.lnk.idle ∧ (breakTaken d).lnk.lastFrame = d.lnk.lastFrame ∧
    (breakTaken d).lnk.enables = d.lnk.enables ∧ (breakTaken d).lnk.idleTime = d.lnk.idleTime ∧
    (breakTaken d).lnk.resetKind = d.lnk.resetKind ∧ (breakTaken d).lnk.resetUptime = d.lnk.resetUptime ∧
    (breakTaken d).sched = d.sched := by
  unfold breakTaken
  (try simp)
  all_goals ((repeat' split) <;> (try simp))
  all_goals ((repeat' split) <;> simp_all)

@[simp] theorem crossFirst_frame (d : Device) :
    (crossFirst d).pins = d.pins ∧ (crossFirst d).factory = d.factory ∧ (crossFirst d).sns = d.sns ∧ (crossFirst d).vbl = d.vbl ∧
    (crossFirst d).chg = d.chg ∧ (crossFirst d).bgt = d.bgt ∧ (crossFirst d).htr = d.htr ∧ (crossFirst d).cmp = d.cmp ∧
    (crossFirst d).lgt = d.lgt ∧ (crossFirst d).npl = d.npl ∧ (crossFirst d).lnk = d.lnk ∧ (crossFirst d).sched = d.sched := by
  unfold crossFirst
  (try simp)
  all_goals ((repeat' split) <;> (try simp))
  all_goals ((repeat' split) <;> simp_all)

@[simp] theorem crossSecond_frame (d : Device) :
    (crossSecond d).pins = d.pins ∧ (crossSecond d).factory = d.factory ∧ (crossSecond d).sns = d.sns ∧ (crossSecond d).vbl = d.vbl ∧
    (crossSecond d).chg = d.chg ∧ (crossSecond d).bgt = d.bgt ∧ (crossSecond d).htr = d.htr ∧ (crossSecond d).cmp = d.cmp ∧
    (crossSecond d).lgt = d.lgt ∧ (crossSecond d).npl = d.npl ∧ (crossSecond d).lnk.receiver = d.lnk.receiver ∧
    (crossSecond d).lnk.lastByte = d.lnk.lastByte ∧ (crossSecond d).lnk.queue = d.lnk.queue ∧ (crossSecond d).lnk.out = d.lnk.out ∧
    (crossSecond d).lnk.tx = d.lnk.tx ∧ (crossSecond d).lnk.sendEnd = d.lnk.sendEnd ∧ (crossSecond d).lnk.awake = d.lnk.awake ∧
    (crossSecond d).lnk.idle = d.lnk.idle ∧ (crossSecond d).lnk.lastFrame = d.lnk.lastFrame ∧
    (crossSecond d).lnk.enables = d.lnk.enables ∧ (crossSecond d).lnk.idleTime = d.lnk.idleTime ∧
    (crossSecond d).lnk.resetKind = d.lnk.resetKind ∧ (crossSecond d).lnk.resetUptime = d.lnk.resetUptime ∧
    (crossSecond d).sched = d.sched := by
  unfold crossSecond
  cases h : d.rtm.credit with
  | none => simp [h]
  | some u => by_cases h1 : u < d.rtm.current.start <;> simp [h, h1]

@[simp] theorem crossFull_frame (d : Device) :
    (crossFull d).pins = d.pins ∧ (crossFull d).factory = d.factory ∧ (crossFull d).sns = d.sns ∧ (crossFull d).vbl = d.vbl ∧
    (crossFull d).chg = d.chg ∧ (crossFull d).bgt = d.bgt ∧ (crossFull d).htr = d.htr ∧ (crossFull d).cmp = d.cmp ∧
    (crossFull d).lgt = d.lgt ∧ (crossFull d).npl = d.npl ∧ (crossFull d).lnk.receiver = d.lnk.receiver ∧
    (crossFull d).lnk.lastByte = d.lnk.lastByte ∧ (crossFull d).lnk.queue = d.lnk.queue ∧ (crossFull d).lnk.out = d.lnk.out ∧
    (crossFull d).lnk.tx = d.lnk.tx ∧ (crossFull d).lnk.sendEnd = d.lnk.sendEnd ∧ (crossFull d).lnk.awake = d.lnk.awake ∧
    (crossFull d).lnk.idle = d.lnk.idle ∧ (crossFull d).lnk.lastFrame = d.lnk.lastFrame ∧ (crossFull d).lnk.enables = d.lnk.enables ∧
    (crossFull d).lnk.idleTime = d.lnk.idleTime ∧ (crossFull d).lnk.resetKind = d.lnk.resetKind ∧
    (crossFull d).lnk.resetUptime = d.lnk.resetUptime ∧ (crossFull d).sched = d.sched := by
  unfold crossFull
  (try simp)
  all_goals ((repeat' split) <;> (try simp))
  all_goals ((repeat' split) <;> simp_all)

@[simp] theorem crossDaily_frame (d : Device) :
    (crossDaily d).pins = d.pins ∧ (crossDaily d).factory = d.factory ∧ (crossDaily d).sns = d.sns ∧ (crossDaily d).vbl = d.vbl ∧
    (crossDaily d).chg = d.chg ∧ (crossDaily d).bgt = d.bgt ∧ (crossDaily d).htr = d.htr ∧ (crossDaily d).cmp = d.cmp ∧
    (crossDaily d).lgt = d.lgt ∧ (crossDaily d).npl = d.npl ∧ (crossDaily d).lnk.receiver = d.lnk.receiver ∧
    (crossDaily d).lnk.lastByte = d.lnk.lastByte ∧ (crossDaily d).lnk.queue = d.lnk.queue ∧ (crossDaily d).lnk.out = d.lnk.out ∧
    (crossDaily d).lnk.tx = d.lnk.tx ∧ (crossDaily d).lnk.sendEnd = d.lnk.sendEnd ∧ (crossDaily d).lnk.awake = d.lnk.awake ∧
    (crossDaily d).lnk.idle = d.lnk.idle ∧ (crossDaily d).lnk.lastFrame = d.lnk.lastFrame ∧
    (crossDaily d).lnk.enables = d.lnk.enables ∧ (crossDaily d).lnk.idleTime = d.lnk.idleTime ∧
    (crossDaily d).lnk.resetKind = d.lnk.resetKind ∧ (crossDaily d).lnk.resetUptime = d.lnk.resetUptime ∧
    (crossDaily d).sched = d.sched := by
  unfold crossDaily
  (try simp)
  all_goals ((repeat' split) <;> (try simp))
  all_goals ((repeat' split) <;> simp_all)

@[simp] theorem crossings_frame (d : Device) :
    (crossings d).pins = d.pins ∧ (crossings d).factory = d.factory ∧ (crossings d).sns = d.sns ∧ (crossings d).vbl = d.vbl ∧
    (crossings d).chg = d.chg ∧ (crossings d).bgt = d.bgt ∧ (crossings d).htr = d.htr ∧ (crossings d).cmp = d.cmp ∧
    (crossings d).lgt = d.lgt ∧ (crossings d).npl = d.npl ∧ (crossings d).lnk.receiver = d.lnk.receiver ∧
    (crossings d).lnk.lastByte = d.lnk.lastByte ∧ (crossings d).lnk.queue = d.lnk.queue ∧ (crossings d).lnk.out = d.lnk.out ∧
    (crossings d).lnk.tx = d.lnk.tx ∧ (crossings d).lnk.sendEnd = d.lnk.sendEnd ∧ (crossings d).lnk.awake = d.lnk.awake ∧
    (crossings d).lnk.idle = d.lnk.idle ∧ (crossings d).lnk.lastFrame = d.lnk.lastFrame ∧ (crossings d).lnk.enables = d.lnk.enables ∧
    (crossings d).lnk.idleTime = d.lnk.idleTime ∧ (crossings d).lnk.resetKind = d.lnk.resetKind ∧
    (crossings d).lnk.resetUptime = d.lnk.resetUptime ∧ (crossings d).sched = d.sched := by
  unfold crossings
  simp only [crossIf]
  (try simp)
  all_goals ((repeat' split) <;> (try simp))
  all_goals ((repeat' split) <;> simp_all)

@[simp] theorem project_frame (d : Device) :
    (project d).pins = d.pins ∧ (project d).factory = d.factory ∧ (project d).sns = d.sns ∧ (project d).vbl = d.vbl ∧
    (project d).chg = d.chg ∧ (project d).bgt = d.bgt ∧ (project d).htr = d.htr ∧ (project d).cmp = d.cmp ∧ (project d).lgt = d.lgt ∧
    (project d).npl = d.npl ∧ (project d).lnk = d.lnk ∧ (project d).sched = d.sched := by
  unfold project
  (try simp)
  all_goals ((repeat' split) <;> (try simp))
  all_goals ((repeat' split) <;> simp_all)

@[simp] theorem showRest_frame (raised : Bool) (d : Device) :
    (showRest raised d).pins = d.pins ∧ (showRest raised d).factory = d.factory ∧ (showRest raised d).sns = d.sns ∧
    (showRest raised d).vbl = d.vbl ∧ (showRest raised d).chg = d.chg ∧ (showRest raised d).bgt = d.bgt ∧
    (showRest raised d).htr = d.htr ∧ (showRest raised d).cmp = d.cmp ∧ (showRest raised d).lgt.channels = d.lgt.channels ∧
    (showRest raised d).lgt.chSettings = d.lgt.chSettings ∧ (showRest raised d).lgt.capStep = d.lgt.capStep ∧
    (showRest raised d).lgt.written = d.lgt.written ∧ (showRest raised d).lgt.scenes = d.lgt.scenes ∧
    (showRest raised d).lgt.settings = d.lgt.settings ∧ (showRest raised d).lgt.courtesyTimer = d.lgt.courtesyTimer ∧
    (showRest raised d).lgt.ch7Applied = d.lgt.ch7Applied ∧ (showRest raised d).rtm = d.rtm ∧ (showRest raised d).npl = d.npl ∧
    (showRest raised d).lnk = d.lnk ∧ (showRest raised d).sched = d.sched := by
  unfold showRest
  (try simp)
  all_goals ((repeat' split) <;> (try simp))
  all_goals ((repeat' split) <;> simp_all)

@[simp] theorem showRests_frame (l : List WarnKind) (d : Device) :
    (l.foldl (fun acc _ => showRest true acc) d).pins = d.pins ∧ (l.foldl (fun acc _ => showRest true acc) d).factory = d.factory ∧
    (l.foldl (fun acc _ => showRest true acc) d).sns = d.sns ∧ (l.foldl (fun acc _ => showRest true acc) d).vbl = d.vbl ∧
    (l.foldl (fun acc _ => showRest true acc) d).chg = d.chg ∧ (l.foldl (fun acc _ => showRest true acc) d).bgt = d.bgt ∧
    (l.foldl (fun acc _ => showRest true acc) d).htr = d.htr ∧ (l.foldl (fun acc _ => showRest true acc) d).cmp = d.cmp ∧
    (l.foldl (fun acc _ => showRest true acc) d).lgt.channels = d.lgt.channels ∧
    (l.foldl (fun acc _ => showRest true acc) d).lgt.chSettings = d.lgt.chSettings ∧
    (l.foldl (fun acc _ => showRest true acc) d).lgt.capStep = d.lgt.capStep ∧
    (l.foldl (fun acc _ => showRest true acc) d).lgt.written = d.lgt.written ∧
    (l.foldl (fun acc _ => showRest true acc) d).lgt.scenes = d.lgt.scenes ∧
    (l.foldl (fun acc _ => showRest true acc) d).lgt.settings = d.lgt.settings ∧
    (l.foldl (fun acc _ => showRest true acc) d).lgt.courtesyTimer = d.lgt.courtesyTimer ∧
    (l.foldl (fun acc _ => showRest true acc) d).lgt.ch7Applied = d.lgt.ch7Applied ∧
    (l.foldl (fun acc _ => showRest true acc) d).rtm = d.rtm ∧ (l.foldl (fun acc _ => showRest true acc) d).npl = d.npl ∧
    (l.foldl (fun acc _ => showRest true acc) d).lnk = d.lnk ∧ (l.foldl (fun acc _ => showRest true acc) d).sched = d.sched := by
  induction l generalizing d with
  | nil => simp
  | cons a l ih => simp [ih]

@[simp] theorem putWarning_frame (k : WarnKind) (w : Warning) (d : Device) :
    (putWarning k w d).pins = d.pins ∧ (putWarning k w d).factory = d.factory ∧ (putWarning k w d).sns = d.sns ∧
    (putWarning k w d).vbl = d.vbl ∧ (putWarning k w d).chg = d.chg ∧ (putWarning k w d).bgt = d.bgt ∧
    (putWarning k w d).htr = d.htr ∧ (putWarning k w d).cmp = d.cmp ∧ (putWarning k w d).lgt = d.lgt ∧
    (putWarning k w d).npl = d.npl ∧ (putWarning k w d).lnk.receiver = d.lnk.receiver ∧
    (putWarning k w d).lnk.lastByte = d.lnk.lastByte ∧ (putWarning k w d).lnk.queue = d.lnk.queue ∧
    (putWarning k w d).lnk.out = d.lnk.out ∧ (putWarning k w d).lnk.tx = d.lnk.tx ∧ (putWarning k w d).lnk.sendEnd = d.lnk.sendEnd ∧
    (putWarning k w d).lnk.awake = d.lnk.awake ∧ (putWarning k w d).lnk.idle = d.lnk.idle ∧
    (putWarning k w d).lnk.lastFrame = d.lnk.lastFrame ∧ (putWarning k w d).lnk.enables = d.lnk.enables ∧
    (putWarning k w d).lnk.idleTime = d.lnk.idleTime ∧ (putWarning k w d).lnk.resetKind = d.lnk.resetKind ∧
    (putWarning k w d).lnk.resetUptime = d.lnk.resetUptime ∧ (putWarning k w d).sched = d.sched := by
  unfold putWarning
  (try simp)
  all_goals ((repeat' split) <;> (try simp))
  all_goals ((repeat' split) <;> simp_all)

@[simp] theorem clearWarningOf_frame (k : WarnKind) (d : Device) :
    (clearWarningOf k d).pins = d.pins ∧ (clearWarningOf k d).factory = d.factory ∧ (clearWarningOf k d).sns = d.sns ∧
    (clearWarningOf k d).vbl = d.vbl ∧ (clearWarningOf k d).chg = d.chg ∧ (clearWarningOf k d).bgt = d.bgt ∧
    (clearWarningOf k d).htr = d.htr ∧ (clearWarningOf k d).cmp = d.cmp ∧ (clearWarningOf k d).lgt = d.lgt ∧
    (clearWarningOf k d).npl = d.npl ∧ (clearWarningOf k d).lnk.receiver = d.lnk.receiver ∧
    (clearWarningOf k d).lnk.lastByte = d.lnk.lastByte ∧ (clearWarningOf k d).lnk.queue = d.lnk.queue ∧
    (clearWarningOf k d).lnk.out = d.lnk.out ∧ (clearWarningOf k d).lnk.tx = d.lnk.tx ∧
    (clearWarningOf k d).lnk.sendEnd = d.lnk.sendEnd ∧ (clearWarningOf k d).lnk.awake = d.lnk.awake ∧
    (clearWarningOf k d).lnk.idle = d.lnk.idle ∧ (clearWarningOf k d).lnk.lastFrame = d.lnk.lastFrame ∧
    (clearWarningOf k d).lnk.enables = d.lnk.enables ∧ (clearWarningOf k d).lnk.idleTime = d.lnk.idleTime ∧
    (clearWarningOf k d).lnk.resetKind = d.lnk.resetKind ∧ (clearWarningOf k d).lnk.resetUptime = d.lnk.resetUptime ∧
    (clearWarningOf k d).sched = d.sched := by
  unfold clearWarningOf
  (try simp)
  all_goals ((repeat' split) <;> (try simp))
  all_goals ((repeat' split) <;> simp_all)

@[simp] theorem clearWarnings_frame (l : List WarnKind) (d : Device) :
    (l.foldl (fun acc k => clearWarningOf k acc) d).pins = d.pins ∧
    (l.foldl (fun acc k => clearWarningOf k acc) d).factory = d.factory ∧
    (l.foldl (fun acc k => clearWarningOf k acc) d).sns = d.sns ∧ (l.foldl (fun acc k => clearWarningOf k acc) d).vbl = d.vbl ∧
    (l.foldl (fun acc k => clearWarningOf k acc) d).chg = d.chg ∧ (l.foldl (fun acc k => clearWarningOf k acc) d).bgt = d.bgt ∧
    (l.foldl (fun acc k => clearWarningOf k acc) d).htr = d.htr ∧ (l.foldl (fun acc k => clearWarningOf k acc) d).cmp = d.cmp ∧
    (l.foldl (fun acc k => clearWarningOf k acc) d).lgt = d.lgt ∧ (l.foldl (fun acc k => clearWarningOf k acc) d).npl = d.npl ∧
    (l.foldl (fun acc k => clearWarningOf k acc) d).lnk.receiver = d.lnk.receiver ∧
    (l.foldl (fun acc k => clearWarningOf k acc) d).lnk.lastByte = d.lnk.lastByte ∧
    (l.foldl (fun acc k => clearWarningOf k acc) d).lnk.queue = d.lnk.queue ∧
    (l.foldl (fun acc k => clearWarningOf k acc) d).lnk.out = d.lnk.out ∧
    (l.foldl (fun acc k => clearWarningOf k acc) d).lnk.tx = d.lnk.tx ∧
    (l.foldl (fun acc k => clearWarningOf k acc) d).lnk.sendEnd = d.lnk.sendEnd ∧
    (l.foldl (fun acc k => clearWarningOf k acc) d).lnk.awake = d.lnk.awake ∧
    (l.foldl (fun acc k => clearWarningOf k acc) d).lnk.idle = d.lnk.idle ∧
    (l.foldl (fun acc k => clearWarningOf k acc) d).lnk.lastFrame = d.lnk.lastFrame ∧
    (l.foldl (fun acc k => clearWarningOf k acc) d).lnk.enables = d.lnk.enables ∧
    (l.foldl (fun acc k => clearWarningOf k acc) d).lnk.idleTime = d.lnk.idleTime ∧
    (l.foldl (fun acc k => clearWarningOf k acc) d).lnk.resetKind = d.lnk.resetKind ∧
    (l.foldl (fun acc k => clearWarningOf k acc) d).lnk.resetUptime = d.lnk.resetUptime ∧
    (l.foldl (fun acc k => clearWarningOf k acc) d).sched = d.sched := by
  induction l generalizing d with
  | nil => simp
  | cons a l ih => simp [ih]

@[simp] theorem raiseWarning_frame (k : WarnKind) (d : Device) :
    (raiseWarning k d).pins = d.pins ∧ (raiseWarning k d).factory = d.factory ∧ (raiseWarning k d).sns = d.sns ∧
    (raiseWarning k d).vbl = d.vbl ∧ (raiseWarning k d).chg = d.chg ∧ (raiseWarning k d).bgt = d.bgt ∧
    (raiseWarning k d).htr = d.htr ∧ (raiseWarning k d).cmp = d.cmp ∧ (raiseWarning k d).lgt = d.lgt ∧
    (raiseWarning k d).npl = d.npl ∧ (raiseWarning k d).lnk.receiver = d.lnk.receiver ∧
    (raiseWarning k d).lnk.lastByte = d.lnk.lastByte ∧ (raiseWarning k d).lnk.queue = d.lnk.queue ∧
    (raiseWarning k d).lnk.out = d.lnk.out ∧ (raiseWarning k d).lnk.tx = d.lnk.tx ∧ (raiseWarning k d).lnk.sendEnd = d.lnk.sendEnd ∧
    (raiseWarning k d).lnk.awake = d.lnk.awake ∧ (raiseWarning k d).lnk.idle = d.lnk.idle ∧
    (raiseWarning k d).lnk.lastFrame = d.lnk.lastFrame ∧ (raiseWarning k d).lnk.enables = d.lnk.enables ∧
    (raiseWarning k d).lnk.idleTime = d.lnk.idleTime ∧ (raiseWarning k d).lnk.resetKind = d.lnk.resetKind ∧
    (raiseWarning k d).lnk.resetUptime = d.lnk.resetUptime ∧ (raiseWarning k d).sched = d.sched := by
  unfold raiseWarning
  (try simp)
  all_goals ((repeat' split) <;> (try simp))
  all_goals ((repeat' split) <;> simp_all)

@[simp] theorem raiseWarnings_frame (l : List WarnKind) (d : Device) :
    (l.foldl (fun acc k => raiseWarning k acc) d).pins = d.pins ∧ (l.foldl (fun acc k => raiseWarning k acc) d).factory = d.factory ∧
    (l.foldl (fun acc k => raiseWarning k acc) d).sns = d.sns ∧ (l.foldl (fun acc k => raiseWarning k acc) d).vbl = d.vbl ∧
    (l.foldl (fun acc k => raiseWarning k acc) d).chg = d.chg ∧ (l.foldl (fun acc k => raiseWarning k acc) d).bgt = d.bgt ∧
    (l.foldl (fun acc k => raiseWarning k acc) d).htr = d.htr ∧ (l.foldl (fun acc k => raiseWarning k acc) d).cmp = d.cmp ∧
    (l.foldl (fun acc k => raiseWarning k acc) d).lgt = d.lgt ∧ (l.foldl (fun acc k => raiseWarning k acc) d).npl = d.npl ∧
    (l.foldl (fun acc k => raiseWarning k acc) d).lnk.receiver = d.lnk.receiver ∧
    (l.foldl (fun acc k => raiseWarning k acc) d).lnk.lastByte = d.lnk.lastByte ∧
    (l.foldl (fun acc k => raiseWarning k acc) d).lnk.queue = d.lnk.queue ∧
    (l.foldl (fun acc k => raiseWarning k acc) d).lnk.out = d.lnk.out ∧
    (l.foldl (fun acc k => raiseWarning k acc) d).lnk.tx = d.lnk.tx ∧
    (l.foldl (fun acc k => raiseWarning k acc) d).lnk.sendEnd = d.lnk.sendEnd ∧
    (l.foldl (fun acc k => raiseWarning k acc) d).lnk.awake = d.lnk.awake ∧
    (l.foldl (fun acc k => raiseWarning k acc) d).lnk.idle = d.lnk.idle ∧
    (l.foldl (fun acc k => raiseWarning k acc) d).lnk.lastFrame = d.lnk.lastFrame ∧
    (l.foldl (fun acc k => raiseWarning k acc) d).lnk.enables = d.lnk.enables ∧
    (l.foldl (fun acc k => raiseWarning k acc) d).lnk.idleTime = d.lnk.idleTime ∧
    (l.foldl (fun acc k => raiseWarning k acc) d).lnk.resetKind = d.lnk.resetKind ∧
    (l.foldl (fun acc k => raiseWarning k acc) d).lnk.resetUptime = d.lnk.resetUptime ∧
    (l.foldl (fun acc k => raiseWarning k acc) d).sched = d.sched := by
  induction l generalizing d with
  | nil => simp
  | cons a l ih => simp [ih]

@[simp] theorem applyWarnings_frame (clears raises : List WarnKind) (d : Device) :
    (applyWarnings clears raises d).pins = d.pins ∧ (applyWarnings clears raises d).factory = d.factory ∧
    (applyWarnings clears raises d).sns = d.sns ∧ (applyWarnings clears raises d).vbl = d.vbl ∧
    (applyWarnings clears raises d).chg = d.chg ∧ (applyWarnings clears raises d).bgt = d.bgt ∧
    (applyWarnings clears raises d).htr = d.htr ∧ (applyWarnings clears raises d).cmp = d.cmp ∧
    (applyWarnings clears raises d).lgt.channels = d.lgt.channels ∧
    (applyWarnings clears raises d).lgt.chSettings = d.lgt.chSettings ∧ (applyWarnings clears raises d).lgt.capStep = d.lgt.capStep ∧
    (applyWarnings clears raises d).lgt.written = d.lgt.written ∧ (applyWarnings clears raises d).lgt.scenes = d.lgt.scenes ∧
    (applyWarnings clears raises d).lgt.settings = d.lgt.settings ∧
    (applyWarnings clears raises d).lgt.courtesyTimer = d.lgt.courtesyTimer ∧
    (applyWarnings clears raises d).lgt.ch7Applied = d.lgt.ch7Applied ∧ (applyWarnings clears raises d).npl = d.npl ∧
    (applyWarnings clears raises d).lnk.receiver = d.lnk.receiver ∧ (applyWarnings clears raises d).lnk.lastByte = d.lnk.lastByte ∧
    (applyWarnings clears raises d).lnk.queue = d.lnk.queue ∧ (applyWarnings clears raises d).lnk.out = d.lnk.out ∧
    (applyWarnings clears raises d).lnk.tx = d.lnk.tx ∧ (applyWarnings clears raises d).lnk.sendEnd = d.lnk.sendEnd ∧
    (applyWarnings clears raises d).lnk.awake = d.lnk.awake ∧ (applyWarnings clears raises d).lnk.idle = d.lnk.idle ∧
    (applyWarnings clears raises d).lnk.lastFrame = d.lnk.lastFrame ∧ (applyWarnings clears raises d).lnk.enables = d.lnk.enables ∧
    (applyWarnings clears raises d).lnk.idleTime = d.lnk.idleTime ∧ (applyWarnings clears raises d).lnk.resetKind = d.lnk.resetKind ∧
    (applyWarnings clears raises d).lnk.resetUptime = d.lnk.resetUptime ∧ (applyWarnings clears raises d).sched = d.sched := by
  unfold applyWarnings
  (try simp)
  all_goals ((repeat' split) <;> (try simp))
  all_goals ((repeat' split) <;> simp_all)

@[simp] theorem evaluateWarnings_frame (d : Device) :
    (evaluateWarnings d).pins = d.pins ∧ (evaluateWarnings d).factory = d.factory ∧ (evaluateWarnings d).sns = d.sns ∧
    (evaluateWarnings d).vbl = d.vbl ∧ (evaluateWarnings d).chg = d.chg ∧ (evaluateWarnings d).bgt = d.bgt ∧
    (evaluateWarnings d).htr = d.htr ∧ (evaluateWarnings d).cmp = d.cmp ∧ (evaluateWarnings d).lgt.channels = d.lgt.channels ∧
    (evaluateWarnings d).lgt.chSettings = d.lgt.chSettings ∧ (evaluateWarnings d).lgt.capStep = d.lgt.capStep ∧
    (evaluateWarnings d).lgt.written = d.lgt.written ∧ (evaluateWarnings d).lgt.scenes = d.lgt.scenes ∧
    (evaluateWarnings d).lgt.settings = d.lgt.settings ∧ (evaluateWarnings d).lgt.courtesyTimer = d.lgt.courtesyTimer ∧
    (evaluateWarnings d).lgt.ch7Applied = d.lgt.ch7Applied ∧ (evaluateWarnings d).npl = d.npl ∧
    (evaluateWarnings d).lnk.receiver = d.lnk.receiver ∧ (evaluateWarnings d).lnk.lastByte = d.lnk.lastByte ∧
    (evaluateWarnings d).lnk.queue = d.lnk.queue ∧ (evaluateWarnings d).lnk.out = d.lnk.out ∧ (evaluateWarnings d).lnk.tx = d.lnk.tx ∧
    (evaluateWarnings d).lnk.sendEnd = d.lnk.sendEnd ∧ (evaluateWarnings d).lnk.awake = d.lnk.awake ∧
    (evaluateWarnings d).lnk.idle = d.lnk.idle ∧ (evaluateWarnings d).lnk.lastFrame = d.lnk.lastFrame ∧
    (evaluateWarnings d).lnk.enables = d.lnk.enables ∧ (evaluateWarnings d).lnk.idleTime = d.lnk.idleTime ∧
    (evaluateWarnings d).lnk.resetKind = d.lnk.resetKind ∧ (evaluateWarnings d).lnk.resetUptime = d.lnk.resetUptime ∧
    (evaluateWarnings d).sched = d.sched := by
  unfold evaluateWarnings
  (try simp)
  all_goals ((repeat' split) <;> (try simp))
  all_goals ((repeat' split) <;> simp_all)

@[simp] theorem handToPlan_frame (tookClass : Bool) (d : Device) :
    (handToPlan tookClass d).pins = d.pins ∧ (handToPlan tookClass d).factory = d.factory ∧ (handToPlan tookClass d).sns = d.sns ∧
    (handToPlan tookClass d).vbl = d.vbl ∧ (handToPlan tookClass d).chg = d.chg ∧
    (handToPlan tookClass d).bgt.defaultHorizon = d.bgt.defaultHorizon ∧ (handToPlan tookClass d).bgt.last = d.bgt.last ∧
    (handToPlan tookClass d).bgt.outlet = d.bgt.outlet ∧ (handToPlan tookClass d).lgt.chSettings = d.lgt.chSettings ∧
    (handToPlan tookClass d).lgt.scenes = d.lgt.scenes ∧ (handToPlan tookClass d).lgt.settings = d.lgt.settings ∧
    (handToPlan tookClass d).lgt.courtesyTimer = d.lgt.courtesyTimer ∧ (handToPlan tookClass d).lgt.ch7Applied = d.lgt.ch7Applied ∧
    (handToPlan tookClass d).npl.source = d.npl.source ∧ (handToPlan tookClass d).npl.setpoint = d.npl.setpoint ∧
    (handToPlan tookClass d).npl.wakeLights = d.npl.wakeLights ∧ (handToPlan tookClass d).lnk.receiver = d.lnk.receiver ∧
    (handToPlan tookClass d).lnk.lastByte = d.lnk.lastByte ∧ (handToPlan tookClass d).lnk.queue = d.lnk.queue ∧
    (handToPlan tookClass d).lnk.out = d.lnk.out ∧ (handToPlan tookClass d).lnk.tx = d.lnk.tx ∧
    (handToPlan tookClass d).lnk.sendEnd = d.lnk.sendEnd ∧ (handToPlan tookClass d).lnk.awake = d.lnk.awake ∧
    (handToPlan tookClass d).lnk.idle = d.lnk.idle ∧ (handToPlan tookClass d).lnk.lastFrame = d.lnk.lastFrame ∧
    (handToPlan tookClass d).lnk.enables = d.lnk.enables ∧ (handToPlan tookClass d).lnk.idleTime = d.lnk.idleTime ∧
    (handToPlan tookClass d).lnk.resetKind = d.lnk.resetKind ∧ (handToPlan tookClass d).lnk.resetUptime = d.lnk.resetUptime ∧
    (handToPlan tookClass d).sched = d.sched := by
  unfold handToPlan
  (try simp)
  all_goals ((repeat' split) <;> (try simp))
  all_goals ((repeat' split) <;> simp_all)

@[simp] theorem tickTail_frame (tookClass : Bool) (d : Device) :
    (tickTail tookClass d).pins = d.pins ∧ (tickTail tookClass d).factory = d.factory ∧ (tickTail tookClass d).sns = d.sns ∧
    (tickTail tookClass d).vbl = d.vbl ∧ (tickTail tookClass d).chg = d.chg ∧
    (tickTail tookClass d).bgt.defaultHorizon = d.bgt.defaultHorizon ∧ (tickTail tookClass d).bgt.last = d.bgt.last ∧
    (tickTail tookClass d).bgt.outlet = d.bgt.outlet ∧ (tickTail tookClass d).lgt.chSettings = d.lgt.chSettings ∧
    (tickTail tookClass d).lgt.scenes = d.lgt.scenes ∧ (tickTail tookClass d).lgt.settings = d.lgt.settings ∧
    (tickTail tookClass d).lgt.courtesyTimer = d.lgt.courtesyTimer ∧ (tickTail tookClass d).lgt.ch7Applied = d.lgt.ch7Applied ∧
    (tickTail tookClass d).npl.source = d.npl.source ∧ (tickTail tookClass d).npl.setpoint = d.npl.setpoint ∧
    (tickTail tookClass d).npl.wakeLights = d.npl.wakeLights ∧ (tickTail tookClass d).lnk.receiver = d.lnk.receiver ∧
    (tickTail tookClass d).lnk.lastByte = d.lnk.lastByte ∧ (tickTail tookClass d).lnk.queue = d.lnk.queue ∧
    (tickTail tookClass d).lnk.out = d.lnk.out ∧ (tickTail tookClass d).lnk.tx = d.lnk.tx ∧
    (tickTail tookClass d).lnk.sendEnd = d.lnk.sendEnd ∧ (tickTail tookClass d).lnk.awake = d.lnk.awake ∧
    (tickTail tookClass d).lnk.idle = d.lnk.idle ∧ (tickTail tookClass d).lnk.lastFrame = d.lnk.lastFrame ∧
    (tickTail tookClass d).lnk.enables = d.lnk.enables ∧ (tickTail tookClass d).lnk.idleTime = d.lnk.idleTime ∧
    (tickTail tookClass d).lnk.resetKind = d.lnk.resetKind ∧ (tickTail tookClass d).lnk.resetUptime = d.lnk.resetUptime ∧
    (tickTail tookClass d).sched = d.sched := by
  unfold tickTail
  (try simp)
  all_goals ((repeat' split) <;> (try simp))
  all_goals ((repeat' split) <;> simp_all)

@[simp] theorem tickHead_frame (d : Device) :
    (tickHead d).pins = d.pins ∧ (tickHead d).factory = d.factory ∧ (tickHead d).sns = d.sns ∧ (tickHead d).vbl = d.vbl ∧
    (tickHead d).chg = d.chg ∧ (tickHead d).bgt = d.bgt ∧ (tickHead d).htr = d.htr ∧ (tickHead d).cmp = d.cmp ∧
    (tickHead d).lgt = d.lgt ∧ (tickHead d).npl = d.npl ∧ (tickHead d).lnk = d.lnk ∧ (tickHead d).sched = d.sched := by
  unfold tickHead
  (try simp)
  all_goals ((repeat' split) <;> (try simp))
  all_goals ((repeat' split) <;> simp_all)

@[simp] theorem restTick_frame (d0 : Device) :
    (restTick d0).pins = d0.pins ∧ (restTick d0).factory = d0.factory ∧ (restTick d0).sns = d0.sns ∧ (restTick d0).vbl = d0.vbl ∧
    (restTick d0).chg = d0.chg ∧ (restTick d0).bgt.defaultHorizon = d0.bgt.defaultHorizon ∧ (restTick d0).bgt.last = d0.bgt.last ∧
    (restTick d0).bgt.outlet = d0.bgt.outlet ∧ (restTick d0).lgt.chSettings = d0.lgt.chSettings ∧
    (restTick d0).lgt.scenes = d0.lgt.scenes ∧ (restTick d0).lgt.settings = d0.lgt.settings ∧
    (restTick d0).lgt.courtesyTimer = d0.lgt.courtesyTimer ∧ (restTick d0).lgt.ch7Applied = d0.lgt.ch7Applied ∧
    (restTick d0).npl.source = d0.npl.source ∧ (restTick d0).npl.setpoint = d0.npl.setpoint ∧
    (restTick d0).npl.wakeLights = d0.npl.wakeLights ∧ (restTick d0).lnk.receiver = d0.lnk.receiver ∧
    (restTick d0).lnk.lastByte = d0.lnk.lastByte ∧ (restTick d0).lnk.queue = d0.lnk.queue ∧ (restTick d0).lnk.out = d0.lnk.out ∧
    (restTick d0).lnk.tx = d0.lnk.tx ∧ (restTick d0).lnk.sendEnd = d0.lnk.sendEnd ∧ (restTick d0).lnk.awake = d0.lnk.awake ∧
    (restTick d0).lnk.idle = d0.lnk.idle ∧ (restTick d0).lnk.lastFrame = d0.lnk.lastFrame ∧
    (restTick d0).lnk.enables = d0.lnk.enables ∧ (restTick d0).lnk.idleTime = d0.lnk.idleTime ∧
    (restTick d0).lnk.resetKind = d0.lnk.resetKind ∧ (restTick d0).lnk.resetUptime = d0.lnk.resetUptime := by
  unfold restTick
  (try simp)
  all_goals ((repeat' split) <;> (try simp))
  all_goals ((repeat' split) <;> simp_all)

@[simp] theorem classTake_frame (d : Device) :
    (classTake d).pins = d.pins ∧ (classTake d).factory = d.factory ∧ (classTake d).sns = d.sns ∧ (classTake d).vbl = d.vbl ∧
    (classTake d).chg = d.chg ∧ (classTake d).bgt.defaultHorizon = d.bgt.defaultHorizon ∧ (classTake d).bgt.last = d.bgt.last ∧
    (classTake d).bgt.outlet = d.bgt.outlet ∧ (classTake d).lgt.chSettings = d.lgt.chSettings ∧
    (classTake d).lgt.scenes = d.lgt.scenes ∧ (classTake d).lgt.settings = d.lgt.settings ∧
    (classTake d).lgt.courtesyTimer = d.lgt.courtesyTimer ∧ (classTake d).lgt.ch7Applied = d.lgt.ch7Applied ∧
    (classTake d).npl.source = d.npl.source ∧ (classTake d).npl.setpoint = d.npl.setpoint ∧
    (classTake d).npl.wakeLights = d.npl.wakeLights ∧ (classTake d).lnk.receiver = d.lnk.receiver ∧
    (classTake d).lnk.lastByte = d.lnk.lastByte ∧ (classTake d).lnk.queue = d.lnk.queue ∧ (classTake d).lnk.out = d.lnk.out ∧
    (classTake d).lnk.tx = d.lnk.tx ∧ (classTake d).lnk.sendEnd = d.lnk.sendEnd ∧ (classTake d).lnk.awake = d.lnk.awake ∧
    (classTake d).lnk.idle = d.lnk.idle ∧ (classTake d).lnk.lastFrame = d.lnk.lastFrame ∧ (classTake d).lnk.enables = d.lnk.enables ∧
    (classTake d).lnk.idleTime = d.lnk.idleTime ∧ (classTake d).lnk.resetKind = d.lnk.resetKind ∧
    (classTake d).lnk.resetUptime = d.lnk.resetUptime ∧ (classTake d).sched = d.sched := by
  unfold classTake
  have h0 := takeIfSettled_frame d
  split <;> rename_i h <;> rw [h] at h0 <;> simp_all

@[simp] theorem restCrossing_frame (d : Device) :
    (restCrossing d).pins = d.pins ∧ (restCrossing d).factory = d.factory ∧ (restCrossing d).sns = d.sns ∧
    (restCrossing d).vbl = d.vbl ∧ (restCrossing d).chg = d.chg ∧ (restCrossing d).bgt.defaultHorizon = d.bgt.defaultHorizon ∧
    (restCrossing d).bgt.last = d.bgt.last ∧ (restCrossing d).bgt.outlet = d.bgt.outlet ∧
    (restCrossing d).lgt.chSettings = d.lgt.chSettings ∧ (restCrossing d).lgt.scenes = d.lgt.scenes ∧
    (restCrossing d).lgt.settings = d.lgt.settings ∧ (restCrossing d).lgt.courtesyTimer = d.lgt.courtesyTimer ∧
    (restCrossing d).lgt.ch7Applied = d.lgt.ch7Applied ∧ (restCrossing d).npl.source = d.npl.source ∧
    (restCrossing d).npl.setpoint = d.npl.setpoint ∧ (restCrossing d).npl.wakeLights = d.npl.wakeLights ∧
    (restCrossing d).lnk.receiver = d.lnk.receiver ∧ (restCrossing d).lnk.lastByte = d.lnk.lastByte ∧
    (restCrossing d).lnk.queue = d.lnk.queue ∧ (restCrossing d).lnk.out = d.lnk.out ∧ (restCrossing d).lnk.tx = d.lnk.tx ∧
    (restCrossing d).lnk.sendEnd = d.lnk.sendEnd ∧ (restCrossing d).lnk.awake = d.lnk.awake ∧ (restCrossing d).lnk.idle = d.lnk.idle ∧
    (restCrossing d).lnk.lastFrame = d.lnk.lastFrame ∧ (restCrossing d).lnk.enables = d.lnk.enables ∧
    (restCrossing d).lnk.idleTime = d.lnk.idleTime ∧ (restCrossing d).lnk.resetKind = d.lnk.resetKind ∧
    (restCrossing d).lnk.resetUptime = d.lnk.resetUptime ∧ (restCrossing d).sched = d.sched := by
  unfold restCrossing
  (try simp)
  all_goals ((repeat' split) <;> (try simp))
  all_goals ((repeat' split) <;> simp_all)

@[simp] theorem repeatRaise_frame (d : Device) :
    (repeatRaise d).pins = d.pins ∧ (repeatRaise d).factory = d.factory ∧ (repeatRaise d).sns = d.sns ∧ (repeatRaise d).vbl = d.vbl ∧
    (repeatRaise d).chg = d.chg ∧ (repeatRaise d).bgt = d.bgt ∧ (repeatRaise d).htr = d.htr ∧ (repeatRaise d).cmp = d.cmp ∧
    (repeatRaise d).lgt.channels = d.lgt.channels ∧ (repeatRaise d).lgt.chSettings = d.lgt.chSettings ∧
    (repeatRaise d).lgt.capStep = d.lgt.capStep ∧ (repeatRaise d).lgt.written = d.lgt.written ∧
    (repeatRaise d).lgt.scenes = d.lgt.scenes ∧ (repeatRaise d).lgt.settings = d.lgt.settings ∧
    (repeatRaise d).lgt.courtesyTimer = d.lgt.courtesyTimer ∧ (repeatRaise d).lgt.ch7Applied = d.lgt.ch7Applied ∧
    (repeatRaise d).npl = d.npl ∧ (repeatRaise d).lnk.receiver = d.lnk.receiver ∧ (repeatRaise d).lnk.lastByte = d.lnk.lastByte ∧
    (repeatRaise d).lnk.queue = d.lnk.queue ∧ (repeatRaise d).lnk.out = d.lnk.out ∧ (repeatRaise d).lnk.tx = d.lnk.tx ∧
    (repeatRaise d).lnk.sendEnd = d.lnk.sendEnd ∧ (repeatRaise d).lnk.awake = d.lnk.awake ∧ (repeatRaise d).lnk.idle = d.lnk.idle ∧
    (repeatRaise d).lnk.lastFrame = d.lnk.lastFrame ∧ (repeatRaise d).lnk.enables = d.lnk.enables ∧
    (repeatRaise d).lnk.idleTime = d.lnk.idleTime ∧ (repeatRaise d).lnk.resetKind = d.lnk.resetKind ∧
    (repeatRaise d).lnk.resetUptime = d.lnk.resetUptime ∧ (repeatRaise d).sched = d.sched := by
  unfold repeatRaise
  (try simp)
  all_goals ((repeat' split) <;> (try simp))
  all_goals ((repeat' split) <;> simp_all)

@[simp] theorem bunkChange_frame (d : Device) :
    (bunkChange d).pins = d.pins ∧ (bunkChange d).factory = d.factory ∧ (bunkChange d).sns = d.sns ∧ (bunkChange d).vbl = d.vbl ∧
    (bunkChange d).chg = d.chg ∧ (bunkChange d).bgt = d.bgt ∧ (bunkChange d).htr = d.htr ∧ (bunkChange d).cmp = d.cmp ∧
    (bunkChange d).lgt = d.lgt ∧ (bunkChange d).npl = d.npl ∧ (bunkChange d).lnk = d.lnk ∧ (bunkChange d).sched = d.sched := by
  unfold bunkChange
  (try simp)
  all_goals ((repeat' split) <;> (try simp))
  all_goals ((repeat' split) <;> simp_all)

@[simp] theorem restRulesRequest_frame (b : List Byte) (d : Device) :
    ((restRulesRequest b d).dev).pins = d.pins ∧ ((restRulesRequest b d).dev).factory = d.factory ∧
    ((restRulesRequest b d).dev).sns = d.sns ∧ ((restRulesRequest b d).dev).vbl = d.vbl ∧ ((restRulesRequest b d).dev).chg = d.chg ∧
    ((restRulesRequest b d).dev).bgt = d.bgt ∧ ((restRulesRequest b d).dev).htr = d.htr ∧ ((restRulesRequest b d).dev).cmp = d.cmp ∧
    ((restRulesRequest b d).dev).lgt = d.lgt ∧ ((restRulesRequest b d).dev).npl = d.npl ∧ ((restRulesRequest b d).dev).lnk = d.lnk ∧
    ((restRulesRequest b d).dev).sched = d.sched := by
  unfold restRulesRequest
  (try simp)
  all_goals ((repeat' split) <;> (try simp))
  all_goals ((repeat' split) <;> simp_all)

@[simp] theorem declareRequest_frame (b : List Byte) (d : Device) :
    ((declareRequest b d).dev).pins = d.pins ∧ ((declareRequest b d).dev).factory = d.factory ∧
    ((declareRequest b d).dev).sns = d.sns ∧ ((declareRequest b d).dev).vbl = d.vbl ∧ ((declareRequest b d).dev).chg = d.chg ∧
    ((declareRequest b d).dev).bgt = d.bgt ∧ ((declareRequest b d).dev).htr = d.htr ∧ ((declareRequest b d).dev).cmp = d.cmp ∧
    ((declareRequest b d).dev).lgt = d.lgt ∧ ((declareRequest b d).dev).npl = d.npl ∧ ((declareRequest b d).dev).lnk = d.lnk ∧
    ((declareRequest b d).dev).sched = d.sched := by
  unfold declareRequest
  (try simp)
  all_goals ((repeat' split) <;> (try simp))
  all_goals ((repeat' split) <;> simp_all)

@[simp] theorem ackRecord_frame (k : WarnKind) (occurrence : Nat) (d : Device) :
    ((ackRecord k occurrence d).dev).pins = d.pins ∧ ((ackRecord k occurrence d).dev).factory = d.factory ∧
    ((ackRecord k occurrence d).dev).sns = d.sns ∧ ((ackRecord k occurrence d).dev).vbl = d.vbl ∧
    ((ackRecord k occurrence d).dev).chg = d.chg ∧ ((ackRecord k occurrence d).dev).bgt = d.bgt ∧
    ((ackRecord k occurrence d).dev).htr = d.htr ∧ ((ackRecord k occurrence d).dev).cmp = d.cmp ∧
    ((ackRecord k occurrence d).dev).lgt.channels = d.lgt.channels ∧
    ((ackRecord k occurrence d).dev).lgt.chSettings = d.lgt.chSettings ∧
    ((ackRecord k occurrence d).dev).lgt.capStep = d.lgt.capStep ∧ ((ackRecord k occurrence d).dev).lgt.written = d.lgt.written ∧
    ((ackRecord k occurrence d).dev).lgt.scenes = d.lgt.scenes ∧ ((ackRecord k occurrence d).dev).lgt.settings = d.lgt.settings ∧
    ((ackRecord k occurrence d).dev).lgt.courtesyTimer = d.lgt.courtesyTimer ∧
    ((ackRecord k occurrence d).dev).lgt.ch7Applied = d.lgt.ch7Applied ∧ ((ackRecord k occurrence d).dev).lgt.ch7On = d.lgt.ch7On ∧
    ((ackRecord k occurrence d).dev).lgt.ch7Timer = d.lgt.ch7Timer ∧ ((ackRecord k occurrence d).dev).npl = d.npl ∧
    ((ackRecord k occurrence d).dev).lnk = d.lnk ∧ ((ackRecord k occurrence d).dev).sched = d.sched := by
  unfold ackRecord
  (try simp)
  all_goals ((repeat' split) <;> (try simp))
  all_goals ((repeat' split) <;> simp_all)

@[simp] theorem ackWarningRequest_frame (b : List Byte) (d : Device) :
    ((ackWarningRequest b d).dev).pins = d.pins ∧ ((ackWarningRequest b d).dev).factory = d.factory ∧
    ((ackWarningRequest b d).dev).sns = d.sns ∧ ((ackWarningRequest b d).dev).vbl = d.vbl ∧
    ((ackWarningRequest b d).dev).chg = d.chg ∧ ((ackWarningRequest b d).dev).bgt = d.bgt ∧
    ((ackWarningRequest b d).dev).htr = d.htr ∧ ((ackWarningRequest b d).dev).cmp = d.cmp ∧
    ((ackWarningRequest b d).dev).lgt.channels = d.lgt.channels ∧ ((ackWarningRequest b d).dev).lgt.chSettings = d.lgt.chSettings ∧
    ((ackWarningRequest b d).dev).lgt.capStep = d.lgt.capStep ∧ ((ackWarningRequest b d).dev).lgt.written = d.lgt.written ∧
    ((ackWarningRequest b d).dev).lgt.scenes = d.lgt.scenes ∧ ((ackWarningRequest b d).dev).lgt.settings = d.lgt.settings ∧
    ((ackWarningRequest b d).dev).lgt.courtesyTimer = d.lgt.courtesyTimer ∧
    ((ackWarningRequest b d).dev).lgt.ch7Applied = d.lgt.ch7Applied ∧ ((ackWarningRequest b d).dev).lgt.ch7On = d.lgt.ch7On ∧
    ((ackWarningRequest b d).dev).lgt.ch7Timer = d.lgt.ch7Timer ∧ ((ackWarningRequest b d).dev).npl = d.npl ∧
    ((ackWarningRequest b d).dev).lnk = d.lnk ∧ ((ackWarningRequest b d).dev).sched = d.sched := by
  unfold ackWarningRequest
  (try simp)
  all_goals ((repeat' split) <;> (try simp))
  all_goals ((repeat' split) <;> simp_all)

@[simp] theorem readTimelineRequest_frame (b : List Byte) (d : Device) :
    ((readTimelineRequest b d).dev).pins = d.pins ∧ ((readTimelineRequest b d).dev).factory = d.factory ∧
    ((readTimelineRequest b d).dev).sns = d.sns ∧ ((readTimelineRequest b d).dev).vbl = d.vbl ∧
    ((readTimelineRequest b d).dev).chg = d.chg ∧ ((readTimelineRequest b d).dev).bgt = d.bgt ∧
    ((readTimelineRequest b d).dev).htr = d.htr ∧ ((readTimelineRequest b d).dev).cmp = d.cmp ∧
    ((readTimelineRequest b d).dev).lgt = d.lgt ∧ ((readTimelineRequest b d).dev).rtm = d.rtm ∧
    ((readTimelineRequest b d).dev).npl = d.npl ∧ ((readTimelineRequest b d).dev).lnk = d.lnk ∧
    ((readTimelineRequest b d).dev).sched = d.sched := by
  unfold readTimelineRequest
  (try simp)
  all_goals ((repeat' split) <;> (try simp))
  all_goals ((repeat' split) <;> simp_all)

@[simp] theorem restartRest_frame (d : Device) :
    (restartRest d).pins = d.pins ∧ (restartRest d).factory = d.factory ∧ (restartRest d).sns = d.sns ∧ (restartRest d).vbl = d.vbl ∧
    (restartRest d).chg = d.chg ∧ (restartRest d).bgt = d.bgt ∧ (restartRest d).htr = d.htr ∧ (restartRest d).cmp = d.cmp ∧
    (restartRest d).lgt.channels = d.lgt.channels ∧ (restartRest d).lgt.chSettings = d.lgt.chSettings ∧
    (restartRest d).lgt.capStep = d.lgt.capStep ∧ (restartRest d).lgt.written = d.lgt.written ∧
    (restartRest d).lgt.scenes = d.lgt.scenes ∧ (restartRest d).lgt.settings = d.lgt.settings ∧
    (restartRest d).lgt.courtesyTimer = d.lgt.courtesyTimer ∧ (restartRest d).lgt.ch7Applied = d.lgt.ch7Applied ∧
    (restartRest d).npl = d.npl ∧ (restartRest d).lnk = d.lnk ∧ (restartRest d).sched = d.sched := by
  unfold restartRest
  (try simp)
  all_goals ((repeat' split) <;> (try simp))
  all_goals ((repeat' split) <;> simp_all)

/-! ## Charge -/

@[simp] theorem putChg_frame (c : Charge) (d : Device) :
    (putChg c d).pins = d.pins ∧ (putChg c d).factory = d.factory ∧ (putChg c d).sns = d.sns ∧ (putChg c d).vbl = d.vbl ∧
    (putChg c d).bgt = d.bgt ∧ (putChg c d).htr = d.htr ∧ (putChg c d).cmp = d.cmp ∧ (putChg c d).lgt = d.lgt ∧
    (putChg c d).rtm = d.rtm ∧ (putChg c d).npl = d.npl ∧ (putChg c d).lnk = d.lnk ∧ (putChg c d).sched = d.sched := by
  unfold putChg
  (try simp)
  all_goals ((repeat' split) <;> (try simp))
  all_goals ((repeat' split) <;> simp_all)

@[simp] theorem chargeSample_frame (current : Int) (voltage : Nat) (d : Device) :
    (chargeSample current voltage d).pins = d.pins ∧ (chargeSample current voltage d).factory = d.factory ∧
    (chargeSample current voltage d).sns = d.sns ∧ (chargeSample current voltage d).vbl = d.vbl ∧
    (chargeSample current voltage d).bgt = d.bgt ∧ (chargeSample current voltage d).htr = d.htr ∧
    (chargeSample current voltage d).cmp = d.cmp ∧ (chargeSample current voltage d).lgt = d.lgt ∧
    (chargeSample current voltage d).rtm = d.rtm ∧ (chargeSample current voltage d).npl = d.npl ∧
    (chargeSample current voltage d).lnk = d.lnk ∧ (chargeSample current voltage d).sched = d.sched := by
  unfold chargeSample
  (try simp)
  all_goals ((repeat' split) <;> (try simp))
  all_goals ((repeat' split) <;> simp_all)

@[simp] theorem fullDetection_frame (d : Device) :
    (fullDetection d).pins = d.pins ∧ (fullDetection d).factory = d.factory ∧ (fullDetection d).sns = d.sns ∧
    (fullDetection d).vbl = d.vbl ∧ (fullDetection d).bgt = d.bgt ∧ (fullDetection d).htr = d.htr ∧ (fullDetection d).cmp = d.cmp ∧
    (fullDetection d).lgt = d.lgt ∧ (fullDetection d).rtm = d.rtm ∧ (fullDetection d).npl = d.npl ∧
    (fullDetection d).lnk.receiver = d.lnk.receiver ∧ (fullDetection d).lnk.lastByte = d.lnk.lastByte ∧
    (fullDetection d).lnk.queue = d.lnk.queue ∧ (fullDetection d).lnk.out = d.lnk.out ∧ (fullDetection d).lnk.tx = d.lnk.tx ∧
    (fullDetection d).lnk.sendEnd = d.lnk.sendEnd ∧ (fullDetection d).lnk.awake = d.lnk.awake ∧
    (fullDetection d).lnk.idle = d.lnk.idle ∧ (fullDetection d).lnk.lastFrame = d.lnk.lastFrame ∧
    (fullDetection d).lnk.enables = d.lnk.enables ∧ (fullDetection d).lnk.idleTime = d.lnk.idleTime ∧
    (fullDetection d).lnk.resetKind = d.lnk.resetKind ∧ (fullDetection d).lnk.resetUptime = d.lnk.resetUptime ∧
    (fullDetection d).sched = d.sched := by
  unfold fullDetection
  (try simp)
  all_goals ((repeat' split) <;> (try simp))
  all_goals ((repeat' split) <;> simp_all)

@[simp] theorem gradeTest_frame (d : Device) :
    (gradeTest d).pins = d.pins ∧ (gradeTest d).factory = d.factory ∧ (gradeTest d).sns = d.sns ∧ (gradeTest d).vbl = d.vbl ∧
    (gradeTest d).bgt = d.bgt ∧ (gradeTest d).htr = d.htr ∧ (gradeTest d).cmp = d.cmp ∧ (gradeTest d).lgt.channels = d.lgt.channels ∧
    (gradeTest d).lgt.chSettings = d.lgt.chSettings ∧ (gradeTest d).lgt.capStep = d.lgt.capStep ∧
    (gradeTest d).lgt.written = d.lgt.written ∧ (gradeTest d).lgt.scenes = d.lgt.scenes ∧
    (gradeTest d).lgt.settings = d.lgt.settings ∧ (gradeTest d).lgt.courtesyTimer = d.lgt.courtesyTimer ∧
    (gradeTest d).lgt.ch7Applied = d.lgt.ch7Applied ∧ (gradeTest d).rtm = d.rtm ∧ (gradeTest d).npl = d.npl ∧
    (gradeTest d).lnk.receiver = d.lnk.receiver ∧ (gradeTest d).lnk.lastByte = d.lnk.lastByte ∧
    (gradeTest d).lnk.queue = d.lnk.queue ∧ (gradeTest d).lnk.out = d.lnk.out ∧ (gradeTest d).lnk.tx = d.lnk.tx ∧
    (gradeTest d).lnk.sendEnd = d.lnk.sendEnd ∧ (gradeTest d).lnk.awake = d.lnk.awake ∧ (gradeTest d).lnk.idle = d.lnk.idle ∧
    (gradeTest d).lnk.lastFrame = d.lnk.lastFrame ∧ (gradeTest d).lnk.enables = d.lnk.enables ∧
    (gradeTest d).lnk.idleTime = d.lnk.idleTime ∧ (gradeTest d).lnk.resetKind = d.lnk.resetKind ∧
    (gradeTest d).lnk.resetUptime = d.lnk.resetUptime ∧ (gradeTest d).sched = d.sched := by
  unfold gradeTest
  (try simp)
  all_goals ((repeat' split) <;> (try simp))
  all_goals ((repeat' split) <;> simp_all)

@[simp] theorem handOnCharge_frame (wasKnown : Bool) (wasUv : Undervoltage) (d : Device) :
    (handOnCharge wasKnown wasUv d).pins = d.pins ∧ (handOnCharge wasKnown wasUv d).factory = d.factory ∧
    (handOnCharge wasKnown wasUv d).sns.ms = d.sns.ms ∧ (handOnCharge wasKnown wasUv d).sns.uptime = d.sns.uptime ∧
    (handOnCharge wasKnown wasUv d).sns.clockSet = d.sns.clockSet ∧
    (handOnCharge wasKnown wasUv d).sns.clockOffset = d.sns.clockOffset ∧ (handOnCharge wasKnown wasUv d).sns.analog = d.sns.analog ∧
    (handOnCharge wasKnown wasUv d).sns.tables = d.sns.tables ∧ (handOnCharge wasKnown wasUv d).sns.lines = d.sns.lines ∧
    (handOnCharge wasKnown wasUv d).sns.dial = d.sns.dial ∧ (handOnCharge wasKnown wasUv d).vbl = d.vbl ∧
    (handOnCharge wasKnown wasUv d).chg = d.chg ∧ (handOnCharge wasKnown wasUv d).bgt.horizonSource = d.bgt.horizonSource ∧
    (handOnCharge wasKnown wasUv d).bgt.defaultHorizon = d.bgt.defaultHorizon ∧
    (handOnCharge wasKnown wasUv d).bgt.last = d.bgt.last ∧ (handOnCharge wasKnown wasUv d).lgt.channels = d.lgt.channels ∧
    (handOnCharge wasKnown wasUv d).lgt.chSettings = d.lgt.chSettings ∧ (handOnCharge wasKnown wasUv d).lgt.capStep = d.lgt.capStep ∧
    (handOnCharge wasKnown wasUv d).lgt.written = d.lgt.written ∧ (handOnCharge wasKnown wasUv d).lgt.scenes = d.lgt.scenes ∧
    (handOnCharge wasKnown wasUv d).lgt.settings = d.lgt.settings ∧
    (handOnCharge wasKnown wasUv d).lgt.courtesyTimer = d.lgt.courtesyTimer ∧
    (handOnCharge wasKnown wasUv d).lgt.ch7Applied = d.lgt.ch7Applied ∧ (handOnCharge wasKnown wasUv d).rtm = d.rtm ∧
    (handOnCharge wasKnown wasUv d).npl = d.npl ∧ (handOnCharge wasKnown wasUv d).lnk.receiver = d.lnk.receiver ∧
    (handOnCharge wasKnown wasUv d).lnk.lastByte = d.lnk.lastByte ∧ (handOnCharge wasKnown wasUv d).lnk.queue = d.lnk.queue ∧
    (handOnCharge wasKnown wasUv d).lnk.out = d.lnk.out ∧ (handOnCharge wasKnown wasUv d).lnk.tx = d.lnk.tx ∧
    (handOnCharge wasKnown wasUv d).lnk.sendEnd = d.lnk.sendEnd ∧ (handOnCharge wasKnown wasUv d).lnk.awake = d.lnk.awake ∧
    (handOnCharge wasKnown wasUv d).lnk.idle = d.lnk.idle ∧ (handOnCharge wasKnown wasUv d).lnk.lastFrame = d.lnk.lastFrame ∧
    (handOnCharge wasKnown wasUv d).lnk.enables = d.lnk.enables ∧ (handOnCharge wasKnown wasUv d).lnk.idleTime = d.lnk.idleTime ∧
    (handOnCharge wasKnown wasUv d).lnk.resetKind = d.lnk.resetKind ∧
    (handOnCharge wasKnown wasUv d).lnk.resetUptime = d.lnk.resetUptime ∧ (handOnCharge wasKnown wasUv d).sched = d.sched := by
  unfold handOnCharge
  (try simp)
  all_goals ((repeat' split) <;> (try simp))
  all_goals ((repeat' split) <;> simp_all)

@[simp] theorem publishCharge_frame (wasKnown : Bool) (wasUv : Undervoltage) (d : Device) :
    (publishCharge wasKnown wasUv d).pins = d.pins ∧ (publishCharge wasKnown wasUv d).factory = d.factory ∧
    (publishCharge wasKnown wasUv d).sns.ms = d.sns.ms ∧ (publishCharge wasKnown wasUv d).sns.uptime = d.sns.uptime ∧
    (publishCharge wasKnown wasUv d).sns.clockSet = d.sns.clockSet ∧
    (publishCharge wasKnown wasUv d).sns.clockOffset = d.sns.clockOffset ∧
    (publishCharge wasKnown wasUv d).sns.analog = d.sns.analog ∧ (publishCharge wasKnown wasUv d).sns.tables = d.sns.tables ∧
    (publishCharge wasKnown wasUv d).sns.lines = d.sns.lines ∧ (publishCharge wasKnown wasUv d).sns.dial = d.sns.dial ∧
    (publishCharge wasKnown wasUv d).vbl = d.vbl ∧ (publishCharge wasKnown wasUv d).bgt.horizonSource = d.bgt.horizonSource ∧
    (publishCharge wasKnown wasUv d).bgt.defaultHorizon = d.bgt.defaultHorizon ∧
    (publishCharge wasKnown wasUv d).bgt.last = d.bgt.last ∧ (publishCharge wasKnown wasUv d).lgt.channels = d.lgt.channels ∧
    (publishCharge wasKnown wasUv d).lgt.chSettings = d.lgt.chSettings ∧
    (publishCharge wasKnown wasUv d).lgt.capStep = d.lgt.capStep ∧ (publishCharge wasKnown wasUv d).lgt.written = d.lgt.written ∧
    (publishCharge wasKnown wasUv d).lgt.scenes = d.lgt.scenes ∧ (publishCharge wasKnown wasUv d).lgt.settings = d.lgt.settings ∧
    (publishCharge wasKnown wasUv d).lgt.courtesyTimer = d.lgt.courtesyTimer ∧
    (publishCharge wasKnown wasUv d).lgt.ch7Applied = d.lgt.ch7Applied ∧ (publishCharge wasKnown wasUv d).rtm = d.rtm ∧
    (publishCharge wasKnown wasUv d).npl = d.npl ∧ (publishCharge wasKnown wasUv d).lnk.receiver = d.lnk.receiver ∧
    (publishCharge wasKnown wasUv d).lnk.lastByte = d.lnk.lastByte ∧ (publishCharge wasKnown wasUv d).lnk.queue = d.lnk.queue ∧
    (publishCharge wasKnown wasUv d).lnk.out = d.lnk.out ∧ (publishCharge wasKnown wasUv d).lnk.tx = d.lnk.tx ∧
    (publishCharge wasKnown wasUv d).lnk.sendEnd = d.lnk.sendEnd ∧ (publishCharge wasKnown wasUv d).lnk.awake = d.lnk.awake ∧
    (publishCharge wasKnown wasUv d).lnk.idle = d.lnk.idle ∧ (publishCharge wasKnown wasUv d).lnk.lastFrame = d.lnk.lastFrame ∧
    (publishCharge wasKnown wasUv d).lnk.enables = d.lnk.enables ∧ (publishCharge wasKnown wasUv d).lnk.idleTime = d.lnk.idleTime ∧
    (publishCharge wasKnown wasUv d).lnk.resetKind = d.lnk.resetKind ∧
    (publishCharge wasKnown wasUv d).lnk.resetUptime = d.lnk.resetUptime ∧ (publishCharge wasKnown wasUv d).sched = d.sched := by
  unfold publishCharge
  (try simp)
  all_goals ((repeat' split) <;> (try simp))
  all_goals ((repeat' split) <;> simp_all)

@[simp] theorem countingTick_frame (d : Device) :
    (countingTick d).pins = d.pins ∧ (countingTick d).factory = d.factory ∧ (countingTick d).sns = d.sns ∧
    (countingTick d).vbl = d.vbl ∧ (countingTick d).bgt = d.bgt ∧ (countingTick d).htr = d.htr ∧ (countingTick d).cmp = d.cmp ∧
    (countingTick d).lgt.channels = d.lgt.channels ∧ (countingTick d).lgt.chSettings = d.lgt.chSettings ∧
    (countingTick d).lgt.capStep = d.lgt.capStep ∧ (countingTick d).lgt.written = d.lgt.written ∧
    (countingTick d).lgt.scenes = d.lgt.scenes ∧ (countingTick d).lgt.settings = d.lgt.settings ∧
    (countingTick d).lgt.courtesyTimer = d.lgt.courtesyTimer ∧ (countingTick d).lgt.ch7Applied = d.lgt.ch7Applied ∧
    (countingTick d).rtm = d.rtm ∧ (countingTick d).npl = d.npl ∧ (countingTick d).lnk.receiver = d.lnk.receiver ∧
    (countingTick d).lnk.lastByte = d.lnk.lastByte ∧ (countingTick d).lnk.queue = d.lnk.queue ∧ (countingTick d).lnk.out = d.lnk.out ∧
    (countingTick d).lnk.tx = d.lnk.tx ∧ (countingTick d).lnk.sendEnd = d.lnk.sendEnd ∧ (countingTick d).lnk.awake = d.lnk.awake ∧
    (countingTick d).lnk.idle = d.lnk.idle ∧ (countingTick d).lnk.lastFrame = d.lnk.lastFrame ∧
    (countingTick d).lnk.enables = d.lnk.enables ∧ (countingTick d).lnk.idleTime = d.lnk.idleTime ∧
    (countingTick d).lnk.resetKind = d.lnk.resetKind ∧ (countingTick d).lnk.resetUptime = d.lnk.resetUptime ∧
    (countingTick d).sched = d.sched := by
  unfold countingTick
  (try simp)
  all_goals ((repeat' split) <;> (try simp))
  all_goals ((repeat' split) <;> simp_all)

@[simp] theorem accountingTick_frame (d0 : Device) :
    (accountingTick d0).pins = d0.pins ∧ (accountingTick d0).factory = d0.factory ∧ (accountingTick d0).sns.ms = d0.sns.ms ∧
    (accountingTick d0).sns.uptime = d0.sns.uptime ∧ (accountingTick d0).sns.clockSet = d0.sns.clockSet ∧
    (accountingTick d0).sns.clockOffset = d0.sns.clockOffset ∧ (accountingTick d0).sns.analog = d0.sns.analog ∧
    (accountingTick d0).sns.tables = d0.sns.tables ∧ (accountingTick d0).sns.lines = d0.sns.lines ∧
    (accountingTick d0).sns.dial = d0.sns.dial ∧ (accountingTick d0).vbl = d0.vbl ∧
    (accountingTick d0).bgt.horizonSource = d0.bgt.horizonSource ∧ (accountingTick d0).bgt.defaultHorizon = d0.bgt.defaultHorizon ∧
    (accountingTick d0).bgt.last = d0.bgt.last ∧ (accountingTick d0).lgt.channels = d0.lgt.channels ∧
    (accountingTick d0).lgt.chSettings = d0.lgt.chSettings ∧ (accountingTick d0).lgt.capStep = d0.lgt.capStep ∧
    (accountingTick d0).lgt.written = d0.lgt.written ∧ (accountingTick d0).lgt.scenes = d0.lgt.scenes ∧
    (accountingTick d0).lgt.settings = d0.lgt.settings ∧ (accountingTick d0).lgt.courtesyTimer = d0.lgt.courtesyTimer ∧
    (accountingTick d0).lgt.ch7Applied = d0.lgt.ch7Applied ∧ (accountingTick d0).rtm = d0.rtm ∧ (accountingTick d0).npl = d0.npl ∧
    (accountingTick d0).lnk.receiver = d0.lnk.receiver ∧ (accountingTick d0).lnk.lastByte = d0.lnk.lastByte ∧
    (accountingTick d0).lnk.queue = d0.lnk.queue ∧ (accountingTick d0).lnk.out = d0.lnk.out ∧ (accountingTick d0).lnk.tx = d0.lnk.tx ∧
    (accountingTick d0).lnk.sendEnd = d0.lnk.sendEnd ∧ (accountingTick d0).lnk.awake = d0.lnk.awake ∧
    (accountingTick d0).lnk.idle = d0.lnk.idle ∧ (accountingTick d0).lnk.lastFrame = d0.lnk.lastFrame ∧
    (accountingTick d0).lnk.enables = d0.lnk.enables ∧ (accountingTick d0).lnk.idleTime = d0.lnk.idleTime ∧
    (accountingTick d0).lnk.resetKind = d0.lnk.resetKind ∧ (accountingTick d0).lnk.resetUptime = d0.lnk.resetUptime := by
  unfold accountingTick
  (try simp)
  all_goals ((repeat' split) <;> (try simp))
  all_goals ((repeat' split) <;> simp_all)

@[simp] theorem gradingComplete_frame (d : Device) :
    (gradingComplete d).pins = d.pins ∧ (gradingComplete d).factory = d.factory ∧ (gradingComplete d).sns.ms = d.sns.ms ∧
    (gradingComplete d).sns.uptime = d.sns.uptime ∧ (gradingComplete d).sns.clockSet = d.sns.clockSet ∧
    (gradingComplete d).sns.clockOffset = d.sns.clockOffset ∧ (gradingComplete d).sns.analog = d.sns.analog ∧
    (gradingComplete d).sns.tables = d.sns.tables ∧ (gradingComplete d).sns.lines = d.sns.lines ∧
    (gradingComplete d).sns.dial = d.sns.dial ∧ (gradingComplete d).vbl = d.vbl ∧
    (gradingComplete d).bgt.horizonSource = d.bgt.horizonSource ∧ (gradingComplete d).bgt.defaultHorizon = d.bgt.defaultHorizon ∧
    (gradingComplete d).bgt.last = d.bgt.last ∧ (gradingComplete d).lgt.channels = d.lgt.channels ∧
    (gradingComplete d).lgt.chSettings = d.lgt.chSettings ∧ (gradingComplete d).lgt.capStep = d.lgt.capStep ∧
    (gradingComplete d).lgt.written = d.lgt.written ∧ (gradingComplete d).lgt.scenes = d.lgt.scenes ∧
    (gradingComplete d).lgt.settings = d.lgt.settings ∧ (gradingComplete d).lgt.courtesyTimer = d.lgt.courtesyTimer ∧
    (gradingComplete d).lgt.ch7Applied = d.lgt.ch7Applied ∧ (gradingComplete d).rtm = d.rtm ∧ (gradingComplete d).npl = d.npl ∧
    (gradingComplete d).lnk.receiver = d.lnk.receiver ∧ (gradingComplete d).lnk.lastByte = d.lnk.lastByte ∧
    (gradingComplete d).lnk.queue = d.lnk.queue ∧ (gradingComplete d).lnk.out = d.lnk.out ∧ (gradingComplete d).lnk.tx = d.lnk.tx ∧
    (gradingComplete d).lnk.sendEnd = d.lnk.sendEnd ∧ (gradingComplete d).lnk.awake = d.lnk.awake ∧
    (gradingComplete d).lnk.idle = d.lnk.idle ∧ (gradingComplete d).lnk.lastFrame = d.lnk.lastFrame ∧
    (gradingComplete d).lnk.enables = d.lnk.enables ∧ (gradingComplete d).lnk.idleTime = d.lnk.idleTime ∧
    (gradingComplete d).lnk.resetKind = d.lnk.resetKind ∧ (gradingComplete d).lnk.resetUptime = d.lnk.resetUptime ∧
    (gradingComplete d).sched = d.sched := by
  unfold gradingComplete
  (try simp)
  all_goals ((repeat' split) <;> (try simp))
  all_goals ((repeat' split) <;> simp_all)

@[simp] theorem fullChargeReached_frame (d : Device) :
    (fullChargeReached d).pins = d.pins ∧ (fullChargeReached d).factory = d.factory ∧ (fullChargeReached d).sns.ms = d.sns.ms ∧
    (fullChargeReached d).sns.uptime = d.sns.uptime ∧ (fullChargeReached d).sns.clockSet = d.sns.clockSet ∧
    (fullChargeReached d).sns.clockOffset = d.sns.clockOffset ∧ (fullChargeReached d).sns.analog = d.sns.analog ∧
    (fullChargeReached d).sns.tables = d.sns.tables ∧ (fullChargeReached d).sns.lines = d.sns.lines ∧
    (fullChargeReached d).sns.dial = d.sns.dial ∧ (fullChargeReached d).vbl = d.vbl ∧
    (fullChargeReached d).bgt.horizonSource = d.bgt.horizonSource ∧ (fullChargeReached d).bgt.defaultHorizon = d.bgt.defaultHorizon ∧
    (fullChargeReached d).bgt.last = d.bgt.last ∧ (fullChargeReached d).lgt.channels = d.lgt.channels ∧
    (fullChargeReached d).lgt.chSettings = d.lgt.chSettings ∧ (fullChargeReached d).lgt.capStep = d.lgt.capStep ∧
    (fullChargeReached d).lgt.written = d.lgt.written ∧ (fullChargeReached d).lgt.scenes = d.lgt.scenes ∧
    (fullChargeReached d).lgt.settings = d.lgt.settings ∧ (fullChargeReached d).lgt.courtesyTimer = d.lgt.courtesyTimer ∧
    (fullChargeReached d).lgt.ch7Applied = d.lgt.ch7Applied ∧ (fullChargeReached d).rtm = d.rtm ∧ (fullChargeReached d).npl = d.npl ∧
    (fullChargeReached d).lnk.receiver = d.lnk.receiver ∧ (fullChargeReached d).lnk.lastByte = d.lnk.lastByte ∧
    (fullChargeReached d).lnk.queue = d.lnk.queue ∧ (fullChargeReached d).lnk.out = d.lnk.out ∧
    (fullChargeReached d).lnk.tx = d.lnk.tx ∧ (fullChargeReached d).lnk.sendEnd = d.lnk.sendEnd ∧
    (fullChargeReached d).lnk.awake = d.lnk.awake ∧ (fullChargeReached d).lnk.idle = d.lnk.idle ∧
    (fullChargeReached d).lnk.lastFrame = d.lnk.lastFrame ∧ (fullChargeReached d).lnk.enables = d.lnk.enables ∧
    (fullChargeReached d).lnk.idleTime = d.lnk.idleTime ∧ (fullChargeReached d).lnk.resetKind = d.lnk.resetKind ∧
    (fullChargeReached d).lnk.resetUptime = d.lnk.resetUptime ∧ (fullChargeReached d).sched = d.sched := by
  unfold fullChargeReached
  (try simp)
  all_goals ((repeat' split) <;> (try simp))
  all_goals ((repeat' split) <;> simp_all)

@[simp] theorem setChargeRequest_frame (b : List Byte) (d : Device) :
    ((setChargeRequest b d).dev).pins = d.pins ∧ ((setChargeRequest b d).dev).factory = d.factory ∧
    ((setChargeRequest b d).dev).sns.ms = d.sns.ms ∧ ((setChargeRequest b d).dev).sns.uptime = d.sns.uptime ∧
    ((setChargeRequest b d).dev).sns.clockSet = d.sns.clockSet ∧ ((setChargeRequest b d).dev).sns.clockOffset = d.sns.clockOffset ∧
    ((setChargeRequest b d).dev).sns.analog = d.sns.analog ∧ ((setChargeRequest b d).dev).sns.tables = d.sns.tables ∧
    ((setChargeRequest b d).dev).sns.lines = d.sns.lines ∧ ((setChargeRequest b d).dev).sns.dial = d.sns.dial ∧
    ((setChargeRequest b d).dev).vbl = d.vbl ∧ ((setChargeRequest b d).dev).bgt.horizonSource = d.bgt.horizonSource ∧
    ((setChargeRequest b d).dev).bgt.defaultHorizon = d.bgt.defaultHorizon ∧ ((setChargeRequest b d).dev).bgt.last = d.bgt.last ∧
    ((setChargeRequest b d).dev).lgt.channels = d.lgt.channels ∧ ((setChargeRequest b d).dev).lgt.chSettings = d.lgt.chSettings ∧
    ((setChargeRequest b d).dev).lgt.capStep = d.lgt.capStep ∧ ((setChargeRequest b d).dev).lgt.written = d.lgt.written ∧
    ((setChargeRequest b d).dev).lgt.scenes = d.lgt.scenes ∧ ((setChargeRequest b d).dev).lgt.settings = d.lgt.settings ∧
    ((setChargeRequest b d).dev).lgt.courtesyTimer = d.lgt.courtesyTimer ∧
    ((setChargeRequest b d).dev).lgt.ch7Applied = d.lgt.ch7Applied ∧ ((setChargeRequest b d).dev).rtm = d.rtm ∧
    ((setChargeRequest b d).dev).npl = d.npl ∧ ((setChargeRequest b d).dev).lnk.receiver = d.lnk.receiver ∧
    ((setChargeRequest b d).dev).lnk.lastByte = d.lnk.lastByte ∧ ((setChargeRequest b d).dev).lnk.queue = d.lnk.queue ∧
    ((setChargeRequest b d).dev).lnk.out = d.lnk.out ∧ ((setChargeRequest b d).dev).lnk.tx = d.lnk.tx ∧
    ((setChargeRequest b d).dev).lnk.sendEnd = d.lnk.sendEnd ∧ ((setChargeRequest b d).dev).lnk.awake = d.lnk.awake ∧
    ((setChargeRequest b d).dev).lnk.idle = d.lnk.idle ∧ ((setChargeRequest b d).dev).lnk.lastFrame = d.lnk.lastFrame ∧
    ((setChargeRequest b d).dev).lnk.enables = d.lnk.enables ∧ ((setChargeRequest b d).dev).lnk.idleTime = d.lnk.idleTime ∧
    ((setChargeRequest b d).dev).lnk.resetKind = d.lnk.resetKind ∧ ((setChargeRequest b d).dev).lnk.resetUptime = d.lnk.resetUptime ∧
    ((setChargeRequest b d).dev).sched = d.sched := by
  unfold setChargeRequest
  (try simp)
  all_goals ((repeat' split) <;> (try simp))
  all_goals ((repeat' split) <;> simp_all)

@[simp] theorem batteryConfigRequest_frame (b : List Byte) (d : Device) :
    ((batteryConfigRequest b d).dev).pins = d.pins ∧ ((batteryConfigRequest b d).dev).factory = d.factory ∧
    ((batteryConfigRequest b d).dev).sns.ms = d.sns.ms ∧ ((batteryConfigRequest b d).dev).sns.uptime = d.sns.uptime ∧
    ((batteryConfigRequest b d).dev).sns.clockSet = d.sns.clockSet ∧
    ((batteryConfigRequest b d).dev).sns.clockOffset = d.sns.clockOffset ∧
    ((batteryConfigRequest b d).dev).sns.analog = d.sns.analog ∧ ((batteryConfigRequest b d).dev).sns.tables = d.sns.tables ∧
    ((batteryConfigRequest b d).dev).sns.lines = d.sns.lines ∧ ((batteryConfigRequest b d).dev).sns.dial = d.sns.dial ∧
    ((batteryConfigRequest b d).dev).vbl = d.vbl ∧ ((batteryConfigRequest b d).dev).bgt.horizonSource = d.bgt.horizonSource ∧
    ((batteryConfigRequest b d).dev).bgt.defaultHorizon = d.bgt.defaultHorizon ∧
    ((batteryConfigRequest b d).dev).bgt.last = d.bgt.last ∧ ((batteryConfigRequest b d).dev).lgt.channels = d.lgt.channels ∧
    ((batteryConfigRequest b d).dev).lgt.chSettings = d.lgt.chSettings ∧
    ((batteryConfigRequest b d).dev).lgt.capStep = d.lgt.capStep ∧ ((batteryConfigRequest b d).dev).lgt.written = d.lgt.written ∧
    ((batteryConfigRequest b d).dev).lgt.scenes = d.lgt.scenes ∧ ((batteryConfigRequest b d).dev).lgt.settings = d.lgt.settings ∧
    ((batteryConfigRequest b d).dev).lgt.courtesyTimer = d.lgt.courtesyTimer ∧
    ((batteryConfigRequest b d).dev).lgt.ch7Applied = d.lgt.ch7Applied ∧ ((batteryConfigRequest b d).dev).rtm = d.rtm ∧
    ((batteryConfigRequest b d).dev).npl = d.npl ∧ ((batteryConfigRequest b d).dev).lnk.receiver = d.lnk.receiver ∧
    ((batteryConfigRequest b d).dev).lnk.lastByte = d.lnk.lastByte ∧ ((batteryConfigRequest b d).dev).lnk.queue = d.lnk.queue ∧
    ((batteryConfigRequest b d).dev).lnk.out = d.lnk.out ∧ ((batteryConfigRequest b d).dev).lnk.tx = d.lnk.tx ∧
    ((batteryConfigRequest b d).dev).lnk.sendEnd = d.lnk.sendEnd ∧ ((batteryConfigRequest b d).dev).lnk.awake = d.lnk.awake ∧
    ((batteryConfigRequest b d).dev).lnk.idle = d.lnk.idle ∧ ((batteryConfigRequest b d).dev).lnk.lastFrame = d.lnk.lastFrame ∧
    ((batteryConfigRequest b d).dev).lnk.enables = d.lnk.enables ∧ ((batteryConfigRequest b d).dev).lnk.idleTime = d.lnk.idleTime ∧
    ((batteryConfigRequest b d).dev).lnk.resetKind = d.lnk.resetKind ∧
    ((batteryConfigRequest b d).dev).lnk.resetUptime = d.lnk.resetUptime ∧ ((batteryConfigRequest b d).dev).sched = d.sched := by
  unfold batteryConfigRequest
  extract_lets q d1 d2
  have h : d2 = d1 ∨ d2 = postCharge .capacity d1 := by simp only [d2]; split <;> simp
  repeat' split
  all_goals rcases h with h | h <;> simp [h, d1]

@[simp] theorem restartCharge_frame (d : Device) :
    (restartCharge d).pins = d.pins ∧ (restartCharge d).factory = d.factory ∧ (restartCharge d).sns = d.sns ∧
    (restartCharge d).vbl = d.vbl ∧ (restartCharge d).bgt = d.bgt ∧ (restartCharge d).htr = d.htr ∧ (restartCharge d).cmp = d.cmp ∧
    (restartCharge d).lgt = d.lgt ∧ (restartCharge d).rtm = d.rtm ∧ (restartCharge d).npl = d.npl ∧ (restartCharge d).lnk = d.lnk ∧
    (restartCharge d).sched = d.sched := by
  unfold restartCharge
  (try simp)
  all_goals ((repeat' split) <;> (try simp))
  all_goals ((repeat' split) <;> simp_all)

/-! ## Vehicle -/

@[simp] theorem putVbl_frame (v : Vehicle) (d : Device) :
    (putVbl v d).pins = d.pins ∧ (putVbl v d).factory = d.factory ∧ (putVbl v d).sns = d.sns ∧ (putVbl v d).chg = d.chg ∧
    (putVbl v d).bgt = d.bgt ∧ (putVbl v d).htr = d.htr ∧ (putVbl v d).cmp = d.cmp ∧ (putVbl v d).lgt = d.lgt ∧
    (putVbl v d).rtm = d.rtm ∧ (putVbl v d).npl = d.npl ∧ (putVbl v d).lnk = d.lnk ∧ (putVbl v d).sched = d.sched := by
  unfold putVbl
  (try simp)
  all_goals ((repeat' split) <;> (try simp))
  all_goals ((repeat' split) <;> simp_all)

@[simp] theorem putSlot_frame (n : Nat) (s : Slot) (d : Device) :
    (putSlot n s d).pins = d.pins ∧ (putSlot n s d).factory = d.factory ∧ (putSlot n s d).sns = d.sns ∧ (putSlot n s d).chg = d.chg ∧
    (putSlot n s d).bgt = d.bgt ∧ (putSlot n s d).htr = d.htr ∧ (putSlot n s d).cmp = d.cmp ∧ (putSlot n s d).lgt = d.lgt ∧
    (putSlot n s d).rtm = d.rtm ∧ (putSlot n s d).npl = d.npl ∧ (putSlot n s d).lnk = d.lnk ∧ (putSlot n s d).sched = d.sched := by
  unfold putSlot
  (try simp)
  all_goals ((repeat' split) <;> (try simp))
  all_goals ((repeat' split) <;> simp_all)

@[simp] theorem putSignals_frame (t : Signals) (d : Device) :
    (putSignals t d).pins = d.pins ∧ (putSignals t d).factory = d.factory ∧ (putSignals t d).sns = d.sns ∧
    (putSignals t d).chg = d.chg ∧ (putSignals t d).bgt = d.bgt ∧ (putSignals t d).htr = d.htr ∧ (putSignals t d).cmp = d.cmp ∧
    (putSignals t d).lgt = d.lgt ∧ (putSignals t d).rtm = d.rtm ∧ (putSignals t d).npl = d.npl ∧ (putSignals t d).lnk = d.lnk ∧
    (putSignals t d).sched = d.sched := by
  unfold putSignals
  (try simp)
  all_goals ((repeat' split) <;> (try simp))
  all_goals ((repeat' split) <;> simp_all)

@[simp] theorem handSignals_frame (was : Signals) (d : Device) :
    (handSignals was d).pins = d.pins ∧ (handSignals was d).factory = d.factory ∧ (handSignals was d).sns = d.sns ∧
    (handSignals was d).vbl = d.vbl ∧ (handSignals was d).chg = d.chg ∧ (handSignals was d).bgt.horizonSource = d.bgt.horizonSource ∧
    (handSignals was d).bgt.defaultHorizon = d.bgt.defaultHorizon ∧ (handSignals was d).bgt.last = d.bgt.last ∧
    (handSignals was d).bgt.outlet = d.bgt.outlet ∧ (handSignals was d).cmp = d.cmp ∧
    (handSignals was d).lgt.chSettings = d.lgt.chSettings ∧ (handSignals was d).lgt.scenes = d.lgt.scenes ∧
    (handSignals was d).lgt.settings = d.lgt.settings ∧ (handSignals was d).lgt.sources = d.lgt.sources ∧
    (handSignals was d).lgt.ch7Applied = d.lgt.ch7Applied ∧ (handSignals was d).lgt.ch7On = d.lgt.ch7On ∧
    (handSignals was d).lgt.ch7Timer = d.lgt.ch7Timer ∧ (handSignals was d).lgt.buzzer = d.lgt.buzzer ∧
    (handSignals was d).rtm = d.rtm ∧ (handSignals was d).npl = d.npl ∧ (handSignals was d).lnk.receiver = d.lnk.receiver ∧
    (handSignals was d).lnk.lastByte = d.lnk.lastByte ∧ (handSignals was d).lnk.queue = d.lnk.queue ∧
    (handSignals was d).lnk.out = d.lnk.out ∧ (handSignals was d).lnk.tx = d.lnk.tx ∧
    (handSignals was d).lnk.sendEnd = d.lnk.sendEnd ∧ (handSignals was d).lnk.awake = d.lnk.awake ∧
    (handSignals was d).lnk.idle = d.lnk.idle ∧ (handSignals was d).lnk.lastFrame = d.lnk.lastFrame ∧
    (handSignals was d).lnk.enables = d.lnk.enables ∧ (handSignals was d).lnk.idleTime = d.lnk.idleTime ∧
    (handSignals was d).lnk.resetKind = d.lnk.resetKind ∧ (handSignals was d).lnk.resetUptime = d.lnk.resetUptime ∧
    (handSignals was d).sched = d.sched := by
  unfold handSignals
  (try simp)
  all_goals ((repeat' split) <;> (try simp))
  all_goals ((repeat' split) <;> simp_all)

@[simp] theorem mapBusSignals_frame (f : SignalRec → SignalRec) (d : Device) :
    (mapBusSignals f d).pins = d.pins ∧ (mapBusSignals f d).factory = d.factory ∧ (mapBusSignals f d).sns = d.sns ∧
    (mapBusSignals f d).chg = d.chg ∧ (mapBusSignals f d).bgt = d.bgt ∧ (mapBusSignals f d).htr = d.htr ∧
    (mapBusSignals f d).cmp = d.cmp ∧ (mapBusSignals f d).lgt = d.lgt ∧ (mapBusSignals f d).rtm = d.rtm ∧
    (mapBusSignals f d).npl = d.npl ∧ (mapBusSignals f d).lnk = d.lnk ∧ (mapBusSignals f d).sched = d.sched := by
  unfold mapBusSignals
  (try simp)
  all_goals ((repeat' split) <;> (try simp))
  all_goals ((repeat' split) <;> simp_all)

@[simp] theorem wiredBrake_frame (d : Device) :
    (wiredBrake d).pins = d.pins ∧ (wiredBrake d).factory = d.factory ∧ (wiredBrake d).sns = d.sns ∧ (wiredBrake d).chg = d.chg ∧
    (wiredBrake d).bgt = d.bgt ∧ (wiredBrake d).htr = d.htr ∧ (wiredBrake d).cmp = d.cmp ∧ (wiredBrake d).lgt = d.lgt ∧
    (wiredBrake d).rtm = d.rtm ∧ (wiredBrake d).npl = d.npl ∧ (wiredBrake d).lnk = d.lnk ∧ (wiredBrake d).sched = d.sched := by
  unfold wiredBrake
  (try simp)
  all_goals ((repeat' split) <;> (try simp))
  all_goals ((repeat' split) <;> simp_all)

@[simp] theorem slotFrame_frame (n : Nat) (data : List Byte) (d : Device) :
    (slotFrame n data d).pins = d.pins ∧ (slotFrame n data d).factory = d.factory ∧ (slotFrame n data d).sns = d.sns ∧
    (slotFrame n data d).chg = d.chg ∧ (slotFrame n data d).bgt = d.bgt ∧ (slotFrame n data d).htr = d.htr ∧
    (slotFrame n data d).cmp = d.cmp ∧ (slotFrame n data d).lgt = d.lgt ∧ (slotFrame n data d).rtm = d.rtm ∧
    (slotFrame n data d).npl = d.npl ∧ (slotFrame n data d).lnk = d.lnk ∧ (slotFrame n data d).sched = d.sched := by
  unfold slotFrame
  (try simp)
  all_goals ((repeat' split) <;> (try simp))
  all_goals ((repeat' split) <;> simp_all)

@[simp] theorem emptySlot_frame (n : Nat) (d : Device) :
    (emptySlot n d).pins = d.pins ∧ (emptySlot n d).factory = d.factory ∧ (emptySlot n d).sns = d.sns ∧ (emptySlot n d).chg = d.chg ∧
    (emptySlot n d).bgt = d.bgt ∧ (emptySlot n d).htr = d.htr ∧ (emptySlot n d).cmp = d.cmp ∧ (emptySlot n d).lgt = d.lgt ∧
    (emptySlot n d).rtm = d.rtm ∧ (emptySlot n d).npl = d.npl ∧ (emptySlot n d).lnk = d.lnk ∧ (emptySlot n d).sched = d.sched := by
  unfold emptySlot
  (try simp)
  all_goals ((repeat' split) <;> (try simp))
  all_goals ((repeat' split) <;> simp_all)

@[simp] theorem emptySlots_frame (l : List Nat) (d : Device) :
    (l.foldl (fun acc n => emptySlot n acc) d).pins = d.pins ∧ (l.foldl (fun acc n => emptySlot n acc) d).factory = d.factory ∧
    (l.foldl (fun acc n => emptySlot n acc) d).sns = d.sns ∧ (l.foldl (fun acc n => emptySlot n acc) d).chg = d.chg ∧
    (l.foldl (fun acc n => emptySlot n acc) d).bgt = d.bgt ∧ (l.foldl (fun acc n => emptySlot n acc) d).htr = d.htr ∧
    (l.foldl (fun acc n => emptySlot n acc) d).cmp = d.cmp ∧ (l.foldl (fun acc n => emptySlot n acc) d).lgt = d.lgt ∧
    (l.foldl (fun acc n => emptySlot n acc) d).rtm = d.rtm ∧ (l.foldl (fun acc n => emptySlot n acc) d).npl = d.npl ∧
    (l.foldl (fun acc n => emptySlot n acc) d).lnk = d.lnk ∧ (l.foldl (fun acc n => emptySlot n acc) d).sched = d.sched := by
  induction l generalizing d with
  | nil => simp
  | cons a l ih => simp [ih]

@[simp] theorem freshnessExpiry_frame (n : Nat) (d : Device) :
    (freshnessExpiry n d).pins = d.pins ∧ (freshnessExpiry n d).factory = d.factory ∧ (freshnessExpiry n d).sns = d.sns ∧
    (freshnessExpiry n d).chg = d.chg ∧ (freshnessExpiry n d).bgt = d.bgt ∧ (freshnessExpiry n d).htr = d.htr ∧
    (freshnessExpiry n d).cmp = d.cmp ∧ (freshnessExpiry n d).lgt = d.lgt ∧ (freshnessExpiry n d).rtm = d.rtm ∧
    (freshnessExpiry n d).npl = d.npl ∧ (freshnessExpiry n d).lnk = d.lnk ∧ (freshnessExpiry n d).sched = d.sched := by
  unfold freshnessExpiry
  (try simp)
  all_goals ((repeat' split) <;> (try simp))
  all_goals ((repeat' split) <;> simp_all)

@[simp] theorem setListener_frame (st : ListenerState) (silence : Option Nat) (d : Device) :
    (setListener st silence d).pins = d.pins ∧ (setListener st silence d).factory = d.factory ∧
    (setListener st silence d).sns = d.sns ∧ (setListener st silence d).chg = d.chg ∧ (setListener st silence d).bgt = d.bgt ∧
    (setListener st silence d).htr = d.htr ∧ (setListener st silence d).cmp = d.cmp ∧ (setListener st silence d).lgt = d.lgt ∧
    (setListener st silence d).rtm = d.rtm ∧ (setListener st silence d).npl = d.npl ∧
    (setListener st silence d).lnk.receiver = d.lnk.receiver ∧ (setListener st silence d).lnk.lastByte = d.lnk.lastByte ∧
    (setListener st silence d).lnk.queue = d.lnk.queue ∧ (setListener st silence d).lnk.out = d.lnk.out ∧
    (setListener st silence d).lnk.tx = d.lnk.tx ∧ (setListener st silence d).lnk.sendEnd = d.lnk.sendEnd ∧
    (setListener st silence d).lnk.awake = d.lnk.awake ∧ (setListener st silence d).lnk.idle = d.lnk.idle ∧
    (setListener st silence d).lnk.lastFrame = d.lnk.lastFrame ∧ (setListener st silence d).lnk.enables = d.lnk.enables ∧
    (setListener st silence d).lnk.idleTime = d.lnk.idleTime ∧ (setListener st silence d).lnk.resetKind = d.lnk.resetKind ∧
    (setListener st silence d).lnk.resetUptime = d.lnk.resetUptime ∧ (setListener st silence d).sched = d.sched := by
  unfold setListener
  (try simp)
  all_goals ((repeat' split) <;> (try simp))
  all_goals ((repeat' split) <;> simp_all)

@[simp] theorem canFrame_frame (format : FrameFormat) (ident : Nat) (data : List Byte) (d : Device) :
    (canFrame format ident data d).pins = d.pins ∧ (canFrame format ident data d).factory = d.factory ∧
    (canFrame format ident data d).sns = d.sns ∧ (canFrame format ident data d).chg = d.chg ∧
    (canFrame format ident data d).bgt = d.bgt ∧ (canFrame format ident data d).htr = d.htr ∧
    (canFrame format ident data d).cmp = d.cmp ∧ (canFrame format ident data d).lgt = d.lgt ∧
    (canFrame format ident data d).rtm = d.rtm ∧ (canFrame format ident data d).npl = d.npl ∧
    (canFrame format ident data d).lnk.receiver = d.lnk.receiver ∧ (canFrame format ident data d).lnk.lastByte = d.lnk.lastByte ∧
    (canFrame format ident data d).lnk.queue = d.lnk.queue ∧ (canFrame format ident data d).lnk.out = d.lnk.out ∧
    (canFrame format ident data d).lnk.tx = d.lnk.tx ∧ (canFrame format ident data d).lnk.sendEnd = d.lnk.sendEnd ∧
    (canFrame format ident data d).lnk.awake = d.lnk.awake ∧ (canFrame format ident data d).lnk.idle = d.lnk.idle ∧
    (canFrame format ident data d).lnk.lastFrame = d.lnk.lastFrame ∧ (canFrame format ident data d).lnk.enables = d.lnk.enables ∧
    (canFrame format ident data d).lnk.idleTime = d.lnk.idleTime ∧ (canFrame format ident data d).lnk.resetKind = d.lnk.resetKind ∧
    (canFrame format ident data d).lnk.resetUptime = d.lnk.resetUptime ∧ (canFrame format ident data d).sched = d.sched := by
  unfold canFrame
  (try simp)
  all_goals ((repeat' split) <;> (try simp))
  all_goals ((repeat' split) <;> simp_all)

@[simp] theorem silenceExpiry_frame (d : Device) :
    (silenceExpiry d).pins = d.pins ∧ (silenceExpiry d).factory = d.factory ∧ (silenceExpiry d).sns = d.sns ∧
    (silenceExpiry d).chg = d.chg ∧ (silenceExpiry d).bgt = d.bgt ∧ (silenceExpiry d).htr = d.htr ∧ (silenceExpiry d).cmp = d.cmp ∧
    (silenceExpiry d).lgt = d.lgt ∧ (silenceExpiry d).rtm = d.rtm ∧ (silenceExpiry d).npl = d.npl ∧
    (silenceExpiry d).lnk.receiver = d.lnk.receiver ∧ (silenceExpiry d).lnk.lastByte = d.lnk.lastByte ∧
    (silenceExpiry d).lnk.queue = d.lnk.queue ∧ (silenceExpiry d).lnk.out = d.lnk.out ∧ (silenceExpiry d).lnk.tx = d.lnk.tx ∧
    (silenceExpiry d).lnk.sendEnd = d.lnk.sendEnd ∧ (silenceExpiry d).lnk.awake = d.lnk.awake ∧
    (silenceExpiry d).lnk.idle = d.lnk.idle ∧ (silenceExpiry d).lnk.lastFrame = d.lnk.lastFrame ∧
    (silenceExpiry d).lnk.enables = d.lnk.enables ∧ (silenceExpiry d).lnk.idleTime = d.lnk.idleTime ∧
    (silenceExpiry d).lnk.resetKind = d.lnk.resetKind ∧ (silenceExpiry d).lnk.resetUptime = d.lnk.resetUptime ∧
    (silenceExpiry d).sched = d.sched := by
  unfold silenceExpiry
  (try simp)
  all_goals ((repeat' split) <;> (try simp))
  all_goals ((repeat' split) <;> simp_all)

@[simp] theorem listenerOff_frame (d : Device) :
    (listenerOff d).pins = d.pins ∧ (listenerOff d).factory = d.factory ∧ (listenerOff d).sns = d.sns ∧ (listenerOff d).chg = d.chg ∧
    (listenerOff d).bgt = d.bgt ∧ (listenerOff d).htr = d.htr ∧ (listenerOff d).cmp = d.cmp ∧ (listenerOff d).lgt = d.lgt ∧
    (listenerOff d).rtm = d.rtm ∧ (listenerOff d).npl = d.npl ∧ (listenerOff d).lnk.receiver = d.lnk.receiver ∧
    (listenerOff d).lnk.lastByte = d.lnk.lastByte ∧ (listenerOff d).lnk.queue = d.lnk.queue ∧ (listenerOff d).lnk.out = d.lnk.out ∧
    (listenerOff d).lnk.tx = d.lnk.tx ∧ (listenerOff d).lnk.sendEnd = d.lnk.sendEnd ∧ (listenerOff d).lnk.awake = d.lnk.awake ∧
    (listenerOff d).lnk.idle = d.lnk.idle ∧ (listenerOff d).lnk.lastFrame = d.lnk.lastFrame ∧
    (listenerOff d).lnk.enables = d.lnk.enables ∧ (listenerOff d).lnk.idleTime = d.lnk.idleTime ∧
    (listenerOff d).lnk.resetKind = d.lnk.resetKind ∧ (listenerOff d).lnk.resetUptime = d.lnk.resetUptime ∧
    (listenerOff d).sched = d.sched := by
  unfold listenerOff
  (try simp)
  all_goals ((repeat' split) <;> (try simp))
  all_goals ((repeat' split) <;> simp_all)

@[simp] theorem setEnable_frame (on : Bool) (d : Device) :
    (setEnable on d).pins = d.pins ∧ (setEnable on d).factory = d.factory ∧ (setEnable on d).sns = d.sns ∧
    (setEnable on d).chg = d.chg ∧ (setEnable on d).bgt = d.bgt ∧ (setEnable on d).htr = d.htr ∧ (setEnable on d).cmp = d.cmp ∧
    (setEnable on d).lgt = d.lgt ∧ (setEnable on d).rtm = d.rtm ∧ (setEnable on d).npl = d.npl ∧
    (setEnable on d).lnk.receiver = d.lnk.receiver ∧ (setEnable on d).lnk.lastByte = d.lnk.lastByte ∧
    (setEnable on d).lnk.queue = d.lnk.queue ∧ (setEnable on d).lnk.out = d.lnk.out ∧ (setEnable on d).lnk.tx = d.lnk.tx ∧
    (setEnable on d).lnk.sendEnd = d.lnk.sendEnd ∧ (setEnable on d).lnk.awake = d.lnk.awake ∧ (setEnable on d).lnk.idle = d.lnk.idle ∧
    (setEnable on d).lnk.lastFrame = d.lnk.lastFrame ∧ (setEnable on d).lnk.enables = d.lnk.enables ∧
    (setEnable on d).lnk.idleTime = d.lnk.idleTime ∧ (setEnable on d).lnk.resetKind = d.lnk.resetKind ∧
    (setEnable on d).lnk.resetUptime = d.lnk.resetUptime ∧ (setEnable on d).sched = d.sched := by
  unfold setEnable
  (try simp)
  all_goals ((repeat' split) <;> (try simp))
  all_goals ((repeat' split) <;> simp_all)

@[simp] theorem setMask_frame (mask : Nat) (d : Device) :
    (setMask mask d).pins = d.pins ∧ (setMask mask d).factory = d.factory ∧ (setMask mask d).sns = d.sns ∧
    (setMask mask d).chg = d.chg ∧ (setMask mask d).bgt = d.bgt ∧ (setMask mask d).htr = d.htr ∧ (setMask mask d).cmp = d.cmp ∧
    (setMask mask d).lgt = d.lgt ∧ (setMask mask d).rtm = d.rtm ∧ (setMask mask d).npl = d.npl ∧ (setMask mask d).lnk = d.lnk ∧
    (setMask mask d).sched = d.sched := by
  unfold setMask
  (try simp)
  all_goals ((repeat' split) <;> (try simp))
  all_goals ((repeat' split) <;> simp_all)

@[simp] theorem setSource_frame (source : BrakeSource) (d : Device) :
    (setSource source d).pins = d.pins ∧ (setSource source d).factory = d.factory ∧ (setSource source d).sns = d.sns ∧
    (setSource source d).chg = d.chg ∧ (setSource source d).bgt = d.bgt ∧ (setSource source d).htr = d.htr ∧
    (setSource source d).cmp = d.cmp ∧ (setSource source d).lgt = d.lgt ∧ (setSource source d).rtm = d.rtm ∧
    (setSource source d).npl = d.npl ∧ (setSource source d).lnk = d.lnk ∧ (setSource source d).sched = d.sched := by
  unfold setSource
  (try simp)
  all_goals ((repeat' split) <;> (try simp))
  all_goals ((repeat' split) <;> simp_all)

@[simp] theorem busConfigRequest_frame (b : List Byte) (d : Device) :
    ((busConfigRequest b d).dev).pins = d.pins ∧ ((busConfigRequest b d).dev).factory = d.factory ∧
    ((busConfigRequest b d).dev).sns = d.sns ∧ ((busConfigRequest b d).dev).chg = d.chg ∧
    ((busConfigRequest b d).dev).bgt.horizonSource = d.bgt.horizonSource ∧
    ((busConfigRequest b d).dev).bgt.defaultHorizon = d.bgt.defaultHorizon ∧ ((busConfigRequest b d).dev).bgt.last = d.bgt.last ∧
    ((busConfigRequest b d).dev).bgt.outlet = d.bgt.outlet ∧ ((busConfigRequest b d).dev).cmp = d.cmp ∧
    ((busConfigRequest b d).dev).lgt.chSettings = d.lgt.chSettings ∧ ((busConfigRequest b d).dev).lgt.scenes = d.lgt.scenes ∧
    ((busConfigRequest b d).dev).lgt.settings = d.lgt.settings ∧ ((busConfigRequest b d).dev).lgt.sources = d.lgt.sources ∧
    ((busConfigRequest b d).dev).lgt.ch7Applied = d.lgt.ch7Applied ∧ ((busConfigRequest b d).dev).lgt.ch7On = d.lgt.ch7On ∧
    ((busConfigRequest b d).dev).lgt.ch7Timer = d.lgt.ch7Timer ∧ ((busConfigRequest b d).dev).lgt.buzzer = d.lgt.buzzer ∧
    ((busConfigRequest b d).dev).rtm = d.rtm ∧ ((busConfigRequest b d).dev).npl = d.npl ∧
    ((busConfigRequest b d).dev).lnk.receiver = d.lnk.receiver ∧ ((busConfigRequest b d).dev).lnk.lastByte = d.lnk.lastByte ∧
    ((busConfigRequest b d).dev).lnk.queue = d.lnk.queue ∧ ((busConfigRequest b d).dev).lnk.out = d.lnk.out ∧
    ((busConfigRequest b d).dev).lnk.tx = d.lnk.tx ∧ ((busConfigRequest b d).dev).lnk.sendEnd = d.lnk.sendEnd ∧
    ((busConfigRequest b d).dev).lnk.awake = d.lnk.awake ∧ ((busConfigRequest b d).dev).lnk.idle = d.lnk.idle ∧
    ((busConfigRequest b d).dev).lnk.lastFrame = d.lnk.lastFrame ∧ ((busConfigRequest b d).dev).lnk.enables = d.lnk.enables ∧
    ((busConfigRequest b d).dev).lnk.idleTime = d.lnk.idleTime ∧ ((busConfigRequest b d).dev).lnk.resetKind = d.lnk.resetKind ∧
    ((busConfigRequest b d).dev).lnk.resetUptime = d.lnk.resetUptime ∧ ((busConfigRequest b d).dev).sched = d.sched := by
  unfold busConfigRequest
  simp only [handing]
  (try simp)
  all_goals ((repeat' split) <;> (try simp))
  all_goals ((repeat' split) <;> simp_all)

@[simp] theorem busSlotSetRequest_frame (b : List Byte) (d : Device) :
    ((busSlotSetRequest b d).dev).pins = d.pins ∧ ((busSlotSetRequest b d).dev).factory = d.factory ∧
    ((busSlotSetRequest b d).dev).sns = d.sns ∧ ((busSlotSetRequest b d).dev).chg = d.chg ∧
    ((busSlotSetRequest b d).dev).bgt.horizonSource = d.bgt.horizonSource ∧
    ((busSlotSetRequest b d).dev).bgt.defaultHorizon = d.bgt.defaultHorizon ∧ ((busSlotSetRequest b d).dev).bgt.last = d.bgt.last ∧
    ((busSlotSetRequest b d).dev).bgt.outlet = d.bgt.outlet ∧ ((busSlotSetRequest b d).dev).cmp = d.cmp ∧
    ((busSlotSetRequest b d).dev).lgt.chSettings = d.lgt.chSettings ∧ ((busSlotSetRequest b d).dev).lgt.scenes = d.lgt.scenes ∧
    ((busSlotSetRequest b d).dev).lgt.settings = d.lgt.settings ∧ ((busSlotSetRequest b d).dev).lgt.sources = d.lgt.sources ∧
    ((busSlotSetRequest b d).dev).lgt.ch7Applied = d.lgt.ch7Applied ∧ ((busSlotSetRequest b d).dev).lgt.ch7On = d.lgt.ch7On ∧
    ((busSlotSetRequest b d).dev).lgt.ch7Timer = d.lgt.ch7Timer ∧ ((busSlotSetRequest b d).dev).lgt.buzzer = d.lgt.buzzer ∧
    ((busSlotSetRequest b d).dev).rtm = d.rtm ∧ ((busSlotSetRequest b d).dev).npl = d.npl ∧
    ((busSlotSetRequest b d).dev).lnk.receiver = d.lnk.receiver ∧ ((busSlotSetRequest b d).dev).lnk.lastByte = d.lnk.lastByte ∧
    ((busSlotSetRequest b d).dev).lnk.queue = d.lnk.queue ∧ ((busSlotSetRequest b d).dev).lnk.out = d.lnk.out ∧
    ((busSlotSetRequest b d).dev).lnk.tx = d.lnk.tx ∧ ((busSlotSetRequest b d).dev).lnk.sendEnd = d.lnk.sendEnd ∧
    ((busSlotSetRequest b d).dev).lnk.awake = d.lnk.awake ∧ ((busSlotSetRequest b d).dev).lnk.idle = d.lnk.idle ∧
    ((busSlotSetRequest b d).dev).lnk.lastFrame = d.lnk.lastFrame ∧ ((busSlotSetRequest b d).dev).lnk.enables = d.lnk.enables ∧
    ((busSlotSetRequest b d).dev).lnk.idleTime = d.lnk.idleTime ∧ ((busSlotSetRequest b d).dev).lnk.resetKind = d.lnk.resetKind ∧
    ((busSlotSetRequest b d).dev).lnk.resetUptime = d.lnk.resetUptime ∧ ((busSlotSetRequest b d).dev).sched = d.sched := by
  unfold busSlotSetRequest
  simp only [handing]
  (try simp)
  all_goals ((repeat' split) <;> (try simp))
  all_goals ((repeat' split) <;> simp_all)

@[simp] theorem bindSignal_frame (g : Signal) (binding : Option Binding) (d : Device) :
    (bindSignal g binding d).pins = d.pins ∧ (bindSignal g binding d).factory = d.factory ∧ (bindSignal g binding d).sns = d.sns ∧
    (bindSignal g binding d).chg = d.chg ∧ (bindSignal g binding d).bgt = d.bgt ∧ (bindSignal g binding d).htr = d.htr ∧
    (bindSignal g binding d).cmp = d.cmp ∧ (bindSignal g binding d).lgt = d.lgt ∧ (bindSignal g binding d).rtm = d.rtm ∧
    (bindSignal g binding d).npl = d.npl ∧ (bindSignal g binding d).lnk = d.lnk ∧ (bindSignal g binding d).sched = d.sched := by
  unfold bindSignal
  (try simp)
  all_goals ((repeat' split) <;> (try simp))
  all_goals ((repeat' split) <;> simp_all)

@[simp] theorem busBindRequest_frame (b : List Byte) (d : Device) :
    ((busBindRequest b d).dev).pins = d.pins ∧ ((busBindRequest b d).dev).factory = d.factory ∧
    ((busBindRequest b d).dev).sns = d.sns ∧ ((busBindRequest b d).dev).chg = d.chg ∧
    ((busBindRequest b d).dev).bgt.horizonSource = d.bgt.horizonSource ∧
    ((busBindRequest b d).dev).bgt.defaultHorizon = d.bgt.defaultHorizon ∧ ((busBindRequest b d).dev).bgt.last = d.bgt.last ∧
    ((busBindRequest b d).dev).bgt.outlet = d.bgt.outlet ∧ ((busBindRequest b d).dev).cmp = d.cmp ∧
    ((busBindRequest b d).dev).lgt.chSettings = d.lgt.chSettings ∧ ((busBindRequest b d).dev).lgt.scenes = d.lgt.scenes ∧
    ((busBindRequest b d).dev).lgt.settings = d.lgt.settings ∧ ((busBindRequest b d).dev).lgt.sources = d.lgt.sources ∧
    ((busBindRequest b d).dev).lgt.ch7Applied = d.lgt.ch7Applied ∧ ((busBindRequest b d).dev).lgt.ch7On = d.lgt.ch7On ∧
    ((busBindRequest b d).dev).lgt.ch7Timer = d.lgt.ch7Timer ∧ ((busBindRequest b d).dev).lgt.buzzer = d.lgt.buzzer ∧
    ((busBindRequest b d).dev).rtm = d.rtm ∧ ((busBindRequest b d).dev).npl = d.npl ∧
    ((busBindRequest b d).dev).lnk.receiver = d.lnk.receiver ∧ ((busBindRequest b d).dev).lnk.lastByte = d.lnk.lastByte ∧
    ((busBindRequest b d).dev).lnk.queue = d.lnk.queue ∧ ((busBindRequest b d).dev).lnk.out = d.lnk.out ∧
    ((busBindRequest b d).dev).lnk.tx = d.lnk.tx ∧ ((busBindRequest b d).dev).lnk.sendEnd = d.lnk.sendEnd ∧
    ((busBindRequest b d).dev).lnk.awake = d.lnk.awake ∧ ((busBindRequest b d).dev).lnk.idle = d.lnk.idle ∧
    ((busBindRequest b d).dev).lnk.lastFrame = d.lnk.lastFrame ∧ ((busBindRequest b d).dev).lnk.enables = d.lnk.enables ∧
    ((busBindRequest b d).dev).lnk.idleTime = d.lnk.idleTime ∧ ((busBindRequest b d).dev).lnk.resetKind = d.lnk.resetKind ∧
    ((busBindRequest b d).dev).lnk.resetUptime = d.lnk.resetUptime ∧ ((busBindRequest b d).dev).sched = d.sched := by
  unfold busBindRequest
  simp only [handing]
  (try simp)
  all_goals ((repeat' split) <;> (try simp))
  all_goals ((repeat' split) <;> simp_all)

@[simp] theorem readVehicleRequest_frame (b : List Byte) (d : Device) :
    ((readVehicleRequest b d).dev).pins = d.pins ∧ ((readVehicleRequest b d).dev).factory = d.factory ∧
    ((readVehicleRequest b d).dev).sns = d.sns ∧ ((readVehicleRequest b d).dev).vbl = d.vbl ∧
    ((readVehicleRequest b d).dev).chg = d.chg ∧ ((readVehicleRequest b d).dev).bgt = d.bgt ∧
    ((readVehicleRequest b d).dev).htr = d.htr ∧ ((readVehicleRequest b d).dev).cmp = d.cmp ∧
    ((readVehicleRequest b d).dev).lgt = d.lgt ∧ ((readVehicleRequest b d).dev).rtm = d.rtm ∧
    ((readVehicleRequest b d).dev).npl = d.npl ∧ ((readVehicleRequest b d).dev).lnk = d.lnk ∧
    ((readVehicleRequest b d).dev).sched = d.sched := by
  unfold readVehicleRequest
  (try simp)
  all_goals ((repeat' split) <;> (try simp))
  all_goals ((repeat' split) <;> simp_all)

/-! ## Sensing -/

@[simp] theorem putSns_frame (x : Sensing) (d : Device) :
    (putSns x d).pins = d.pins ∧ (putSns x d).factory = d.factory ∧ (putSns x d).vbl = d.vbl ∧ (putSns x d).chg = d.chg ∧
    (putSns x d).bgt = d.bgt ∧ (putSns x d).htr = d.htr ∧ (putSns x d).cmp = d.cmp ∧ (putSns x d).lgt = d.lgt ∧
    (putSns x d).rtm = d.rtm ∧ (putSns x d).npl = d.npl ∧ (putSns x d).lnk = d.lnk ∧ (putSns x d).sched = d.sched := by
  unfold putSns
  (try simp)
  all_goals ((repeat' split) <;> (try simp))
  all_goals ((repeat' split) <;> simp_all)

@[simp] theorem sensorFaults_frame (was : Analog) (d : Device) :
    (sensorFaults was d).pins = d.pins ∧ (sensorFaults was d).factory = d.factory ∧ (sensorFaults was d).sns = d.sns ∧
    (sensorFaults was d).vbl = d.vbl ∧ (sensorFaults was d).chg = d.chg ∧ (sensorFaults was d).bgt = d.bgt ∧
    (sensorFaults was d).htr = d.htr ∧ (sensorFaults was d).cmp = d.cmp ∧ (sensorFaults was d).lgt.channels = d.lgt.channels ∧
    (sensorFaults was d).lgt.chSettings = d.lgt.chSettings ∧ (sensorFaults was d).lgt.capStep = d.lgt.capStep ∧
    (sensorFaults was d).lgt.written = d.lgt.written ∧ (sensorFaults was d).lgt.scenes = d.lgt.scenes ∧
    (sensorFaults was d).lgt.settings = d.lgt.settings ∧ (sensorFaults was d).lgt.courtesyTimer = d.lgt.courtesyTimer ∧
    (sensorFaults was d).lgt.ch7Applied = d.lgt.ch7Applied ∧ (sensorFaults was d).rtm = d.rtm ∧ (sensorFaults was d).npl = d.npl ∧
    (sensorFaults was d).lnk.receiver = d.lnk.receiver ∧ (sensorFaults was d).lnk.lastByte = d.lnk.lastByte ∧
    (sensorFaults was d).lnk.queue = d.lnk.queue ∧ (sensorFaults was d).lnk.out = d.lnk.out ∧ (sensorFaults was d).lnk.tx = d.lnk.tx ∧
    (sensorFaults was d).lnk.sendEnd = d.lnk.sendEnd ∧ (sensorFaults was d).lnk.awake = d.lnk.awake ∧
    (sensorFaults was d).lnk.idle = d.lnk.idle ∧ (sensorFaults was d).lnk.lastFrame = d.lnk.lastFrame ∧
    (sensorFaults was d).lnk.enables = d.lnk.enables ∧ (sensorFaults was d).lnk.idleTime = d.lnk.idleTime ∧
    (sensorFaults was d).lnk.resetKind = d.lnk.resetKind ∧ (sensorFaults was d).lnk.resetUptime = d.lnk.resetUptime ∧
    (sensorFaults was d).sched = d.sched := by
  unfold sensorFaults
  extract_lets now posted fresh severity d1 d2
  split <;> simp [d2, d1]

@[simp] theorem handSample_frame (d : Device) :
    (handSample d).pins = d.pins ∧ (handSample d).factory = d.factory ∧ (handSample d).sns = d.sns ∧ (handSample d).vbl = d.vbl ∧
    (handSample d).bgt = d.bgt ∧ (handSample d).htr = d.htr ∧ (handSample d).cmp = d.cmp ∧ (handSample d).lgt = d.lgt ∧
    (handSample d).rtm = d.rtm ∧ (handSample d).npl = d.npl ∧ (handSample d).lnk = d.lnk ∧ (handSample d).sched = d.sched := by
  unfold handSample
  (try simp)
  all_goals ((repeat' split) <;> (try simp))
  all_goals ((repeat' split) <;> simp_all)

@[simp] theorem sweep_frame (codes : SweepCodes) (d0 : Device) :
    (sweep codes d0).factory = d0.factory ∧ (sweep codes d0).sns.uptime = d0.sns.uptime ∧
    (sweep codes d0).sns.clockSet = d0.sns.clockSet ∧ (sweep codes d0).sns.clockOffset = d0.sns.clockOffset ∧
    (sweep codes d0).sns.tables = d0.sns.tables ∧ (sweep codes d0).sns.lines = d0.sns.lines ∧
    (sweep codes d0).sns.dial = d0.sns.dial ∧ (sweep codes d0).vbl = d0.vbl ∧
    (sweep codes d0).bgt.horizonSource = d0.bgt.horizonSource ∧ (sweep codes d0).bgt.defaultHorizon = d0.bgt.defaultHorizon ∧
    (sweep codes d0).bgt.last = d0.bgt.last ∧ (sweep codes d0).bgt.outlet = d0.bgt.outlet ∧
    (sweep codes d0).lgt.channels = d0.lgt.channels ∧ (sweep codes d0).lgt.chSettings = d0.lgt.chSettings ∧
    (sweep codes d0).lgt.capStep = d0.lgt.capStep ∧ (sweep codes d0).lgt.written = d0.lgt.written ∧
    (sweep codes d0).lgt.scenes = d0.lgt.scenes ∧ (sweep codes d0).lgt.settings = d0.lgt.settings ∧
    (sweep codes d0).lgt.courtesyTimer = d0.lgt.courtesyTimer ∧ (sweep codes d0).lgt.ch7Applied = d0.lgt.ch7Applied ∧
    (sweep codes d0).rtm = d0.rtm ∧ (sweep codes d0).npl.state = d0.npl.state ∧ (sweep codes d0).npl.source = d0.npl.source ∧
    (sweep codes d0).npl.wake = d0.npl.wake ∧ (sweep codes d0).npl.setpoint = d0.npl.setpoint ∧
    (sweep codes d0).npl.lead = d0.npl.lead ∧ (sweep codes d0).npl.wakeLights = d0.npl.wakeLights ∧
    (sweep codes d0).npl.quiet = d0.npl.quiet ∧ (sweep codes d0).npl.hostQuiet = d0.npl.hostQuiet ∧
    (sweep codes d0).npl.lastClass = d0.npl.lastClass ∧ (sweep codes d0).npl.lastProjection = d0.npl.lastProjection ∧
    (sweep codes d0).npl.horizonHanded = d0.npl.horizonHanded ∧ (sweep codes d0).npl.result = d0.npl.result ∧
    (sweep codes d0).npl.causes = d0.npl.causes ∧ (sweep codes d0).lnk.receiver = d0.lnk.receiver ∧
    (sweep codes d0).lnk.lastByte = d0.lnk.lastByte ∧ (sweep codes d0).lnk.queue = d0.lnk.queue ∧
    (sweep codes d0).lnk.out = d0.lnk.out ∧ (sweep codes d0).lnk.tx = d0.lnk.tx ∧ (sweep codes d0).lnk.sendEnd = d0.lnk.sendEnd ∧
    (sweep codes d0).lnk.awake = d0.lnk.awake ∧ (sweep codes d0).lnk.idle = d0.lnk.idle ∧
    (sweep codes d0).lnk.lastFrame = d0.lnk.lastFrame ∧ (sweep codes d0).lnk.enables = d0.lnk.enables ∧
    (sweep codes d0).lnk.idleTime = d0.lnk.idleTime ∧ (sweep codes d0).lnk.resetKind = d0.lnk.resetKind ∧
    (sweep codes d0).lnk.resetUptime = d0.lnk.resetUptime := by
  unfold sweep
  (try simp)
  all_goals ((repeat' split) <;> (try simp))
  all_goals ((repeat' split) <;> simp_all)

@[simp] theorem deliverEvent_frame (line : Nat) (rising : Bool) (d : Device) :
    (deliverEvent line rising d).pins = d.pins ∧ (deliverEvent line rising d).factory = d.factory ∧
    (deliverEvent line rising d).sns.ms = d.sns.ms ∧ (deliverEvent line rising d).sns.uptime = d.sns.uptime ∧
    (deliverEvent line rising d).sns.clockSet = d.sns.clockSet ∧ (deliverEvent line rising d).sns.clockOffset = d.sns.clockOffset ∧
    (deliverEvent line rising d).sns.analog = d.sns.analog ∧ (deliverEvent line rising d).sns.tables = d.sns.tables ∧
    (deliverEvent line rising d).sns.lines = d.sns.lines ∧ (deliverEvent line rising d).sns.dial = d.sns.dial ∧
    (deliverEvent line rising d).chg = d.chg ∧ (deliverEvent line rising d).bgt.horizonSource = d.bgt.horizonSource ∧
    (deliverEvent line rising d).bgt.defaultHorizon = d.bgt.defaultHorizon ∧ (deliverEvent line rising d).bgt.last = d.bgt.last ∧
    (deliverEvent line rising d).lgt.chSettings = d.lgt.chSettings ∧ (deliverEvent line rising d).lgt.scenes = d.lgt.scenes ∧
    (deliverEvent line rising d).lgt.settings = d.lgt.settings ∧ (deliverEvent line rising d).lgt.ch7Applied = d.lgt.ch7Applied ∧
    (deliverEvent line rising d).npl.state = d.npl.state ∧ (deliverEvent line rising d).npl.source = d.npl.source ∧
    (deliverEvent line rising d).npl.wake = d.npl.wake ∧ (deliverEvent line rising d).npl.setpoint = d.npl.setpoint ∧
    (deliverEvent line rising d).npl.lead = d.npl.lead ∧ (deliverEvent line rising d).npl.wakeLights = d.npl.wakeLights ∧
    (deliverEvent line rising d).npl.quiet = d.npl.quiet ∧ (deliverEvent line rising d).npl.hostQuiet = d.npl.hostQuiet ∧
    (deliverEvent line rising d).npl.lastClass = d.npl.lastClass ∧
    (deliverEvent line rising d).npl.lastProjection = d.npl.lastProjection ∧
    (deliverEvent line rising d).npl.horizonHanded = d.npl.horizonHanded ∧ (deliverEvent line rising d).npl.result = d.npl.result ∧
    (deliverEvent line rising d).npl.causes = d.npl.causes ∧ (deliverEvent line rising d).lnk.receiver = d.lnk.receiver ∧
    (deliverEvent line rising d).lnk.lastByte = d.lnk.lastByte ∧ (deliverEvent line rising d).lnk.queue = d.lnk.queue ∧
    (deliverEvent line rising d).lnk.out = d.lnk.out ∧ (deliverEvent line rising d).lnk.tx = d.lnk.tx ∧
    (deliverEvent line rising d).lnk.sendEnd = d.lnk.sendEnd ∧ (deliverEvent line rising d).lnk.awake = d.lnk.awake ∧
    (deliverEvent line rising d).lnk.idle = d.lnk.idle ∧ (deliverEvent line rising d).lnk.lastFrame = d.lnk.lastFrame ∧
    (deliverEvent line rising d).lnk.enables = d.lnk.enables ∧ (deliverEvent line rising d).lnk.idleTime = d.lnk.idleTime ∧
    (deliverEvent line rising d).lnk.resetKind = d.lnk.resetKind ∧ (deliverEvent line rising d).lnk.resetUptime = d.lnk.resetUptime ∧
    (deliverEvent line rising d).sched = d.sched := by
  unfold deliverEvent
  (try simp)
  all_goals ((repeat' split) <;> (try simp))
  all_goals ((repeat' split) <;> simp_all)

@[simp] theorem deliveredChange_frame (line : Nat) (level forcing : Bool) (d : Device) :
    (deliveredChange line level forcing d).pins = d.pins ∧ (deliveredChange line level forcing d).factory = d.factory ∧
    (deliveredChange line level forcing d).sns.ms = d.sns.ms ∧ (deliveredChange line level forcing d).sns.uptime = d.sns.uptime ∧
    (deliveredChange line level forcing d).sns.clockSet = d.sns.clockSet ∧
    (deliveredChange line level forcing d).sns.clockOffset = d.sns.clockOffset ∧
    (deliveredChange line level forcing d).sns.analog = d.sns.analog ∧
    (deliveredChange line level forcing d).sns.tables = d.sns.tables ∧
    (deliveredChange line level forcing d).sns.lines = d.sns.lines ∧ (deliveredChange line level forcing d).sns.dial = d.sns.dial ∧
    (deliveredChange line level forcing d).chg = d.chg ∧
    (deliveredChange line level forcing d).bgt.horizonSource = d.bgt.horizonSource ∧
    (deliveredChange line level forcing d).bgt.defaultHorizon = d.bgt.defaultHorizon ∧
    (deliveredChange line level forcing d).bgt.last = d.bgt.last ∧
    (deliveredChange line level forcing d).lgt.chSettings = d.lgt.chSettings ∧
    (deliveredChange line level forcing d).lgt.scenes = d.lgt.scenes ∧
    (deliveredChange line level forcing d).lgt.settings = d.lgt.settings ∧
    (deliveredChange line level forcing d).lgt.ch7Applied = d.lgt.ch7Applied ∧
    (deliveredChange line level forcing d).npl.state = d.npl.state ∧
    (deliveredChange line level forcing d).npl.source = d.npl.source ∧ (deliveredChange line level forcing d).npl.wake = d.npl.wake ∧
    (deliveredChange line level forcing d).npl.setpoint = d.npl.setpoint ∧
    (deliveredChange line level forcing d).npl.lead = d.npl.lead ∧
    (deliveredChange line level forcing d).npl.wakeLights = d.npl.wakeLights ∧
    (deliveredChange line level forcing d).npl.quiet = d.npl.quiet ∧
    (deliveredChange line level forcing d).npl.hostQuiet = d.npl.hostQuiet ∧
    (deliveredChange line level forcing d).npl.lastClass = d.npl.lastClass ∧
    (deliveredChange line level forcing d).npl.lastProjection = d.npl.lastProjection ∧
    (deliveredChange line level forcing d).npl.horizonHanded = d.npl.horizonHanded ∧
    (deliveredChange line level forcing d).npl.result = d.npl.result ∧
    (deliveredChange line level forcing d).npl.causes = d.npl.causes ∧
    (deliveredChange line level forcing d).lnk.receiver = d.lnk.receiver ∧
    (deliveredChange line level forcing d).lnk.lastByte = d.lnk.lastByte ∧
    (deliveredChange line level forcing d).lnk.queue = d.lnk.queue ∧ (deliveredChange line level forcing d).lnk.out = d.lnk.out ∧
    (deliveredChange line level forcing d).lnk.tx = d.lnk.tx ∧ (deliveredChange line level forcing d).lnk.sendEnd = d.lnk.sendEnd ∧
    (deliveredChange line level forcing d).lnk.awake = d.lnk.awake ∧ (deliveredChange line level forcing d).lnk.idle = d.lnk.idle ∧
    (deliveredChange line level forcing d).lnk.lastFrame = d.lnk.lastFrame ∧
    (deliveredChange line level forcing d).lnk.enables = d.lnk.enables ∧
    (deliveredChange line level forcing d).lnk.idleTime = d.lnk.idleTime ∧
    (deliveredChange line level forcing d).lnk.resetKind = d.lnk.resetKind ∧
    (deliveredChange line level forcing d).lnk.resetUptime = d.lnk.resetUptime ∧
    (deliveredChange line level forcing d).sched = d.sched := by
  unfold deliveredChange
  (try simp)
  all_goals ((repeat' split) <;> (try simp))
  all_goals ((repeat' split) <;> simp_all)

@[simp] theorem putPin_frame (line : Nat) (high : Bool) (d : Device) :
    (putPin line high d).factory = d.factory ∧ (putPin line high d).sns = d.sns ∧ (putPin line high d).vbl = d.vbl ∧
    (putPin line high d).chg = d.chg ∧ (putPin line high d).bgt = d.bgt ∧ (putPin line high d).htr = d.htr ∧
    (putPin line high d).cmp = d.cmp ∧ (putPin line high d).lgt = d.lgt ∧ (putPin line high d).rtm = d.rtm ∧
    (putPin line high d).npl = d.npl ∧ (putPin line high d).lnk = d.lnk ∧ (putPin line high d).sched = d.sched := by
  unfold putPin
  (try simp)
  all_goals ((repeat' split) <;> (try simp))
  all_goals ((repeat' split) <;> simp_all)

@[simp] theorem putRaw_frame (line : Nat) (level : Bool) (d : Device) :
    (putRaw line level d).factory = d.factory ∧ (putRaw line level d).sns = d.sns ∧ (putRaw line level d).vbl = d.vbl ∧
    (putRaw line level d).chg = d.chg ∧ (putRaw line level d).bgt = d.bgt ∧ (putRaw line level d).htr = d.htr ∧
    (putRaw line level d).cmp = d.cmp ∧ (putRaw line level d).lgt = d.lgt ∧ (putRaw line level d).rtm = d.rtm ∧
    (putRaw line level d).npl = d.npl ∧ (putRaw line level d).lnk = d.lnk ∧ (putRaw line level d).sched = d.sched := by
  unfold putRaw
  (try simp)
  all_goals ((repeat' split) <;> (try simp))
  all_goals ((repeat' split) <;> simp_all)

@[simp] theorem holdFuel_frame (d : Device) :
    (holdFuel d).pins = d.pins ∧ (holdFuel d).factory = d.factory ∧ (holdFuel d).sns = d.sns ∧ (holdFuel d).vbl = d.vbl ∧
    (holdFuel d).chg = d.chg ∧ (holdFuel d).bgt = d.bgt ∧ (holdFuel d).cmp = d.cmp ∧ (holdFuel d).lgt = d.lgt ∧
    (holdFuel d).rtm = d.rtm ∧ (holdFuel d).npl = d.npl ∧ (holdFuel d).lnk = d.lnk ∧ (holdFuel d).sched = d.sched := by
  unfold holdFuel
  (try simp)
  all_goals ((repeat' split) <;> (try simp))
  all_goals ((repeat' split) <;> simp_all)

@[simp] theorem holdBridge_frame (d : Device) :
    (holdBridge d).pins = d.pins ∧ (holdBridge d).factory = d.factory ∧ (holdBridge d).sns = d.sns ∧ (holdBridge d).vbl = d.vbl ∧
    (holdBridge d).chg = d.chg ∧ (holdBridge d).bgt = d.bgt ∧ (holdBridge d).htr = d.htr ∧ (holdBridge d).lgt = d.lgt ∧
    (holdBridge d).rtm = d.rtm ∧ (holdBridge d).npl = d.npl ∧ (holdBridge d).lnk = d.lnk ∧ (holdBridge d).sched = d.sched := by
  unfold holdBridge
  (try simp)
  all_goals ((repeat' split) <;> (try simp))
  all_goals ((repeat' split) <;> simp_all)

@[simp] theorem protect_frame (d : Device) :
    (protect d).pins = d.pins ∧ (protect d).factory = d.factory ∧ (protect d).sns = d.sns ∧ (protect d).vbl = d.vbl ∧
    (protect d).chg = d.chg ∧ (protect d).bgt = d.bgt ∧ (protect d).lgt = d.lgt ∧ (protect d).rtm = d.rtm ∧ (protect d).npl = d.npl ∧
    (protect d).lnk = d.lnk ∧ (protect d).sched = d.sched := by
  unfold protect
  (try simp)
  all_goals ((repeat' split) <;> (try simp))
  all_goals ((repeat' split) <;> simp_all)

@[simp] theorem acceptLevel_frame (line : Nat) (level : Bool) (d : Device) :
    (acceptLevel line level d).pins = d.pins ∧ (acceptLevel line level d).factory = d.factory ∧
    (acceptLevel line level d).sns.ms = d.sns.ms ∧ (acceptLevel line level d).sns.uptime = d.sns.uptime ∧
    (acceptLevel line level d).sns.clockSet = d.sns.clockSet ∧ (acceptLevel line level d).sns.clockOffset = d.sns.clockOffset ∧
    (acceptLevel line level d).sns.analog = d.sns.analog ∧ (acceptLevel line level d).sns.tables = d.sns.tables ∧
    (acceptLevel line level d).sns.dial = d.sns.dial ∧ (acceptLevel line level d).chg = d.chg ∧
    (acceptLevel line level d).bgt.horizonSource = d.bgt.horizonSource ∧
    (acceptLevel line level d).bgt.defaultHorizon = d.bgt.defaultHorizon ∧ (acceptLevel line level d).bgt.last = d.bgt.last ∧
    (acceptLevel line level d).lgt.chSettings = d.lgt.chSettings ∧ (acceptLevel line level d).lgt.scenes = d.lgt.scenes ∧
    (acceptLevel line level d).lgt.settings = d.lgt.settings ∧ (acceptLevel line level d).lgt.ch7Applied = d.lgt.ch7Applied ∧
    (acceptLevel line level d).npl.state = d.npl.state ∧ (acceptLevel line level d).npl.source = d.npl.source ∧
    (acceptLevel line level d).npl.wake = d.npl.wake ∧ (acceptLevel line level d).npl.setpoint = d.npl.setpoint ∧
    (acceptLevel line level d).npl.lead = d.npl.lead ∧ (acceptLevel line level d).npl.wakeLights = d.npl.wakeLights ∧
    (acceptLevel line level d).npl.quiet = d.npl.quiet ∧ (acceptLevel line level d).npl.hostQuiet = d.npl.hostQuiet ∧
    (acceptLevel line level d).npl.lastClass = d.npl.lastClass ∧
    (acceptLevel line level d).npl.lastProjection = d.npl.lastProjection ∧
    (acceptLevel line level d).npl.horizonHanded = d.npl.horizonHanded ∧ (acceptLevel line level d).npl.result = d.npl.result ∧
    (acceptLevel line level d).npl.causes = d.npl.causes ∧ (acceptLevel line level d).lnk.receiver = d.lnk.receiver ∧
    (acceptLevel line level d).lnk.lastByte = d.lnk.lastByte ∧ (acceptLevel line level d).lnk.queue = d.lnk.queue ∧
    (acceptLevel line level d).lnk.out = d.lnk.out ∧ (acceptLevel line level d).lnk.tx = d.lnk.tx ∧
    (acceptLevel line level d).lnk.sendEnd = d.lnk.sendEnd ∧ (acceptLevel line level d).lnk.awake = d.lnk.awake ∧
    (acceptLevel line level d).lnk.idle = d.lnk.idle ∧ (acceptLevel line level d).lnk.lastFrame = d.lnk.lastFrame ∧
    (acceptLevel line level d).lnk.enables = d.lnk.enables ∧ (acceptLevel line level d).lnk.idleTime = d.lnk.idleTime ∧
    (acceptLevel line level d).lnk.resetKind = d.lnk.resetKind ∧ (acceptLevel line level d).lnk.resetUptime = d.lnk.resetUptime ∧
    (acceptLevel line level d).sched = d.sched := by
  unfold acceptLevel
  (try simp)
  all_goals ((repeat' split) <;> (try simp))
  all_goals ((repeat' split) <;> simp_all)

@[simp] theorem sampleLine_frame (line : Nat) (d : Device) :
    (sampleLine line d).pins = d.pins ∧ (sampleLine line d).factory = d.factory ∧ (sampleLine line d).sns.ms = d.sns.ms ∧
    (sampleLine line d).sns.uptime = d.sns.uptime ∧ (sampleLine line d).sns.clockSet = d.sns.clockSet ∧
    (sampleLine line d).sns.clockOffset = d.sns.clockOffset ∧ (sampleLine line d).sns.analog = d.sns.analog ∧
    (sampleLine line d).sns.tables = d.sns.tables ∧ (sampleLine line d).sns.dial = d.sns.dial ∧ (sampleLine line d).chg = d.chg ∧
    (sampleLine line d).bgt.horizonSource = d.bgt.horizonSource ∧ (sampleLine line d).bgt.defaultHorizon = d.bgt.defaultHorizon ∧
    (sampleLine line d).bgt.last = d.bgt.last ∧ (sampleLine line d).lgt.chSettings = d.lgt.chSettings ∧
    (sampleLine line d).lgt.scenes = d.lgt.scenes ∧ (sampleLine line d).lgt.settings = d.lgt.settings ∧
    (sampleLine line d).lgt.ch7Applied = d.lgt.ch7Applied ∧ (sampleLine line d).npl.state = d.npl.state ∧
    (sampleLine line d).npl.source = d.npl.source ∧ (sampleLine line d).npl.wake = d.npl.wake ∧
    (sampleLine line d).npl.setpoint = d.npl.setpoint ∧ (sampleLine line d).npl.lead = d.npl.lead ∧
    (sampleLine line d).npl.wakeLights = d.npl.wakeLights ∧ (sampleLine line d).npl.quiet = d.npl.quiet ∧
    (sampleLine line d).npl.hostQuiet = d.npl.hostQuiet ∧ (sampleLine line d).npl.lastClass = d.npl.lastClass ∧
    (sampleLine line d).npl.lastProjection = d.npl.lastProjection ∧ (sampleLine line d).npl.horizonHanded = d.npl.horizonHanded ∧
    (sampleLine line d).npl.result = d.npl.result ∧ (sampleLine line d).npl.causes = d.npl.causes ∧
    (sampleLine line d).lnk.receiver = d.lnk.receiver ∧ (sampleLine line d).lnk.lastByte = d.lnk.lastByte ∧
    (sampleLine line d).lnk.queue = d.lnk.queue ∧ (sampleLine line d).lnk.out = d.lnk.out ∧ (sampleLine line d).lnk.tx = d.lnk.tx ∧
    (sampleLine line d).lnk.sendEnd = d.lnk.sendEnd ∧ (sampleLine line d).lnk.awake = d.lnk.awake ∧
    (sampleLine line d).lnk.idle = d.lnk.idle ∧ (sampleLine line d).lnk.lastFrame = d.lnk.lastFrame ∧
    (sampleLine line d).lnk.enables = d.lnk.enables ∧ (sampleLine line d).lnk.idleTime = d.lnk.idleTime ∧
    (sampleLine line d).lnk.resetKind = d.lnk.resetKind ∧ (sampleLine line d).lnk.resetUptime = d.lnk.resetUptime ∧
    (sampleLine line d).sched = d.sched := by
  unfold sampleLine
  (try simp)
  all_goals ((repeat' split) <;> (try simp))
  all_goals ((repeat' split) <;> simp_all)

@[simp] theorem sampleLineEach_frame (l : List Nat) (d : Device) :
    (l.foldl (fun acc n => sampleLine n acc) d).pins = d.pins ∧ (l.foldl (fun acc n => sampleLine n acc) d).factory = d.factory ∧
    (l.foldl (fun acc n => sampleLine n acc) d).sns.ms = d.sns.ms ∧
    (l.foldl (fun acc n => sampleLine n acc) d).sns.uptime = d.sns.uptime ∧
    (l.foldl (fun acc n => sampleLine n acc) d).sns.clockSet = d.sns.clockSet ∧
    (l.foldl (fun acc n => sampleLine n acc) d).sns.clockOffset = d.sns.clockOffset ∧
    (l.foldl (fun acc n => sampleLine n acc) d).sns.analog = d.sns.analog ∧
    (l.foldl (fun acc n => sampleLine n acc) d).sns.tables = d.sns.tables ∧
    (l.foldl (fun acc n => sampleLine n acc) d).sns.dial = d.sns.dial ∧ (l.foldl (fun acc n => sampleLine n acc) d).chg = d.chg ∧
    (l.foldl (fun acc n => sampleLine n acc) d).bgt.horizonSource = d.bgt.horizonSource ∧
    (l.foldl (fun acc n => sampleLine n acc) d).bgt.defaultHorizon = d.bgt.defaultHorizon ∧
    (l.foldl (fun acc n => sampleLine n acc) d).bgt.last = d.bgt.last ∧
    (l.foldl (fun acc n => sampleLine n acc) d).lgt.chSettings = d.lgt.chSettings ∧
    (l.foldl (fun acc n => sampleLine n acc) d).lgt.scenes = d.lgt.scenes ∧
    (l.foldl (fun acc n => sampleLine n acc) d).lgt.settings = d.lgt.settings ∧
    (l.foldl (fun acc n => sampleLine n acc) d).lgt.ch7Applied = d.lgt.ch7Applied ∧
    (l.foldl (fun acc n => sampleLine n acc) d).npl.state = d.npl.state ∧
    (l.foldl (fun acc n => sampleLine n acc) d).npl.source = d.npl.source ∧
    (l.foldl (fun acc n => sampleLine n acc) d).npl.wake = d.npl.wake ∧
    (l.foldl (fun acc n => sampleLine n acc) d).npl.setpoint = d.npl.setpoint ∧
    (l.foldl (fun acc n => sampleLine n acc) d).npl.lead = d.npl.lead ∧
    (l.foldl (fun acc n => sampleLine n acc) d).npl.wakeLights = d.npl.wakeLights ∧
    (l.foldl (fun acc n => sampleLine n acc) d).npl.quiet = d.npl.quiet ∧
    (l.foldl (fun acc n => sampleLine n acc) d).npl.hostQuiet = d.npl.hostQuiet ∧
    (l.foldl (fun acc n => sampleLine n acc) d).npl.lastClass = d.npl.lastClass ∧
    (l.foldl (fun acc n => sampleLine n acc) d).npl.lastProjection = d.npl.lastProjection ∧
    (l.foldl (fun acc n => sampleLine n acc) d).npl.horizonHanded = d.npl.horizonHanded ∧
    (l.foldl (fun acc n => sampleLine n acc) d).npl.result = d.npl.result ∧
    (l.foldl (fun acc n => sampleLine n acc) d).npl.causes = d.npl.causes ∧
    (l.foldl (fun acc n => sampleLine n acc) d).lnk.receiver = d.lnk.receiver ∧
    (l.foldl (fun acc n => sampleLine n acc) d).lnk.lastByte = d.lnk.lastByte ∧
    (l.foldl (fun acc n => sampleLine n acc) d).lnk.queue = d.lnk.queue ∧
    (l.foldl (fun acc n => sampleLine n acc) d).lnk.out = d.lnk.out ∧ (l.foldl (fun acc n => sampleLine n acc) d).lnk.tx = d.lnk.tx ∧
    (l.foldl (fun acc n => sampleLine n acc) d).lnk.sendEnd = d.lnk.sendEnd ∧
    (l.foldl (fun acc n => sampleLine n acc) d).lnk.awake = d.lnk.awake ∧
    (l.foldl (fun acc n => sampleLine n acc) d).lnk.idle = d.lnk.idle ∧
    (l.foldl (fun acc n => sampleLine n acc) d).lnk.lastFrame = d.lnk.lastFrame ∧
    (l.foldl (fun acc n => sampleLine n acc) d).lnk.enables = d.lnk.enables ∧
    (l.foldl (fun acc n => sampleLine n acc) d).lnk.idleTime = d.lnk.idleTime ∧
    (l.foldl (fun acc n => sampleLine n acc) d).lnk.resetKind = d.lnk.resetKind ∧
    (l.foldl (fun acc n => sampleLine n acc) d).lnk.resetUptime = d.lnk.resetUptime ∧
    (l.foldl (fun acc n => sampleLine n acc) d).sched = d.sched := by
  induction l generalizing d with
  | nil => simp
  | cons a l ih => simp [ih]

@[simp] theorem sampleLines_frame (pins : BitVec 8) (d0 : Device) :
    (sampleLines pins d0).factory = d0.factory ∧ (sampleLines pins d0).sns.uptime = d0.sns.uptime ∧
    (sampleLines pins d0).sns.clockSet = d0.sns.clockSet ∧ (sampleLines pins d0).sns.clockOffset = d0.sns.clockOffset ∧
    (sampleLines pins d0).sns.analog = d0.sns.analog ∧ (sampleLines pins d0).sns.tables = d0.sns.tables ∧
    (sampleLines pins d0).sns.dial = d0.sns.dial ∧ (sampleLines pins d0).chg = d0.chg ∧
    (sampleLines pins d0).bgt.horizonSource = d0.bgt.horizonSource ∧
    (sampleLines pins d0).bgt.defaultHorizon = d0.bgt.defaultHorizon ∧ (sampleLines pins d0).bgt.last = d0.bgt.last ∧
    (sampleLines pins d0).lgt.chSettings = d0.lgt.chSettings ∧ (sampleLines pins d0).lgt.scenes = d0.lgt.scenes ∧
    (sampleLines pins d0).lgt.settings = d0.lgt.settings ∧ (sampleLines pins d0).lgt.ch7Applied = d0.lgt.ch7Applied ∧
    (sampleLines pins d0).npl.state = d0.npl.state ∧ (sampleLines pins d0).npl.source = d0.npl.source ∧
    (sampleLines pins d0).npl.wake = d0.npl.wake ∧ (sampleLines pins d0).npl.setpoint = d0.npl.setpoint ∧
    (sampleLines pins d0).npl.lead = d0.npl.lead ∧ (sampleLines pins d0).npl.wakeLights = d0.npl.wakeLights ∧
    (sampleLines pins d0).npl.quiet = d0.npl.quiet ∧ (sampleLines pins d0).npl.hostQuiet = d0.npl.hostQuiet ∧
    (sampleLines pins d0).npl.lastClass = d0.npl.lastClass ∧ (sampleLines pins d0).npl.lastProjection = d0.npl.lastProjection ∧
    (sampleLines pins d0).npl.horizonHanded = d0.npl.horizonHanded ∧ (sampleLines pins d0).npl.result = d0.npl.result ∧
    (sampleLines pins d0).npl.causes = d0.npl.causes ∧ (sampleLines pins d0).lnk.receiver = d0.lnk.receiver ∧
    (sampleLines pins d0).lnk.lastByte = d0.lnk.lastByte ∧ (sampleLines pins d0).lnk.queue = d0.lnk.queue ∧
    (sampleLines pins d0).lnk.out = d0.lnk.out ∧ (sampleLines pins d0).lnk.tx = d0.lnk.tx ∧
    (sampleLines pins d0).lnk.sendEnd = d0.lnk.sendEnd ∧ (sampleLines pins d0).lnk.awake = d0.lnk.awake ∧
    (sampleLines pins d0).lnk.idle = d0.lnk.idle ∧ (sampleLines pins d0).lnk.lastFrame = d0.lnk.lastFrame ∧
    (sampleLines pins d0).lnk.enables = d0.lnk.enables ∧ (sampleLines pins d0).lnk.idleTime = d0.lnk.idleTime ∧
    (sampleLines pins d0).lnk.resetKind = d0.lnk.resetKind ∧ (sampleLines pins d0).lnk.resetUptime = d0.lnk.resetUptime := by
  unfold sampleLines
  (try simp)
  all_goals ((repeat' split) <;> (try simp))
  all_goals ((repeat' split) <;> simp_all)

@[simp] theorem acceptedChange_frame (line : Nat) (level : Bool) (d : Device) :
    (acceptedChange line level d).factory = d.factory ∧ (acceptedChange line level d).sns.ms = d.sns.ms ∧
    (acceptedChange line level d).sns.uptime = d.sns.uptime ∧ (acceptedChange line level d).sns.clockSet = d.sns.clockSet ∧
    (acceptedChange line level d).sns.clockOffset = d.sns.clockOffset ∧ (acceptedChange line level d).sns.analog = d.sns.analog ∧
    (acceptedChange line level d).sns.tables = d.sns.tables ∧ (acceptedChange line level d).sns.dial = d.sns.dial ∧
    (acceptedChange line level d).chg = d.chg ∧ (acceptedChange line level d).bgt.horizonSource = d.bgt.horizonSource ∧
    (acceptedChange line level d).bgt.defaultHorizon = d.bgt.defaultHorizon ∧ (acceptedChange line level d).bgt.last = d.bgt.last ∧
    (acceptedChange line level d).lgt.chSettings = d.lgt.chSettings ∧ (acceptedChange line level d).lgt.scenes = d.lgt.scenes ∧
    (acceptedChange line level d).lgt.settings = d.lgt.settings ∧ (acceptedChange line level d).lgt.ch7Applied = d.lgt.ch7Applied ∧
    (acceptedChange line level d).npl.state = d.npl.state ∧ (acceptedChange line level d).npl.source = d.npl.source ∧
    (acceptedChange line level d).npl.wake = d.npl.wake ∧ (acceptedChange line level d).npl.setpoint = d.npl.setpoint ∧
    (acceptedChange line level d).npl.lead = d.npl.lead ∧ (acceptedChange line level d).npl.wakeLights = d.npl.wakeLights ∧
    (acceptedChange line level d).npl.quiet = d.npl.quiet ∧ (acceptedChange line level d).npl.hostQuiet = d.npl.hostQuiet ∧
    (acceptedChange line level d).npl.lastClass = d.npl.lastClass ∧
    (acceptedChange line level d).npl.lastProjection = d.npl.lastProjection ∧
    (acceptedChange line level d).npl.horizonHanded = d.npl.horizonHanded ∧ (acceptedChange line level d).npl.result = d.npl.result ∧
    (acceptedChange line level d).npl.causes = d.npl.causes ∧ (acceptedChange line level d).lnk.receiver = d.lnk.receiver ∧
    (acceptedChange line level d).lnk.lastByte = d.lnk.lastByte ∧ (acceptedChange line level d).lnk.queue = d.lnk.queue ∧
    (acceptedChange line level d).lnk.out = d.lnk.out ∧ (acceptedChange line level d).lnk.tx = d.lnk.tx ∧
    (acceptedChange line level d).lnk.sendEnd = d.lnk.sendEnd ∧ (acceptedChange line level d).lnk.awake = d.lnk.awake ∧
    (acceptedChange line level d).lnk.idle = d.lnk.idle ∧ (acceptedChange line level d).lnk.lastFrame = d.lnk.lastFrame ∧
    (acceptedChange line level d).lnk.enables = d.lnk.enables ∧ (acceptedChange line level d).lnk.idleTime = d.lnk.idleTime ∧
    (acceptedChange line level d).lnk.resetKind = d.lnk.resetKind ∧
    (acceptedChange line level d).lnk.resetUptime = d.lnk.resetUptime ∧ (acceptedChange line level d).sched = d.sched := by
  unfold acceptedChange
  (try simp)
  all_goals ((repeat' split) <;> (try simp))
  all_goals ((repeat' split) <;> simp_all)

@[simp] theorem detent_frame (dir : DialDir) (d : Device) :
    (detent dir d).pins = d.pins ∧ (detent dir d).factory = d.factory ∧ (detent dir d).sns.ms = d.sns.ms ∧
    (detent dir d).sns.uptime = d.sns.uptime ∧ (detent dir d).sns.clockSet = d.sns.clockSet ∧
    (detent dir d).sns.clockOffset = d.sns.clockOffset ∧ (detent dir d).sns.analog = d.sns.analog ∧
    (detent dir d).sns.tables = d.sns.tables ∧ (detent dir d).sns.lines = d.sns.lines ∧ (detent dir d).sns.current = d.sns.current ∧
    (detent dir d).vbl = d.vbl ∧ (detent dir d).chg = d.chg ∧ (detent dir d).bgt.horizonSource = d.bgt.horizonSource ∧
    (detent dir d).bgt.defaultHorizon = d.bgt.defaultHorizon ∧ (detent dir d).bgt.last = d.bgt.last ∧
    (detent dir d).bgt.outlet = d.bgt.outlet ∧ (detent dir d).htr = d.htr ∧ (detent dir d).cmp = d.cmp ∧
    (detent dir d).lgt.chSettings = d.lgt.chSettings ∧ (detent dir d).lgt.scenes = d.lgt.scenes ∧
    (detent dir d).lgt.settings = d.lgt.settings ∧ (detent dir d).lgt.sources = d.lgt.sources ∧
    (detent dir d).lgt.ch7Applied = d.lgt.ch7Applied ∧ (detent dir d).lgt.ch7On = d.lgt.ch7On ∧
    (detent dir d).lgt.ch7Timer = d.lgt.ch7Timer ∧ (detent dir d).lgt.buzzer = d.lgt.buzzer ∧ (detent dir d).rtm = d.rtm ∧
    (detent dir d).npl = d.npl ∧ (detent dir d).lnk.receiver = d.lnk.receiver ∧ (detent dir d).lnk.lastByte = d.lnk.lastByte ∧
    (detent dir d).lnk.queue = d.lnk.queue ∧ (detent dir d).lnk.out = d.lnk.out ∧ (detent dir d).lnk.tx = d.lnk.tx ∧
    (detent dir d).lnk.sendEnd = d.lnk.sendEnd ∧ (detent dir d).lnk.awake = d.lnk.awake ∧ (detent dir d).lnk.idle = d.lnk.idle ∧
    (detent dir d).lnk.lastFrame = d.lnk.lastFrame ∧ (detent dir d).lnk.enables = d.lnk.enables ∧
    (detent dir d).lnk.idleTime = d.lnk.idleTime ∧ (detent dir d).lnk.resetKind = d.lnk.resetKind ∧
    (detent dir d).lnk.resetUptime = d.lnk.resetUptime ∧ (detent dir d).sched = d.sched := by
  unfold detent
  (try simp)
  all_goals ((repeat' split) <;> (try simp))
  all_goals ((repeat' split) <;> simp_all)

@[simp] theorem putCount_frame (n : Int) (d : Device) :
    (putCount n d).pins = d.pins ∧ (putCount n d).factory = d.factory ∧ (putCount n d).sns.ms = d.sns.ms ∧
    (putCount n d).sns.uptime = d.sns.uptime ∧ (putCount n d).sns.clockSet = d.sns.clockSet ∧
    (putCount n d).sns.clockOffset = d.sns.clockOffset ∧ (putCount n d).sns.analog = d.sns.analog ∧
    (putCount n d).sns.tables = d.sns.tables ∧ (putCount n d).sns.lines = d.sns.lines ∧ (putCount n d).sns.current = d.sns.current ∧
    (putCount n d).vbl = d.vbl ∧ (putCount n d).chg = d.chg ∧ (putCount n d).bgt = d.bgt ∧ (putCount n d).htr = d.htr ∧
    (putCount n d).cmp = d.cmp ∧ (putCount n d).lgt = d.lgt ∧ (putCount n d).rtm = d.rtm ∧ (putCount n d).npl = d.npl ∧
    (putCount n d).lnk = d.lnk ∧ (putCount n d).sched = d.sched := by
  unfold putCount
  (try simp)
  all_goals ((repeat' split) <;> (try simp))
  all_goals ((repeat' split) <;> simp_all)

@[simp] theorem turnDial_frame (a b : Bool) (d0 : Device) :
    (turnDial a b d0).pins = d0.pins ∧ (turnDial a b d0).factory = d0.factory ∧ (turnDial a b d0).sns.ms = d0.sns.ms ∧
    (turnDial a b d0).sns.uptime = d0.sns.uptime ∧ (turnDial a b d0).sns.clockSet = d0.sns.clockSet ∧
    (turnDial a b d0).sns.clockOffset = d0.sns.clockOffset ∧ (turnDial a b d0).sns.analog = d0.sns.analog ∧
    (turnDial a b d0).sns.tables = d0.sns.tables ∧ (turnDial a b d0).sns.lines = d0.sns.lines ∧ (turnDial a b d0).sns.current = d0.sns.current ∧
    (turnDial a b d0).vbl = d0.vbl ∧ (turnDial a b d0).chg = d0.chg ∧ (turnDial a b d0).bgt.horizonSource = d0.bgt.horizonSource ∧
    (turnDial a b d0).bgt.defaultHorizon = d0.bgt.defaultHorizon ∧ (turnDial a b d0).bgt.last = d0.bgt.last ∧
    (turnDial a b d0).bgt.outlet = d0.bgt.outlet ∧ (turnDial a b d0).htr = d0.htr ∧ (turnDial a b d0).cmp = d0.cmp ∧
    (turnDial a b d0).lgt.chSettings = d0.lgt.chSettings ∧ (turnDial a b d0).lgt.scenes = d0.lgt.scenes ∧
    (turnDial a b d0).lgt.settings = d0.lgt.settings ∧ (turnDial a b d0).lgt.sources = d0.lgt.sources ∧
    (turnDial a b d0).lgt.ch7Applied = d0.lgt.ch7Applied ∧ (turnDial a b d0).lgt.ch7On = d0.lgt.ch7On ∧
    (turnDial a b d0).lgt.ch7Timer = d0.lgt.ch7Timer ∧ (turnDial a b d0).lgt.buzzer = d0.lgt.buzzer ∧ (turnDial a b d0).rtm = d0.rtm ∧
    (turnDial a b d0).npl = d0.npl ∧ (turnDial a b d0).lnk.receiver = d0.lnk.receiver ∧ (turnDial a b d0).lnk.lastByte = d0.lnk.lastByte ∧
    (turnDial a b d0).lnk.queue = d0.lnk.queue ∧ (turnDial a b d0).lnk.out = d0.lnk.out ∧ (turnDial a b d0).lnk.tx = d0.lnk.tx ∧
    (turnDial a b d0).lnk.sendEnd = d0.lnk.sendEnd ∧ (turnDial a b d0).lnk.awake = d0.lnk.awake ∧ (turnDial a b d0).lnk.idle = d0.lnk.idle ∧
    (turnDial a b d0).lnk.lastFrame = d0.lnk.lastFrame ∧ (turnDial a b d0).lnk.enables = d0.lnk.enables ∧
    (turnDial a b d0).lnk.idleTime = d0.lnk.idleTime ∧ (turnDial a b d0).lnk.resetKind = d0.lnk.resetKind ∧
    (turnDial a b d0).lnk.resetUptime = d0.lnk.resetUptime ∧ (turnDial a b d0).sched = d0.sched := by
  unfold turnDial
  (try simp)
  all_goals ((repeat' split) <;> (try simp))
  all_goals ((repeat' split) <;> simp_all)

@[simp] theorem sampleDial_frame (d : Device) :
    (sampleDial d).pins = d.pins ∧ (sampleDial d).factory = d.factory ∧ (sampleDial d).sns.ms = d.sns.ms ∧
    (sampleDial d).sns.uptime = d.sns.uptime ∧ (sampleDial d).sns.clockSet = d.sns.clockSet ∧
    (sampleDial d).sns.clockOffset = d.sns.clockOffset ∧ (sampleDial d).sns.analog = d.sns.analog ∧
    (sampleDial d).sns.tables = d.sns.tables ∧ (sampleDial d).sns.lines = d.sns.lines ∧ (sampleDial d).sns.current = d.sns.current ∧
    (sampleDial d).vbl = d.vbl ∧ (sampleDial d).chg = d.chg ∧ (sampleDial d).bgt.horizonSource = d.bgt.horizonSource ∧
    (sampleDial d).bgt.defaultHorizon = d.bgt.defaultHorizon ∧ (sampleDial d).bgt.last = d.bgt.last ∧
    (sampleDial d).bgt.outlet = d.bgt.outlet ∧ (sampleDial d).htr = d.htr ∧ (sampleDial d).cmp = d.cmp ∧
    (sampleDial d).lgt.chSettings = d.lgt.chSettings ∧ (sampleDial d).lgt.scenes = d.lgt.scenes ∧
    (sampleDial d).lgt.settings = d.lgt.settings ∧ (sampleDial d).lgt.sources = d.lgt.sources ∧
    (sampleDial d).lgt.ch7Applied = d.lgt.ch7Applied ∧ (sampleDial d).lgt.ch7On = d.lgt.ch7On ∧
    (sampleDial d).lgt.ch7Timer = d.lgt.ch7Timer ∧ (sampleDial d).lgt.buzzer = d.lgt.buzzer ∧ (sampleDial d).rtm = d.rtm ∧
    (sampleDial d).npl = d.npl ∧ (sampleDial d).lnk.receiver = d.lnk.receiver ∧ (sampleDial d).lnk.lastByte = d.lnk.lastByte ∧
    (sampleDial d).lnk.queue = d.lnk.queue ∧ (sampleDial d).lnk.out = d.lnk.out ∧ (sampleDial d).lnk.tx = d.lnk.tx ∧
    (sampleDial d).lnk.sendEnd = d.lnk.sendEnd ∧ (sampleDial d).lnk.awake = d.lnk.awake ∧ (sampleDial d).lnk.idle = d.lnk.idle ∧
    (sampleDial d).lnk.lastFrame = d.lnk.lastFrame ∧ (sampleDial d).lnk.enables = d.lnk.enables ∧
    (sampleDial d).lnk.idleTime = d.lnk.idleTime ∧ (sampleDial d).lnk.resetKind = d.lnk.resetKind ∧
    (sampleDial d).lnk.resetUptime = d.lnk.resetUptime ∧ (sampleDial d).sched = d.sched := by
  unfold sampleDial
  (try simp)
  all_goals ((repeat' split) <;> (try simp))
  all_goals ((repeat' split) <;> simp_all)

@[simp] theorem dialCount_frame (a b : Bool) (d : Device) :
    (dialCount a b d).factory = d.factory ∧ (dialCount a b d).sns.ms = d.sns.ms ∧ (dialCount a b d).sns.uptime = d.sns.uptime ∧
    (dialCount a b d).sns.clockSet = d.sns.clockSet ∧ (dialCount a b d).sns.clockOffset = d.sns.clockOffset ∧
    (dialCount a b d).sns.analog = d.sns.analog ∧ (dialCount a b d).sns.tables = d.sns.tables ∧
    (dialCount a b d).sns.lines = d.sns.lines ∧ (dialCount a b d).sns.current = d.sns.current ∧ (dialCount a b d).vbl = d.vbl ∧
    (dialCount a b d).chg = d.chg ∧ (dialCount a b d).bgt.horizonSource = d.bgt.horizonSource ∧
    (dialCount a b d).bgt.defaultHorizon = d.bgt.defaultHorizon ∧ (dialCount a b d).bgt.last = d.bgt.last ∧
    (dialCount a b d).bgt.outlet = d.bgt.outlet ∧ (dialCount a b d).htr = d.htr ∧ (dialCount a b d).cmp = d.cmp ∧
    (dialCount a b d).lgt.chSettings = d.lgt.chSettings ∧ (dialCount a b d).lgt.scenes = d.lgt.scenes ∧
    (dialCount a b d).lgt.settings = d.lgt.settings ∧ (dialCount a b d).lgt.sources = d.lgt.sources ∧
    (dialCount a b d).lgt.ch7Applied = d.lgt.ch7Applied ∧ (dialCount a b d).lgt.ch7On = d.lgt.ch7On ∧
    (dialCount a b d).lgt.ch7Timer = d.lgt.ch7Timer ∧ (dialCount a b d).lgt.buzzer = d.lgt.buzzer ∧
    (dialCount a b d).rtm = d.rtm ∧ (dialCount a b d).npl = d.npl ∧ (dialCount a b d).lnk.receiver = d.lnk.receiver ∧
    (dialCount a b d).lnk.lastByte = d.lnk.lastByte ∧ (dialCount a b d).lnk.queue = d.lnk.queue ∧
    (dialCount a b d).lnk.out = d.lnk.out ∧ (dialCount a b d).lnk.tx = d.lnk.tx ∧
    (dialCount a b d).lnk.sendEnd = d.lnk.sendEnd ∧ (dialCount a b d).lnk.awake = d.lnk.awake ∧
    (dialCount a b d).lnk.idle = d.lnk.idle ∧ (dialCount a b d).lnk.lastFrame = d.lnk.lastFrame ∧
    (dialCount a b d).lnk.enables = d.lnk.enables ∧ (dialCount a b d).lnk.idleTime = d.lnk.idleTime ∧
    (dialCount a b d).lnk.resetKind = d.lnk.resetKind ∧ (dialCount a b d).lnk.resetUptime = d.lnk.resetUptime ∧
    (dialCount a b d).sched = d.sched := by
  unfold dialCount
  (try simp)
  all_goals ((repeat' split) <;> (try simp))
  all_goals ((repeat' split) <;> simp_all)

@[simp] theorem uptimeSecond_frame (d0 : Device) :
    (uptimeSecond d0).pins = d0.pins ∧ (uptimeSecond d0).factory = d0.factory ∧ (uptimeSecond d0).sns.clockSet = d0.sns.clockSet ∧
    (uptimeSecond d0).sns.clockOffset = d0.sns.clockOffset ∧ (uptimeSecond d0).sns.analog = d0.sns.analog ∧
    (uptimeSecond d0).sns.tables = d0.sns.tables ∧ (uptimeSecond d0).sns.lines = d0.sns.lines ∧
    (uptimeSecond d0).sns.dial = d0.sns.dial ∧ (uptimeSecond d0).sns.current = d0.sns.current ∧ (uptimeSecond d0).chg = d0.chg ∧
    (uptimeSecond d0).bgt.table = d0.bgt.table ∧ (uptimeSecond d0).bgt.horizonSource = d0.bgt.horizonSource ∧
    (uptimeSecond d0).bgt.defaultHorizon = d0.bgt.defaultHorizon ∧ (uptimeSecond d0).bgt.last = d0.bgt.last ∧
    (uptimeSecond d0).bgt.allowance = d0.bgt.allowance ∧ (uptimeSecond d0).bgt.outlet = d0.bgt.outlet ∧
    (uptimeSecond d0).htr = d0.htr ∧ (uptimeSecond d0).cmp = d0.cmp ∧ (uptimeSecond d0).lgt = d0.lgt ∧
    (uptimeSecond d0).rtm = d0.rtm ∧ (uptimeSecond d0).npl = d0.npl ∧ (uptimeSecond d0).lnk = d0.lnk := by
  unfold uptimeSecond
  (try simp)
  all_goals ((repeat' split) <;> (try simp))
  all_goals ((repeat' split) <;> simp_all)

@[simp] theorem setClockRequest_frame (b : List Byte) (d : Device) :
    ((setClockRequest b d).dev).pins = d.pins ∧ ((setClockRequest b d).dev).factory = d.factory ∧
    ((setClockRequest b d).dev).sns.ms = d.sns.ms ∧ ((setClockRequest b d).dev).sns.uptime = d.sns.uptime ∧
    ((setClockRequest b d).dev).sns.analog = d.sns.analog ∧ ((setClockRequest b d).dev).sns.tables = d.sns.tables ∧
    ((setClockRequest b d).dev).sns.lines = d.sns.lines ∧ ((setClockRequest b d).dev).sns.dial = d.sns.dial ∧
    ((setClockRequest b d).dev).sns.current = d.sns.current ∧ ((setClockRequest b d).dev).vbl = d.vbl ∧
    ((setClockRequest b d).dev).bgt = d.bgt ∧ ((setClockRequest b d).dev).htr = d.htr ∧ ((setClockRequest b d).dev).cmp = d.cmp ∧
    ((setClockRequest b d).dev).lgt = d.lgt ∧ ((setClockRequest b d).dev).npl.state = d.npl.state ∧
    ((setClockRequest b d).dev).npl.source = d.npl.source ∧ ((setClockRequest b d).dev).npl.wake = d.npl.wake ∧
    ((setClockRequest b d).dev).npl.setpoint = d.npl.setpoint ∧ ((setClockRequest b d).dev).npl.lead = d.npl.lead ∧
    ((setClockRequest b d).dev).npl.wakeLights = d.npl.wakeLights ∧ ((setClockRequest b d).dev).npl.quiet = d.npl.quiet ∧
    ((setClockRequest b d).dev).npl.hostQuiet = d.npl.hostQuiet ∧ ((setClockRequest b d).dev).npl.lastClass = d.npl.lastClass ∧
    ((setClockRequest b d).dev).npl.lastProjection = d.npl.lastProjection ∧
    ((setClockRequest b d).dev).npl.horizonHanded = d.npl.horizonHanded ∧ ((setClockRequest b d).dev).npl.result = d.npl.result ∧
    ((setClockRequest b d).dev).npl.prewarmMark = d.npl.prewarmMark ∧ ((setClockRequest b d).dev).lnk.receiver = d.lnk.receiver ∧
    ((setClockRequest b d).dev).lnk.lastByte = d.lnk.lastByte ∧ ((setClockRequest b d).dev).lnk.queue = d.lnk.queue ∧
    ((setClockRequest b d).dev).lnk.out = d.lnk.out ∧ ((setClockRequest b d).dev).lnk.tx = d.lnk.tx ∧
    ((setClockRequest b d).dev).lnk.sendEnd = d.lnk.sendEnd ∧ ((setClockRequest b d).dev).lnk.awake = d.lnk.awake ∧
    ((setClockRequest b d).dev).lnk.idle = d.lnk.idle ∧ ((setClockRequest b d).dev).lnk.lastFrame = d.lnk.lastFrame ∧
    ((setClockRequest b d).dev).lnk.enables = d.lnk.enables ∧ ((setClockRequest b d).dev).lnk.idleTime = d.lnk.idleTime ∧
    ((setClockRequest b d).dev).lnk.resetKind = d.lnk.resetKind ∧ ((setClockRequest b d).dev).lnk.resetUptime = d.lnk.resetUptime ∧
    ((setClockRequest b d).dev).sched = d.sched := by
  unfold setClockRequest
  (try simp)
  all_goals ((repeat' split) <;> (try simp))
  all_goals ((repeat' split) <;> simp_all)

@[simp] theorem setSensorTableRequest_frame (b : List Byte) (d : Device) :
    ((setSensorTableRequest b d).dev).pins = d.pins ∧ ((setSensorTableRequest b d).dev).factory = d.factory ∧
    ((setSensorTableRequest b d).dev).sns.ms = d.sns.ms ∧ ((setSensorTableRequest b d).dev).sns.uptime = d.sns.uptime ∧
    ((setSensorTableRequest b d).dev).sns.clockSet = d.sns.clockSet ∧
    ((setSensorTableRequest b d).dev).sns.clockOffset = d.sns.clockOffset ∧
    ((setSensorTableRequest b d).dev).sns.analog = d.sns.analog ∧ ((setSensorTableRequest b d).dev).sns.lines = d.sns.lines ∧
    ((setSensorTableRequest b d).dev).sns.dial = d.sns.dial ∧ ((setSensorTableRequest b d).dev).sns.current = d.sns.current ∧
    ((setSensorTableRequest b d).dev).vbl = d.vbl ∧ ((setSensorTableRequest b d).dev).chg = d.chg ∧
    ((setSensorTableRequest b d).dev).bgt = d.bgt ∧ ((setSensorTableRequest b d).dev).htr = d.htr ∧
    ((setSensorTableRequest b d).dev).cmp = d.cmp ∧ ((setSensorTableRequest b d).dev).lgt = d.lgt ∧
    ((setSensorTableRequest b d).dev).rtm = d.rtm ∧ ((setSensorTableRequest b d).dev).npl = d.npl ∧
    ((setSensorTableRequest b d).dev).lnk = d.lnk ∧ ((setSensorTableRequest b d).dev).sched = d.sched := by
  unfold setSensorTableRequest
  (try simp)
  all_goals ((repeat' split) <;> (try simp))
  all_goals ((repeat' split) <;> simp_all)

@[simp] theorem inputConfigRequest_frame (b : List Byte) (d : Device) :
    ((inputConfigRequest b d).dev).pins = d.pins ∧ ((inputConfigRequest b d).dev).factory = d.factory ∧
    ((inputConfigRequest b d).dev).sns.ms = d.sns.ms ∧ ((inputConfigRequest b d).dev).sns.uptime = d.sns.uptime ∧
    ((inputConfigRequest b d).dev).sns.clockSet = d.sns.clockSet ∧
    ((inputConfigRequest b d).dev).sns.clockOffset = d.sns.clockOffset ∧ ((inputConfigRequest b d).dev).sns.analog = d.sns.analog ∧
    ((inputConfigRequest b d).dev).sns.tables = d.sns.tables ∧ ((inputConfigRequest b d).dev).sns.dial = d.sns.dial ∧
    ((inputConfigRequest b d).dev).sns.current = d.sns.current ∧ ((inputConfigRequest b d).dev).vbl = d.vbl ∧
    ((inputConfigRequest b d).dev).chg = d.chg ∧ ((inputConfigRequest b d).dev).bgt = d.bgt ∧
    ((inputConfigRequest b d).dev).lgt = d.lgt ∧ ((inputConfigRequest b d).dev).rtm = d.rtm ∧
    ((inputConfigRequest b d).dev).npl = d.npl ∧ ((inputConfigRequest b d).dev).lnk = d.lnk ∧
    ((inputConfigRequest b d).dev).sched = d.sched := by
  unfold inputConfigRequest
  (try simp)
  all_goals ((repeat' split) <;> (try simp))
  all_goals ((repeat' split) <;> simp_all)

@[simp] theorem putForcing_frame (line : Nat) (forced : Option Bool) (d : Device) :
    (putForcing line forced d).pins = d.pins ∧ (putForcing line forced d).factory = d.factory ∧
    (putForcing line forced d).sns.ms = d.sns.ms ∧ (putForcing line forced d).sns.uptime = d.sns.uptime ∧
    (putForcing line forced d).sns.clockSet = d.sns.clockSet ∧ (putForcing line forced d).sns.clockOffset = d.sns.clockOffset ∧
    (putForcing line forced d).sns.analog = d.sns.analog ∧ (putForcing line forced d).sns.tables = d.sns.tables ∧
    (putForcing line forced d).sns.dial = d.sns.dial ∧ (putForcing line forced d).chg = d.chg ∧
    (putForcing line forced d).bgt.horizonSource = d.bgt.horizonSource ∧
    (putForcing line forced d).bgt.defaultHorizon = d.bgt.defaultHorizon ∧ (putForcing line forced d).bgt.last = d.bgt.last ∧
    (putForcing line forced d).lgt.chSettings = d.lgt.chSettings ∧ (putForcing line forced d).lgt.scenes = d.lgt.scenes ∧
    (putForcing line forced d).lgt.settings = d.lgt.settings ∧ (putForcing line forced d).lgt.ch7Applied = d.lgt.ch7Applied ∧
    (putForcing line forced d).npl.state = d.npl.state ∧ (putForcing line forced d).npl.source = d.npl.source ∧
    (putForcing line forced d).npl.wake = d.npl.wake ∧ (putForcing line forced d).npl.setpoint = d.npl.setpoint ∧
    (putForcing line forced d).npl.lead = d.npl.lead ∧ (putForcing line forced d).npl.wakeLights = d.npl.wakeLights ∧
    (putForcing line forced d).npl.quiet = d.npl.quiet ∧ (putForcing line forced d).npl.hostQuiet = d.npl.hostQuiet ∧
    (putForcing line forced d).npl.lastClass = d.npl.lastClass ∧
    (putForcing line forced d).npl.lastProjection = d.npl.lastProjection ∧
    (putForcing line forced d).npl.horizonHanded = d.npl.horizonHanded ∧ (putForcing line forced d).npl.result = d.npl.result ∧
    (putForcing line forced d).npl.causes = d.npl.causes ∧ (putForcing line forced d).lnk.receiver = d.lnk.receiver ∧
    (putForcing line forced d).lnk.lastByte = d.lnk.lastByte ∧ (putForcing line forced d).lnk.queue = d.lnk.queue ∧
    (putForcing line forced d).lnk.out = d.lnk.out ∧ (putForcing line forced d).lnk.tx = d.lnk.tx ∧
    (putForcing line forced d).lnk.sendEnd = d.lnk.sendEnd ∧ (putForcing line forced d).lnk.awake = d.lnk.awake ∧
    (putForcing line forced d).lnk.idle = d.lnk.idle ∧ (putForcing line forced d).lnk.lastFrame = d.lnk.lastFrame ∧
    (putForcing line forced d).lnk.enables = d.lnk.enables ∧ (putForcing line forced d).lnk.idleTime = d.lnk.idleTime ∧
    (putForcing line forced d).lnk.resetKind = d.lnk.resetKind ∧ (putForcing line forced d).lnk.resetUptime = d.lnk.resetUptime ∧
    (putForcing line forced d).sched = d.sched := by
  unfold putForcing
  (try simp)
  all_goals ((repeat' split) <;> (try simp))
  all_goals ((repeat' split) <;> simp_all)

@[simp] theorem inputForceRequest_frame (b : List Byte) (d : Device) :
    ((inputForceRequest b d).dev).pins = d.pins ∧ ((inputForceRequest b d).dev).factory = d.factory ∧
    ((inputForceRequest b d).dev).sns.ms = d.sns.ms ∧ ((inputForceRequest b d).dev).sns.uptime = d.sns.uptime ∧
    ((inputForceRequest b d).dev).sns.clockSet = d.sns.clockSet ∧ ((inputForceRequest b d).dev).sns.clockOffset = d.sns.clockOffset ∧
    ((inputForceRequest b d).dev).sns.analog = d.sns.analog ∧ ((inputForceRequest b d).dev).sns.tables = d.sns.tables ∧
    ((inputForceRequest b d).dev).sns.dial = d.sns.dial ∧ ((inputForceRequest b d).dev).chg = d.chg ∧
    ((inputForceRequest b d).dev).bgt.horizonSource = d.bgt.horizonSource ∧
    ((inputForceRequest b d).dev).bgt.defaultHorizon = d.bgt.defaultHorizon ∧ ((inputForceRequest b d).dev).bgt.last = d.bgt.last ∧
    ((inputForceRequest b d).dev).lgt.chSettings = d.lgt.chSettings ∧ ((inputForceRequest b d).dev).lgt.scenes = d.lgt.scenes ∧
    ((inputForceRequest b d).dev).lgt.settings = d.lgt.settings ∧ ((inputForceRequest b d).dev).lgt.ch7Applied = d.lgt.ch7Applied ∧
    ((inputForceRequest b d).dev).npl.state = d.npl.state ∧ ((inputForceRequest b d).dev).npl.source = d.npl.source ∧
    ((inputForceRequest b d).dev).npl.wake = d.npl.wake ∧ ((inputForceRequest b d).dev).npl.setpoint = d.npl.setpoint ∧
    ((inputForceRequest b d).dev).npl.lead = d.npl.lead ∧ ((inputForceRequest b d).dev).npl.wakeLights = d.npl.wakeLights ∧
    ((inputForceRequest b d).dev).npl.quiet = d.npl.quiet ∧ ((inputForceRequest b d).dev).npl.hostQuiet = d.npl.hostQuiet ∧
    ((inputForceRequest b d).dev).npl.lastClass = d.npl.lastClass ∧
    ((inputForceRequest b d).dev).npl.lastProjection = d.npl.lastProjection ∧
    ((inputForceRequest b d).dev).npl.horizonHanded = d.npl.horizonHanded ∧ ((inputForceRequest b d).dev).npl.result = d.npl.result ∧
    ((inputForceRequest b d).dev).npl.causes = d.npl.causes ∧ ((inputForceRequest b d).dev).lnk.receiver = d.lnk.receiver ∧
    ((inputForceRequest b d).dev).lnk.lastByte = d.lnk.lastByte ∧ ((inputForceRequest b d).dev).lnk.queue = d.lnk.queue ∧
    ((inputForceRequest b d).dev).lnk.out = d.lnk.out ∧ ((inputForceRequest b d).dev).lnk.tx = d.lnk.tx ∧
    ((inputForceRequest b d).dev).lnk.sendEnd = d.lnk.sendEnd ∧ ((inputForceRequest b d).dev).lnk.awake = d.lnk.awake ∧
    ((inputForceRequest b d).dev).lnk.idle = d.lnk.idle ∧ ((inputForceRequest b d).dev).lnk.lastFrame = d.lnk.lastFrame ∧
    ((inputForceRequest b d).dev).lnk.enables = d.lnk.enables ∧ ((inputForceRequest b d).dev).lnk.idleTime = d.lnk.idleTime ∧
    ((inputForceRequest b d).dev).lnk.resetKind = d.lnk.resetKind ∧
    ((inputForceRequest b d).dev).lnk.resetUptime = d.lnk.resetUptime ∧ ((inputForceRequest b d).dev).sched = d.sched := by
  unfold inputForceRequest
  (try simp)
  all_goals ((repeat' split) <;> (try simp))
  all_goals ((repeat' split) <;> simp_all)

@[simp] theorem inputReleaseRequest_frame (b : List Byte) (d : Device) :
    ((inputReleaseRequest b d).dev).pins = d.pins ∧ ((inputReleaseRequest b d).dev).factory = d.factory ∧
    ((inputReleaseRequest b d).dev).sns.ms = d.sns.ms ∧ ((inputReleaseRequest b d).dev).sns.uptime = d.sns.uptime ∧
    ((inputReleaseRequest b d).dev).sns.clockSet = d.sns.clockSet ∧
    ((inputReleaseRequest b d).dev).sns.clockOffset = d.sns.clockOffset ∧ ((inputReleaseRequest b d).dev).sns.analog = d.sns.analog ∧
    ((inputReleaseRequest b d).dev).sns.tables = d.sns.tables ∧ ((inputReleaseRequest b d).dev).sns.dial = d.sns.dial ∧
    ((inputReleaseRequest b d).dev).chg = d.chg ∧ ((inputReleaseRequest b d).dev).bgt.horizonSource = d.bgt.horizonSource ∧
    ((inputReleaseRequest b d).dev).bgt.defaultHorizon = d.bgt.defaultHorizon ∧
    ((inputReleaseRequest b d).dev).bgt.last = d.bgt.last ∧ ((inputReleaseRequest b d).dev).lgt.chSettings = d.lgt.chSettings ∧
    ((inputReleaseRequest b d).dev).lgt.scenes = d.lgt.scenes ∧ ((inputReleaseRequest b d).dev).lgt.settings = d.lgt.settings ∧
    ((inputReleaseRequest b d).dev).lgt.ch7Applied = d.lgt.ch7Applied ∧ ((inputReleaseRequest b d).dev).npl.state = d.npl.state ∧
    ((inputReleaseRequest b d).dev).npl.source = d.npl.source ∧ ((inputReleaseRequest b d).dev).npl.wake = d.npl.wake ∧
    ((inputReleaseRequest b d).dev).npl.setpoint = d.npl.setpoint ∧ ((inputReleaseRequest b d).dev).npl.lead = d.npl.lead ∧
    ((inputReleaseRequest b d).dev).npl.wakeLights = d.npl.wakeLights ∧ ((inputReleaseRequest b d).dev).npl.quiet = d.npl.quiet ∧
    ((inputReleaseRequest b d).dev).npl.hostQuiet = d.npl.hostQuiet ∧
    ((inputReleaseRequest b d).dev).npl.lastClass = d.npl.lastClass ∧
    ((inputReleaseRequest b d).dev).npl.lastProjection = d.npl.lastProjection ∧
    ((inputReleaseRequest b d).dev).npl.horizonHanded = d.npl.horizonHanded ∧
    ((inputReleaseRequest b d).dev).npl.result = d.npl.result ∧ ((inputReleaseRequest b d).dev).npl.causes = d.npl.causes ∧
    ((inputReleaseRequest b d).dev).lnk.receiver = d.lnk.receiver ∧ ((inputReleaseRequest b d).dev).lnk.lastByte = d.lnk.lastByte ∧
    ((inputReleaseRequest b d).dev).lnk.queue = d.lnk.queue ∧ ((inputReleaseRequest b d).dev).lnk.out = d.lnk.out ∧
    ((inputReleaseRequest b d).dev).lnk.tx = d.lnk.tx ∧ ((inputReleaseRequest b d).dev).lnk.sendEnd = d.lnk.sendEnd ∧
    ((inputReleaseRequest b d).dev).lnk.awake = d.lnk.awake ∧ ((inputReleaseRequest b d).dev).lnk.idle = d.lnk.idle ∧
    ((inputReleaseRequest b d).dev).lnk.lastFrame = d.lnk.lastFrame ∧ ((inputReleaseRequest b d).dev).lnk.enables = d.lnk.enables ∧
    ((inputReleaseRequest b d).dev).lnk.idleTime = d.lnk.idleTime ∧ ((inputReleaseRequest b d).dev).lnk.resetKind = d.lnk.resetKind ∧
    ((inputReleaseRequest b d).dev).lnk.resetUptime = d.lnk.resetUptime ∧ ((inputReleaseRequest b d).dev).sched = d.sched := by
  unfold inputReleaseRequest
  (try simp)
  all_goals ((repeat' split) <;> (try simp))
  all_goals ((repeat' split) <;> simp_all)

@[simp] theorem restartSensing_frame (d : Device) :
    (restartSensing d).pins = d.pins ∧ (restartSensing d).factory = d.factory ∧ (restartSensing d).sns.ms = d.sns.ms ∧
    (restartSensing d).sns.uptime = d.sns.uptime ∧ (restartSensing d).sns.clockSet = d.sns.clockSet ∧
    (restartSensing d).sns.clockOffset = d.sns.clockOffset ∧ (restartSensing d).sns.analog = d.sns.analog ∧
    (restartSensing d).vbl = d.vbl ∧ (restartSensing d).chg = d.chg ∧ (restartSensing d).bgt = d.bgt ∧
    (restartSensing d).lgt = d.lgt ∧ (restartSensing d).rtm = d.rtm ∧ (restartSensing d).npl = d.npl ∧
    (restartSensing d).lnk = d.lnk ∧ (restartSensing d).sched = d.sched := by
  unfold restartSensing
  (try simp)
  all_goals ((repeat' split) <;> (try simp))
  all_goals ((repeat' split) <;> simp_all)

/-! ## System -/

@[simp] theorem restartLink_frame (d0 : Device) :
    (restartLink d0).pins = d0.pins ∧ (restartLink d0).factory = d0.factory ∧ (restartLink d0).sns = d0.sns ∧
    (restartLink d0).vbl = d0.vbl ∧ (restartLink d0).bgt = d0.bgt ∧ (restartLink d0).htr = d0.htr ∧ (restartLink d0).cmp = d0.cmp ∧
    (restartLink d0).lgt = d0.lgt ∧ (restartLink d0).npl.state = d0.npl.state ∧ (restartLink d0).npl.source = d0.npl.source ∧
    (restartLink d0).npl.wake = d0.npl.wake ∧ (restartLink d0).npl.setpoint = d0.npl.setpoint ∧
    (restartLink d0).npl.lead = d0.npl.lead ∧ (restartLink d0).npl.wakeLights = d0.npl.wakeLights ∧
    (restartLink d0).npl.quiet = d0.npl.quiet ∧ (restartLink d0).npl.hostQuiet = d0.npl.hostQuiet ∧
    (restartLink d0).npl.lastClass = d0.npl.lastClass ∧ (restartLink d0).npl.lastProjection = d0.npl.lastProjection ∧
    (restartLink d0).npl.horizonHanded = d0.npl.horizonHanded ∧ (restartLink d0).npl.result = d0.npl.result ∧
    (restartLink d0).npl.prewarmMark = d0.npl.prewarmMark ∧ (restartLink d0).lnk.receiver = d0.lnk.receiver ∧
    (restartLink d0).lnk.lastByte = d0.lnk.lastByte ∧ (restartLink d0).lnk.out = d0.lnk.out ∧ (restartLink d0).lnk.tx = d0.lnk.tx ∧
    (restartLink d0).lnk.sendEnd = d0.lnk.sendEnd ∧ (restartLink d0).lnk.lastFrame = d0.lnk.lastFrame ∧
    (restartLink d0).sched = d0.sched := by
  unfold restartLink
  (try simp)
  all_goals ((repeat' split) <;> (try simp))
  all_goals ((repeat' split) <;> simp_all)

@[simp] theorem restartBlocks_frame (d : Device) :
    (restartBlocks d).pins = d.pins ∧ (restartBlocks d).factory = d.factory ∧ (restartBlocks d).sns.ms = d.sns.ms ∧
    (restartBlocks d).sns.uptime = d.sns.uptime ∧ (restartBlocks d).sns.clockSet = d.sns.clockSet ∧
    (restartBlocks d).sns.clockOffset = d.sns.clockOffset ∧ (restartBlocks d).sns.analog = d.sns.analog ∧
    (restartBlocks d).vbl = d.vbl ∧ (restartBlocks d).lgt.ch7Applied = d.lgt.ch7Applied ∧
    (restartBlocks d).npl.source = d.npl.source ∧ (restartBlocks d).npl.lastClass = d.npl.lastClass ∧
    (restartBlocks d).npl.lastProjection = d.npl.lastProjection ∧ (restartBlocks d).lnk.receiver = d.lnk.receiver ∧
    (restartBlocks d).lnk.lastByte = d.lnk.lastByte ∧ (restartBlocks d).lnk.queue = d.lnk.queue ∧
    (restartBlocks d).lnk.out = d.lnk.out ∧ (restartBlocks d).lnk.tx = d.lnk.tx ∧ (restartBlocks d).lnk.sendEnd = d.lnk.sendEnd ∧
    (restartBlocks d).lnk.awake = d.lnk.awake ∧ (restartBlocks d).lnk.idle = d.lnk.idle ∧
    (restartBlocks d).lnk.lastFrame = d.lnk.lastFrame ∧ (restartBlocks d).lnk.enables = d.lnk.enables ∧
    (restartBlocks d).lnk.idleTime = d.lnk.idleTime ∧ (restartBlocks d).lnk.resetKind = d.lnk.resetKind ∧
    (restartBlocks d).lnk.resetUptime = d.lnk.resetUptime ∧ (restartBlocks d).sched = d.sched := by
  unfold restartBlocks
  (try simp)
  all_goals ((repeat' split) <;> (try simp))
  all_goals ((repeat' split) <;> simp_all)

@[simp] theorem restartPart_frame (d : Device) :
    (restartPart d).pins = d.pins ∧ (restartPart d).factory = d.factory ∧ (restartPart d).sns.ms = d.sns.ms ∧
    (restartPart d).sns.uptime = d.sns.uptime ∧ (restartPart d).sns.clockSet = d.sns.clockSet ∧
    (restartPart d).sns.clockOffset = d.sns.clockOffset ∧ (restartPart d).sns.analog = d.sns.analog ∧ (restartPart d).vbl = d.vbl ∧
    (restartPart d).lgt.ch7Applied = d.lgt.ch7Applied ∧ (restartPart d).npl.source = d.npl.source ∧
    (restartPart d).npl.lastClass = d.npl.lastClass ∧ (restartPart d).npl.lastProjection = d.npl.lastProjection ∧
    (restartPart d).lnk.receiver = d.lnk.receiver ∧ (restartPart d).lnk.lastByte = d.lnk.lastByte ∧
    (restartPart d).lnk.out = d.lnk.out ∧ (restartPart d).lnk.tx = d.lnk.tx ∧ (restartPart d).lnk.sendEnd = d.lnk.sendEnd ∧
    (restartPart d).lnk.lastFrame = d.lnk.lastFrame ∧ (restartPart d).sched = d.sched := by
  unfold restartPart
  (try simp)
  all_goals ((repeat' split) <;> (try simp))
  all_goals ((repeat' split) <;> simp_all)

@[simp] theorem endFrame_frame (d : Device) :
    (endFrame d).pins = d.pins ∧ (endFrame d).factory = d.factory ∧ (endFrame d).sns.uptime = d.sns.uptime ∧
    (endFrame d).sns.clockSet = d.sns.clockSet ∧ (endFrame d).sns.clockOffset = d.sns.clockOffset ∧
    (endFrame d).sns.analog = d.sns.analog ∧ (endFrame d).sns.tables = d.sns.tables ∧ (endFrame d).sns.lines = d.sns.lines ∧
    (endFrame d).sns.dial = d.sns.dial ∧ (endFrame d).sns.current = d.sns.current ∧ (endFrame d).vbl = d.vbl ∧
    (endFrame d).chg = d.chg ∧ (endFrame d).bgt = d.bgt ∧ (endFrame d).htr = d.htr ∧ (endFrame d).cmp = d.cmp ∧
    (endFrame d).lgt = d.lgt ∧ (endFrame d).rtm = d.rtm ∧ (endFrame d).npl = d.npl ∧ (endFrame d).lnk.receiver = d.lnk.receiver ∧
    (endFrame d).lnk.lastByte = d.lnk.lastByte ∧ (endFrame d).lnk.queue = d.lnk.queue ∧ (endFrame d).lnk.out = d.lnk.out ∧
    (endFrame d).lnk.sendEnd = d.lnk.sendEnd ∧ (endFrame d).lnk.notices = d.lnk.notices ∧ (endFrame d).lnk.awake = d.lnk.awake ∧
    (endFrame d).lnk.idle = d.lnk.idle ∧ (endFrame d).lnk.lastFrame = d.lnk.lastFrame ∧ (endFrame d).lnk.enables = d.lnk.enables ∧
    (endFrame d).lnk.idleTime = d.lnk.idleTime ∧ (endFrame d).lnk.resetKind = d.lnk.resetKind ∧
    (endFrame d).lnk.resetUptime = d.lnk.resetUptime ∧ (endFrame d).sched = d.sched := by
  unfold endFrame
  (try simp)
  all_goals ((repeat' split) <;> (try simp))
  all_goals ((repeat' split) <;> simp_all)

@[simp] theorem replyEnded_frame (d : Device) :
    (replyEnded d).pins = d.pins ∧ (replyEnded d).factory = d.factory ∧ (replyEnded d).sns.ms = d.sns.ms ∧
    (replyEnded d).sns.uptime = d.sns.uptime ∧ (replyEnded d).sns.clockSet = d.sns.clockSet ∧
    (replyEnded d).sns.clockOffset = d.sns.clockOffset ∧ (replyEnded d).sns.analog = d.sns.analog ∧ (replyEnded d).vbl = d.vbl ∧
    (replyEnded d).lgt.ch7Applied = d.lgt.ch7Applied ∧ (replyEnded d).npl.source = d.npl.source ∧
    (replyEnded d).npl.lastClass = d.npl.lastClass ∧ (replyEnded d).npl.lastProjection = d.npl.lastProjection ∧
    (replyEnded d).lnk.receiver = d.lnk.receiver ∧ (replyEnded d).lnk.lastByte = d.lnk.lastByte ∧ (replyEnded d).lnk.tx = d.lnk.tx ∧
    (replyEnded d).lnk.sendEnd = d.lnk.sendEnd ∧ (replyEnded d).lnk.lastFrame = d.lnk.lastFrame ∧ (replyEnded d).sched = d.sched := by
  unfold replyEnded
  (try simp)
  all_goals ((repeat' split) <;> (try simp))
  all_goals ((repeat' split) <;> simp_all)

@[simp] theorem beginNotice_frame (d : Device) :
    (beginNotice d).pins = d.pins ∧ (beginNotice d).factory = d.factory ∧ (beginNotice d).sns = d.sns ∧ (beginNotice d).vbl = d.vbl ∧
    (beginNotice d).bgt = d.bgt ∧ (beginNotice d).htr = d.htr ∧ (beginNotice d).cmp = d.cmp ∧ (beginNotice d).lgt = d.lgt ∧
    (beginNotice d).npl.state = d.npl.state ∧ (beginNotice d).npl.source = d.npl.source ∧ (beginNotice d).npl.wake = d.npl.wake ∧
    (beginNotice d).npl.setpoint = d.npl.setpoint ∧ (beginNotice d).npl.lead = d.npl.lead ∧
    (beginNotice d).npl.wakeLights = d.npl.wakeLights ∧ (beginNotice d).npl.quiet = d.npl.quiet ∧
    (beginNotice d).npl.hostQuiet = d.npl.hostQuiet ∧ (beginNotice d).npl.lastClass = d.npl.lastClass ∧
    (beginNotice d).npl.lastProjection = d.npl.lastProjection ∧ (beginNotice d).npl.horizonHanded = d.npl.horizonHanded ∧
    (beginNotice d).npl.result = d.npl.result ∧ (beginNotice d).npl.prewarmMark = d.npl.prewarmMark ∧
    (beginNotice d).lnk.receiver = d.lnk.receiver ∧ (beginNotice d).lnk.lastByte = d.lnk.lastByte ∧
    (beginNotice d).lnk.queue = d.lnk.queue ∧ (beginNotice d).lnk.out = d.lnk.out ∧ (beginNotice d).lnk.awake = d.lnk.awake ∧
    (beginNotice d).lnk.idle = d.lnk.idle ∧ (beginNotice d).lnk.lastFrame = d.lnk.lastFrame ∧
    (beginNotice d).lnk.enables = d.lnk.enables ∧ (beginNotice d).lnk.idleTime = d.lnk.idleTime ∧
    (beginNotice d).lnk.resetKind = d.lnk.resetKind ∧ (beginNotice d).lnk.resetUptime = d.lnk.resetUptime ∧
    (beginNotice d).sched = d.sched := by
  unfold beginNotice
  (try simp)
  all_goals ((repeat' split) <;> (try simp))
  all_goals ((repeat' split) <;> simp_all)

@[simp] theorem chooseFrame_frame (d : Device) :
    (chooseFrame d).pins = d.pins ∧ (chooseFrame d).factory = d.factory ∧ (chooseFrame d).sns = d.sns ∧ (chooseFrame d).vbl = d.vbl ∧
    (chooseFrame d).bgt = d.bgt ∧ (chooseFrame d).htr = d.htr ∧ (chooseFrame d).cmp = d.cmp ∧ (chooseFrame d).lgt = d.lgt ∧
    (chooseFrame d).npl.state = d.npl.state ∧ (chooseFrame d).npl.source = d.npl.source ∧ (chooseFrame d).npl.wake = d.npl.wake ∧
    (chooseFrame d).npl.setpoint = d.npl.setpoint ∧ (chooseFrame d).npl.lead = d.npl.lead ∧
    (chooseFrame d).npl.wakeLights = d.npl.wakeLights ∧ (chooseFrame d).npl.quiet = d.npl.quiet ∧
    (chooseFrame d).npl.hostQuiet = d.npl.hostQuiet ∧ (chooseFrame d).npl.lastClass = d.npl.lastClass ∧
    (chooseFrame d).npl.lastProjection = d.npl.lastProjection ∧ (chooseFrame d).npl.horizonHanded = d.npl.horizonHanded ∧
    (chooseFrame d).npl.result = d.npl.result ∧ (chooseFrame d).npl.prewarmMark = d.npl.prewarmMark ∧
    (chooseFrame d).lnk.receiver = d.lnk.receiver ∧ (chooseFrame d).lnk.lastByte = d.lnk.lastByte ∧
    (chooseFrame d).lnk.queue = d.lnk.queue ∧ (chooseFrame d).lnk.awake = d.lnk.awake ∧ (chooseFrame d).lnk.idle = d.lnk.idle ∧
    (chooseFrame d).lnk.lastFrame = d.lnk.lastFrame ∧ (chooseFrame d).lnk.enables = d.lnk.enables ∧
    (chooseFrame d).lnk.idleTime = d.lnk.idleTime ∧ (chooseFrame d).lnk.resetKind = d.lnk.resetKind ∧
    (chooseFrame d).lnk.resetUptime = d.lnk.resetUptime ∧ (chooseFrame d).sched = d.sched := by
  unfold chooseFrame
  (try simp)
  all_goals ((repeat' split) <;> (try simp))
  all_goals ((repeat' split) <;> simp_all)

@[simp] theorem transmitterFree_frame (d : Device) :
    (transmitterFree d).pins = d.pins ∧ (transmitterFree d).factory = d.factory ∧ (transmitterFree d).sns.uptime = d.sns.uptime ∧
    (transmitterFree d).sns.clockSet = d.sns.clockSet ∧ (transmitterFree d).sns.clockOffset = d.sns.clockOffset ∧
    (transmitterFree d).sns.analog = d.sns.analog ∧ (transmitterFree d).vbl = d.vbl ∧
    (transmitterFree d).lgt.ch7Applied = d.lgt.ch7Applied ∧ (transmitterFree d).npl.source = d.npl.source ∧
    (transmitterFree d).npl.lastClass = d.npl.lastClass ∧ (transmitterFree d).npl.lastProjection = d.npl.lastProjection ∧
    (transmitterFree d).lnk.receiver = d.lnk.receiver ∧ (transmitterFree d).lnk.lastByte = d.lnk.lastByte ∧
    (transmitterFree d).lnk.lastFrame = d.lnk.lastFrame ∧ (transmitterFree d).sched = d.sched := by
  unfold transmitterFree
  (try simp)
  all_goals ((repeat' split) <;> (try simp))
  all_goals ((repeat' split) <;> simp_all)

@[simp] theorem tickMs_frame (d : Device) :
    (tickMs d).pins = d.pins ∧ (tickMs d).factory = d.factory ∧
    (tickMs d).sns.uptime = d.sns.uptime ∧ (tickMs d).sns.clockSet = d.sns.clockSet ∧
    (tickMs d).sns.clockOffset = d.sns.clockOffset ∧ (tickMs d).sns.analog = d.sns.analog ∧
    (tickMs d).sns.tables = d.sns.tables ∧ (tickMs d).sns.lines = d.sns.lines ∧ (tickMs d).sns.current = d.sns.current ∧
    (tickMs d).vbl = d.vbl ∧ (tickMs d).chg = d.chg ∧ (tickMs d).bgt.horizonSource = d.bgt.horizonSource ∧
    (tickMs d).bgt.defaultHorizon = d.bgt.defaultHorizon ∧ (tickMs d).bgt.last = d.bgt.last ∧
    (tickMs d).bgt.outlet = d.bgt.outlet ∧ (tickMs d).htr = d.htr ∧ (tickMs d).cmp = d.cmp ∧
    (tickMs d).lgt.chSettings = d.lgt.chSettings ∧ (tickMs d).lgt.scenes = d.lgt.scenes ∧
    (tickMs d).lgt.settings = d.lgt.settings ∧ (tickMs d).lgt.sources = d.lgt.sources ∧
    (tickMs d).lgt.ch7Applied = d.lgt.ch7Applied ∧ (tickMs d).lgt.ch7On = d.lgt.ch7On ∧
    (tickMs d).lgt.ch7Timer = d.lgt.ch7Timer ∧ (tickMs d).lgt.buzzer = d.lgt.buzzer ∧ (tickMs d).rtm = d.rtm ∧
    (tickMs d).npl = d.npl ∧ (tickMs d).lnk.receiver = d.lnk.receiver ∧ (tickMs d).lnk.lastByte = d.lnk.lastByte ∧
    (tickMs d).lnk.queue = d.lnk.queue ∧ (tickMs d).lnk.out = d.lnk.out ∧ (tickMs d).lnk.tx = d.lnk.tx ∧
    (tickMs d).lnk.sendEnd = d.lnk.sendEnd ∧ (tickMs d).lnk.awake = d.lnk.awake ∧ (tickMs d).lnk.idle = d.lnk.idle ∧
    (tickMs d).lnk.lastFrame = d.lnk.lastFrame ∧ (tickMs d).lnk.enables = d.lnk.enables ∧
    (tickMs d).lnk.idleTime = d.lnk.idleTime ∧ (tickMs d).lnk.resetKind = d.lnk.resetKind ∧
    (tickMs d).lnk.resetUptime = d.lnk.resetUptime ∧ (tickMs d).sched = d.sched := by
  unfold tickMs
  (try simp)
  all_goals ((repeat' split) <;> (try simp))
  all_goals ((repeat' split) <;> simp_all)

end Sys2Proof.Machine
end

