-- ==== Sys2Proof/Laws/Ops.lean ====
section
/-! SUPPORT. For each shared operation, what it can do, said once. -/

namespace Sys2Proof.Machine

/-! ## Timers -/

/-- A timer that is stopped brings nothing about. -/
@[simp] theorem atTimer_none (f : Device → Device) (d : Device) : atTimer none f d = d := rfl

/-- A running timer's event is taken at its time. -/
@[simp] theorem atTimer_some (t : Nat) (f : Device → Device) (d : Device) : atTimer (some t) f d = f (reach t d) := rfl

/-- The event of a timer either does not happen, the timer being stopped, or is taken at the timer's time. -/
theorem atTimer_cases (timer : Option Nat) (f : Device → Device) (d : Device) :
    (timer = none ∧ atTimer timer f d = d) ∨ ∃ t, timer = some t ∧ atTimer timer f d = f (reach t d) := by
  cases timer with
  | none => exact .inl ⟨rfl, rfl⟩
  | some t => exact .inr ⟨t, rfl, rfl⟩

/-- A moment that has been reached already is not gone back to. -/
theorem reach_past {t : Nat} {d : Device} (h : t ≤ d.sns.ms) : reach t d = d := by
  simp [reach, Nat.max_eq_left h]

/-! ## Arithmetic -/

/-- Division rounded up, as the manual's "rounded up" is read: the least whole number not below the quotient. -/
theorem ceilDiv_le {a b n : Nat} (hb : 0 < b) : ceilDiv a b ≤ n ↔ a ≤ n * b := by
  unfold ceilDiv
  rw [Nat.div_le_iff_le_mul_add_pred hb]
  constructor <;> intro h <;> nlinarith [Nat.mul_comm b n]

/-- A value clamped to a range lies in it. -/
theorem clampNat_mem {lo hi : Nat} (h : lo ≤ hi) (x : Nat) : lo ≤ clampNat lo hi x ∧ clampNat lo hi x ≤ hi := by
  unfold clampNat; omega

/-- A value clamped to a range lies in it. -/
theorem clampInt_mem {lo hi : Int} (h : lo ≤ hi) (x : Int) : lo ≤ clampInt lo hi x ∧ clampInt lo hi x ≤ hi := by
  unfold clampInt; omega

/-- A value in the range is left by the clamp. -/
theorem clampInt_of_mem {lo hi x : Int} (h1 : lo ≤ x) (h2 : x ≤ hi) : clampInt lo hi x = x := by
  unfold clampInt; omega

/-! ## Notices (R191) -/

/-- A posting either finds its kind disabled and does nothing, or merges it into the table. -/
theorem post_cases (k : NoticeKind) (d : Device) :
    (noticeEnabled d k = false ∧ post k d = d) ∨
    (noticeEnabled d k = true ∧
      post k d = { d with lnk := { d.lnk with notices := mergeNotice k none d.lnk.notices } }) := by
  unfold post
  cases noticeEnabled d k <;> simp

/-- A posting leaves the mask of the enabled kinds. -/
@[simp] theorem post_noticeEnabled (j k : NoticeKind) (d : Device) : noticeEnabled (post k d) j = noticeEnabled d j := by
  rcases post_cases k d with ⟨_, h⟩ | ⟨_, h⟩ <;> rw [h] <;> rfl

/-- The merged kind stands in the table. -/
theorem mergeNotice_mem (k : NoticeKind) (mark : Option (Nat × Bool)) (l : List Notice) :
    ∃ n ∈ mergeNotice k mark l, n.kind = k := by
  induction l with
  | nil => exact ⟨_, List.mem_singleton.2 rfl, rfl⟩
  | cons n rest ih =>
    unfold mergeNotice
    split
    · exact ⟨_, List.mem_cons_self, by assumption⟩
    · obtain ⟨m, hm, hk⟩ := ih
      exact ⟨m, List.mem_cons_of_mem _ hm, hk⟩

/-- The kinds of a merged table: those of the table, and the kind merged at the end where it had no entry. -/
theorem mergeNotice_kinds (k : NoticeKind) (mark : Option (Nat × Bool)) (l : List Notice) :
    (mergeNotice k mark l).map (·.kind) = if k ∈ l.map (·.kind) then l.map (·.kind) else l.map (·.kind) ++ [k] := by
  induction l with
  | nil => simp [mergeNotice]
  | cons n rest ih =>
    unfold mergeNotice
    by_cases h : n.kind = k
    · simp [h]
    · have h' : ¬k = n.kind := fun e => h e.symm
      simp only [h, if_false, List.map_cons, ih, List.mem_cons, h', false_or]
      split <;> simp

/-- The entries of the other kinds are as they were. -/
theorem mergeNotice_others (k : NoticeKind) (mark : Option (Nat × Bool)) (l : List Notice) :
    (mergeNotice k mark l).filter (fun n => decide (n.kind ≠ k)) = l.filter (fun n => decide (n.kind ≠ k)) := by
  induction l with
  | nil => simp [mergeNotice]
  | cons n rest ih =>
    unfold mergeNotice
    by_cases h : n.kind = k
    · simp [h]
    · simpa [h] using ih

/-- Every entry of a merged table has a merge count of 1 to 255, when those of the table have. -/
theorem mergeNotice_counts (k : NoticeKind) (mark : Option (Nat × Bool)) (l : List Notice)
    (h : ∀ n ∈ l, 1 ≤ n.merge ∧ n.merge ≤ 255) : ∀ n ∈ mergeNotice k mark l, 1 ≤ n.merge ∧ n.merge ≤ 255 := by
  induction l with
  | nil => simp [mergeNotice]
  | cons n rest ih =>
    unfold mergeNotice
    have hn := h n List.mem_cons_self
    have hr := ih fun m hm => h m (List.mem_cons_of_mem _ hm)
    split
    · intro m hm
      rcases List.mem_cons.1 hm with rfl | hm
      · simp only [satSucc]; omega
      · exact h m (List.mem_cons_of_mem _ hm)
    · intro m hm
      rcases List.mem_cons.1 hm with rfl | hm
      · exact hn
      · exact hr m hm

/-! ## The Load Table (R54) -/

/-- A write leaves floor ≤ granted ≤ requested ≤ the last step. -/
theorem written_sound (e : Entry) (requested floor uptime : Nat) :
    let e' := e.written requested floor uptime
    e'.floor ≤ e'.granted ∧ e'.granted ≤ e'.requested ∧ e'.requested ≤ e.steps.length - 1 ∧ e'.steps = e.steps ∧
      e'.rank = e.rank := by
  refine ⟨?_, ?_, ?_, rfl, rfl⟩ <;> simp only [Entry.written] <;> omega

/-- R54: a request below the heater's level, with a floor of 1, leaves the grant below that level: so it is that a wished level that
falls below the level lowers the grant (R79), and the grant the level (R91; log 14). -/
theorem wish_below_level_cuts_grant (e : Entry) {wished level : Nat} (uptime : Nat) (h : max 1 wished < level) :
    (e.written wished 1 uptime).granted < level := by
  simp only [Entry.written]
  omega

/-- What a write makes of its entry. -/
@[simp] theorem writeEntry_get_self (l : Load) (requested floor : Nat) (d : Device) :
    (writeEntry l requested floor d).bgt.table.get l = (d.bgt.table.get l).written requested floor d.sns.uptime := by
  unfold writeEntry entryOf
  dsimp only
  split_ifs <;> simp [leaveWaiting, triggerPass]

/-- A write leaves the other entries. -/
theorem writeEntry_get_other {l m : Load} (h : m ≠ l) (requested floor : Nat) (d : Device) :
    (writeEntry l requested floor d).bgt.table.get m = d.bgt.table.get m := by
  unfold writeEntry entryOf
  dsimp only
  split_ifs <;> simp [leaveWaiting, triggerPass, h]

/-- A write touches its entry, the passes due and the waiting list alone. -/
theorem writeEntry_only (l : Load) (requested floor : Nat) (d : Device) :
    let t := writeEntry l requested floor d
    t = { d with bgt := { d.bgt with
      table := d.bgt.table.put l ((d.bgt.table.get l).written requested floor d.sns.uptime)
      passesDue := t.bgt.passesDue
      allowance := { d.bgt.allowance with waiting := t.bgt.allowance.waiting } } } := by
  unfold writeEntry entryOf
  dsimp only
  split_ifs <;> rfl

/-! ## The inrush allowance (R64, R65) -/

/-- The four answers to a request: ignored, denied, granted at once, or appended to the waiting list. -/
theorem requestAllowance_cases (l : Load) (d : Device) :
    ((holds d l = true ∨ waits d l = true) ∧ requestAllowance l d = (d, none)) ∨
    (holds d l = false ∧ waits d l = false ∧ (d.chg.uv = .critical ∨ grantOf d l = 0) ∧
      requestAllowance l d = (d, some .denied)) ∨
    (holds d l = false ∧ waits d l = false ∧ d.chg.uv ≠ .critical ∧ grantOf d l ≠ 0 ∧ d.bgt.allowance.state = .free ∧
      requestAllowance l d = (putAllowance (d.bgt.allowance.give l d.sns.ms) d, some .granted)) ∨
    (holds d l = false ∧ waits d l = false ∧ d.chg.uv ≠ .critical ∧ grantOf d l ≠ 0 ∧ d.bgt.allowance.state ≠ .free ∧
      requestAllowance l d = (putAllowance { d.bgt.allowance with waiting := d.bgt.allowance.waiting ++ [l] } d, none)) := by
  unfold requestAllowance
  cases hh : holds d l <;> cases hw : waits d l <;> simp only [Bool.or_true, Bool.or_false] <;>
    simp
  by_cases hc : d.chg.uv = .critical <;> by_cases hg : grantOf d l = 0 <;> by_cases hf : d.bgt.allowance.state = .free <;>
    simp [hc, hg, hf]

/-- A release by the holder leaves the allowance SETTLING; another's changes nothing. -/
theorem releaseAllowance_cases (l : Load) (d : Device) :
    (holds d l = true ∧ releaseAllowance l d = putAllowance (d.bgt.allowance.release d.sns.ms) d) ∨
    (holds d l = false ∧ releaseAllowance l d = d) := by
  unfold releaseAllowance
  cases holds d l <;> simp

/-- A withdrawal is the holder's release, or takes the load from the waiting list. -/
theorem withdrawAllowance_cases (l : Load) (d : Device) :
    (holds d l = true ∧ withdrawAllowance l d = putAllowance (d.bgt.allowance.release d.sns.ms) d) ∨
    (holds d l = false ∧ withdrawAllowance l d = leaveWaiting l d) := by
  unfold withdrawAllowance releaseAllowance
  cases holds d l <;> simp

/-! ## The link (R185, R186, R189, R190) -/

/-- The next frame of the reply that is ready begins while the transmitter is idle; otherwise nothing happens. -/
theorem sendReply_cases (d : Device) :
    sendReply d = d ∨
    ∃ run f rest, d.lnk.tx = .idle ∧ d.lnk.out = some run ∧ run.rest = f :: rest ∧
      sendReply d = { d with lnk := { d.lnk with
        tx := .reply f, out := some { run with rest := rest }, sendEnd := d.sns.ms + frameMs f } } := by
  unfold sendReply
  split
  · rename_i run htx hout
    split
    · exact .inl rfl
    · rename_i f rest hr
      exact .inr ⟨run, f, rest, htx, hout, hr, rfl⟩
  · exact .inl rfl

/-- A request with none in hand is heard, handed to its owner, and answered. -/
theorem serve_free {d : Device} (hq : d.lnk.queue = []) (ho : d.lnk.out = none) (kind tag : Byte) (body : List Byte)
    (owner : List Byte → Device → Answered) :
    serve kind tag body owner d =
      putReply (kind + 0x80) tag false (owner body (acceptFrame { kind := kind, tag := tag, body := body } d)) := by
  simp [serve, deliver, inHand, hq, ho]

/-- A request that is in hand and unanswered is handed to its owner, and answered. -/
theorem serve_inHand {d : Device} {kind tag : Byte} {body : List Byte} {rest : List Frame}
    (hq : d.lnk.queue = { kind := kind, tag := tag, body := body } :: rest) (ho : d.lnk.out = none)
    (owner : List Byte → Device → Answered) :
    serve kind tag body owner d = putReply (kind + 0x80) tag false (owner body d) := by
  simp [serve, deliver, inHand, hq, ho]

/-- A request that finds another in hand waits its turn. -/
theorem serve_waits {d : Device} {kind tag : Byte} {body : List Byte} {f : Frame} {rest : List Frame}
    (hq : d.lnk.queue = f :: rest) (hf : f ≠ { kind := kind, tag := tag, body := body })
    (owner : List Byte → Device → Answered) :
    serve kind tag body owner d = acceptFrame { kind := kind, tag := tag, body := body } d := by
  simp [serve, deliver, inHand, hq, hf]

/-- A refused request answers with the part it was given, and with no contents. -/
@[simp] theorem refuse_contents (r : Result) (d : Device) : (refuse r d).contents = [] := rfl
@[simp] theorem refuse_result (r : Result) (d : Device) : (refuse r d).result = r := rfl
@[simp] theorem taken_result (d : Device) (c : List Byte) : (taken d c).result = .ok := rfl
@[simp] theorem taken_contents (d : Device) (c : List Byte) : (taken d c).contents = c := rfl

/-! ## Indications (R141) -/

/-- What a posting makes of the source list. -/
@[simp] theorem postIndication_sources (g : Source) (n : Nat) (new : Bool) (d : Device) :
    (postIndication g n new d).lgt.sources = d.lgt.sources.put g ((d.lgt.sources.get g).posted d.npl.quiet n new) := by
  unfold postIndication stopUnmarked
  dsimp only
  split_ifs <;> simp

/-! ## The dial -/

/-- R16: a sample leaves a line's filtered level, or is the second in a row that differs and becomes it. -/
theorem filterDial_cases (level differed raw : Bool) :
    ((filterDial level differed raw).1 = level ∧ (filterDial level differed raw).2 = (decide (raw ≠ level) && !differed)) ∨
    (raw ≠ level ∧ differed = true ∧ filterDial level differed raw = (raw, false)) := by
  cases level <;> cases differed <;> cases raw <;> decide

/-- R16: a filtered pair that stays, one that skips a state, a step counted, and the fourth step, which is a detent. -/
theorem turnDial_cases (a b : Bool) (d : Device) :
    let u := putSns { d.sns with dial := { d.sns.dial with a := a, b := b } } d
    turnDial a b d = u ∨ (∃ n, turnDial a b d = putCount n u) ∨ ∃ dir, turnDial a b d = detent dir u := by
  unfold turnDial
  dsimp only
  split
  · exact .inl rfl
  · split
    · exact .inr (.inl ⟨_, rfl⟩)
    · split
      · exact .inr (.inr ⟨_, rfl⟩)
      · split
        · exact .inr (.inr ⟨_, rfl⟩)
        · exact .inr (.inl ⟨_, rfl⟩)

/-! ## The heater's level -/

/-- R91: a level above a bound is lowered to it, in RAMP and RUN, and never below 1; any other stays. -/
theorem lowerTo_cases (bound : Nat) (d : Device) :
    (levelInForce d = true ∧ max 1 bound < d.htr.level ∧ lowerTo bound d = changeLevel (max 1 bound) d) ∨
    ((levelInForce d = false ∨ d.htr.level ≤ max 1 bound) ∧ lowerTo bound d = d) := by
  unfold lowerTo
  cases levelInForce d <;> simp
  omega

/-- R91: in RAMP and RUN no level stands above a bound it was lowered to. -/
theorem lowerTo_level_le (bound : Nat) (d : Device) (h : levelInForce d = true) : (lowerTo bound d).htr.level ≤ max 1 bound := by
  obtain ⟨-, -, e⟩ | ⟨l | l, e⟩ := lowerTo_cases bound d
  · simp [e, changeLevel, putHtr]
  · simp [h] at l
  · rwa [e]

/-- R90: a move of the level is one step up within the grant and the maximum allowed level, one step down, or none. -/
theorem moveLevel_cases (d : Device) :
    (d.htr.level < d.htr.wished ∧ d.htr.level + 1 ≤ grantOf d .heater ∧ d.htr.level + 1 ≤ maxAllowed d ∧
      moveLevel d = changeLevel (d.htr.level + 1) d) ∨
    (d.htr.wished < d.htr.level ∧ moveLevel d = changeLevel (d.htr.level - 1) d) ∨ moveLevel d = d := by
  unfold moveLevel
  dsimp only
  split_ifs <;> simp_all

/-- R88: RAMP is left for RUN once the level has reached its bound. -/
theorem rampTest_cases (d : Device) :
    (d.htr.state = .ramp ∧ min d.htr.wished (min (grantOf d .heater) (maxAllowed d)) ≤ d.htr.level ∧ rampTest d = toRun d) ∨
    rampTest d = d := by
  unfold rampTest
  split
  · exact .inl ⟨(‹_ ∧ _›).1, (‹_ ∧ _›).2, rfl⟩
  · exact .inr rfl

/-- R55, R88, R91: a grant handed over lowers the level to the grant and the maximum allowed level, and in RAMP may end the ramp. -/
theorem heaterGrant_cases (d : Device) :
    let u := lowerTo (min (grantOf d .heater) (maxAllowed d)) d
    heaterGrant d = u ∨ d.htr.state = .ramp ∧ heaterGrant d = toRun u := by
  intro u
  have hs : u.htr.state = d.htr.state := by
    obtain ⟨-, -, e⟩ | ⟨-, e⟩ := lowerTo_cases (min (grantOf d .heater) (maxAllowed d)) d <;> simp [u, e, changeLevel, putHtr]
  obtain ⟨h, -, e⟩ | e := rampTest_cases u
  · exact .inr ⟨hs ▸ h, e⟩
  · exact .inl e

/-- R79: in RUN a wished level set is written into the entry as the requested step with a floor of 1, and nothing else is. -/
theorem setWished_entry {d : Device} (w : Nat) (h : d.htr.state = .run) :
    (setWished w d).bgt = (writeEntry .heater w 1 d).bgt := by
  have hw : writeHeater (putHtr { d.htr with wished := w } d) = writeEntry .heater w 1 (putHtr { d.htr with wished := w } d) := by
    simp [writeHeater, heaterAsk, putHtr, h]
  have hs : (writeEntry .heater w 1 (putHtr { d.htr with wished := w } d)).htr.state = .run := by
    rw [writeEntry_only]; exact h
  obtain e | ⟨hr, -⟩ := heaterGrant_cases (writeEntry .heater w 1 (putHtr { d.htr with wished := w } d))
  · have hb : ∀ b (x : Device), (lowerTo b x).bgt = x.bgt := by
      intro b x
      obtain ⟨-, -, e⟩ | ⟨-, e⟩ := lowerTo_cases b x <;> rw [e] <;> rfl
    unfold setWished followWish
    rw [hw, e, hb, writeEntry_only, writeEntry_only .heater w 1 d]
    unfold writeEntry entryOf triggerPass leaveWaiting putHtr
    dsimp only
    split_ifs <;> rfl
  · rw [hs] at hr; cases hr

/-! ## The bridge -/

/-- R118: a bridge that is not driven has its six gates off. -/
theorem Bridge.parked_isOff (b : Bridge) (held : Bool) : (b.parked held).isOff := by
  cases held <;> simp [Bridge.parked, Bridge.isOff, LegState.isOff, LegState.driven, idleBridge, idleLeg]

/-- R13, R122: a bridge held off has its six gates off. -/
theorem Bridge.heldOff_isOff (b : Bridge) : b.heldOff.isOff := by
  simp [Bridge.heldOff, Bridge.isOff, LegState.isOff, LegState.driven]

end Sys2Proof.Machine
end

