-- ==== Sys2Proof/WellFormed.lean ====
section
/-! DEFINITION. Which commands can come about on the part: a frame's body has at most 60 bytes (R184), the three HEATER_CONFIG
commands carry their own part (R76, R77), and an event's operands are ones its rule can bring. A command that is not well formed
still runs: its meaning then takes the path its rule gives those operands. -/

namespace Sys2Proof

open Sys2Proof.Machine

/-- R184: a body that a frame can carry. LEN, 2 to 62, counts KIND, TAG and BODY. -/
def goodBody (body : List Byte) : Bool := decide (body.length ≤ 60)

/-- R76, R77: the part a HEATER_CONFIG body names, `none` for an empty body. -/
def configPart (body : List Byte) : Option Nat := body.head?.map BitVec.toNat

/-- R20, R24: an identifier of a format, and the data bytes a length code gives. -/
def goodFrame (format : FrameFormat) (ident : Ident) (dlc : BitVec 4) (data : List Byte) : Bool :=
  decide (ident.toNat ≤ formatTop format) && decide (data.length = dataLength dlc)

/-- Whether a command can come about. -/
def Instr.wf : Instr → Bool
  | .coldReset => true
  | .frameReceived _ _ body => goodBody body
  | .frameDiscarded _ => true
  | .unknownKind kind _ body => goodBody body && decide (kind ∉ requestKinds)
  | .transmitterFree => true
  | .idleTimerExpiry => true
  | .identify _ body => goodBody body
  | .restart _ body => goodBody body
  | .getStatus _ body => goodBody body
  | .linkConfig _ body => goodBody body
  | .setClock _ body => goodBody body
  | .setSensorTable _ body => goodBody body
  | .readSensors _ body => goodBody body
  | .inputConfig _ body => goodBody body
  | .inputForce _ body => goodBody body
  | .inputRelease _ body => goodBody body
  | .measurementSweep _ => true
  | .acceptedChange _ _ => true
  | .din5RawActive => true
  | .din5RawInactive => true
  | .din6RawActive => true
  | .din6RawInactive => true
  | .detent _ => true
  | .uptimeSecond => true
  | .busConfig _ body => goodBody body
  | .busSlotSet _ body => goodBody body
  | .busBind _ body => goodBody body
  | .readVehicle _ body => goodBody body
  | .canFrame format ident dlc data => goodFrame format ident dlc data
  | .silenceTimerExpiry => true
  | .freshnessTimerExpiry _ => true
  | .batteryConfig _ body => goodBody body
  | .setCharge _ body => goodBody body
  | .readCharge _ body => goodBody body
  | .chgAccountingTick => true
  | .gradingRunComplete => true
  | .fullChargeDetection => true
  | .budgetConfig _ body => goodBody body
  | .readBudget _ body => goodBody body
  | .outletSet _ body => goodBody body
  | .budgetPass => true
  | .holdTimerExpiry => true
  | .settlingTimerExpiry => true
  | .closingTimerExpiry => true
  | .heaterConfigLevelTable _ body => goodBody body && decide (configPart body ≠ some 1 ∧ configPart body ≠ some 2)
  | .heaterConfigSequence _ body => goodBody body && decide (configPart body = some 1)
  | .heaterConfigLimits _ body => goodBody body && decide (configPart body = some 2)
  | .heaterStart _ body => goodBody body
  | .heaterStop _ body => goodBody body
  | .heaterUnlock _ body => goodBody body
  | .heaterServiceClear _ body => goodBody body
  | .readHeater _ body => goodBody body
  | .waitTimerExpiry => true
  | .glowTimeExpiry => true
  | .glowOneShotExpiry => true
  | .flameWindowExpiry => true
  | .purgeTimeExpiry => true
  | .fuelPulseStart => true
  | .fuelPulseEnd => true
  | .rampStep => true
  | .levelDwellExpiry => true
  | .pauseTimerExpiry => true
  | .tachPulse periodUs => decide (0 < periodUs)
  | .tachTimeout => true
  | .blowerSpeedTimeout => true
  | .runUntilReached => true
  | .minimumCooldownExpiry => true
  | .maximumCooldownExpiry => true
  | .fridgeConfig _ body => goodBody body
  | .fridgeEnable _ body => goodBody body
  | .fridgeDisable _ body => goodBody body
  | .fridgeClear _ body => goodBody body
  | .readFridge _ body => goodBody body
  | .timedPhaseExpiry => true
  | .minimumOffPassed => true
  | .dutyRampStep => true
  | .startTimerExpiry => true
  | .hallEdge code intervalUs => validCode code && decide (0 < intervalUs)
  | .minimumRunExpiry => true
  | .failureCounterResetTimer => true
  | .raiseTimerExpiry => true
  | .stoppingCoastEnd => true
  | .stallTimerExpiry => true
  | .backoffExpiry => true
  | .blockedTimerExpiry => true
  | .lightSet _ body => goodBody body
  | .lightGroup _ body => goodBody body
  | .sceneSet _ body => goodBody body
  | .sceneRecall _ body => goodBody body
  | .lightConfig _ body => goodBody body
  | .readLights _ body => goodBody body
  | .courtesyTimerExpiry => true
  | .fadeEnd _ => true
  | .ch7PatternPhase => true
  | .buzzerBeatPhase => true
  | .restRules _ body => goodBody body
  | .declareActivity _ body => goodBody body
  | .ackWarning _ body => goodBody body
  | .readRest _ body => goodBody body
  | .readTimeline _ body => goodBody body
  | .restTick => true
  | .classTake => true
  | .restCrossing => true
  | .repeatRaise => true
  | .planSet _ body => goodBody body
  | .planCancel _ body => goodBody body
  | .quietSet _ body => goodBody body
  | .readPlan _ body => goodBody body
  | .leadRecompute => true
  | .prewarmTimeReached => true
  | .wake => true
  | .byteReceived _ _ => true
  | .inputSample _ => true
  | .dialCount _ _ => true
  | .compressorCurrentSample _ => true
  | .carrierValley => true
  | .deadTimeExpiry _ => true
  | .lampPwmBoundary => true
  | .hallCodeInvalid code => !validCode code

end Sys2Proof
end

