-- ==== Sys2Proof/Tests/Slice0.lean ====
section
/-! SUPPORT. The model's own tests: the well-formedness smoke, the manual's worked examples, and for every obligation with hypotheses
states and operands that meet them. Expected values are the manual's, or worked by hand from its rules; each section names its
source. -/

namespace Sys2Proof.Tests

open Sys2Proof Sys2Proof.Machine Sys2Proof.Stated

-- One thread: the tests run as one burst of tasks otherwise, which asks for more stacks than the memory limit gives.
set_option Elab.async false

/-! ## Small states -/

/-- The part after reset. -/
def cold : Device := State.reset.dev

/-- A part with no command waiting. -/
def at_ (d : Device) : State := { dev := d, pending := [] }

/-- The part after a command. -/
def after (c : Instr) (d : Device) : Device :=
  match exec c (at_ d) with
  | .next t => t.dev
  | _ => d

/-- The part after reset with an empty notice table. -/
def still : Device := { cold with lnk := { cold.lnk with notices := [] } }

/-- The part after reset with the cab clock SET at offset 1,000. -/
def clocked : Device := { cold with sns := { cold.sns with clockSet := true, clockOffset := 1000 } }

/-- The part after reset with the heater in a state and with the timers given. -/
def heating (st : HeaterState) (timers : HeaterTimers) : Device :=
  { cold with htr := { cold.htr with state := st, timers := timers } }

/-- The part after reset with the compressor in a state, ENABLE ON and demand present, and with the timers given. -/
def cooling (st : CompState) (timers : CompTimers) : Device :=
  { cold with cmp := { cold.cmp with state := st, enable := true, demand := true, timers := timers } }

/-! ## Well-formedness: each check refuses an ill-formed command -/

theorem test_wf_body : Instr.wf (.identify 0 (List.replicate 60 0)) = true ∧ Instr.wf (.identify 0 (List.replicate 61 0)) = false := by
  decide +kernel

theorem test_wf_unknown_kind : Instr.wf (.unknownKind 0x05 0 []) = true ∧ Instr.wf (.unknownKind 0x04 0 []) = false := by
  decide +kernel

theorem test_wf_frame_identifier :
    Instr.wf (.canFrame .standard 2047 0 []) = true ∧ Instr.wf (.canFrame .standard 2048 0 []) = false := by
  decide +kernel

theorem test_wf_frame_data :
    Instr.wf (.canFrame .extended 0 9 (List.replicate 8 0)) = true ∧ Instr.wf (.canFrame .extended 0 3 [0, 0]) = false := by
  decide +kernel

theorem test_wf_tach_period : Instr.wf (.tachPulse 1) = true ∧ Instr.wf (.tachPulse 0) = false := by decide +kernel

theorem test_wf_hall_code :
    Instr.wf (.hallEdge 1 1) = true ∧ Instr.wf (.hallEdge 0 1) = false ∧ Instr.wf (.hallEdge 7 1) = false := by decide +kernel

theorem test_wf_hall_interval : Instr.wf (.hallEdge 6 0) = false := by decide +kernel

theorem test_wf_hall_invalid :
    Instr.wf (.hallCodeInvalid 7) = true ∧ Instr.wf (.hallCodeInvalid 1) = false := by decide +kernel

theorem test_wf_heater_part :
    Instr.wf (.heaterConfigLevelTable 0 [1]) = false ∧ Instr.wf (.heaterConfigSequence 0 [2]) = false ∧
      Instr.wf (.heaterConfigLimits 0 [0]) = false ∧ Instr.wf (.heaterConfigLimits 0 [2]) = true := by decide +kernel

/-! ## The manual's worked examples -/

/-- Raw codes for a sweep: BATV and BATI as given, T_CAB as given, the rest at mid-scale. -/
def codes (batv bati tCab : RawCode) : SweepCodes :=
  { batv := batv, bati := bati, tCab := tCab, tExch := 2048, tFridge := 2048, tBatt := 2048 }

/-- The part after reset with three conversions of each of the first three channels in their histories. -/
def sampledThrice (batv bati tCab : List Nat) : Device :=
  { cold with sns := { cold.sns with analog := { cold.sns.analog with
      batv := { cold.sns.analog.batv with history := batv }
      bati := { cold.sns.analog.bati with history := bati }
      tCab := { cold.sns.analog.tCab with history := tCab, lastGood := 172 } } } }

/-- Chapter 1, "Worked conversion". -/
theorem test_sweep_voltage :
    (after (.measurementSweep (codes 2602 2053 2400)) (sampledThrice [2598, 2601, 2600] [2053, 2053, 2053] [2400, 2400, 2400])).sns.analog.batv.value
      = 21487 ∧
    (after (.measurementSweep (codes 0 2043 30)) (sampledThrice [0, 0, 0] [2043, 2043, 2043] [30, 30, 30])).sns.analog.batv.value = 0 := by
  decide +kernel

/-- Chapter 1, "Worked conversion" and "Worked interpolation": −62.5 is truncated to −62; a raw value of 30 is SHORT and the last good
value stays. -/
theorem test_sweep_current_and_short :
    let t := after (.measurementSweep (codes 0 2043 30)) (sampledThrice [0, 0, 0] [2043, 2043, 2043] [30, 30, 30])
    t.sns.analog.bati.value = -62 ∧ t.sns.analog.tCab.status = .shortCircuit ∧ t.sns.analog.tCab.value = 172 := by
  decide +kernel

/-- Chapter 1, "Worked interpolation"; and by R5 the exchanger's default table at 2,801: exactly 299.5, rounded away from zero. -/
theorem test_table_lookup :
    tableLookup defaultThermistorTable 2400 = 172 ∧ tableLookup defaultThermistorTable 60 = 1250 ∧
      tableLookup defaultExchangerTable 2801 = 300 := by decide +kernel

/-- Chapter 1, "Worked dial sequence": the fourth forward step 25 ms after a detent delivers +1 with multiplier 4. -/
theorem test_dial_detent :
    let at47 := fun (a : Bool) (count : Int) (last : LastDetent) =>
      ({ a := a, b := false, runA := false, runB := false, count := count, last := some last } : Dial)
    let d := { cold with sns := { cold.sns with
      ms := 47, dial := at47 true 3 { dir := .plus, time := 22, multiplier := 1, directionChange := false } } }
    (after (.dialCount false false) d).sns.dial =
      at47 false 0 { dir := .plus, time := 47, multiplier := 4, directionChange := false } := by decide +kernel

/-- Chapter 1, "Worked dial sequence": one backward step discards a count of +2. -/
theorem test_dial_discards :
    let d := { cold with sns := { cold.sns with
      dial := { a := true, b := true, runA := false, runB := false, count := 2, last := none } } }
    (after (.dialCount false true) d).sns.dial.count = -1 := by decide +kernel

/-- R16: the fixed filter of 2 samples of 1 ms: line A's level moves at the second millisecond, and counts one step back (00 to 10). -/
theorem test_dial_filter :
    let tick := fun d : Device => match step (at_ d) with
      | .next t => t.dev
      | _ => d
    let d := { still with pins := { still.pins with dialA := true } }
    ((tick d).sns.dial.a = false ∧ (tick d).sns.dial.count = 0) ∧ (tick (tick d)).sns.dial.a = true ∧
      (tick (tick d)).sns.dial.count = -1 := by decide +kernel

/-- Chapter 2, "Worked matching": slots 2, 4 and 10. -/
def matching : Device :=
  { cold with vbl := { cold.vbl with
      enable := true, listener := .listening, mask := 2 ^ 29 - 1
      slots := ((cold.vbl.slots.set 2 { coldSlot with enabled := true, format := .extended, ident := 0x0C4A2000, limit := 250 }).set 4
        { coldSlot with enabled := true, format := .standard, ident := 0x3A4 }).set 10
        { coldSlot with enabled := true, format := .extended, ident := 0x0C4A2000, ownMask := 0x1FFFFF00, limit := 500 } } }

/-- Chapter 2, "Worked matching". -/
theorem test_slot_matching :
    (slotOf (after (.canFrame .extended 0x0C4A2031 1 [7]) matching) 10).status = .fresh ∧
    (slotOf (after (.canFrame .extended 0x0C4A2031 1 [7]) matching) 2).status = .empty ∧
    (slotOf (after (.canFrame .extended 0x0C4A2000 1 [7]) matching) 10).status = .empty ∧
    (slotOf (after (.canFrame .standard 0x3A5 1 [7]) matching) 4).status = .empty := by decide +kernel

/-- Chapter 2, "Worked sequence": AMBIENT_TEMP, 12 bits from bit 40, most significant byte first, and the whole byte data. -/
theorem test_signal_fields :
    let data : List Byte := [0x90, 0x01, 0, 0, 0x02, 0xC6, 0x0D, 0x00]
    rawField { slot := 10, start := 40, length := 12, order := .firstMsb, num := 1, den := 2, offset := -400, vmin := -400, vmax := 600 }
      data = 710 ∧
    rawField { slot := 10, start := 0, length := 16, order := .firstLsb, num := 1, den := 4, offset := 0, vmin := 0, vmax := 2500 }
      data = 400 := by decide +kernel

/-- Chapter 2, "Worked sequence": the value −45, FRESH, and all ones NOT_AVAILABLE with the last good value kept. -/
theorem test_signals_evaluated :
    let bind := fun (start length : Nat) (order : ByteOrder) (num den : Nat) (offset vmin vmax : Int) (value : Int) =>
      ({ binding := some { slot := 10, start := start, length := length, order := order, num := num, den := den, offset := offset,
                           vmin := vmin, vmax := vmax }
         value := value, status := .never, lastUpdate := 0, updated := false } : SignalRec)
    let d := { matching with vbl := { matching.vbl with signals := { matching.vbl.signals with
      ambientTemp := bind 40 12 .firstMsb 1 2 (-400) (-400) 600 (-62), ignition := bind 50 2 .firstLsb 1 1 0 0 1 1 } } }
    let t := after (.canFrame .extended 0x0C4A2031 8 [0x90, 0x01, 0, 0, 0x02, 0xC6, 0x0D, 0x00]) d
    (t.vbl.signals.ambientTemp.value = -45 ∧ t.vbl.signals.ambientTemp.status = .fresh) ∧
      t.vbl.signals.ignition.value = 1 ∧ t.vbl.signals.ignition.status = .notAvailable := by decide +kernel

/-- A charge counter with ten samples of a current that sum to a value, in 10 mA. -/
def counting (q : Nat) (acc : Int) (last : Int) : Device :=
  { cold with chg := { cold.chg with
      known := true, q := q, acc := acc
      history := List.replicate 9 (-1537, 25000) ++ [(last, 25000)]
      battery := { cold.chg.battery with system := 24, capacity := 225000 } } }

/-- Chapter 3, "Worked counting": the first tick's ten samples sum to −15,373. -/
theorem test_charge_counting :
    let t := after .chgAccountingTick (counting 168750 (-1000) (-1540))
    t.chg.current = -1537 ∧ t.chg.acc = -1970 ∧ t.chg.q = 168746 := by decide +kernel

/-- Chapter 3, "Worked grading": the tenth tick below V_warn in NORMAL leads to LOW, its run to 0. -/
theorem test_grading :
    let d := counting 168750 0 (-1537)
    let d1 := { d with chg := { d.chg with
      history := List.replicate 10 (0, 23400), runs := { d.chg.runs with fallToLow := 9 } } }
    (after .chgAccountingTick d1).chg.uv = .low ∧ (after .chgAccountingTick d1).chg.runs.fallToLow = 0 := by decide +kernel

/-- Chapter 3, "Worked spendable charge", case A. -/
theorem test_spendable :
    let d := counting 168750 0 0
    let d1 := { d with
      sns := { d.sns with analog := { d.sns.analog with tBatt := { d.sns.analog.tBatt with status := .ok, value := -55 } } }
      chg := { d.chg with history := [], battery := { d.chg.battery with reserve := 500 } } }
    let t := after .chgAccountingTick d1
    t.chg.derate = 796 ∧ t.chg.soc = 750 ∧ t.chg.spendable = 44775 := by decide +kernel

/-- The Load Table of chapter 4, "Worked shed case", under a battery and a wake as the case has them. -/
def shedCase : Device :=
  let entry := fun (l : Load) (requested floor granted : Nat) =>
    { coldEntry l with requested := requested, floor := floor, granted := granted }
  { cold with
    chg := { cold.chg with known := true, uv := .normal, spendable := 16200 }
    bgt := { cold.bgt with
      horizonSource := some 32400
      table :=
        { base := entry .base 0 0 0, heater := entry .heater 3 1 3, compressor := entry .compressor 3 0 3
          lights := entry .lights 3 0 3, outlet := entry .outlet 1 0 1, warning := entry .warning 0 0 0 } } }

/-- Chapter 4, "Worked shed case". -/
theorem test_budget_shed :
    let t := after .budgetPass shedCase
    t.bgt.last.demand = 14940 ∧ t.bgt.last.stage = 2 ∧ t.bgt.last.short = false ∧
      (t.bgt.table.heater.granted, t.bgt.table.compressor.granted, t.bgt.table.lights.granted, t.bgt.table.outlet.granted)
        = (3, 0, 0, 0) := by decide +kernel

/-- Chapter 4, "Worked token sequence": at 104.800 s the settling expires and the waiting outlet closes its relay. -/
theorem test_token_settling :
    let d := { shedCase with bgt := { shedCase.bgt with
      allowance := { state := .settling, hold := none, settle := some 104800, waiting := [.outlet] }
      outlet := { state := .waitToken, closing := none } } }
    (after .settlingTimerExpiry d).bgt.allowance =
      { state := .held .outlet, hold := some 106800, settle := none, waiting := [] } ∧
    (after .settlingTimerExpiry d).bgt.outlet.state = .closing := by decide +kernel

/-- Chapter 4, "Worked token sequence": had the compressor failed to reach speed, the hold limit revokes it at 105.000 s. -/
theorem test_token_hold :
    let d := { shedCase with
      sns := { shedCase.sns with ms := 102000 }
      cmp := { shedCase.cmp with state := .start, enable := true, demand := true }
      bgt := { shedCase.bgt with
        allowance := { state := .held .compressor, hold := some 105000, settle := none, waiting := [.outlet] } } }
    (after .holdTimerExpiry d).bgt.allowance.settle = some 107000 := by decide +kernel

/-- Chapter 4, "Worked outlet sequence": 5,002 s, the closing timer. -/
theorem test_outlet_closing :
    let d := { shedCase with bgt := { shedCase.bgt with
      allowance := { state := .held .outlet, hold := some 5002000, settle := none, waiting := [] }
      outlet := { state := .closing, closing := some 5002000 } } }
    (after .closingTimerExpiry d).bgt.outlet.state = .on := by decide +kernel

/-- Chapter 5, "Worked staging": at 2,000 ms the staged 800 ms come into force; at 4,870 ms DIN5 ends the pulse. -/
theorem test_fuel_staging :
    let d := { heating .run noHeaterTimers with htr := { (heating .run noHeaterTimers).htr with
      level := 4, fuel := { running := true, interval := 1000, staged := some 800, lastStart := 1000, gate := false } } }
    (after .fuelPulseStart d).htr.fuel = { running := true, interval := 800, staged := none, lastStart := 2000, gate := true } ∧
    (after .din5RawActive (after .fuelPulseStart d)).htr.fuel.gate = false := by decide +kernel

/-- A heater in RAMP or RUN at a level, with a wished level and a grant. -/
def burning (st : HeaterState) (level wished grant : Nat) (timers : HeaterTimers) : Device :=
  { heating st timers with
    htr := { (heating st timers).htr with
      level := level, wished := wished, flameRef := 1480
      fuel := { running := true, interval := 1000, staged := none, lastStart := 0, gate := false }
      blower := { (heating st timers).htr.blower with duty := 550 } }
    bgt := { cold.bgt with table := { cold.bgt.table with
      heater := { cold.bgt.table.heater with requested := wished, floor := 1, granted := grant } } } }

/-- Chapter 5, "Worked start on a cold night": the ramp step at 272 s reaches the wished level 4, and the heater is in RUN. -/
theorem test_ramp_ends :
    let t := after .rampStep (burning .ramp 3 4 4 { noHeaterTimers with ramp := some 272000 })
    t.htr.state = .run ∧ t.htr.level = 4 ∧ t.htr.timers.dwell = some 332000 := by decide +kernel

/-- R79, R90, R54, R55, R91: a cab 1.5 degrees too warm lowers the wished level to 3, which the entry asks for at once; the write lowers
the grant to 3, and the lowered grant the level, whose dwell of 60 s starts afresh (log 14). -/
theorem test_fallen_wish_is_asked_for :
    let d := burning .run 4 4 4 { noHeaterTimers with dwell := some 50000 }
    let t := heaterSweep true { d with sns := { d.sns with
      analog := { d.sns.analog with tCab := { d.sns.analog.tCab with status := .ok, value := 215 } } } }
    (t.htr.wished = 3 ∧ t.bgt.table.heater.requested = 3 ∧ t.bgt.table.heater.granted = 3 ∧ t.htr.level = 3) ∧
      t.htr.state = .run ∧ t.htr.timers.dwell = some (d.sns.ms + 60000) := by decide +kernel

/-- R90: at a cab 1.5 degrees too cold the entry asks for level 4; the level stays at 3 until the dwell has run out. -/
theorem test_raised_wish_waits_for_dwell :
    let d := burning .run 3 3 3 { noHeaterTimers with dwell := some 50000 }
    let t := heaterSweep true { d with sns := { d.sns with
      analog := { d.sns.analog with tCab := { d.sns.analog.tCab with status := .ok, value := 185 } } } }
    t.htr.wished = 4 ∧ t.bgt.table.heater.requested = 4 ∧ t.htr.level = 3 ∧ t.htr.timers.dwell = some 50000 := by decide +kernel

/-- Chapter 5, "Worked start on a cold night": at 25 s the first pulse starts, and T_EXCH becomes the flame base. -/
theorem test_glow_ends :
    let d := heating .glow { noHeaterTimers with glow := some 25000 }
    let d1 := { d with sns := { d.sns with analog := { d.sns.analog with
      tExch := { d.sns.analog.tExch with status := .ok, value := -60 } } } }
    let t := after .glowTimeExpiry d1
    t.htr.state = .ignite ∧ t.htr.flameBase = -60 ∧ t.htr.fuel.gate = true ∧ t.htr.timers.window = some 115000 := by
  decide +kernel

/-- Chapter 5, "Worked start on a cold night": the glow one-shot ends the attempt at 90 s, and the allowance settles. -/
theorem test_one_shot_ends :
    let d := heating .ignite { noHeaterTimers with window := some 115000 }
    let d1 := { d with
      htr := { d.htr with glowSince := some 0 }
      bgt := { d.bgt with allowance := { state := .held .heater, hold := some 90000, settle := none, waiting := [] } } }
    (after .glowOneShotExpiry d1).htr.state = .purge ∧ (after .glowOneShotExpiry d1).htr.attempts = 1 := by decide +kernel

/-- Chapter 6, "Worked start and regulation": the window of 19,200 µs at 2,300 ms proves the start at 1,562 rpm. -/
theorem test_start_proved :
    let d := cooling .start { noCompTimers with start := some 3000, stall := some 2500 }
    let d1 := { d with
      sns := { d.sns with ms := 2300 }
      cmp := { d.cmp with
        wished := 2, staged := 650, window := { intervals := [3200, 3200, 3200, 3200, 3200], edges := 5, rpm := 0, first := false } } }
    let t := after (.hallEdge 3 3200) d1
    t.cmp.state = .run ∧ t.cmp.window.rpm = 1562 ∧ t.cmp.staged = 650 := by decide +kernel

/-- Chapter 6, "Worked start and regulation", regulation window 2: a mean current above the limit lowers the duty by 20. -/
theorem test_regulation :
    let d := cooling .run { noCompTimers with stall := some 2500 }
    let d1 := { d with
      sns := { d.sns with current := { sum := 123000, count := 10 } }
      cmp := { d.cmp with
        wished := 2, commanded := 2, staged := 655
        window := { intervals := [3000, 3000, 3000, 3000, 3000, 3000], edges := 5, rpm := 0, first := false } } }
    (after (.hallEdge 3 3000) d1).cmp.staged = 635 ∧ (after (.hallEdge 3 3000) d1).cmp.lastMean = some 12300 := by decide +kernel

/-- Chapter 6, "Worked failures to BLOCKED": code 7 in RUN is the failure HALL; the third failure leads to BLOCKED. -/
theorem test_hall_failures :
    let d := fun n => { cooling .run noCompTimers with cmp := { (cooling .run noCompTimers).cmp with failures := n } }
    (after (.hallCodeInvalid 7) (d 0)).cmp.state = .stallBackoff ∧ (after (.hallCodeInvalid 7) (d 0)).cmp.failures = 1 ∧
      (after (.hallCodeInvalid 7) (d 2)).cmp.state = .blocked := by decide +kernel

/-- Chapter 6, "Worked thermostat cycles": a deferred cut-out 120 s after cut-in, which lowers L. -/
theorem test_deferred_cut_out :
    let d := cooling .run { noCompTimers with minRun := some 120000 }
    let d1 := { d with
      sns := { d.sns with uptime := 5122 }
      cmp := { d.cmp with demand := false, deferred := true, learning := true, learned := 2, cutIn := some 5002 } }
    (after .minimumRunExpiry d1).cmp.state = .stopping ∧ (after .minimumRunExpiry d1).cmp.learned = 1 := by decide +kernel

/-- R118: a gate whose dead time had to wait for the overcurrent latch stays off when START clears the latch (code 1: leg U chops, leg V
carries the low gate). -/
theorem test_dead_time_after_latch :
    let d := cooling .waitInrush noCompTimers
    let waiting := { idleBridge.u with waitHigh := true }
    let t := answerGranted .compressor
      { d with cmp := { d.cmp with latch := true, wished := 2, bridge := { idleBridge with u := waiting } } }
    (t.cmp.state = .start ∧ t.cmp.latch = false) ∧ t.cmp.bridge.u.high = false ∧ t.cmp.bridge.v.low = true := by decide +kernel

/-- R116: leg U chops and leg V carries the low gate for code 1 in order A; a gate turned off holds the other for the dead time. -/
theorem test_commutation :
    let d := cooling .start noCompTimers
    let t := after (.hallEdge 3 4000) { d with cmp := { d.cmp with bridge := bridgeBecomes idleBridge .a 1 false } }
    (t.cmp.bridge.u.high, t.cmp.bridge.v.low, t.cmp.bridge.w.low) = (true, false, true) ∧ t.cmp.bridge.v.waitHigh = true := by
  decide +kernel

/-- Chapter 7, "Worked fade": 417 at 333 ms into the fade from 500 to 0. -/
theorem test_fade :
    ({ darkChannel with target := 800, fadeAt := 0, fadeMs := 2000, fading := true } : LightChannel).present 500 = 200 ∧
    ({ darkChannel with target := 0, fadeFrom := 500, fadeAt := 1250, fadeMs := 2000, fading := true } : LightChannel).present 1583
      = 417 := by decide +kernel

/-- Chapter 7, "Worked fade": the duties. -/
theorem test_pwm_duty : pwmDuty 200 = 2621 ∧ pwmDuty 400 = 10486 ∧ pwmDuty 800 = 41942 ∧ pwmDuty 1000 = 65535 := by decide +kernel

/-- Chapter 7, "Worked cap": CH0 at 700 under the step-1 cap applies 300, CH4, essential, its 150. -/
theorem test_caps :
    let d := { cold with lgt := { cold.lgt with
      capStep := 1
      channels := (cold.lgt.channels.set 0 { darkChannel with target := 700 }).set 4 { darkChannel with target := 150 } } }
    let t := after .lampPwmBoundary d
    (channelOf t 0).applied = 300 ∧ (channelOf t 4).applied = 150 := by decide +kernel

/-- R131, R134: a cap that rises from 0 puts a channel that was fading out at its target 0 at once, and clears its manual hold. -/
theorem test_cap_rises_over_fade_out :
    let d := { cold with
      lgt := { cold.lgt with
        channels := cold.lgt.channels.set 0
          { darkChannel with target := 0, fadeFrom := 700, fadeAt := 0, fadeMs := 5000, fading := true, hold := true } }
      bgt := { cold.bgt with table := { cold.bgt.table with
        lights := { cold.bgt.table.lights with requested := 1, granted := 1 } } } }
    let c := channelOf (handGrant .lights d) 0
    c.hold = false ∧ c.fading = false := by decide +kernel

/-- Chapter 7, "Worked indication": the posting at 20,300 ms. -/
theorem test_indication :
    let entry := fun n sounding => ({ severity := n, occurrence := 1, sounding := sounding } : SourceEntry)
    let d := { cold with
      sns := { cold.sns with ms := 20300 }
      lgt := { cold.lgt with
        sources := { cold.lgt.sources with rtm := entry 1 false, cmp := entry 1 true }
        buzzer := { burst := true, remaining := 3, counted := true, on := false, timer := some 20500 } } }
    let t := postIndication .chg 2 true d
    displayed t.lgt.sources = 2 ∧ t.lgt.ch7Timer = some 20800 ∧ t.lgt.buzzer.remaining = 3 ∧ t.lgt.buzzer.timer = some 20500 := by
  decide +kernel

/-- Chapter 8, "Worked stop after driving": the tick of 50,090 takes REST from 50,030. -/
theorem test_rest_taken :
    let on := fun (v : Int) => ({ binding := none, value := v, status := .fresh, lastUpdate := 0, updated := true } : SignalRec)
    let d := { cold with
      sns := { cold.sns with uptime := 50090, lines := cold.sns.lines.map fun l => { l with real := true } }
      vbl := { cold.vbl with signals := { cold.vbl.signals with roadSpeed := on 0, parkingBrake := on 1 } }
      rtm := { cold.rtm with
        current := { number := 3, cls := .drive, start := 35200, stop := none, declared := false, stale := false }
        nextNumber := 4
        driveSinceBreak := 15339
        driveInDay := 24089
        settling := some { candidate := .rest, start := 50030, length := 59, declared := false, stale := false } } }
    let t := after .restTick d
    (t.rtm.current.cls = .rest ∧ t.rtm.current.start = 50030) ∧ t.rtm.driveSinceBreak = 15280 ∧ t.rtm.driveInDay = 24030 ∧
      t.rtm.projection = some 89630 := by decide +kernel

/-- Chapter 8, "Worked split break": at 53,800 the second part completes a break. -/
theorem test_split_break :
    let d := { cold with
      sns := { cold.sns with uptime := 53800 }
      rtm := { cold.rtm with
        current := { number := 5, cls := .rest, start := 52000, stop := none, declared := false, stale := false }
        driveSinceBreak := 16080
        driveInDay := 24830
        marks := { noMarks with first := true }
        credit := some 50030 } }
    let t := after .restCrossing d
    t.rtm.driveSinceBreak = 0 ∧ t.rtm.driveInDay = 24830 ∧ t.rtm.credit = none := by decide +kernel

/-- Chapter 8, "Worked acknowledgement against a repeat raise": an old occurrence is answered STALE_OCCURRENCE. -/
theorem test_ack_stale :
    let d := { still with rtm := { cold.rtm with warnings := { cold.rtm.warnings with
      contLimit := { state := .active, occurrence := 6, raised := 70900 } } } }
    ∃ f, (after (.ackWarning 9 [1, 5, 0]) d).lnk.tx = .reply f ∧ f.body = [0x07, BitVec.ofNat 8 WarnState.active.code, 6, 0] :=
  ⟨{ kind := 0xBA, tag := 9, body := [0x07, BitVec.ofNat 8 WarnState.active.code, 6, 0] }, by decide +kernel, rfl⟩

/-- Chapter 9, "Worked lead". -/
theorem test_lead :
    let d := fun (ambient : Int) => { cold with
      npl := { cold.npl with state := .armed, wake := some 90000, setpoint := 210 }
      vbl := { cold.vbl with signals := { cold.vbl.signals with
        ambientTemp := { cold.vbl.signals.ambientTemp with status := .fresh, value := ambient } } } }
    (after .leadRecompute (d (-125))).npl.lead = 1605 ∧ (after .leadRecompute (d (-950))).npl.lead = 3600 := by decide +kernel

/-- R174, R180: a wake at 700 with a lead of 3,600 has its pre-warm time at −2,900, two's complement. -/
theorem test_prewarm_time_is_signed :
    prewarmTime { cold with npl := { cold.npl with state := .armed, wake := some 700, lead := 3600 } } = some (4294967296 - 2900) := by
  decide +kernel

/-- Chapter 10, "Worked frame": A5 02 16 31 B7 is READ_CHARGE with tag 0x31. -/
theorem test_frame_bytes :
    ([0xA5, 0x02, 0x16, 0x31, 0xB7].foldl (fun d b => after (.byteReceived b true) d) still).lnk.queue =
      [{ kind := 0x16, tag := 0x31, body := [] }] := by decide +kernel

/-- Chapter 10, "Worked frame": the reply carries KIND 0x96, TAG 0x31 and begins with OK. -/
theorem test_read_charge_reply :
    ∃ f, (after (.readCharge 0x31 []) still).lnk.tx = .reply f ∧ f.kind = 0x96 ∧ f.tag = 0x31 ∧ f.body.head? = some 0x00 := by
  refine ⟨_, rfl, ?_⟩
  decide +kernel

/-- Chapter 10, "Worked night on the link": a second CHARGE_STATE merges into its entry and keeps its place. -/
theorem test_notices_merge :
    (post .chargeState (post .budgetState (post .chargeState still))).lnk.notices =
      [{ kind := .chargeState, merge := 2, lines := [] }, { kind := .budgetState, merge := 1, lines := [] }] := by decide +kernel

/-- R197: after a cold reset the first frame sent is CLOCK_NEEDED: KIND 0xC2, merge count 1, clock UNSET, uptime 0. -/
theorem test_first_notice :
    (after .transmitterFree cold).lnk.tx = .notice { kind := 0xC2, tag := 0, body := [1, 0, 0, 0, 0, 0] } := by decide +kernel

/-! ## States that meet the obligations' hypotheses -/

theorem cold_free : noneInHand cold := ⟨rfl, rfl⟩

theorem still_free : noneInHand still := ⟨rfl, rfl⟩

/-- `Entry.sound`, in a form that can be decided. -/
abbrev entryOk (e : Entry) (n : Nat) : Prop :=
  e.steps.length = n ∧ e.floor ≤ e.granted ∧ e.granted ≤ e.requested ∧ e.requested < n

/-- `budgetSound`, in a form that can be decided. -/
abbrev budgetOk (d : Device) : Prop :=
  let t := d.bgt.table
  let a := d.bgt.allowance
  (entryOk t.base 1 ∧ entryOk t.heater 7 ∧ entryOk t.compressor 5 ∧ entryOk t.lights 4 ∧ entryOk t.outlet 2 ∧ entryOk t.warning 1 ∧
    t.base.rank = none ∧ t.warning.rank = none ∧ ∀ r ∈ [1, 2, 3, 4], ∃ l ∈ sheddable, (t.get l).rank = some r) ∧
  a.waiting.Nodup ∧ (∀ l ∈ a.waiting, a.state ≠ .held l ∧ l ∈ inrushLoads ∧ 0 < (t.get l).granted) ∧
  (a.state = .free → a.waiting = []) ∧ (∀ l ∈ allLoads, a.state = .held l → l ∈ inrushLoads) ∧
  (a.hold.isSome = true ↔ a.state.holder.isSome = true) ∧ (a.settle.isSome = true ↔ a.state = .settling)

theorem budget_sound {d : Device} (h : budgetOk d) : budgetSound d := by
  obtain ⟨h1, h2, h3, h4, h5, h6, h7⟩ := h
  exact ⟨h1, h2, h3, h4, fun l => h5 l (by cases l <;> decide), h6, h7⟩

/-- `lightsSound`, in a form that can be decided. -/
abbrev lightsOk (d : Device) : Prop :=
  (d.lgt.channels.length = 7 ∧ d.lgt.chSettings.length = 7 ∧
    (∀ c ∈ d.lgt.channels, c.target ≤ 1000 ∧ c.fadeFrom ≤ 1000 ∧ c.applied ≤ 1000 ∧ c.saved.getD 0 ≤ 1000) ∧
    (∀ r ∈ d.lgt.scenes, ∀ l ∈ r.levels, l.getD 0 ≤ 1000) ∧ d.lgt.settings.courtesyLevel ≤ 1000 ∧
    d.lgt.settings.nightLevel ≤ 1000) ∧
  d.lgt.scenes.length = 6 ∧ ∀ r ∈ d.lgt.scenes, r.levels.length = 7

theorem lights_sound {d : Device} (h : lightsOk d) : lightsSound d := h

/-- `levelHeld`, in a form that can be decided. -/
abbrev levelOk (d : Device) : Prop :=
  1 ≤ d.htr.limits.hostMax ∧ 1 ≤ d.htr.limits.quietMax ∧ 1 ≤ d.htr.limits.fallback ∧
  (d.htr.state = .ramp ∨ d.htr.state = .run →
    (d.bgt.table.heater.requested = max 1 (min d.htr.wished 6) ∧ d.bgt.table.heater.floor = 1) ∧
    d.htr.level ≤ d.bgt.table.heater.granted ∧ d.htr.level ≤ maxAllowed d)

theorem level_held {d : Device} (h : levelOk d) : levelHeld d := by
  obtain ⟨h1, h2, h3, h4⟩ := h
  refine ⟨h1, h2, h3, fun hs => ⟨?_, (h4 hs).2⟩⟩
  rcases hs with hs | hs <;> simpa [entryAsked, hs] using (h4 (by simp [hs])).1

theorem cold_budget : budgetSound cold := budget_sound (by decide +kernel)

theorem cold_lights : lightsSound cold := lights_sound (by decide +kernel)

/-! ### The machine and the Host Link -/

theorem witness_StepRunsFrontCommandElseDueEvent :
    ({ State.reset with pending := [.coldReset, .wake] } : State).pending = .coldReset :: [.wake] := rfl

theorem witness_StepRunsFrontCommandElseDueEvent_due :
    (at_ cold).pending = [] ∧
    dueList cold = (dueList cold).take 1 ++ (true, .transmitterFree) :: (dueList cold).drop 2 ∧
      ∀ x ∈ (dueList cold).take 1, x.1 = false := by decide +kernel

/-- Nothing due; the dial at rest, and with the second sample of a changed line A. -/
theorem witness_StepRunsFrontCommandElseDueEvent_nothingDue :
    let turned := { still with
      pins := { still.pins with dialA := true }, sns := { still.sns with dial := { still.sns.dial with runA := true } } }
    (at_ still).pending = [] ∧ (∀ x ∈ dueList still, x.1 = false) ∧ (∀ x ∈ dueList turned, x.1 = false) ∧
      still.pins.dialA = still.sns.dial.a ∧ still.pins.dialB = still.sns.dial.b ∧
      turned.sns.dial.runA = true ∧ turned.pins.dialA ≠ turned.sns.dial.a := by decide +kernel

/-- A frame with an empty body, and one with 60 bytes of body; the gaps are 20 ms, the longest that is not late. -/
theorem witness_FramesAndBytesReachReceiver_frame :
    ((at_ cold).dev.lnk.receiver = .hunt ∧ BitVec.ofNat 8 (([] : List Byte).length + 2) + 0x16 + 0x31 + ([] : List Byte).sum + 0xB7 = 0 ∧
      [((0 : Nat), (0xA5 : Byte)), (20, 0x02), (20, 0x16), (20, 0x31), (20, 0xB7)].map (·.2) =
        0xA5 :: BitVec.ofNat 8 (([] : List Byte).length + 2) :: 0x16 :: 0x31 :: [] ++ [0xB7] ∧
      ∀ x ∈ [((0 : Nat), (0xA5 : Byte)), (20, 0x02), (20, 0x16), (20, 0x31), (20, 0xB7)].tail, x.1 ≤ 20) ∧
    ((List.replicate 60 (0x01 : Byte)).length ≤ 60 ∧
      BitVec.ofNat 8 ((List.replicate 60 (0x01 : Byte)).length + 2) + 0x01 + 0 + (List.replicate 60 (0x01 : Byte)).sum + 0x85 = 0) := by
  decide +kernel

/-- In HUNT; in LENGTH with LEN 1 and 63; a CHECK off by one; 21 ms after the last byte. -/
theorem witness_FramesAndBytesReachReceiver_dropped :
    (at_ cold).dev.lnk.receiver = .hunt ∧
    (putReceiver .length cold).lnk.receiver = .length ∧ (1 : Byte).toNat < 2 ∧ 62 < (63 : Byte).toNat ∧
    (putReceiver (.check 2 [0x16, 0x31]) cold).lnk.receiver = .check 2 [0x16, 0x31] ∧
      BitVec.ofNat 8 2 + ([0x16, 0x31] : List Byte).sum + 0xB8 ≠ 0 ∧
    cold.lnk.lastByte + 20 < (reach 21 cold).sns.ms := by decide +kernel

/-- A part with a request of another tag in hand. -/
def busyLink : Device := { cold with lnk := { cold.lnk with queue := [{ kind := 0x01, tag := 1, body := [] }] } }

theorem witness_RequestsWaitTheirTurn_waits :
    busyLink.lnk.queue ≠ [] ∧ busyLink.lnk.queue.head? ≠ some { kind := 0x01, tag := 2, body := [] } := by decide +kernel

theorem witness_RequestsWaitTheirTurn_inHand :
    noneInHand (at_ cold).dev ∧ ∃ t, exec (.frameReceived 0x01 2 []) (at_ cold) = .next t := ⟨cold_free, _, rfl⟩

theorem witness_RefusalsChangeNothingAndRepliesAreRuns :
    noneInHand (at_ cold).dev ∧ ([0] : List Byte).length ≠ 0 ∧ ([] : List Byte).length ≠ 1 ∧
      (∀ r ∈ requestTable, r.1 ≠ 0x00) ∧ (∀ r ∈ requestTable, r.1 ≠ 0x3D) ∧ ∀ r ∈ requestTable, r.1 ≠ 0x05 :=
  ⟨cold_free, by decide, by decide, by decide +kernel, by decide +kernel, by decide +kernel⟩

/-- A part whose transmitter is sending. -/
def sending (tx : Transmitter) (out : Option ReplyRun) (queue : List Frame) (notices : List Notice) : Device :=
  { cold with lnk := { cold.lnk with tx := tx, out := out, queue := queue, notices := notices, sendEnd := 1 } }

/-- The frame the tests send. -/
def aFrame : Frame := { kind := 0x81, tag := 1, body := [0] }

/-- The entry the tests send. -/
def anEntry : Notice := { kind := .clockNeeded, merge := 255, lines := [] }

theorem witness_NoticesArePostedAndSent_run :
    let d := sending (.reply aFrame) (some { rest := [aFrame], restart := false }) [aFrame] []
    d.lnk.tx = .reply aFrame ∧ d.lnk.out = some { rest := [aFrame], restart := false } := ⟨rfl, rfl⟩

/-- A reply that is ready behind a notice, and from an idle transmitter; an idle transmitter and the end of a notice with a request
waiting, in DROWSY, and with an empty table. -/
theorem witness_NoticesArePostedAndSent_replyReady :
    let noticed := sending (.notice aFrame) (some { rest := [aFrame], restart := false }) [aFrame] [anEntry]
    let idle := sending .idle (some { rest := [aFrame], restart := false }) [aFrame] [anEntry]
    (noticed.lnk.tx = .notice aFrame ∧ noticed.lnk.out = some { rest := [aFrame], restart := false }) ∧
      (idle.lnk.tx = .idle ∧ idle.lnk.out = some { rest := [aFrame], restart := false }) ∧
      ((sending .idle none [aFrame] [anEntry]).lnk.queue ≠ [] ∧ (goDrowsy (sending (.notice aFrame) none [] [anEntry])).lnk.awake = false ∧
        (sending (.notice aFrame) none [] []).lnk.notices = [] ∧ (sending (.notice aFrame) none [] []).lnk.out = none) := by decide +kernel

theorem witness_NoticesArePostedAndSent_last :
    let d := fun q n => sending (.reply aFrame) (some { rest := [], restart := false }) q n
    (d [aFrame, aFrame] [anEntry]).lnk.queue.tail ≠ [] ∧ (d [aFrame] []).lnk.notices = [] ∧
      (goDrowsy (d [aFrame] [anEntry])).lnk.awake = false := by decide +kernel

theorem witness_NoticesArePostedAndSent_notice :
    let idle := sending .idle none [] [anEntry]
    let noticed := sending (.notice aFrame) none [] [anEntry]
    let replied := sending (.reply aFrame) (some { rest := [], restart := false }) [aFrame] [anEntry]
    (idle.lnk.tx = .idle ∧ idle.lnk.out = none ∧ idle.lnk.queue = []) ∧
      (noticed.lnk.tx = .notice aFrame ∧ noticed.lnk.out = none ∧ noticed.lnk.queue = []) ∧
      (replied.lnk.tx = .reply aFrame ∧ replied.lnk.out = some { rest := [], restart := false } ∧ replied.lnk.queue.tail = []) ∧
      ∀ d ∈ [idle, noticed, replied], d.lnk.awake = true ∧ d.lnk.notices = anEntry :: [] := by decide +kernel

theorem witness_NoticesArePostedAndSent_posting :
    noticeEnabled { cold with lnk := { cold.lnk with enables := 0 } } .clockNeeded = false ∧
    (noticeEnabled cold .planState = true ∧ ∀ n ∈ cold.lnk.notices, n.kind ≠ .planState) ∧
    noticeEnabled cold .restarted = true ∧
      cold.lnk.notices = [{ kind := .clockNeeded, merge := 1, lines := [] }] ++ { kind := .restarted, merge := 1, lines := [] } :: [] ∧
      ∀ x ∈ [({ kind := .clockNeeded, merge := 1, lines := [] } : Notice)], x.kind ≠ .restarted := by decide +kernel

/-- Masks 0x0000 and 0x7FFE, idle times 1,000 and 60,000. -/
theorem witness_IdleExpiryAndLinkConfigAct :
    cold.lnk.idle = some 5000 ∧ noneInHand cold ∧
    ((0x00#8 ++ 0x00#8 : BitVec 16).getLsbD 0 = false ∧ (0x00#8 ++ 0x00#8 : BitVec 16).getLsbD 15 = false) ∧
    ((0x7F#8 ++ 0xFE#8 : BitVec 16).getLsbD 0 = false ∧ (0x7F#8 ++ 0xFE#8 : BitVec 16).getLsbD 15 = false) ∧
    (0xE8 : Byte).toNat + 256 * (0x03 : Byte).toNat = 1000 ∧ (0x60 : Byte).toNat + 256 * (0xEA : Byte).toNat = 60000 :=
  ⟨rfl, cold_free, by simp, by simp, by simp, by simp⟩

/-! ### Sensing Unit -/

/-- Averages of 39, 40, 4,055 and 4,056, and a history that is not full. -/
theorem witness_SweepPublishesChannels :
    let t := fun n => after (.measurementSweep (codes 0 0 (BitVec.ofNat 12 n))) (sampledThrice [] [] [n, n, n])
    (t 39).sns.analog.tCab.average = 39 ∧ (t 40).sns.analog.tCab.average = 40 ∧ (t 4055).sns.analog.tCab.average = 4055 ∧
      (t 4056).sns.analog.tCab.average = 4056 ∧ (t 40).sns.analog.batv.history.length = 1 := by decide +kernel

/-- At and beyond the first and the last point, at a point, and strictly between two. -/
theorem witness_TableLookupInterpolates :
    (defaultThermistorTable.map (·.1)).Pairwise (· < ·) ∧
    (defaultThermistorTable = (135, 1250) :: defaultThermistorTable.tail ∧ 135 ≤ (135, (1250 : Int)).1) ∧
    (defaultThermistorTable = defaultThermistorTable.dropLast ++ [(3975, -400)] ∧ (3975, (-400 : Int)).1 ≤ 3975) ∧
    (2048, 250) ∈ defaultThermistorTable ∧
    (defaultThermistorTable =
        defaultThermistorTable.take 4 ++ (2048, 250) :: (2725, 100) :: defaultThermistorTable.drop 6 ∧
      (2048, (250 : Int)).1 < 2049 ∧ 2724 < (2725, (100 : Int)).1) := by decide +kernel

/-- The part after reset with one line's record replaced. -/
def lined (n : Nat) (l : InputLine) : Device := putLine n l still

/-- No line accepts the sample: the pins as they stand; a forced line; a line that starts afresh. -/
theorem witness_LineFiltersAcceptChanges_sample :
    cold.sns.lines.length = 8 ∧
    (∀ n ∈ List.range 8, (lineOf cold n).forced ≠ none ∨ (lineOf cold n).startAfresh = true ∨
      (lineOf (after (.inputSample 0x9F) cold) n).real = (lineOf cold n).real) ∧
    rawOf (after (.inputSample 0x9F) cold) 5 = false ∧ rawOf (after (.inputSample 0x9F) cold) 6 = false ∧
    (lineOf (lined 0 { lineOf cold 0 with forced := some true }) 0).forced ≠ none ∧
    (lineOf (lined 7 { lineOf cold 7 with startAfresh := true }) 7).startAfresh = true := by decide +kernel

/-- A line at the level already; a fall on a line that takes rises; a line with the also-report mark and an empty table. -/
theorem witness_LineFiltersAcceptChanges_change :
    (cold.sns.lines.length = 8 ∧ (lineOf cold 0).real = false ∧ rawOf cold 5 = false ∧ rawOf cold 6 = false) ∧
    (let d := lined 2 { lineOf cold 2 with real := true }
     d.sns.lines.length = 8 ∧ (lineOf d 2).forced = none ∧ (lineOf d 2).real ≠ false ∧ (lineOf d 2).edge.takes false = false ∧
      rawOf (after (.acceptedChange 2 false) d) 5 = false ∧ rawOf (after (.acceptedChange 2 false) d) 6 = false) ∧
    (let d := lined 7 { lineOf cold 7 with report := true }
     d.sns.lines.length = 8 ∧ (lineOf d 7).forced = none ∧ (lineOf d 7).real ≠ true ∧ (lineOf d 7).report = true ∧
      noticeEnabled d .inputChange = true ∧ d.lnk.notices = []) := by decide +kernel

/-- A sample that makes one line's filter accept, and no other's; a rise on a line that takes rises, and an entry of INPUT_CHANGE to
merge into. -/
theorem witness_LineFiltersAcceptChanges_accepts :
    let d := lined 0 { lineOf cold 0 with run := 3 }
    let t := after (.inputSample 0x9E) d
    let entry : Notice := { kind := .inputChange, merge := 255, lines := [(0, false)] }
    d.sns.lines.length = 8 ∧ (lineOf d 0).forced = none ∧ (lineOf d 0).startAfresh = false ∧ (lineOf t 0).real ≠ (lineOf d 0).real ∧
    (∀ m ∈ List.range 8, m ≠ 0 → (lineOf t m).real = (lineOf d m).real) ∧
    ((lineOf cold 2).edge = .rising ∧ ¬((lineOf cold 2).edge = .both) ∧ ¬((lineOf cold 2).edge = .falling)) ∧
    (noticeEnabled still .inputChange = true ∧ [entry] = [] ++ entry :: [] ∧ entry.kind = .inputChange) ∧
    noticeEnabled { still with lnk := { still.lnk with enables := 0 } } .inputChange = false := by decide +kernel

/-- Lines 0 and 7, filter lengths 1 and 15, DIN5's fixed filter and edge; forcing at levels 0 and 1; line 8, level 2, DIN5 and DIN6. -/
theorem witness_InputRequestsSetLines :
    noneInHand (at_ still).dev ∧ still.sns.lines.length = 8 ∧
    ((0 : Byte).toNat < 8 ∧ (0 : Byte).toNat ≤ 1 ∧ 1 ≤ (1 : Byte).toNat ∧ (1 : Byte).toNat ≤ 15 ∧ (2 : Byte).toNat ≤ 2) ∧
    ((7 : Byte).toNat < 8 ∧ (15 : Byte).toNat ≤ 15 ∧ 1 ≤ (15 : Byte).toNat) ∧
    ((5 : Byte).toNat = 5 ∧ 1 ≤ (2 : Byte).toNat ∧ (2 : Byte).toNat ≤ 15 ∧ ((2 : Byte) = 2 ∧ (2 : Byte) = 2)) ∧
    deliveredOf still 0 = decide ((0 : Byte) = 1) ∧ deliveredOf still 0 = (lineOf still 0).real ∧
    (deliveredOf still 0 ≠ decide ((1 : Byte) = 1) ∧
      (let forced := lined 0 { lineOf cold 0 with forced := some true }
       deliveredOf forced 0 ≠ (lineOf forced 0).real)) ∧
    (8 ≤ (8 : Byte).toNat ∧ 2 ≤ (2 : Byte).toNat ∧ ¬8 ≤ (6 : Byte).toNat ∧ (6 : Byte).toNat = 6 ∧ (0 : Byte).toNat = 0 ∧
      16 ≤ (16 : Byte).toNat ∧ 3 ≤ (3 : Byte).toNat ∧ (3 : Byte) ≠ 2) :=
  ⟨still_free, by decide +kernel⟩

/-- Each step of the dial: none, both lines, forward with the counts 2 and 3, backward with −2 and −3. -/
theorem witness_DialCountsDetents :
    place (false, false) = place (cold.sns.dial.a, cold.sns.dial.b) ∧
    place (true, true) = (place (cold.sns.dial.a, cold.sns.dial.b) + 2) % 4 ∧
    place (false, true) = (place (cold.sns.dial.a, cold.sns.dial.b) + 1) % 4 ∧
    place (true, false) = (place (cold.sns.dial.a, cold.sns.dial.b) + 3) % 4 ∧
    (putCount 2 cold).sns.dial.count ≠ 3 ∧ (putCount 3 cold).sns.dial.count = 3 ∧
    (putCount (-2) cold).sns.dial.count ≠ -3 ∧ (putCount (-3) cold).sns.dial.count = -3 := by decide +kernel

/-- A wall time equal to the uptime and one below it; T_EXCH's table with the heater in OFF and in GLOW. -/
theorem witness_ClockAndTablesAreSet :
    noneInHand cold ∧
    (let d := { cold with sns := { cold.sns with uptime := 256 } }
     d.sns.uptime ≤ (0 : Byte).toNat + 256 * (1 : Byte).toNat + 65536 * (0 : Byte).toNat + 16777216 * (0 : Byte).toNat ∧
     (255 : Byte).toNat + 256 * (0 : Byte).toNat + 65536 * (0 : Byte).toNat + 16777216 * (0 : Byte).toNat < d.sns.uptime ∧
     noneInHand d) ∧
    (defaultExchangerTable.length = 9 ∧ (defaultExchangerTable.map (·.1)).Pairwise (· < ·) ∧
      ∀ p ∈ defaultExchangerTable, p.1 ≤ 4095 ∧ -400 ≤ p.2 ∧ p.2 ≤ (if AnalogChannel.tExch = .tExch then 2500 else 1250)) ∧
    (heating .glow noHeaterTimers).htr.state ≠ .off ∧ (heating .glow noHeaterTimers).htr.state ≠ .lockout :=
  ⟨cold_free, ⟨by decide +kernel, by decide +kernel, rfl, rfl⟩, by decide +kernel, by decide +kernel, by decide +kernel⟩

/-! ### Vehicle Bus Listener -/

/-- A binding of a field in slot 2. -/
def binding (start length : Nat) (order : ByteOrder) : Binding :=
  { slot := 2, start := start, length := length, order := order, num := 1, den := 1, offset := 0, vmin := 0, vmax := 1 }

/-- The last bit of eight bytes; 16 bits that end there; a FIRST_MSB field that begins in the last byte and one that ends in the
first. -/
theorem witness_RawFieldFollowsByteOrder :
    (bindable (binding 63 1 .firstLsb) ∧ fieldPresent (binding 63 1 .firstLsb) (List.replicate 8 0) = true) ∧
    (bindable (binding 48 16 .firstLsb) ∧ fieldPresent (binding 48 16 .firstLsb) (List.replicate 8 0) = true) ∧
    (bindable (binding 56 16 .firstMsb) ∧ fieldPresent (binding 56 16 .firstMsb) (List.replicate 8 0) = true) ∧
    (bindable (binding 0 8 .firstMsb) ∧ fieldPresent (binding 0 8 .firstMsb) [0] = true) := by
  refine ⟨⟨?_, ?_⟩, ⟨?_, ?_⟩, ⟨?_, ?_⟩, ⟨?_, ?_⟩⟩ <;> first | (unfold bindable binding; decide) | decide +kernel

/-- `matching`, its slot 2 with a bound signal. -/
def bus : Device :=
  { matching with vbl := { matching.vbl with
      silence := some 2000
      slots := matching.vbl.slots.set 2 { coldSlot with
        enabled := true, format := .extended, ident := 0x0C4A2000, limit := 250, status := .fresh, timer := some 250 }
      signals := { matching.vbl.signals with
        roadSpeed := { matching.vbl.signals.roadSpeed with binding := some (binding 0 16 .firstLsb), status := .fresh } } } }

/-- R20: BUS_CONFIG with the enable OFF (250 kbit/s, source BUS, full mask) turns a LISTENING listener OFF and stops its timer. -/
theorem test_bus_config_off :
    let t := after (.busConfig 1 [0, 0xFA, 0, 0, 0xFF, 0xFF, 0xFF, 0x1F]) bus
    bus.vbl.listener = .listening ∧ t.vbl.listener = .off ∧ t.vbl.silence = none := by decide +kernel

/-- The listener OFF; slot 2 the first that accepts; no slot accepts; a signal bound to slot 2 and one that is not. -/
theorem witness_FrameUpdatesSlotAndSignals :
    (cold.vbl.slots.length = 12 ∧ cold.vbl.listener = .off) ∧ bus.vbl.slots.length = 12 ∧ bus.vbl.listener ≠ .off ∧
    (accepts bus.vbl .extended 0x0C4A2000 2 ∧ ∀ m, m < 2 → ¬accepts bus.vbl .extended 0x0C4A2000 m) ∧
    (∀ m, m < 12 → ¬accepts bus.vbl .standard 0x3A5 m) ∧
    ((bus.vbl.signals.get .roadSpeed).binding = some (binding 0 16 .firstLsb) ∧ (binding 0 16 .firstLsb).slot = 2 ∧
      onBus bus.vbl .roadSpeed) ∧
    ¬bound (bus.vbl.signals.get .ignition) 2 := by
  refine ⟨by decide +kernel, by decide +kernel, by decide +kernel, ?_, ?_, ⟨by decide +kernel, by decide +kernel, .inl (by decide)⟩, ?_⟩
  · unfold accepts; decide +kernel
  · unfold accepts; decide +kernel
  · rintro ⟨b, h, -⟩; cases h

/-- A SILENT listener, and a frame that makes ENGINE_RUNNING, IGNITION and FUEL_LOW FRESH and 1 from NEVER. -/
theorem witness_FrameUpdatesSlotAndSignals_handsOn :
    let bound := fun start : Nat => { bus.vbl.signals.ignition with binding := some (binding start 1 .firstLsb) }
    let d := { bus with vbl := { bus.vbl with
      listener := .silent
      signals := { bus.vbl.signals with engineRunning := bound 0, ignition := bound 1, fuelLow := bound 2 } } }
    let t := after (.canFrame .extended 0x0C4A2000 1 [7]) d
    d.vbl.listener ≠ .off ∧ d.vbl.listener = .silent ∧
    ∀ g ∈ [Signal.engineRunning, .ignition, .fuelLow], (d.vbl.signals.get g).status = .never ∧
      (t.vbl.signals.get g).status = .fresh ∧ (t.vbl.signals.get g).value = 1 := by decide +kernel

theorem witness_BusTimersExpire :
    (bus.vbl.silence = some 2000 ∧ bus.vbl.listener = .listening) ∧ bus.vbl.slots.length = 12 ∧
    (slotOf bus (2 : Fin 12)).timer = some 250 ∧ (bound (bus.vbl.signals.get .roadSpeed) 2 ∧ onBus bus.vbl .roadSpeed) ∧
    ¬bound (bus.vbl.signals.get .ignition) 2 :=
  ⟨by decide +kernel, by decide +kernel, by decide +kernel, ⟨⟨_, rfl, rfl⟩, .inl (by decide)⟩, by rintro ⟨b, h, -⟩; cases h⟩

/-- Slots 0 and 11, the highest identifiers, limits 50 and 10,000; the highest mask; a binding at the edges of its ranges, and none. -/
theorem witness_BusRequestsSetListener :
    noneInHand (at_ bus).dev ∧ bus.vbl.slots.length = 12 ∧ ((250 = 250 ∨ 250 = 500) ∧ 536870911 < 536870912) ∧
    (0 < 12 ∧ 2047 < 2 ^ identWidth .standard ∧ 50 ≤ 50 ∧ 50 ≤ 10000) ∧
    (11 < 12 ∧ 536870911 < 2 ^ identWidth .extended ∧ 536870911 < 4294967296 ∧ 50 ≤ 10000 ∧ 10000 ≤ 10000) ∧
    bindable { binding 56 16 .firstMsb with slot := 11, num := 1000, den := 1000, offset := -1000000, vmin := -1000000, vmax := 1000000 } ∧
    (List.replicate 20 (0 : Byte)).length = 20 ∧
    (true ≠ cold.vbl.enable ∧ true = bus.vbl.enable ∧ false ≠ bus.vbl.enable ∧ 0 ≠ bus.vbl.mask ∧ bus.vbl.source = .bus ∧
      bus.vbl.signals.roadSpeed.binding = some (binding 0 16 .firstLsb) ∧ (binding 0 16 .firstLsb).slot < 10) := by
  refine ⟨⟨rfl, rfl⟩, by decide +kernel, by decide, by decide +kernel, by decide +kernel, ?_, by decide, by decide +kernel⟩
  unfold bindable binding; decide

/-! ### Charge Counter and Load Budget -/

/-- A full history that meets the full-charge test for the 600th time, one that does not, and one that is not full. -/
theorem witness_AccountingTickCountsCharge :
    let full := { still with chg := { still.chg with history := List.replicate 10 (20, 28400), fullRun := 599 } }
    let drawn := counting 168750 (-1000) (-1540)
    let c := full.chg
    (c.history.length = 10 ∧
      (fullOf c.battery ≤ (c.history.map fun p : Int × Nat => p.2).sum / 10 ∧
        0 ≤ (c.history.map fun p : Int × Nat => p.1).sum.tdiv 10 ∧
        (c.history.map fun p : Int × Nat => p.1).sum.tdiv 10 ≤ (tailOf c.battery : Int)) ∧ 600 ≤ c.fullRun + 1) ∧
    (drawn.chg.history.length = 10 ∧ ¬(0 ≤ (drawn.chg.history.map fun p : Int × Nat => p.1).sum.tdiv 10) ∧ drawn.chg.known = true) ∧
    still.chg.history.length ≠ 10 ∧ still.chg.known = false := by decide +kernel

/-- A fall-to-LOW run at its length, and one a tick short of it; the full-charge run at 599 and at 600. -/
theorem witness_GradingFollowsRuns :
    let run := fun n => { still with chg := { still.chg with runs := { still.chg.runs with fallToLow := n } } }
    let full := fun n => { still with chg := { still.chg with fullRun := n } }
    (after .gradingRunComplete (run 10)).chg.uv ≠ (run 10).chg.uv ∧ (after .gradingRunComplete (run 9)).chg.uv = (run 9).chg.uv ∧
      (full 599).chg.fullRun < 600 ∧ 600 ≤ (full 600).chg.fullRun := by decide +kernel

/-- The battery description at the low and at the high ends of its ranges. -/
theorem witness_ChargeRequestsSetCount :
    noneInHand still ∧ 1000 ≤ 1000 ∧
    ∀ b ∈ [({ system := 12, capacity := 10000, reserve := 300, resistance := 0, vWarn := 9001, vCut := 9000, vFull := 16000, tail := 0 }
            : Battery),
          { system := 24, capacity := 400000, reserve := 800, resistance := 50, vWarn := 0, vCut := 0, vFull := 32000, tail := 2000 }],
      (b.system = 12 ∨ b.system = 24) ∧ 10000 ≤ b.capacity ∧ b.capacity ≤ 400000 ∧ 300 ≤ b.reserve ∧ b.reserve ≤ 800 ∧
      b.resistance ≤ 50 ∧ b.tail ≤ 2000 ∧
      (∀ v ∈ [b.vWarn, b.vCut, b.vFull],
        v = 0 ∨ (b.system = 12 ∧ 9000 ≤ v ∧ v ≤ 16000) ∨ (b.system = 24 ∧ 18000 ≤ v ∧ v ≤ 32000)) ∧
      cutOf b < warnOf b ∧ warnOf b < fullOf b :=
  ⟨still_free, Nat.le_refl 1000, by decide +kernel⟩

theorem shed_budget : budgetSound shedCase := budget_sound (by decide +kernel)

/-- The table of the worked shed case and the one after reset. -/
theorem witness_BudgetPassDecidesGrants :
    (at_ shedCase).dev.bgt.table.sound ∧ (at_ cold).dev.bgt.table.sound :=
  ⟨shed_budget.1, cold_budget.1⟩

/-- A part with an allowance, and the grants of the worked shed case. -/
def allowing (a : Allowance) : Device := { shedCase with bgt := { shedCase.bgt with allowance := a } }

/-- The allowance FREE. -/
def freeAllowance : Allowance := { state := .free, hold := none, settle := none, waiting := [] }

/-- The holder; a waiting load; CRITICAL, and a grant of 0; FREE; taken by another. -/
theorem witness_LoadsWriteEntriesAndAskAllowance :
    let held := allowing { state := .held .compressor, hold := some 5000, settle := none, waiting := [.heater] }
    let critical := { allowing freeAllowance with chg := { shedCase.chg with uv := .critical } }
    (.compressor ∈ inrushLoads ∧ .heater ∈ inrushLoads ∧ .outlet ∈ inrushLoads) ∧
    (held.bgt.allowance.state = .held .compressor ∧ .heater ∈ held.bgt.allowance.waiting) ∧
    (critical.bgt.allowance.state ≠ .held .heater ∧ .heater ∉ critical.bgt.allowance.waiting ∧ critical.chg.uv = .critical) ∧
    (cold.bgt.allowance.state ≠ .held .heater ∧ .heater ∉ cold.bgt.allowance.waiting ∧ (cold.bgt.table.get .heater).granted = 0) ∧
    ((allowing freeAllowance).bgt.allowance.state = .free ∧ .heater ∉ (allowing freeAllowance).bgt.allowance.waiting ∧
      (allowing freeAllowance).chg.uv ≠ .critical ∧ ((allowing freeAllowance).bgt.table.get .heater).granted ≠ 0) ∧
    (held.bgt.allowance.state ≠ .free ∧ held.bgt.allowance.state ≠ .held .outlet ∧ .outlet ∉ held.bgt.allowance.waiting ∧
      held.chg.uv ≠ .critical ∧ (held.bgt.table.get .outlet).granted ≠ 0) := by decide +kernel

theorem witness_AllowanceTimersExpire :
    let held := allowing { state := .held .outlet, hold := some 2000, settle := none, waiting := [.heater] }
    let closing := { held with bgt := { held.bgt with outlet := { state := .closing, closing := some 2000 } } }
    let settles := fun w => allowing { state := .settling, hold := none, settle := some 2000, waiting := w }
    let waits := { settles [.outlet, .heater] with
      bgt := { (settles [.outlet, .heater]).bgt with outlet := { state := .waitToken, closing := none } } }
    (closing.bgt.allowance.state = .held .outlet ∧ closing.bgt.allowance.hold = some 2000 ∧
      closing.bgt.allowance.sound closing.bgt.table ∧ closing.bgt.outlet.state = .closing) ∧
    ((settles []).bgt.allowance.settle = some 2000 ∧ (settles []).bgt.allowance.waiting = []) ∧
    (waits.bgt.allowance.settle = some 2000 ∧ waits.bgt.allowance.waiting = .outlet :: [.heater] ∧ .outlet ∈ inrushLoads ∧
      waits.bgt.outlet.state = .waitToken) ∧
    (closing.bgt.outlet.closing = some 2000 ∧ closing.bgt.outlet.state = .closing) := by
  refine ⟨⟨rfl, rfl, ?_, rfl⟩, ⟨rfl, rfl⟩, ⟨rfl, rfl, by decide, rfl⟩, rfl, rfl⟩
  exact (budget_sound (d := allowing { state := .held .outlet, hold := some 2000, settle := none, waiting := [.heater] })
    (by decide +kernel)).2

/-- The outlet in OFF, DENIED and ON; a BUDGET_CONFIG at the ends of its ranges. -/
theorem witness_BudgetRequestsAreTaken :
    let outlet := fun st => { shedCase with bgt := { shedCase.bgt with outlet := { state := st, closing := none } } }
    (∀ st, noneInHand (outlet st)) ∧ (∀ st, budgetSound (outlet st)) ∧
    ((outlet .off).bgt.outlet.state = .off ∧ (outlet .denied).bgt.outlet.state = .denied ∧
      (outlet .on).bgt.outlet.state ≠ .off ∧ (outlet .on).bgt.outlet.state ≠ .denied) ∧
    ([4, 3, 2, 1].Perm [1, 2, 3, 4] ∧
      ∀ l ∈ [[20000], [0, 0, 0, 0, 20000], [0, 1, 2, 3], [0, 20000], [0]], l.Pairwise (· ≤ ·) ∧ ∀ x ∈ l, x ≤ 20000) :=
  ⟨fun _ => ⟨rfl, rfl⟩, fun _ => shed_budget, by decide +kernel, by decide +kernel⟩

/-! ### Heater Sequencer -/

/-- A part whose seven start conditions hold, the clock SET. -/
def ready (st : HeaterState) : Device :=
  { clocked with
    sns := { clocked.sns with analog := { clocked.sns.analog with tExch := { clocked.sns.analog.tExch with status := .ok } } }
    htr := { clocked.htr with state := st } }

theorem ready_budget (st : HeaterState) : budgetSound (ready st) := cold_budget

theorem ready_starts (st : HeaterState) (h : st ≠ .lockout) : startMayBeMade (ready st) := by
  have h6 : stepOneMayStand (ready st) := trivial
  have h4 : ∀ x, (ready st).htr.blower.lastTach = some x → x + 2000 ≤ (ready st).sns.ms := by intro x hx; cases hx
  have h7 : ¬((ready st).vbl.signals.fuelLow.status = .fresh ∧ (ready st).vbl.signals.fuelLow.value = 1) := by
    rintro ⟨hx, -⟩; cases hx
  have h5 : (ready st).chg.uv ≠ .critical := by intro hx; cases hx
  intro p hp
  simp only [startConditions, List.mem_cons, List.not_mem_nil, or_false] at hp
  rcases hp with rfl | rfl | rfl | rfl | rfl | rfl | rfl
  · exact rfl
  · exact rfl
  · exact h
  · exact h4
  · exact h5
  · exact h6
  · exact h7

/-- Setpoints 50 and 300, no run-until and one a second ahead; a first and a last condition that fails, and a start that may be made;
the other states, with and without a mark. -/
theorem witness_HeaterStartAndStopAreTaken_start :
    (∀ st, noneInHand (ready st) ∧ budgetSound (ready st)) ∧
    ((50 : Int) ≤ 50 ∧ (300 : Int) ≤ 300 ∧ 0 < 4294967296 ∧
      ((1001 ≠ 0) → (ready .off).sns.clockSet = true ∧
        ((ready .off).sns.uptime + (ready .off).sns.clockOffset) % 4294967296 < 1001)) ∧
    startFailsWith cold .sensor ∧ startMayBeMade (ready .off) ∧ startMayBeMade (ready .paused) ∧
    (let marked := { ready .cooldown with htr := { (ready .cooldown).htr with
        marks := { (ready .cooldown).htr.marks with lockoutPending := true } } }
     marked.htr.marks.lockoutPending = true ∧
     ¬((ready .purge).htr.marks.lockoutPending = true ∨ (ready .purge).htr.marks.forcedPurge = true)) := by
  refine ⟨fun st => ⟨⟨rfl, rfl⟩, ready_budget st⟩, by decide +kernel, ?_, ready_starts .off (by decide), ready_starts .paused (by decide),
    by decide +kernel⟩
  exact ⟨[], _, _, rfl, ⟨fun p hp => absurd hp List.not_mem_nil, by decide +kernel⟩⟩

/-- A run-until reached at this second, one a second ahead, and none. -/
theorem witness_HeaterStartAndStopAreTaken_stop :
    let ends := fun u => { ready .run with htr := { (ready .run).htr with runUntil := u }, sns := { cold.sns with uptime := 60 } }
    (∀ u, budgetSound (ends u) ∧ noneInHand (ends u)) ∧
    ((ends (some 60)).htr.runUntil = some 60 ∧ 60 ≤ (ends (some 60)).sns.uptime) ∧ (ends (some 61)).sns.uptime < 61 ∧
    (ends none).htr.runUntil = none :=
  ⟨fun _ => ⟨cold_budget, rfl, rfl⟩, by decide +kernel, by decide +kernel, rfl⟩

/-- A purge at its end: forced, or before a lockout; with an attempt left, and without one. -/
theorem witness_LightingTimersMoveHeater :
    let purging := fun (forced pending : Bool) (attempts : Nat) =>
      { heating .purge { noHeaterTimers with purge := some 9 } with htr := { (heating .purge { noHeaterTimers with purge := some 9 }).htr with
        attempts := attempts
        marks := { cold.htr.marks with forcedPurge := forced, lockoutPending := pending } } }
    (∀ st t, budgetSound (heating st t)) ∧ (∀ f p n, budgetSound (purging f p n)) ∧
    ((heating .waitInrush { noHeaterTimers with wait := some 9 }).htr.timers.wait = some 9 ∧
      (heating .glow { noHeaterTimers with glow := some 9 }).htr.timers.glow = some 9 ∧
      (heating .ignite { noHeaterTimers with window := some 9 }).htr.timers.window = some 9) ∧
    (let lit := { heating .glow noHeaterTimers with htr := { (heating .glow noHeaterTimers).htr with glowSince := some 0 } }
     lit.htr.state = .glow ∧ lit.htr.glowSince = some 0) ∧
    ((purging true false 2).htr.marks.forcedPurge = true ∧
      (purging false false 1).htr.attempts < (purging false false 1).htr.seq.attempts ∧
      (purging false false 2).htr.seq.attempts ≤ (purging false false 2).htr.attempts) :=
  ⟨fun _ _ => cold_budget, fun _ _ _ => cold_budget, by decide +kernel, ⟨rfl, rfl⟩, by decide +kernel⟩

theorem witness_OutputGatesFollowTheirHolds_fuel :
    let train := fun running gate => { cold with htr := { cold.htr with fuel := { cold.htr.fuel with running := running, gate := gate } } }
    (train true true).htr.fuel.running = true ∧ (train true true).htr.fuel.gate = true ∧
      (train false false).htr.fuel.running = false ∧ (train false false).htr.fuel.gate = false := ⟨rfl, rfl, rfl, rfl⟩

/-- A ramp step that ends the ramp and one that does not; a dwell with a raise that is allowed, one that the grant stops, one that the
maximum stops, a lowering (no run reaches it: a fallen wish lowers the level as it is asked for), and none; the pause timer. -/
theorem witness_LevelMovesStepByStep :
    let b := fun st level wished grant => burning st level wished grant { noHeaterTimers with ramp := some 9, dwell := some 9, pause := some 9 }
    (budgetSound (b .ramp 3 4 4) ∧ (b .ramp 3 4 4).htr.state = .ramp ∧ (b .ramp 3 4 4).htr.timers.ramp = some 9) ∧
    (budgetSound (b .ramp 1 4 4) ∧ ¬(min 4 (min 4 (topLevel (b .ramp 1 4 4))) ≤ 2)) ∧
    (budgetSound (b .run 3 4 4) ∧ (b .run 3 4 4).htr.timers.dwell = some 9 ∧ (b .run 3 4 4).htr.timers.pause = some 9 ∧
      3 < topLevel (b .run 3 4 4)) ∧
    (budgetSound (b .run 3 4 3) ∧ (b .run 3 4 3).bgt.table.heater.granted ≤ 3) ∧
    (budgetSound (b .run 6 6 6) ∧ topLevel (b .run 6 6 6) ≤ 6) ∧ (budgetSound (b .run 3 2 2) ∧ (b .run 3 2 2).htr.wished < 3) :=
  ⟨⟨budget_sound (by decide +kernel), rfl, rfl⟩, ⟨budget_sound (by decide +kernel), by decide +kernel⟩,
   ⟨budget_sound (by decide +kernel), rfl, rfl, by decide +kernel⟩, ⟨budget_sound (by decide +kernel), by decide +kernel⟩,
   ⟨budget_sound (by decide +kernel), by decide +kernel⟩, budget_sound (by decide +kernel), by decide +kernel⟩

theorem witness_BlowerIsSupervised :
    let blown := burning .run 3 4 4 { noHeaterTimers with lowSpeed := some 5000 }
    budgetSound blown ∧ (0 < blown.htr.blower.duty ∧ ¬(blown.htr.state = .purge ∧ blown.htr.marks.forcedPurge = true)) ∧
    blown.htr.timers.lowSpeed = some 5000 ∧ ¬(0 < cold.htr.blower.duty) ∧ 1999999 ≠ 0 ∧ 2000000 ≠ 0 :=
  ⟨budget_sound (by decide +kernel), by decide +kernel, rfl, by decide +kernel, by decide, by decide⟩

/-- DIN5 active; LOCKOUT with a counter of 2 and of 3; OFF with the latch; a cooldown before a lockout; plain OFF. -/
theorem witness_LockoutIsEnteredAndReleased :
    let din5 := { cold with sns := { cold.sns with lines := cold.sns.lines.map fun l => { l with real := true } } }
    let locked := fun st n latch => { cold with htr := { cold.htr with state := st, lockouts := n, latch := latch } }
    let cools := { heating .cooldown { noHeaterTimers with coolMin := some 9, coolMax := some 9 } with
      htr := { (heating .cooldown { noHeaterTimers with coolMin := some 9, coolMax := some 9 }).htr with
        marks := { cold.htr.marks with lockoutPending := true }
        cool := some { cause := .stop, duty := 700, endTemp := 500, minTime := 120, maxTime := 600 } } }
    (budgetSound din5 ∧ noneInHand din5 ∧ (lineOf din5 5).real = true) ∧
    (∀ st n latch, budgetSound (locked st n latch) ∧ noneInHand (locked st n latch) ∧ (lineOf (locked st n latch) 5).real = false) ∧
    ((locked .lockout 2 false).htr.lockouts < 3 ∧ 3 ≤ (locked .lockout 3 false).htr.lockouts ∧ (locked .off 0 true).htr.latch = true) ∧
    (budgetSound cools ∧ noneInHand cools ∧ cools.htr.timers.coolMin = some 9 ∧ cools.htr.timers.coolMax = some 9 ∧
      cools.htr.cool = some { cause := .stop, duty := 700, endTemp := 500, minTime := 120, maxTime := 600 } ∧
      cools.htr.marks.lockoutPending = true) :=
  ⟨⟨cold_budget, cold_free, by decide +kernel⟩, fun _ _ _ => ⟨cold_budget, cold_free, rfl⟩, by decide +kernel, cold_budget, cold_free, rfl, rfl,
   rfl, rfl⟩

/-- The default table and settings, and the level limits at both ends of their range. -/
theorem witness_HeaterConfigReplacesSettings :
    noneInHand (at_ cold).dev ∧ defaultHeatTable.length = 6 ∧
    (∀ l ∈ defaultHeatTable, 300 ≤ l.interval ∧ l.interval ≤ 5000 ∧ 100 ≤ l.duty ∧ l.duty ≤ 1000 ∧ l.minRpm ≤ 10000 ∧
      l.current ≤ 20000) ∧
    ((defaultHeatTable.map (·.interval)).Pairwise (· > ·) ∧ (defaultHeatTable.map (·.duty)).Pairwise (· < ·)) ∧
    (∀ q ∈ [defaultSeq, { defaultSeq with pulseWidth := 20, glowTime := 10, attempts := 1, purgeTime := 30, coolMin := 600, coolMax := 1800,
                                          dwell := 10, pauseDelay := 60, flameWindow := 30 }],
      (20 ≤ q.pulseWidth ∧ q.pulseWidth ≤ 80 ∧ 10 ≤ q.glowTime ∧ q.glowTime ≤ 60 ∧ 300 ≤ q.ignInterval ∧ q.ignInterval ≤ 5000 ∧
        100 ≤ q.ignDuty ∧ q.ignDuty ≤ 1000) ∧
      (50 ≤ q.flameRise ∧ q.flameRise ≤ 500 ∧ 30 ≤ q.flameWindow ∧ q.flameWindow ≤ 90 ∧ 1 ≤ q.attempts ∧ q.attempts ≤ 3 ∧
        500 ≤ q.purgeDuty ∧ q.purgeDuty ≤ 1000 ∧ 30 ≤ q.purgeTime ∧ q.purgeTime ≤ 300) ∧
      (300 ≤ q.coolDuty ∧ q.coolDuty ≤ 1000 ∧ 200 ≤ q.coolEnd ∧ q.coolEnd ≤ 1500 ∧ 60 ≤ q.coolMin ∧ q.coolMin ≤ 600 ∧
        300 ≤ q.coolMax ∧ q.coolMax ≤ 1800) ∧
      (1500 ≤ q.softLimit ∧ q.softLimit ≤ 2500 ∧ 50 ≤ q.lossDrop ∧ q.lossDrop ≤ 500 ∧ 10 ≤ q.dwell ∧ q.dwell ≤ 600 ∧
        60 ≤ q.pauseDelay ∧ q.pauseDelay ≤ 1800 ∧ q.coolMin < q.coolMax ∧ q.pulseWidth < q.ignInterval)) ∧
    (cold.htr.state = .off ∧ (heating .run noHeaterTimers).htr.state ≠ .off ∧ (heating .ramp noHeaterTimers).htr.state = .ramp) :=
  ⟨cold_free, by decide +kernel, by decide +kernel, by decide +kernel, by decide +kernel, by decide +kernel⟩

/-- The part after reset with the heater in a state and the exchanger at a status and a temperature. -/
def warmed (st : HeaterState) (status : ChannelStatus) (value : Int) : Device :=
  { heating st noHeaterTimers with
    sns := { cold.sns with analog := { cold.sns.analog with tExch := { cold.sns.analog.tExch with status := status, value := value } } } }

/-- A wished level that falls at 1.0 degree above the setpoint, where the level is 4, and not at 0.9. -/
theorem witness_SweepMovesHeater_falls :
    let cab := fun value : Int => { burning .run 4 4 4 noHeaterTimers with sns := { cold.sns with analog := { cold.sns.analog with
      tCab := { cold.sns.analog.tCab with status := .ok, value := value } } } }
    (∀ value, budgetSound (cab value) ∧ levelHeld (cab value)) ∧
    (runLevel (cab 210) < (cab 210).htr.level ∧ ¬(runLevel (cab 209) < (cab 209).htr.level)) ∧ 1 ≤ (cab 210).htr.seq.coolMin :=
  ⟨fun _ => ⟨(budget_sound (by decide +kernel) : budgetSound (burning .run 4 4 4 noHeaterTimers)),
    (level_held (by decide +kernel) : levelHeld (burning .run 4 4 4 noHeaterTimers))⟩, by decide +kernel, by decide +kernel⟩

/-- A cooldown that ends at 50.0 degrees. -/
def aCooldown : Cooldown := { cause := .stop, duty := 700, endTemp := 500, minTime := 120, maxTime := 600 }

/-- The exchanger failing, and at its soft limit of 220.0 degrees and a tenth below; the flame proved at 120.0 over a base of 0 and a tenth
short; lost below 142.0 from a reference of 148.0 and not; a cooldown that has cooled and one that has not; a cab that wants heat in
PAUSED, with a start that may be made and one that fails, and a cab that does not. -/
theorem witness_SweepMovesHeater :
    let seq := cold.htr.seq
    let cools := fun value : Int => { warmed .cooldown .ok value with htr := { (warmed .cooldown .ok value).htr with cool := some aCooldown } }
    let runs := fun value : Int => { warmed .run .ok value with htr := { (warmed .run .ok value).htr with flameRef := 1480 } }
    let content := { ready .paused with sns := { (ready .paused).sns with
      analog := { (ready .paused).sns.analog with tCab := { cold.sns.analog.tCab with status := .ok, value := 200 } } } }
    (∀ st status value, budgetSound (warmed st status value)) ∧ (∀ st, budgetSound (ready st)) ∧ 1 ≤ seq.coolMin ∧
    (levelHeld (burning .run 3 4 4 noHeaterTimers) ∧ levelHeld (burning .ramp 3 4 4 noHeaterTimers) ∧
      budgetSound (burning .run 3 4 4 noHeaterTimers) ∧ levelHeld (warmed .ignite .ok 0) ∧ levelHeld (ready .paused)) ∧
    (asksAlready (burning .run 3 4 4 noHeaterTimers) 4 ∧ ¬asksAlready (burning .run 3 4 4 noHeaterTimers) 3) ∧
    ((warmed .run .openCircuit 0).sns.analog.tExch.status.failed = true ∧ (warmed .run .openCircuit 0).htr.state = .run ∧
      (warmed .waitInrush .shortCircuit 0).htr.state = .waitInrush) ∧
    ((seq.softLimit : Int) ≤ seq.softLimit ∧ ¬((seq.softLimit : Int) ≤ seq.softLimit - 1) ∧ cold.htr.marks.lockoutPending = false ∧
      ¬(500 < aCooldown.endTemp) ∧ (cools 499).sns.analog.tExch.value < (aCooldown.endTemp : Int) ∧ (cools 499).htr.timers.coolMin = none) ∧
    ((warmed .ignite .ok 0).htr.flameBase + (seq.flameRise : Int) ≤ (warmed .ignite .ok seq.flameRise).sns.analog.tExch.value ∧
      ¬((warmed .ignite .ok 0).htr.flameBase + (seq.flameRise : Int) ≤ (seq.flameRise : Int) - 1)) ∧
    ((runs (1480 - seq.lossDrop - 1)).sns.analog.tExch.value < (runs 0).htr.flameRef - (seq.lossDrop : Int) ∧
      ¬((runs (1480 - seq.lossDrop)).sns.analog.tExch.value < (runs 0).htr.flameRef - (seq.lossDrop : Int))) ∧
    ((ready .paused).sns.analog.tCab.status ≠ .ok ∧ startMayBeMade (ready .paused) ∧
      startFailsWith (warmed .paused .openCircuit 0) .sensor ∧ (warmed .paused .openCircuit 0).sns.analog.tCab.status ≠ .ok) ∧
    ¬(content.sns.analog.tCab.status ≠ .ok ∨ 10 ≤ content.htr.setpoint - content.sns.analog.tCab.value) := by
  refine ⟨fun _ _ _ => cold_budget, ready_budget, by decide +kernel,
    ⟨level_held (by decide +kernel), level_held (by decide +kernel), budget_sound (by decide +kernel), level_held (by decide +kernel),
      level_held (by decide +kernel)⟩, ⟨⟨rfl, rfl⟩, fun h => absurd h.1 (by decide +kernel)⟩,
    by decide +kernel, by decide +kernel, by decide +kernel, by decide +kernel, ⟨by decide +kernel, ready_starts .paused (by decide), ?_, by decide +kernel⟩, by decide +kernel⟩
  exact ⟨[], _, _, rfl, ⟨fun p hp => absurd hp List.not_mem_nil, by decide +kernel⟩⟩

/-! ### Compressor Drive -/

/-- The compressor in a state with its timers, its entry asking for step 2 with a grant, and an allowance. -/
def chilled (st : CompState) (timers : CompTimers) (grant : Nat) (a : Allowance) : Device :=
  { cooling st timers with
    cmp := { (cooling st timers).cmp with wished := 2 }
    bgt := { cold.bgt with
      allowance := a
      table := { cold.bgt.table with compressor := { cold.bgt.table.compressor with requested := 2, granted := grant } } } }

theorem chilled_budget : budgetSound (chilled .idle noCompTimers 2 freeAllowance) := budget_sound (by decide +kernel)

theorem ungranted_budget : budgetSound (chilled .idle noCompTimers 0 freeAllowance) := budget_sound (by decide +kernel)

/-- OFF_HOLD with demand and a grant, with demand and none, without demand; each timed state with its timer; ENABLE ON and OFF; Hall code
valid and DIN6 inactive, and the opposites. -/
theorem witness_CompressorTimersEndStates :
    let hold := fun grant => chilled .offHold { noCompTimers with offSince := some 1000 } grant freeAllowance
    let resting := { hold 0 with cmp := { (hold 0).cmp with demand := false } }
    (budgetSound (hold 2) ∧ budgetSound (hold 0) ∧ budgetSound resting) ∧
    ((hold 2).cmp.timers.offSince = some 1000 ∧ 181000 = 1000 + 180000 ∧ (hold 2).cmp.demand = true ∧
      (hold 2).bgt.table.compressor.granted ≠ 0 ∧ (hold 0).bgt.table.compressor.granted = 0 ∧ resting.cmp.demand = false) ∧
    ((cooling .stopping { noCompTimers with coast := some 9 }).cmp.timers.coast = some 9 ∧
      (cooling .stallBackoff { noCompTimers with backoff := some 9 }).cmp.timers.backoff = some 9 ∧
      (cooling .blocked { noCompTimers with blocked := some 9 }).cmp.timers.blocked = some 9 ∧
      (cooling .start { noCompTimers with start := some 9, stall := some 9 }).cmp.timers.start = some 9 ∧
      (cooling .run { noCompTimers with stall := some 9 }).cmp.timers.stall = some 9) ∧
    (∀ st t, budgetSound (cooling st t)) ∧
    ((cooling .stopping noCompTimers).cmp.enable = true ∧ cold.cmp.enable = false ∧
      rawOf (hold 2) 6 = false ∧ hallValid (hold 2).pins.hall.toNat ∧ ¬hallValid (7 : HallCode).toNat ∧
      rawOf { hold 2 with pins := { cold.pins with din := 0xDF } } 6 = true) := by
  refine ⟨⟨chilled_budget, ungranted_budget, ungranted_budget⟩, by decide +kernel, by decide +kernel,
    fun _ _ => cold_budget, by decide +kernel, by decide +kernel, by decide +kernel, ?_, ?_, by decide +kernel⟩
  · unfold hallValid; decide +kernel
  · unfold hallValid; decide +kernel

/-- START with a duty ramp; a minimum run with a cut-out deferred, after a short and a long run, and with none; the other timers; both
phases, with and without demand, with the minimum run passed and not. -/
theorem witness_CompressorRunTimersAct :
    let run := fun (deferred learning : Bool) (uptime : Nat) =>
      { chilled .run { noCompTimers with minRun := some 120000, raise := some 9, failReset := some 9, phase := some 9 } 2 freeAllowance with
        sns := { cold.sns with uptime := uptime }
        cmp := { (chilled .run { noCompTimers with minRun := some 120000, raise := some 9, failReset := some 9, phase := some 9 } 2
            freeAllowance).cmp with deferred := deferred, learning := learning, cutIn := some 2 } }
    let phased := fun (st : CompState) (phase : TimedPhase) (demand : Bool) =>
      { chilled st { noCompTimers with phase := some 9 } 2 freeAllowance with
        cmp := { (chilled st { noCompTimers with phase := some 9 } 2 freeAllowance).cmp with
          phase := phase, demand := demand, mode := .timed } }
    (∀ x y u, budgetSound (run x y u)) ∧ (∀ st p v, budgetSound (phased st p v)) ∧
    (cooling .start { noCompTimers with dutyRamp := some 9 }).cmp.timers.dutyRamp = some 9 ∧
    ((run true true 601).cmp.deferred = true ∧ (601 + (4294967296 - 2)) % 4294967296 < 600 ∧ ¬((602 + (4294967296 - 2)) % 4294967296 < 600) ∧
      (run false true 0).cmp.deferred = false ∧ (run false true 0).cmp.timers.minRun = some 120000 ∧ 9 < 120000) ∧
    ((run true true 0).cmp.timers.raise = some 9 ∧ (run true true 0).cmp.timers.failReset = some 9) ∧
    ((phased .start .demand true).cmp.phase = .demand ∧ (phased .run .demand true).cmp.timers.minRun = none ∧
      (phased .idle .rest false).cmp.phase = .rest ∧ (phased .idle .rest false).cmp.mode = .timed ∧
      (phased .offHold .demand true).cmp.demand = true ∧ (phased .blocked .rest false).cmp.demand = false) :=
  ⟨fun _ _ _ => chilled_budget, fun _ _ _ => chilled_budget, rfl, by decide +kernel, by decide +kernel,
   by decide +kernel⟩

/-- A Hall edge outside START and RUN; the first edge; an edge within a window, and its last; a code that is the present one, and an invalid
one. -/
theorem witness_HallEdgeCommutatesAndRegulates :
    let edge := fun (st : CompState) (first : Bool) (n : Nat) => { cooling st noCompTimers with cmp := { (cooling st noCompTimers).cmp with
      window := { intervals := List.replicate n 3200, edges := n, rpm := 0, first := first } } }
    (∀ st first n, budgetSound (edge st first n)) ∧
    (1 : HallCode) = (edge .run false 5).pins.hall ∧ (hallValid (3 : HallCode).toNat ∧ (3 : HallCode) ≠ (edge .run false 5).pins.hall) ∧
    ((edge .run true 0).cmp.window.first = true ∧ (edge .run true 0).cmp.window.edges ≠ 6) ∧
    ((edge .run false 4).cmp.window.first = false ∧ (edge .run false 4).cmp.window.edges ≠ 5) ∧
    ((edge .start false 5).cmp.window.edges = 5 ∧ 1500 ≤ 60000000 / (20000 * 2) ∧ ¬(1500 ≤ 60000000 / (20001 * 2))) ∧
    (¬hallValid (0 : HallCode).toNat ∧ (0 : HallCode) ≠ (edge .run false 5).pins.hall) ∧
    ¬((edge .idle false 5).cmp.state = .start ∨ (edge .idle false 5).cmp.state = .run) := by
  refine ⟨fun _ _ _ => cold_budget, rfl, ⟨?_, by decide +kernel⟩, by decide +kernel, by decide +kernel, by decide +kernel,
    ⟨?_, by decide +kernel⟩, by decide +kernel⟩
  · unfold hallValid; decide
  · unfold hallValid; decide

theorem witness_OutputGatesFollowTheirHolds_bridge :
    let d := cooling .start noCompTimers
    ((d.cmp.state = .start ∨ d.cmp.state = .run) ∧ d.cmp.latch = false ∧ rawOf d 6 = false) ∧
    ¬((cold.cmp.state = .start ∨ cold.cmp.state = .run) ∧ cold.cmp.latch = false ∧ rawOf cold 6 = false) := by decide +kernel

/-- The settings at the low and at the high ends of their ranges; each state that the requests tell apart. -/
theorem witness_FridgeRequestsSetCompressor :
    (∀ st t, noneInHand (cooling st t) ∧ budgetSound (cooling st t)) ∧
    (∀ q ∈ [({ setpoint := -200, differential := 10, order := .a, deadTime := 500, polePairs := 2, currentLimit := 2000, quietCap := 1 }
              : FridgeSettings),
            { setpoint := 100, differential := 50, order := .b, deadTime := 4000, polePairs := 4, currentLimit := 20000, quietCap := 4 }],
      -200 ≤ q.setpoint ∧ q.setpoint ≤ 100 ∧ 10 ≤ q.differential ∧ q.differential ≤ 50 ∧ 500 ≤ q.deadTime ∧ q.deadTime ≤ 4000 ∧
      2 ≤ q.polePairs ∧ q.polePairs ≤ 4 ∧ 2000 ≤ q.currentLimit ∧ q.currentLimit ≤ 20000 ∧ 1 ≤ q.quietCap ∧ q.quietCap ≤ 4) ∧
    (cooling .run noCompTimers).cmp.orderNow ≠ .b ∧ (∀ st t, (cooling st t).cmp.state = st) ∧
    (cold.npl.quiet = false ∧ ({ cold with npl := { cold.npl with quiet := true } } : Device).npl.quiet = true) ∧
    (cooling .blocked noCompTimers).cmp.enable = true :=
  ⟨fun _ _ => ⟨⟨rfl, rfl⟩, cold_budget⟩, by decide +kernel, by decide +kernel, fun _ _ => rfl, by decide +kernel, rfl⟩

/-- The compressor with ENABLE ON in a state, a mode and a demand, and the refrigerator at a status and a temperature. -/
def fridge (st : CompState) (mode : CompMode) (demand : Bool) (status : ChannelStatus) (value : Int) : Device :=
  { chilled st noCompTimers 2 freeAllowance with
    sns := { cold.sns with analog := { cold.sns.analog with tFridge := { cold.sns.analog.tFridge with status := status, value := value } } }
    cmp := { (chilled st noCompTimers 2 freeAllowance).cmp with mode := mode, demand := demand } }

/-- The default thresholds 4.0 and 6.0 degrees and a tenth within them; both modes, with T_FRIDGE OK and not; a phase timer that runs and one
that does not; every state that demand finds, the minimum off passed and not, the minimum run passed and not. -/
theorem witness_SweepMovesCompressor :
    let idle := fridge .idle .thermostat false .ok
    (∀ st m x status v, budgetSound (fridge st m x status v)) ∧ cold.cmp.enable = false ∧ (idle 60).cmp.enable = true ∧
    (idle 60).cmp.settings.setpoint + ((idle 60).cmp.settings.differential : Int) ≤ 60 ∧
    59 < (idle 60).cmp.settings.setpoint + ((idle 60).cmp.settings.differential : Int) ∧
    (40 ≤ (idle 40).cmp.settings.setpoint ∧ 0 < (idle 40).cmp.settings.differential ∧ (idle 40).cmp.settings.setpoint < 41) ∧
    ((fridge .run .timed true .openCircuit 0).cmp.timers.phase = none ∧
      ({ fridge .run .timed true .openCircuit 0 with cmp := { (fridge .run .timed true .openCircuit 0).cmp with
        timers := { noCompTimers with phase := some 9 } } } : Device).cmp.timers.phase ≠ none) ∧
    (offPassed (fridge .offHold .thermostat false .ok 60).cmp 0 ∧
      ¬offPassed (chilled .offHold { noCompTimers with offSince := some 0 } 2 freeAllowance).cmp 179999 ∧
      offPassed (chilled .offHold { noCompTimers with offSince := some 0 } 2 freeAllowance).cmp 180000) := by
  refine ⟨fun _ _ _ _ _ => chilled_budget, by decide +kernel, by decide +kernel, by decide +kernel, by decide +kernel, by decide +kernel,
    by decide +kernel, fun _ h => (by cases h), fun h => absurd (h 0 rfl) (by decide), fun x h => ?_⟩
  cases h; decide

/-! ### Grants, answers and input events -/

/-- A level above the grant and one within it, a ramp that ends and one that does not; the compressor with a grant and with none, the
minimum off passed and not, a deferred cut-out and none; lights of seven channels; the outlet in each state, with the allowance FREE
and taken, and CRITICAL. -/
theorem witness_GrantsReachTheirLoads :
    let outlet := fun st grant a uv => { shedCase with
      chg := { shedCase.chg with uv := uv }
      bgt := { shedCase.bgt with
        table := { shedCase.bgt.table with outlet := { shedCase.bgt.table.outlet with granted := grant } }
        allowance := a
        outlet := { state := st, closing := none } } }
    (budgetSound (burning .run 4 4 3 noHeaterTimers) ∧ max 1 (min 3 (topLevel (burning .run 4 4 3 noHeaterTimers))) < 4) ∧
    (budgetSound (burning .ramp 1 4 3 noHeaterTimers) ∧ ¬(min 4 (min 3 (topLevel (burning .ramp 1 4 3 noHeaterTimers))) ≤ 1)) ∧
    (budgetSound (burning .ramp 3 4 3 noHeaterTimers) ∧ min 4 (min 3 (topLevel (burning .ramp 3 4 3 noHeaterTimers))) ≤ 3) ∧
    (∀ st t, budgetSound (chilled st t 2 freeAllowance)) ∧ (∀ st t, budgetSound (chilled st t 0 freeAllowance)) ∧
    ((chilled .offHold noCompTimers 2 freeAllowance).cmp.demand = true ∧ (chilled .offHold noCompTimers 2 freeAllowance).cmp.deferred = false ∧
      (chilled .run noCompTimers 0 freeAllowance).bgt.table.compressor.granted = 0) ∧
    (cold.lgt.channels.length = 7 ∧ cold.lgt.chSettings.length = 7) ∧
    (∀ st, budgetSound (outlet st 0 freeAllowance .normal)) ∧ (∀ st uv, budgetSound (outlet st 1 freeAllowance uv)) ∧
    (∀ st, budgetSound (outlet st 1 { state := .held .heater, hold := some 9, settle := none, waiting := [] } .normal)) :=
  ⟨⟨budget_sound (by decide +kernel), by decide +kernel⟩, ⟨budget_sound (by decide +kernel), by decide +kernel⟩,
   ⟨budget_sound (by decide +kernel), by decide +kernel⟩, fun _ _ => chilled_budget, fun _ _ => ungranted_budget, by decide +kernel,
   by decide +kernel, fun _ => budget_sound (d := { shedCase with bgt := { shedCase.bgt with
     table := { shedCase.bgt.table with outlet := { shedCase.bgt.table.outlet with granted := 0 } }, allowance := freeAllowance } })
     (by decide +kernel), fun _ _ => shed_budget,
   fun _ => budget_sound (d := allowing { state := .held .heater, hold := some 9, settle := none, waiting := [] }) (by decide +kernel)⟩

/-- Each answer finds its load waiting for it, and finds it elsewhere; a compressor that has had the allowance for 5 s and one that has had
it a millisecond less; a flush with every load waiting, and with a holder. -/
theorem witness_AnswersReachTheirLoads :
    let held := fun l => ({ state := .held l, hold := some 5000, settle := none, waiting := [] } : Allowance)
    let starts := fun ms => { chilled .start noCompTimers 2 (held .compressor) with
      sns := { cold.sns with ms := ms }, cmp := { (chilled .start noCompTimers 2 (held .compressor)).cmp with grantTime := some 0 } }
    let waits := { allowing { state := .settling, hold := none, settle := some 9, waiting := [.outlet, .compressor, .heater] } with
      htr := { cold.htr with state := .waitInrush }, cmp := { cold.cmp with state := .waitInrush } }
    let d := { waits with bgt := { waits.bgt with outlet := { state := .waitToken, closing := none } } }
    (∀ st, budgetSound (heating st noHeaterTimers)) ∧ (∀ st, budgetSound (chilled st noCompTimers 2 (held .compressor))) ∧
    ((chilled .waitInrush noCompTimers 2 (held .compressor)).bgt.allowance.state = .held .compressor ∧
      (chilled .waitInrush noCompTimers 2 (held .compressor)).bgt.allowance.hold = some ((cold.sns.ms) + 5000)) ∧
    (∀ ms, budgetSound (starts ms)) ∧ ((starts 5000).cmp.grantTime.getD 0 + 5000 ≤ 5000 ∧ 4999 < (starts 4999).cmp.grantTime.getD 0 + 5000) ∧
    (budgetSound d ∧ ∀ l ∈ [Load.outlet, .compressor, .heater], l ∈ d.bgt.allowance.waiting) ∧
    (d.htr.state = .waitInrush ∧ d.cmp.state = .waitInrush ∧ d.bgt.outlet.state = .waitToken) ∧
    (∀ l, d.bgt.allowance.state ≠ .held l) ∧ (∀ l ∈ inrushLoads, (allowing (held l)).bgt.allowance.state = .held l) := by
  refine ⟨fun _ => cold_budget,
    fun _ => budget_sound (d := chilled .idle noCompTimers 2 { state := .held .compressor, hold := some 5000, settle := none, waiting := [] })
      (by decide +kernel), by decide +kernel,
    fun _ => budget_sound (d := chilled .idle noCompTimers 2 { state := .held .compressor, hold := some 5000, settle := none, waiting := [] })
      (by decide +kernel), by decide +kernel,
    ⟨budget_sound (d := allowing { state := .settling, hold := none, settle := some 9, waiting := [.outlet, .compressor, .heater] })
      (by decide +kernel), by decide +kernel⟩, by decide +kernel, fun _ h => (by cases h), by decide +kernel⟩

/-- The courtesy channel with and without manual hold; a group of the dial that is lit and one that is dark. -/
theorem witness_EventsReachLightsAndRest :
    let d := fun hold target => { cold with lgt := { cold.lgt with
      channels := cold.lgt.channels.set 3 { darkChannel with target := target, hold := hold } } }
    (∀ hold target, budgetSound (d hold target)) ∧ lightsSound (d true 1000) ∧ lightsSound (d false 0) ∧
    (((d true 1000).lgt.channels.map (rested 0)).getD 3 darkChannel).hold = true ∧
    (((d false 0).lgt.channels.map (rested 0)).getD 3 darkChannel).hold = false ∧
    (∃ k ∈ List.range 7, (cold.lgt.chSettings.map (·.group)).getD k .none = cold.lgt.settings.dialGroup) ∧
    (∀ k ∈ List.range 7, ¬0 < ((cold.lgt.channels.map (rested 0)).getD k darkChannel).target) ∧ cold.vbl.source = .bus :=
  ⟨fun _ _ => cold_budget, lights_sound (by decide +kernel), lights_sound (by decide +kernel), by decide +kernel, by decide +kernel,
   by decide +kernel, by decide +kernel, rfl⟩

/-- The heater in every state, with a start that may be made and one that fails, marked and not; the compressor driving and not. -/
theorem witness_EventsReachDrives :
    (∀ st, budgetSound (ready st) ∧ (ready st).htr.state = st) ∧ startMayBeMade (ready .off) ∧ startFailsWith cold .sensor ∧
    (∀ st, budgetSound (cooling st noCompTimers) ∧ (cooling st noCompTimers).cmp.state = st) ∧
    (let marked := { ready .purge with htr := { (ready .purge).htr with
        marks := { (ready .purge).htr.marks with forcedPurge := true } } }
     budgetSound marked ∧ marked.htr.marks.forcedPurge = true ∧ (ready .purge).htr.marks.forcedPurge = false) ∧
    cold.bgt.outlet.state = .off :=
  ⟨fun st => ⟨ready_budget st, rfl⟩, ready_starts .off (by decide),
   ⟨[], _, _, rfl, ⟨fun p hp => absurd hp List.not_mem_nil, by decide +kernel⟩⟩, fun _ => ⟨cold_budget, rfl⟩,
   ⟨cold_budget, rfl, rfl⟩, rfl⟩

/-! ### Light Controller -/

/-- Channels 0 and 6, CH7, both groups with and without members, scenes 0, 1 and 5; levels and fades at the ends of their ranges. -/
theorem witness_LightRequestsAreTaken :
    noneInHand (at_ cold).dev ∧ budgetSound cold ∧ lightsSound cold ∧
    (1000 ≤ 1000 ∧ 10000 ≤ 10000 ∧ 0 < 7 ∧ 6 < 7 ∧ LightGroup.a ≠ .none ∧ LightGroup.b ≠ .none) ∧
    ((List.range 7).filter (fun k => decide ((cold.lgt.chSettings.map (·.group)).getD k .none = .a)) ≠ [] ∧
      (let d := { cold with lgt := { cold.lgt with chSettings := List.replicate 7 { group := .a, essential := false } } }
       (List.range 7).filter (fun k => decide ((d.lgt.chSettings.map (·.group)).getD k .none = .b)) = [])) ∧
    ([some 1000, none, some 0, none, none, none, none].length = 7 ∧
      ∀ l ∈ [some 1000, none, some 0, none, none, none, none], ∀ x ∈ l, x ≤ 1000) ∧
    ((5 : Nat) ≠ 0 ∧ 5 < 6 ∧ (cold.lgt.scenes[5]?).isSome = true ∧ (cold.lgt.scenes[0]?).isSome = true) ∧
    ((List.replicate 7 LightGroup.a).length = 7 ∧ (List.replicate 7 true).length = 7 ∧ 10 ≤ 10 ∧ 3600 ≤ 3600 ∧ 50 ≤ 50 ∧ 1000 ≤ 1000) :=
  ⟨cold_free, cold_budget, cold_lights, by decide, by decide +kernel, by decide +kernel, by decide +kernel, by decide⟩

/-- A courtesy timer, a fade that runs and one that does not. -/
theorem witness_LampTimersAct :
    let d := { cold with lgt := { cold.lgt with
      courtesyTimer := some 300000
      channels := cold.lgt.channels.set 3
        { darkChannel with target := 0, fadeFrom := 700, fadeAt := 0, fadeMs := 5000, fading := true, courtesy := true } } }
    (budgetSound d ∧ lightsSound d) ∧ d.lgt.courtesyTimer = some 300000 ∧
    ((d.lgt.channels.getD 3 darkChannel).fading = true ∧ (d.lgt.channels.getD 0 darkChannel).fading = false) :=
  ⟨⟨cold_budget, lights_sound (by decide +kernel)⟩, rfl, by decide +kernel⟩

/-- Severities 0 and 3, a muted and a sounding posting; both blinking patterns; a beat's on part, its off part and its last one. -/
theorem witness_IndicationFollowsPostings :
    let blink := { cold with lgt := { cold.lgt with ch7Timer := some 500 } }
    let beat := fun on left =>
      ({ burst := true, remaining := left, counted := true, on := on, timer := some 200 } : Buzzer)
    (3 ≤ 3 ∧ 0 ≤ 3) ∧ blink.lgt.ch7Timer = some 500 ∧ (beat true 3).timer = some 200 ∧ (beat true 3).on = true ∧
      ((beat false 3).on = false ∧ (beat false 3).remaining - 1 ≠ 0) ∧ ((beat false 1).on = false ∧ (beat false 1).remaining - 1 = 0) := by
  decide +kernel

/-! ### Rest-Time Monitor -/

/-- A rest record with a settling run of a candidate and a length. -/
def settling (candidate : ActClass) (length : Nat) : Rest :=
  { cold.rtm with settling := some { candidate := candidate, start := 0, length := length, declared := false, stale := false } }

/-- Runs of 10 s of DRIVE and of 60 s of REST have settled, a second less has not. -/
theorem witness_RestTickSettlesAndCounts :
    settled (settling .drive 10) { candidate := .drive, start := 0, length := 10, declared := false, stale := false } ∧
    settled (settling .rest 60) { candidate := .rest, start := 0, length := 60, declared := false, stale := false } ∧
    runAfter (settling .rest 59) .rest false true 60 =
      some { candidate := .rest, start := 0, length := 60, declared := false, stale := false } ∧
    (∀ run, ¬settled (settling .drive 9) run) ∧ (∀ run, ¬settled (settling .rest 59) run) ∧ ∀ run, ¬settled cold.rtm run := by
  refine ⟨⟨rfl, by decide⟩, ⟨rfl, by decide⟩, by decide +kernel, ?_, ?_, ?_⟩
  · rintro run ⟨h, h'⟩; cases h; revert h'; decide
  · rintro run ⟨h, h'⟩; cases h; revert h'; decide
  · rintro run ⟨h, h'⟩; cases h

/-- A rest run of 900 s crosses the first part, one of 899 s nothing; a limit raised 900 s ago repeats, one raised 899 s ago does not. -/
theorem witness_RestCrossingsAndRepeatsAct :
    let resting := { cold.rtm with current := { cold.rtm.current with cls := .rest } }
    let crosses := fun u => crossed resting.marks.first resting.rules.firstPart (restRunOf resting u) ||
      crossed resting.marks.second resting.rules.secondPart (restRunOf resting u) ||
      crossed resting.marks.full resting.rules.fullBreak (restRunOf resting u) ||
      crossed resting.marks.daily resting.rules.dailyRest (restRunOf resting u)
    let d := fun u => { cold with
      sns := { cold.sns with uptime := u }
      rtm := { cold.rtm with
        driveSinceBreak := 16200
        warnings := { cold.rtm.warnings with contLimit := { state := .active, occurrence := 5, raised := 0 } } } }
    let due := fun u => warns (d u) (d u).rtm .contLimit && repeatDue (d u) (d u).rtm .contLimit &&
      decide (((d u).rtm.warnings.get .contLimit).state ≠ .clear)
    crosses 900 = true ∧ crosses 899 = false ∧ due 900 = true ∧ due 899 = false := by decide +kernel

/-- The rules at the low ends of their ranges and at the high ends; a warning that is CLEAR, ACTIVE and ACKNOWLEDGED. -/
theorem witness_RestRequestsAreTaken :
    noneInHand (at_ cold).dev ∧
    (∀ q ∈ [({ contLimit := 1800, fullBreak := 300, firstPart := 60, secondPart := 60, dailyLimit := 1800, dailyRest := 3600, preLead := 60,
               repeatInterval := 60, unknownAlarm := 60, moving := 10 } : RestRules),
            { contLimit := 43200, fullBreak := 14400, firstPart := 14399, secondPart := 14399, dailyLimit := 86400, dailyRest := 86400,
              preLead := 7200, repeatInterval := 7200, unknownAlarm := 7200, moving := 300 }],
      (1800 ≤ q.contLimit ∧ q.contLimit ≤ 43200 ∧ 300 ≤ q.fullBreak ∧ q.fullBreak ≤ 14400 ∧ 60 ≤ q.firstPart ∧
        60 ≤ q.secondPart ∧ 1800 ≤ q.dailyLimit ∧ q.dailyLimit ≤ 86400 ∧ 3600 ≤ q.dailyRest ∧ q.dailyRest ≤ 86400) ∧
      (60 ≤ q.preLead ∧ q.preLead ≤ 7200 ∧ 60 ≤ q.repeatInterval ∧ q.repeatInterval ≤ 7200 ∧ 60 ≤ q.unknownAlarm ∧
        q.unknownAlarm ≤ 7200 ∧ 10 ≤ q.moving ∧ q.moving ≤ 300 ∧ q.firstPart < q.fullBreak ∧ q.secondPart < q.fullBreak ∧
        q.fullBreak < q.dailyRest ∧ q.preLead < q.contLimit ∧ q.contLimit ≤ q.dailyLimit)) ∧
    (let w := fun st => ({ state := st, occurrence := 65535, raised := 0 } : Warning)
     allWarnings[6]? = some .restComplete ∧ 65535 < 65536 ∧ (w .clear).state = .clear ∧ 5 ≠ (w .active).occurrence ∧
      65535 = (w .acknowledged).occurrence) := ⟨cold_free, by decide +kernel, by decide +kernel⟩

/-! ### Night Plan -/

/-- Wall times 600 and 86,400 s ahead; setpoints 0, 50 and 300; a plan whose pre-warm falls due at once and one whose does not. -/
theorem witness_PlanRequestsSetPlan :
    noneInHand clocked ∧
    (clocked.sns.clockSet = true ∧ (let now := (clocked.sns.uptime + clocked.sns.clockOffset) % 4294967296
      (now + 600 ≤ 1600 ∧ 1600 ≤ now + 86400) ∧ now + 600 ≤ 87400 ∧ 87400 ≤ now + 86400)) ∧
    prewarmDue clocked { cold.npl with state := .armed, wake := some 600, lead := 3600 } ∧
    ¬prewarmDue clocked { cold.npl with state := .armed, wake := some 86400, lead := 3600 } ∧
    (quietBy { cold.npl with state := .armed } = cold.npl.quiet ∧ cold.npl.prewarmMark = false ∧
      quietBy { cold.npl with hostQuiet := true } ≠ cold.npl.quiet) := by
  refine ⟨⟨rfl, rfl⟩, by decide +kernel, ⟨rfl, 600, rfl, by decide +kernel⟩, ?_, by decide +kernel⟩
  rintro ⟨-, w, h, h'⟩; cases h; revert h'; decide +kernel

/-- A lead worked out at an uptime that is a multiple of 60; a pre-warm and a wake that are reached this second, and a second ahead. -/
theorem witness_PlanTimesAct :
    let planned := fun wake uptime => { cold with
      sns := { cold.sns with uptime := uptime }, npl := { cold.npl with state := .armed, wake := some wake, lead := 600 } }
    (∀ w u, budgetSound (planned w u)) ∧
    ((planned 5000 60).npl.state = .armed ∧ (planned 5000 60).npl.wake ≠ none ∧ (planned 5000 60).sns.uptime % 60 = 0) ∧
    prewarmDue (planned 700 100) (planned 700 100).npl ∧ ¬prewarmDue (planned 701 100) (planned 701 100).npl ∧
    (live (planned 100 100).npl ∧ (planned 100 100).npl.wake = some 100 ∧ 100 ≤ (planned 100 100).sns.uptime) ∧
    (live (planned 101 100).npl ∧ (planned 101 100).sns.uptime < 101) := by
  refine ⟨fun _ _ => cold_budget, by decide +kernel, ⟨rfl, 700, rfl, by decide +kernel⟩, ?_, ⟨.inl rfl, rfl, by decide +kernel⟩, .inl rfl,
    by decide +kernel⟩
  rintro ⟨-, w, h, h'⟩; cases h; revert h'; decide +kernel

/-- A quiet flag that changes and one that does not; a live REST_COMPLETE plan whose projection changes: known, as the wake is and not, and
none at REST and elsewhere. -/
theorem witness_HandOffsMovePlanAndQuietHours :
    let planned := { cold with npl := { cold.npl with
      state := .armed, source := .restComplete, wake := some 40000, lead := 600, lastProjection := some 40000 } }
    let moved := { planned with npl := { planned.npl with wake := some 700, lead := 600 }, sns := { cold.sns with uptime := 100 } }
    (budgetSound planned ∧ lightsSound planned ∧ levelHeld cold ∧ levelHeld (burning .run 3 4 4 noHeaterTimers) ∧
      budgetSound (burning .run 3 4 4 noHeaterTimers)) ∧
    (quietBy cold.npl = cold.npl.quiet ∧ quietBy { cold.npl with hostQuiet := true } ≠ cold.npl.quiet) ∧
    (some 41000 ≠ planned.npl.lastProjection ∧ none ≠ planned.npl.lastProjection ∧ live planned.npl ∧
      planned.npl.source = .restComplete ∧ some 41000 ≠ planned.npl.wake) ∧
    (ActClass.rest ≠ .drive ∧ ¬live cold.npl) ∧
    prewarmDue moved moved.npl ∧ ¬prewarmDue planned planned.npl := by
  refine ⟨⟨cold_budget, cold_lights, level_held (by decide +kernel), level_held (by decide +kernel), budget_sound (by decide +kernel)⟩,
    by decide +kernel, ⟨by decide +kernel, by decide +kernel, .inl rfl, rfl, by decide +kernel⟩,
    ⟨by decide, ?_⟩, ⟨rfl, 700, rfl, by decide +kernel⟩, ?_⟩
  · rintro (h | h) <;> cases h
  · rintro ⟨-, w, h, h'⟩; cases h; revert h'; decide +kernel

/-! ### The read requests and the invariants -/

theorem witness_ReadsReportLinkAndSupply :
    noneInHand (at_ clocked).dev ∧ (0 : Byte).toNat ≤ 12 ∧ (12 : Byte).toNat ≤ 12 ∧ 12 < (13 : Byte).toNat ∧
      (clocked.vbl.slots[12 - 1]?).isSome = true := ⟨⟨rfl, rfl⟩, by decide +kernel⟩

theorem witness_ReadsReportDrivesAndRest :
    noneInHand (at_ cold).dev ∧ (3 : Byte).toNat ≤ 3 ∧ 3 < (4 : Byte).toNat ∧ (47 : Byte).toNat ≤ 47 ∧ 47 < (48 : Byte).toNat ∧
      (cold.lgt.channels.head?).isSome = true ∧ cold.sns.clockSet = false := ⟨⟨rfl, rfl⟩, by decide +kernel⟩

/-- A RESTART whose reply has been sent, with CHARGE_STATE in the table; a part that burns, cools, waits, or is at rest; a purge before
a lockout and one that is not; every state of the compressor. -/
theorem witness_RestartActsAfterItsReply :
    let d := sending (.reply aFrame) (some { rest := [], restart := true }) [aFrame] [{ kind := .chargeState, merge := 1, lines := [] }]
    let purging := fun pending => { heating .purge noHeaterTimers with htr := { (heating .purge noHeaterTimers).htr with
      marks := { cold.htr.marks with lockoutPending := pending } } }
    noneInHand (at_ cold).dev ∧ (d.lnk.tx = .reply aFrame ∧ d.lnk.out = some { rest := [], restart := true } ∧
      ∃ n ∈ d.lnk.notices, n.kind = .chargeState) ∧
    (∀ st t, budgetSound (heating st t) ∧ lightsSound (heating st t) ∧ (heating st t).htr.state = st) ∧
    (∀ st t, budgetSound (cooling st t) ∧ lightsSound (cooling st t) ∧ (cooling st t).cmp.state = st) ∧
    ((purging true).htr.marks.lockoutPending = true ∧
      ¬((purging false).htr.marks.lockoutPending = true ∨ (purging false).htr.marks.forcedPurge = true)) :=
  ⟨cold_free, ⟨rfl, rfl, _, List.mem_singleton.mpr rfl, rfl⟩, fun _ _ => ⟨cold_budget, cold_lights, rfl⟩,
   fun _ _ => ⟨cold_budget, cold_lights, rfl⟩, by decide +kernel⟩

/-- An entry of each kind; causes of HEATER_STATE that are a refusal, a cooldown's and neither. -/
theorem witness_NoticesCarrySnapshots :
    (∀ k : NoticeKind, ({ kind := k, merge := 1, lines := [] } : Notice).kind = k) ∧
    (∀ c : HeaterCause, ({ cold with htr := { cold.htr with cause := c } } : Device).htr.cause = c) ∧
    ∃ mask, mask < 65536 ∧ mask.testBit 15 = true := ⟨fun _ => rfl, fun _ => rfl, 32768, by decide, by decide⟩

/-- A link with a request in hand and two notices: a step keeps it going. -/
theorem witness_LinkStaysSound :
    linkSound busyLink ∧ ∃ t, step { dev := busyLink, pending := [.frameReceived 0x01 2 []] } = .next t := by
  refine ⟨⟨⟨by decide +kernel, ?_, ?_⟩, by decide +kernel, by decide +kernel⟩, _, rfl⟩
  · intro h; exact absurd rfl h
  · intro f h; cases h

/-- The worked shed case with its heater in RUN at level 3. -/
theorem witness_BudgetStaysSound :
    let d := { shedCase with htr := { cold.htr with state := .run, level := 3, wished := 3 } }
    budgetSound d ∧ grantsObeyed d ∧ ∃ t, step { dev := d, pending := [.budgetPass] } = .next t :=
  ⟨shed_budget, ⟨level_held (by decide +kernel), ⟨by decide +kernel, rfl⟩, by decide +kernel⟩, _, rfl⟩

/-- The bridge driven with code 1 in order A, in START. -/
theorem witness_BridgeStaysSafe :
    let d := { cooling .start noCompTimers with cmp := { (cooling .start noCompTimers).cmp with bridge := bridgeBecomes idleBridge .a 1 false } }
    bridgeSound d.cmp d.pins d.sns.lines ∧ ∃ t, step { dev := d, pending := [.hallEdge 3 4000] } = .next t := by
  refine ⟨?_, _, rfl⟩
  unfold bridgeSound Bridge.isOff LegState.isOff LegState.sound
  decide +kernel

/-- A pulse in progress in RUN. -/
theorem witness_FuelStaysSafe :
    let d := after .fuelPulseStart (burning .run 3 4 4 noHeaterTimers)
    fuelSound d.htr d.pins d.sns.lines ∧ d.htr.fuel.gate = true ∧ ∃ t, step { dev := d, pending := [.din5RawActive] } = .next t := by
  refine ⟨?_, by decide +kernel, _, rfl⟩
  unfold fuelSound HeaterState.fed
  decide +kernel

theorem witness_TablesKeepTheirShape :
    shapesSound matching ∧ lightsSound matching ∧ ∃ t, step { dev := matching, pending := [.sceneRecall 1 [1]] } = .next t :=
  ⟨⟨by decide +kernel, by decide +kernel⟩, cold_lights, _, rfl⟩

/-! ### Bodies that are refused, each at the boundary of a range -/

/-- A body of `n` zeros but for the bytes given with their offsets. -/
def bodyOf (n : Nat) (bytes : List (Nat × Byte)) : List Byte := bytes.foldl (fun b p => b.set p.1 p.2) (List.replicate n 0)

/-- HEATER_CONFIG without a part; each part a byte short; the first unknown part. -/
theorem witness_RefusalsChangeNothingAndRepliesAreRuns_heaterConfig :
    noneInHand cold ∧ Instr.heaterConfigLimits ∈ heaterConfigs ∧
    (∀ p ∈ partLengths, bodyOf (p.2 - 1) [(0, BitVec.ofNat 8 p.1)] ≠ [] ∧
      num1 (bodyOf (p.2 - 1) [(0, BitVec.ofNat 8 p.1)]) 0 = p.1 ∧ (bodyOf (p.2 - 1) [(0, BitVec.ofNat 8 p.1)]).length ≠ p.2) ∧
    3 ≤ num1 [3] 0 :=
  ⟨cold_free, List.mem_cons_of_mem _ (List.mem_cons_of_mem _ (List.mem_singleton.mpr rfl)), by decide +kernel, by decide⟩

/-- Bits 0 and 15 of the mask; idle times 999 and 60,001. A kept CHARGE_STATE and one that is removed. -/
theorem witness_IdleExpiryAndLinkConfigAct_refused :
    noneInHand cold ∧ (0x00#8 ++ 0x01#8 : BitVec 16).getLsbD 0 = true ∧ (0x80#8 ++ 0x00#8 : BitVec 16).getLsbD 15 = true ∧
    ¬liesIn 1000 60000 ((0xE7 : Byte).toNat + 256 * (0x03 : Byte).toNat) ∧
    ¬liesIn 1000 60000 ((0x61 : Byte).toNat + 256 * (0xEA : Byte).toNat) ∧
    (0x00#8 ++ 0x00#8 : BitVec 16).getLsbD NoticeKind.chargeState.number = false ∧
    (0x7F#8 ++ 0xFE#8 : BitVec 16).getLsbD NoticeKind.chargeState.number = true := by
  refine ⟨cold_free, ?_⟩; unfold liesIn; decide +kernel

/-- BATV and code 6; eight points in order and a ninth equal to the eighth; T_EXCH with the heater in GLOW. -/
theorem witness_ClockAndTablesAreSet_refused :
    let points := fun body : List Byte => (List.range 9).map fun k => (num2 body (1 + 4 * k), int2 body (3 + 4 * k))
    (∀ n ∈ [0, 1, 6], ∀ c ∈ [AnalogChannel.tCab, .tExch, .tFridge, .tBatt], c.code ≠ num1 (bodyOf 37 [(0, BitVec.ofNat 8 n)]) 0) ∧
    ((bodyOf 37 [(0, 2)]).length = 37 ∧ AnalogChannel.tCab.code = num1 (bodyOf 37 [(0, 2)]) 0 ∧ ¬tableBusy cold .tCab ∧
      ¬loadable .tCab (points (bodyOf 37 ((0, 2) :: (List.range 9).map fun k => (1 + 4 * k, BitVec.ofNat 8 (min k 7)))))) ∧
    tableBusy (heating .glow noHeaterTimers) .tExch ∧ loadable .tExch defaultExchangerTable := by
  unfold tableBusy loadable; decide +kernel

/-- A bit rate of 251; an identifier and an own mask beyond 11 bits, limits 49 and 10,001; a field past the eighth byte. -/
theorem witness_BusRequestsSetListener_refused :
    badBusConfig (bodyOf 8 [(1, 251)]) ∧ badBusConfig (bodyOf 8 [(1, 250), (7, 0x20)]) ∧ ¬badBusConfig (bodyOf 8 [(1, 250), (7, 0x1F)]) ∧
    badSlot (bodyOf 13 [(4, 8), (11, 50)]) ∧ badSlot (bodyOf 13 [(0, 10), (8, 8), (11, 50)]) ∧ badSlot (bodyOf 13 [(11, 49)]) ∧
    badSlot (bodyOf 13 [(11, 0x11), (12, 0x27)]) ∧ ¬badSlot (bodyOf 13 [(0, 9), (8, 8), (11, 0x10), (12, 0x27)]) ∧
    badBinding (bodyOf 22 [(1, 1), (3, 49), (4, 16), (6, 1), (8, 1), (18, 1)]) ∧
    ¬badBinding (bodyOf 22 [(1, 1), (3, 48), (4, 16), (6, 1), (8, 1), (18, 1)]) := by
  refine ⟨?_, ?_, ?_, ?_, ?_, ?_, ?_, ?_, ?_, ?_⟩ <;>
    (dsimp only [badBusConfig, badSlot, badBinding, bindable, liesIn]; decide +kernel)

/-- 1,001 ‰; descriptions of all zeros, and of a V_warn equal to V_cut; a count that a changed capacity ends. -/
theorem witness_ChargeRequestsSetCount_refused :
    (∀ b ∈ [({ system := 12, capacity := 10000, reserve := 300, resistance := 0, vWarn := 9001, vCut := 9000, vFull := 16000, tail := 0 }
        : Battery)], describable b ∧ ¬describable { b with vWarn := 9000 } ∧ ¬describable { b with system := 13 }) ∧
    (counting 168750 (-1000) (-1540)).chg.known = true ∧ (counting 168750 (-1000) (-1540)).chg.battery.capacity ≠ 10000 ∧
    1000 < num2 [0xE9, 0x03] 0 ∧ (bodyOf 16 []).length = 16 ∧ ¬describable (batteryIn (bodyOf 16 [])) := by
  refine ⟨?_, by decide +kernel, by decide +kernel, by decide, by decide, fun h => absurd h.1 (by decide)⟩
  intro b hb
  cases List.mem_singleton.mp hb
  refine ⟨?_, fun h => absurd h.2.2.2.2.2.2.1 (by decide), fun h => absurd h.1 (by decide)⟩
  unfold describable liesIn; decide +kernel

/-- Ranks 1 to 4 with lists of zeros and horizons 3,600 and 57,600; horizon 3,599; a rank that stands twice; the switch code 2. -/
theorem witness_BudgetRequestsAreTaken_refused :
    let lists := fun body : List Byte => [words body 4 1, words body 6 5, words body 16 4, words body 24 2, words body 28 1]
    let ranked := bodyOf 32 [(0, 4), (1, 3), (2, 2), (3, 1), (30, 0x0F), (31, 0x0E)]
    budgetable [4, 3, 2, 1] [[20000], [0, 0, 0, 0, 20000], [0, 1, 2, 3], [0, 20000], [0]] 57600 ∧
    (ranked.length = 32 ∧ (List.range 4).map (num1 ranked) = [4, 3, 2, 1] ∧ ¬budgetable [4, 3, 2, 1] (lists ranked) (num2 ranked 30)) ∧
    (∀ h, ¬budgetable [1, 1, 2, 3] [] h) ∧ budgetable [1, 2, 3, 4] (lists ranked) 3600 ∧ 1 < (2 : Byte).toNat := by
  refine ⟨?_, ⟨by decide +kernel, by decide +kernel, ?_⟩, fun h hb => absurd hb.1 (by decide), ?_, by decide⟩ <;>
    (unfold budgetable liesIn; decide +kernel)

/-- Setpoints 49 and 301; a run-until with the clock UNSET, and one at the present wall time. -/
theorem witness_HeaterStartAndStopAreTaken_refused :
    int2 [49, 0, 0, 0, 0, 0] 0 = 49 ∧ int2 [0x2D, 0x01, 0, 0, 0, 0] 0 = 301 ∧ int2 [50, 0, 1, 0, 0, 0] 0 = 50 ∧
    (num4 [50, 0, 1, 0, 0, 0] 2 ≠ 0 ∧ cold.sns.clockSet = false ∧ noneInHand cold) ∧
    (clocked.sns.clockSet = true ∧
      num4 [50, 0, 0xE8, 0x03, 0, 0] 2 ≤ (clocked.sns.uptime + clocked.sns.clockOffset) % 4294967296) := by
  refine ⟨by decide, by decide, by decide, ⟨by decide, rfl, cold_free⟩, by decide +kernel⟩

/-- Part 2 in RAMP and RUN, with limits that leave the level and limits that lower it; tables, settings and limits of zeros. -/
theorem witness_HeaterConfigReplacesSettings_acts :
    (∀ st ∈ [HeaterState.ramp, .run], (burning st 3 4 4 noHeaterTimers).htr.state = st ∧
      budgetOk (burning st 3 4 4 noHeaterTimers) ∧ levelOk (burning st 3 4 4 noHeaterTimers) ∧ noneInHand (burning st 3 4 4 noHeaterTimers)) ∧
    (tableFits defaultHeatTable ∧ sequenceFits defaultSeq ∧ limitsFit { hostMax := 6, quietMax := 1, fallback := 1 } ∧
      ¬limitsFit { hostMax := 7, quietMax := 1, fallback := 1 } ∧ limitsFit { hostMax := 2, quietMax := 6, fallback := 6 }) ∧
    (¬tableFits (tableIn (bodyOf 49 [])) ∧ num1 (bodyOf 49 []) 0 = 0 ∧ ¬sequenceFits (sequenceIn (bodyOf 31 [(0, 1)])) ∧
      num1 (bodyOf 31 [(0, 1)]) 0 = 1 ∧ ¬limitsFit (limitsIn [2, 1, 1, 0]) ∧ num1 [2, 1, 1, 0] 0 = 2) := by
  refine ⟨?_, ⟨?_, ?_, ?_, ?_, ?_⟩, fun h => absurd (h.2.1 _ (List.mem_cons_self ..)).1.1 (by decide), by decide,
    fun h => absurd h.1.1 (by decide), by decide, ?_, by decide⟩ <;>
    first | (unfold noneInHand; decide +kernel) | (simp only [tableFits, sequenceFits, limitsFit, liesIn]; decide +kernel)

/-- The order's code 2, and a setpoint of 10.1 degrees; quiet caps 0 and 5. -/
theorem witness_FridgeRequestsSetCompressor_refused :
    let fits := bodyOf 10 [(2, 10), (4, 0xF4), (5, 1), (6, 2), (7, 0xD0), (8, 7), (9, 1)]
    fridgeFits (fridgeIn fits) ∧ fits.length = 10 ∧ 1 < num1 (fits.set 3 2) 3 ∧ ¬fridgeFits (fridgeIn (fits.set 0 101)) ∧
    ¬fridgeFits (fridgeIn (fits.set 9 0)) ∧ ¬fridgeFits (fridgeIn (fits.set 9 5)) := by
  refine ⟨?_, by decide, by decide, ?_, ?_, ?_⟩ <;> (dsimp only [fridgeFits, liesIn]; decide +kernel)

/-- W under a quiet cap of 1 and of 4: in TIMED mode, before the demand's first cut-in with L at 3, and after it with W at 2. -/
theorem witness_FridgeRequestsSetCompressor_quiet :
    let d := fun (mode : CompMode) (cut : Bool) => { cooling .run noCompTimers with
      npl := { cold.npl with quiet := true }
      cmp := { (cooling .run noCompTimers).cmp with mode := mode, hadCutIn := cut, learned := 3, wished := 2 } }
    (∀ m b, noneInHand (d m b) ∧ budgetSound (d m b) ∧ (d m b).npl.quiet = true) ∧
    (wishUnderCap (d .timed false) 4 = 2 ∧ wishUnderCap (d .thermostat false) 4 = 3 ∧ wishUnderCap (d .thermostat true) 4 = 2) ∧
    ∀ m ∈ [CompMode.timed, .thermostat], ∀ b ∈ [true, false], wishUnderCap (d m b) 1 = 1 :=
  ⟨fun _ _ => ⟨⟨rfl, rfl⟩, cold_budget, rfl⟩, by decide +kernel, by decide +kernel⟩

/-- R177: a wake that has been reached between two seconds of uptime is not due until the next one, and is then. -/
theorem test_wake_waits_for_the_second :
    let d := { cold with npl := { cold.npl with state := .armed, wake := some 0 } }
    (true, Instr.wake) ∉ dueList d ∧ (true, Instr.wake) ∈ dueList (uptimeSecond d) := by
  decide +kernel

/-- Channel 8 and group 2, levels above 1,000, fades above 10,000, scene 6; a courtesy time of 9 s and the group code 3. -/
theorem witness_LightRequestsAreTaken_refused :
    (7 < num1 [8, 0, 0, 0, 0] 0 ∧ ¬liesIn 0 1000 (num2 [0, 0xE9, 3, 0, 0] 1) ∧ ¬liesIn 0 10000 (num2 [0, 0, 0, 0x11, 0x27] 3)) ∧
    (1 < num1 [2, 0, 0, 0, 0] 0 ∧ 5 < num1 [6] 0 ∧ 5 < num1 (bodyOf 17 [(0, 6)]) 0) ∧
    ((∃ x ∈ words (bodyOf 17 [(0, 1), (13, 0xE9), (14, 3)]) 1 7, 1000 < x ∧ x ≠ 65535) ∧
      10000 < num2 (bodyOf 17 [(0, 1), (15, 0x11), (16, 0x27)]) 15) ∧
    (¬liesIn 10 3600 (num2 (bodyOf 21 [(15, 9)]) 15) ∧ ∃ n ∈ List.range 7, 2 < num1 (bodyOf 21 [(6, 3)]) n) := by
  unfold liesIn; decide +kernel

/-- A first part as long as the full break; declaration 4 and warning 7. -/
theorem witness_RestRequestsAreTaken_refused :
    rulesFit State.reset.dev.rtm.rules ∧ ¬rulesFit { State.reset.dev.rtm.rules with firstPart := State.reset.dev.rtm.rules.fullBreak } ∧
    ((bodyOf 24 []).length = 24 ∧ ¬rulesFit (rulesIn (bodyOf 24 []))) ∧ 3 < num1 [4] 0 ∧ 6 < num1 [7, 0, 0] 0 := by
  refine ⟨?_, fun h => absurd h.2.2.2.2.2.2.2.2.2.2.1 (by decide +kernel), ⟨by decide, fun h => absurd h.1.1 (by decide)⟩,
    by decide, by decide⟩
  unfold rulesFit liesIn; decide +kernel

/-- A setpoint of 49; a wall time with the clock UNSET; wall times 599 s and 86,401 s ahead; the quiet code 2. -/
theorem witness_PlanRequestsSetPlan_refused :
    let good := fun body : List Byte => num1 body 0 ≤ 1 ∧ num1 body 7 ≤ 1 ∧ (num2 body 5 = 0 ∨ liesIn 50 300 (num2 body 5))
    let now := (clocked.sns.uptime + clocked.sns.clockOffset) % 4294967296
    let early := bodyOf 8 [(1, 0x3F), (2, 6)]
    let late := bodyOf 8 [(1, 0x69), (2, 0x55), (3, 1)]
    ¬good (bodyOf 8 [(5, 49)]) ∧ (good early ∧ num1 early 0 = 0 ∧ cold.sns.clockSet = false) ∧ clocked.sns.clockSet = true ∧
    (¬liesIn (now + 600) (now + 86400) (num4 early 1) ∧ good late ∧ ¬liesIn (now + 600) (now + 86400) (num4 late 1)) ∧
    num4 early 1 = now + 599 ∧ num4 late 1 = now + 86401 ∧ 1 < (2 : Byte).toNat := by
  unfold liesIn; decide +kernel

end Sys2Proof.Tests
end

section
/-! PROOFS. What holds the output gates off (R13, R78, R87, R118, R122): the bridge and the fuel train stay safe through every
operation on the part. -/

namespace Sys2Proof.Machine

/-! ## The bridge and the fuel train of a part -/

/-- The part's bridge is safe. -/
def bridgeSafe (d : Device) : Prop := bridgeSound d.cmp d.pins d.sns.lines

/-- The part's fuel train is safe. -/
def fuelSafe (d : Device) : Prop := fuelSound d.htr d.pins d.sns.lines

/-- Going from `d` to `t` leaves a safe bridge safe, and a safe fuel train. -/
structure KeepsSafe (d t : Device) : Prop where
  bridge : bridgeSafe d → bridgeSafe t
  fuel : fuelSafe d → fuelSafe t

theorem KeepsSafe.refl (d : Device) : KeepsSafe d d := ⟨id, id⟩

theorem KeepsSafe.trans {d t u : Device} (h : KeepsSafe d t) (k : KeepsSafe t u) : KeepsSafe d u :=
  ⟨k.bridge ∘ h.bridge, k.fuel ∘ h.fuel⟩

/-- `trans` with the last operation first. -/
theorem KeepsSafe.after {d t u : Device} (k : KeepsSafe t u) (h : KeepsSafe d t) : KeepsSafe d u := h.trans k

/-- A bridge is as safe as another with the same drive, under the same raw level of DIN6. -/
theorem bridgeSafe_of_same {d t : Device} (hs : t.cmp.state = d.cmp.state) (hb : t.cmp.bridge = d.cmp.bridge)
    (hl : t.cmp.latch = d.cmp.latch) (hr : rawOf t 6 = rawOf d 6) (h : bridgeSafe d) : bridgeSafe t := by
  change rawLevel t.pins t.sns.lines 6 = rawLevel d.pins d.sns.lines 6 at hr
  simpa only [bridgeSafe, bridgeSound, hs, hb, hl, hr] using h

/-- A fuel train is as safe as another with the same outputs, under the same raw level of DIN5. -/
theorem fuelSafe_of_same {d t : Device} (hs : t.htr.state = d.htr.state) (hf : t.htr.fuel.running = d.htr.fuel.running)
    (hg : t.htr.fuel.gate = d.htr.fuel.gate) (ho : t.htr.glowSince = d.htr.glowSince) (hl : t.htr.latch = d.htr.latch)
    (hr : rawOf t 5 = rawOf d 5) (h : fuelSafe d) : fuelSafe t := by
  change rawLevel t.pins t.sns.lines 5 = rawLevel d.pins d.sns.lines 5 at hr
  simpa only [fuelSafe, fuelSound, hs, hf, hg, ho, hl, hr] using h

/-- The raw levels depend on the pins and the lines alone. -/
theorem rawOf_congr {d t : Device} (hp : t.pins = d.pins) (hl : t.sns.lines = d.sns.lines) (n : Nat) : rawOf t n = rawOf d n := by
  simp only [rawOf, lineOf, hp, hl]

/-- What touches neither the drives, the pins nor the lines keeps both safe. -/
theorem KeepsSafe.of_frame {d t : Device}
    (h : t.cmp = d.cmp ∧ t.htr = d.htr ∧ t.pins = d.pins ∧ t.sns.lines = d.sns.lines) : KeepsSafe d t := by
  obtain ⟨hc, hh, hp, hl⟩ := h
  constructor <;> intro h
  · simpa only [bridgeSafe, hc, hp, hl] using h
  · simpa only [fuelSafe, hh, hp, hl] using h

/-- What touches the compressor alone keeps both safe, if it keeps the bridge safe. -/
theorem KeepsSafe.of_bridge {d t : Device} (hb : bridgeSafe d → bridgeSafe t)
    (h : t.htr = d.htr ∧ t.pins = d.pins ∧ t.sns.lines = d.sns.lines) : KeepsSafe d t := by
  obtain ⟨hh, hp, hl⟩ := h
  exact ⟨hb, fun hf => by simpa only [fuelSafe, hh, hp, hl] using hf⟩

/-- What touches the heater alone keeps both safe, if it keeps the fuel train safe. -/
theorem KeepsSafe.of_fuel {d t : Device} (hf : fuelSafe d → fuelSafe t)
    (h : t.cmp = d.cmp ∧ t.pins = d.pins ∧ t.sns.lines = d.sns.lines) : KeepsSafe d t := by
  obtain ⟨hc, hp, hl⟩ := h
  exact ⟨fun hb => by simpa only [bridgeSafe, hc, hp, hl] using hb, hf⟩

/-- What leaves the compressor's state, bridge and latch keeps both safe. -/
theorem KeepsSafe.of_drive {d t : Device}
    (hs : t.cmp.state = d.cmp.state ∧ t.cmp.bridge = d.cmp.bridge ∧ t.cmp.latch = d.cmp.latch)
    (h : t.htr = d.htr ∧ t.pins = d.pins ∧ t.sns.lines = d.sns.lines) : KeepsSafe d t :=
  .of_bridge (bridgeSafe_of_same hs.1 hs.2.1 hs.2.2 (rawOf_congr h.2.1 h.2.2 6)) h

/-- What leaves the heater's state, latch and outputs keeps both safe. -/
theorem KeepsSafe.of_burn {d t : Device}
    (hs : t.htr.state = d.htr.state ∧ t.htr.fuel.running = d.htr.fuel.running ∧ t.htr.fuel.gate = d.htr.fuel.gate ∧
      t.htr.glowSince = d.htr.glowSince ∧ t.htr.latch = d.htr.latch)
    (h : t.cmp = d.cmp ∧ t.pins = d.pins ∧ t.sns.lines = d.sns.lines) : KeepsSafe d t := by
  obtain ⟨hst, hf, hg, ho, hl⟩ := hs
  exact .of_fuel (fuelSafe_of_same hst hf hg ho hl (rawOf_congr h.2.1 h.2.2 5)) h

/-! ## The bridge -/

/-- R118: whatever a leg was, it is sound once it is given a role. -/
theorem LegState.driven_sound (g : LegState) (role : LegRole) (held : Bool) : (g.driven role held).sound := by
  refine ⟨?_, fun hw => ?_, fun hw => ?_⟩
  · cases role <;> simp [LegState.driven]
  · dsimp only [LegState.driven] at hw ⊢
    rw [hw, Bool.not_true, Bool.and_false]
  · dsimp only [LegState.driven] at hw ⊢
    rw [hw, Bool.not_true, Bool.and_false]

/-- R118: a leg is sound once its dead time is over. -/
theorem LegState.released_sound (g : LegState) : g.released.sound := by
  cases h : g.role <;> simp [LegState.released, LegState.sound, h]

/-- R118: a held bridge that is given a pattern has its six gates off. -/
theorem Bridge.driven_isOff (b : Bridge) (p : Pattern) : (b.driven p true).isOff := by
  simp [Bridge.driven, Bridge.isOff, LegState.isOff, LegState.driven]

/-- The legs of a parked bridge are sound. -/
theorem Bridge.parked_sound (b : Bridge) (held : Bool) :
    (b.parked held).u.sound ∧ (b.parked held).v.sound ∧ (b.parked held).w.sound := by
  cases held
  · simp [Bridge.parked, idleBridge, idleLeg, LegState.sound]
  · exact ⟨LegState.driven_sound .., LegState.driven_sound .., LegState.driven_sound ..⟩

/-- A bridge whose gates are all off, with sound legs, is safe whatever holds it. -/
theorem bridgeSafe_of_off {d : Device} (hs : d.cmp.bridge.u.sound ∧ d.cmp.bridge.v.sound ∧ d.cmp.bridge.w.sound)
    (ho : d.cmp.bridge.isOff) : bridgeSafe d :=
  ⟨hs.1, hs.2.1, hs.2.2, fun _ => ho, fun _ => ho, fun _ => ho⟩

/-- R13, R122: the bridge is safe once DIN6 has turned it off. -/
theorem overcurrentRaw_safe (d : Device) : bridgeSafe (overcurrentRaw d) :=
  bridgeSafe_of_off ⟨LegState.driven_sound .., LegState.driven_sound .., LegState.driven_sound ..⟩ (Bridge.heldOff_isOff _)

/-- R118: a pattern applied in START and RUN leaves the bridge safe. -/
theorem applyPattern_keeps (d : Device) (hd : d.cmp.state.drives = true) : KeepsSafe d (applyPattern d) := by
  refine .of_bridge (fun h => ?_) (by simp)
  unfold applyPattern
  split
  · exact h
  · next p _ =>
    have off : bridgeHeld d = true → (d.cmp.bridge.driven p (bridgeHeld d)).isOff := fun hb => hb ▸ Bridge.driven_isOff ..
    refine ⟨LegState.driven_sound .., LegState.driven_sound .., LegState.driven_sound .., ?_, ?_, ?_⟩
    · simp [hd]
    · intro hl
      exact off (by simpa [bridgeHeld] using .inl hl)
    · intro hr
      exact off (by simpa [bridgeHeld, rawOf, lineOf] using .inr hr)

/-- R118: the end of a dead time leaves the bridge safe. -/
theorem deadTimeOver_keeps (l : Leg) (d : Device) : KeepsSafe d (deadTimeOver l d) := by
  refine .of_bridge (fun h => ?_) (by simp)
  unfold deadTimeOver
  split
  · exact h
  · next hf =>
    obtain ⟨⟨hl, hr⟩, hd⟩ : (d.cmp.latch = false ∧ rawOf d 6 = false) ∧ d.cmp.state.drives = true := by
      simpa [bridgeHeld] using hf
    change rawLevel d.pins d.sns.lines 6 = false at hr
    obtain ⟨hu, hv, hw, -⟩ := h
    have leg : ∀ g : LegState, g.sound → (if g.waitHigh = true ∨ g.waitLow = true then g.released else g).sound := by
      intro g hg
      split
      · exact LegState.released_sound g
      · exact hg
    cases l <;> refine ⟨?_, ?_, ?_, ?_, ?_, ?_⟩ <;> simp [hl, hr, hd, hu, hv, hw, leg]


/-! ## The compressor's operations -/

theorem post_keeps (k : NoticeKind) (d : Device) : KeepsSafe d (post k d) := .of_frame (by simp)

theorem postIndication_keeps (g : Source) (n : Nat) (new : Bool) (d : Device) : KeepsSafe d (postIndication g n new d) :=
  .of_frame (by simp)

theorem putCmp_keeps {c : Compressor} {d : Device}
    (h : c.state = d.cmp.state ∧ c.bridge = d.cmp.bridge ∧ c.latch = d.cmp.latch) : KeepsSafe d (putCmp c d) :=
  .of_drive h (by simp)

theorem releaseAllowance_keeps (l : Load) (d : Device) : KeepsSafe d (releaseAllowance l d) := .of_frame (by simp)

theorem putCmpTimers_keeps (t : CompTimers) (d : Device) : KeepsSafe d (putCmpTimers t d) :=
  .of_drive ⟨rfl, rfl, rfl⟩ (by simp)

/-- R108: a new wished step leaves the drive. -/
theorem setCompWish_keeps (w : Nat) (d : Device) : KeepsSafe d (setCompWish w d) := by
  refine .of_drive ?_ (by simp)
  unfold setCompWish
  split <;> simp [writeComp, commandStep]

theorem compCaps_keeps (d : Device) : KeepsSafe d (compCaps d) := setCompWish_keeps _ d

/-- What entering a state makes of the drive. -/
theorem enterComp_drive (st : CompState) (d : Device) :
    (enterComp st d).cmp.state = st ∧ (enterComp st d).cmp.latch = d.cmp.latch ∧
    (enterComp st d).cmp.bridge = if st.drives then d.cmp.bridge else d.cmp.bridge.parked (bridgeHeld d) := by
  unfold enterComp writeComp commandStep
  dsimp only
  split_ifs <;> simp_all

/-- R108: whatever state is entered, a state that does not drive turns the gates off. -/
theorem enterComp_keeps (st : CompState) (d : Device) : KeepsSafe d (enterComp st d) := by
  refine .of_bridge (fun h => ?_) (by simp)
  obtain ⟨hs, hl, hb⟩ := enterComp_drive st d
  cases hd : st.drives
  · rw [hd, if_neg Bool.false_ne_true] at hb
    refine bridgeSafe_of_off ?_ ?_ <;> rw [hb]
    · exact Bridge.parked_sound ..
    · exact Bridge.parked_isOff ..
  · rw [hd, if_pos rfl] at hb
    obtain ⟨hu, hv, hw, -, hlo, hro⟩ := h
    unfold bridgeSafe bridgeSound
    simp only [hs, hl, hb, hd, enterComp_frame]
    exact ⟨hu, hv, hw, nofun, hlo, hro⟩

theorem toStopping_keeps (d : Device) : KeepsSafe d (toStopping d) :=
  (enterComp_keeps .stopping d).trans (putCmpTimers_keeps ..)

theorem toDisabled_keeps (d : Device) : KeepsSafe d (toDisabled d) :=
  (enterComp_keeps .disabled _).after (putCmp_keeps ⟨rfl, rfl, rfl⟩)

/-- R123: a failure leaves START and RUN, with the gates off. -/
theorem compFails_keeps (k : FailKind) (d : Device) : KeepsSafe d (compFails k d) := by
  unfold compFails
  split
  · exact .refl d
  · have counted := releaseAllowance_keeps .compressor d
    extract_lets d1 failures src d2
    have posted : KeepsSafe d d2 := (post_keeps ..).after (counted.trans (putCmp_keeps ⟨rfl, rfl, rfl⟩))
    split
    · exact posted.trans ((enterComp_keeps .stallBackoff d2).trans (putCmpTimers_keeps ..))
    · exact posted.trans ((enterComp_keeps .blocked d2).trans ((putCmpTimers_keeps ..).trans (postIndication_keeps ..)))

/-- R112: the latch taken afresh from DIN6's raw level leaves the bridge safe. -/
theorem bridgeSafe_of_relatched {d t : Device} (hs : t.cmp.state = d.cmp.state) (hb : t.cmp.bridge = d.cmp.bridge)
    (hl : t.cmp.latch = rawOf d 6) (hr : rawOf t 6 = rawOf d 6) (h : bridgeSafe d) : bridgeSafe t := by
  obtain ⟨hu, hv, hw, hd, -, ho⟩ := h
  change rawLevel t.pins t.sns.lines 6 = rawLevel d.pins d.sns.lines 6 at hr
  change t.cmp.latch = rawLevel d.pins d.sns.lines 6 at hl
  unfold bridgeSafe bridgeSound
  simp only [hs, hb, hl, hr]
  exact ⟨hu, hv, hw, hd, ho, ho⟩

/-- R112: the start that the allowance brings. -/
theorem toStart_keeps (d : Device) : KeepsSafe d (toStart d) := by
  unfold toStart
  extract_lets d1 ms blocked _ _ c d2
  have entered : KeepsSafe d d1 := enterComp_keeps .start d
  have drives : d2.cmp.state.drives = true := by
    rw [show d2.cmp.state = .start from (enterComp_drive .start d).1]; rfl
  have readied : KeepsSafe d d2 :=
    entered.trans (.of_bridge (bridgeSafe_of_relatched rfl rfl rfl rfl) ⟨rfl, rfl, rfl⟩)
  split
  · exact readied.trans (compFails_keeps ..)
  · split
    · exact readied.trans (applyPattern_keeps d2 drives)
    · exact readied.trans (compFails_keeps ..)

theorem backToHold_keeps (d : Device) : KeepsSafe d (backToHold d) :=
  (putCmpTimers_keeps _ d).trans (enterComp_keeps .offHold _)

/-- R111: the answers to the compressor's request. -/
theorem toCompWait_keeps (d : Device) : KeepsSafe d (toCompWait d) := by
  have asked : KeepsSafe d (requestAllowance .compressor (enterComp .waitInrush d)).1 :=
    (enterComp_keeps .waitInrush d).trans (.of_frame (by simp))
  unfold toCompWait
  split
  · next d1 h => rwa [h] at asked
  · next d1 h => rw [h] at asked; exact asked.trans (toStart_keeps d1)
  · next d1 h => rw [h] at asked; exact asked.trans (backToHold_keeps d1)

theorem holdTest_keeps (d : Device) : KeepsSafe d (holdTest d) := by
  unfold holdTest
  split_ifs
  · exact toCompWait_keeps d
  · exact .refl d
  · exact enterComp_keeps .idle d
  · exact .refl d

theorem toOffHold_keeps (d : Device) : KeepsSafe d (toOffHold d) := (enterComp_keeps .offHold d).trans (holdTest_keeps _)

theorem cutOut_keeps (d : Device) : KeepsSafe d (cutOut d) := by
  have learned : KeepsSafe d (learnCutOut d) := by
    unfold learnCutOut
    dsimp only
    split_ifs
    · exact putCmp_keeps ⟨rfl, rfl, rfl⟩
    · exact .refl d
  exact learned.trans (toStopping_keeps _)

/-- R112: the speed proved. -/
theorem toCompRun_keeps (d : Device) : KeepsSafe d (toCompRun d) := by
  have readied := releaseAllowance_keeps .compressor d
  unfold toCompRun
  extract_lets ms thermostat d1 w _ c d2 _ d3
  have entered : KeepsSafe d d2 := (enterComp_keeps .run _).after (readied.trans (putCmp_keeps ⟨rfl, rfl, rfl⟩))
  exact entered.trans ((putCmpTimers_keeps ..).trans (.of_frame ⟨rfl, rfl, rfl, rfl⟩))

theorem withdrawAllowance_keeps (l : Load) (d : Device) : KeepsSafe d (withdrawAllowance l d) := .of_frame (by simp)

/-- R106: demand that comes. -/
theorem demandComes_keeps (d : Device) : KeepsSafe d (demandComes d) := by
  unfold demandComes
  extract_lets running _ d1 _ d2 w
  have marked : KeepsSafe d d2 := .of_drive ⟨rfl, rfl, rfl⟩ ⟨rfl, rfl, rfl⟩
  split
  · exact (toOffHold_keeps _).after (marked.trans (putCmp_keeps ⟨rfl, rfl, rfl⟩))
  · exact (holdTest_keeps _).after (marked.trans (setCompWish_keeps ..))
  · exact marked.trans (setCompWish_keeps ..)

/-- R106: demand that goes. -/
theorem demandGoes_keeps (d : Device) : KeepsSafe d (demandGoes d) := by
  unfold demandGoes
  extract_lets _ d1
  have gone : KeepsSafe d d1 := putCmp_keeps ⟨rfl, rfl, rfl⟩
  split
  · exact (holdTest_keeps _).after (gone.trans (setCompWish_keeps ..))
  · exact (enterComp_keeps .idle _).after ((gone.trans (withdrawAllowance_keeps ..)).trans (putCmp_keeps ⟨rfl, rfl, rfl⟩))
  · exact gone
  · split
    · exact gone.trans (cutOut_keeps _)
    · exact gone.trans (putCmp_keeps ⟨rfl, rfl, rfl⟩)
  all_goals exact gone.trans (setCompWish_keeps ..)

theorem setDemand_keeps (v : Bool) (d : Device) : KeepsSafe d (setDemand v d) := by
  unfold setDemand
  split_ifs
  · exact .refl d
  · exact demandComes_keeps d
  · exact demandGoes_keeps d

theorem thermostat_keeps (d : Device) : KeepsSafe d (thermostat d) := by
  unfold thermostat
  dsimp only
  split_ifs
  · exact setDemand_keeps true d
  · exact setDemand_keeps false d
  · exact .refl d

/-- R107: TIMED mode entered and left. -/
theorem enterTimed_keeps (d : Device) : KeepsSafe d (enterTimed d) := by
  unfold enterTimed
  extract_lets changed _ _ d1 d2
  have timed : KeepsSafe d d1 := putCmp_keeps ⟨rfl, rfl, rfl⟩
  have posted : KeepsSafe d d2 := by
    unfold d2
    split
    · exact timed.trans (post_keeps ..)
    · exact timed
  split
  · exact posted.trans (setCompWish_keeps ..)
  · exact posted.trans (setDemand_keeps ..)

theorem leaveTimed_keeps (d : Device) : KeepsSafe d (leaveTimed d) := by
  unfold leaveTimed
  extract_lets _ _ d1
  have left : KeepsSafe d d1 := (post_keeps ..).after (putCmp_keeps ⟨rfl, rfl, rfl⟩)
  split
  · exact left.trans (setCompWish_keeps ..)
  · exact left

/-- R106, R107: a published sweep reaches the compressor. -/
theorem compSweep_keeps (d : Device) : KeepsSafe d (compSweep d) := by
  unfold compSweep
  split_ifs
  · exact .refl d
  · exact (leaveTimed_keeps d).trans (thermostat_keeps _)
  · exact thermostat_keeps d
  · exact .refl d
  · exact enterTimed_keeps d

theorem phaseExpiry_keeps (d : Device) : KeepsSafe d (phaseExpiry d) := by
  unfold phaseExpiry
  dsimp only
  split <;> exact (setDemand_keeps ..).after (putCmp_keeps ⟨rfl, rfl, rfl⟩)

/-- R55: a grant reaches the compressor. -/
theorem compGrant_keeps (d : Device) : KeepsSafe d (compGrant d) := by
  unfold compGrant
  extract_lets d1 none'
  have commanded : KeepsSafe d d1 := putCmp_keeps ⟨rfl, rfl, rfl⟩
  split
  · exact commanded.trans (holdTest_keeps _)
  · split
    · exact commanded.trans (backToHold_keeps _)
    · exact commanded
  · split
    · exact commanded.trans ((toStopping_keeps _).after (releaseAllowance_keeps ..))
    · exact commanded
  · split_ifs
    · exact commanded.trans (cutOut_keeps _)
    · exact commanded.trans (toStopping_keeps _)
    · exact commanded
  all_goals exact commanded

/-- R65 to R67: the allowance's answers reach the compressor. -/
theorem compGranted_keeps (d : Device) : KeepsSafe d (compGranted d) := by
  unfold compGranted
  split
  · exact toStart_keeps d
  · exact .refl d

theorem compDenied_keeps (d : Device) : KeepsSafe d (compDenied d) := by
  unfold compDenied
  split
  · exact backToHold_keeps d
  · exact .refl d

theorem compRevoked_keeps (d : Device) : KeepsSafe d (compRevoked d) := by
  unfold compRevoked
  split_ifs
  · exact compFails_keeps .startFail d
  · exact toStopping_keeps d
  · exact .refl d

theorem stageDuty_keeps (duty : Nat) (d : Device) : KeepsSafe d (stageDuty duty d) := putCmp_keeps ⟨rfl, rfl, rfl⟩

theorem regulate_keeps (mean : Option Nat) (d : Device) : KeepsSafe d (regulate mean d) := by
  unfold regulate
  dsimp only
  split_ifs
  · exact stageDuty_keeps ..
  · exact stageDuty_keeps ..
  · exact stageDuty_keeps ..
  · exact .refl _

/-- R119, R120: a completed window. -/
theorem windowDone_keeps (d : Device) : KeepsSafe d (windowDone d) := by
  unfold windowDone
  extract_lets _ _ d1 mean _ d2
  have shown : KeepsSafe d d1 := putCmp_keeps ⟨rfl, rfl, rfl⟩
  have emptied : KeepsSafe d d2 := shown.trans (.of_frame ⟨rfl, rfl, rfl, rfl⟩)
  split
  · split
    · exact shown.trans (toCompRun_keeps _)
    · exact shown
  · exact (regulate_keeps ..).after (emptied.trans (putCmp_keeps ⟨rfl, rfl, rfl⟩))
  · exact shown

/-- A new Hall code at the pins is none of the raw levels that hold a gate off. -/
theorem putHall_keeps (code : HallCode) (d : Device) : KeepsSafe d { d with pins := { d.pins with hall := code } } :=
  ⟨bridgeSafe_of_same rfl rfl rfl rfl, fuelSafe_of_same rfl rfl rfl rfl rfl rfl⟩

/-- R115: a Hall edge. -/
theorem hallEdge_keeps (code : HallCode) (intervalUs : Nat) (d : Device) : KeepsSafe d (hallEdge code intervalUs d) := by
  unfold hallEdge
  extract_lets _ d1 d2 w _ _ d3
  have seen : KeepsSafe d d1 := putHall_keeps code d
  split_ifs with _ hd
  · have counted : KeepsSafe d d3 := (seen.trans (applyPattern_keeps d1 hd)).trans (putCmp_keeps ⟨rfl, rfl, rfl⟩)
    exact counted.trans (windowDone_keeps _)
  · exact (seen.trans (applyPattern_keeps d1 hd)).trans (putCmp_keeps ⟨rfl, rfl, rfl⟩)
  · exact seen
  · exact .refl d

theorem hallInvalid_keeps (code : HallCode) (d : Device) : KeepsSafe d (hallInvalid code d) := by
  unfold hallInvalid
  split
  · exact .refl d
  · exact (compFails_keeps .hall _).after ((putHall_keeps code d).trans (putCmp_keeps ⟨rfl, rfl, rfl⟩))

/-! ### The timers of the compressor -/

theorem dutyStep_keeps (d : Device) : KeepsSafe d (dutyStep d) := by
  unfold dutyStep
  split
  · exact (stageDuty_keeps ..).after (putCmpTimers_keeps ..)
  · exact .refl d

theorem minRunExpiry_keeps (d : Device) : KeepsSafe d (minRunExpiry d) := by
  unfold minRunExpiry
  dsimp only
  split
  · exact (cutOut_keeps _).after (putCmpTimers_keeps ..)
  · exact putCmpTimers_keeps ..

theorem failureReset_keeps (d : Device) : KeepsSafe d (failureReset d) := by
  unfold failureReset
  dsimp only
  split
  · exact .of_drive ⟨rfl, rfl, rfl⟩ ⟨rfl, rfl, rfl⟩
  · exact putCmpTimers_keeps ..

theorem raiseExpiry_keeps (d : Device) : KeepsSafe d (raiseExpiry d) := by
  unfold raiseExpiry
  split
  · exact (setCompWish_keeps ..).after (putCmp_keeps ⟨rfl, rfl, rfl⟩)
  · exact .refl d

theorem minOffExpiry_keeps (d : Device) : KeepsSafe d (minOffExpiry d) := (holdTest_keeps _).after (putCmpTimers_keeps ..)

theorem afterRest_keeps (d : Device) : KeepsSafe d (afterRest d) := by
  unfold afterRest
  split
  · exact toOffHold_keeps d
  · exact toDisabled_keeps d

theorem coastEnd_keeps (d : Device) : KeepsSafe d (coastEnd d) := by
  unfold coastEnd
  split_ifs
  · exact .refl d
  · exact toDisabled_keeps d
  · exact toOffHold_keeps d
  · exact enterComp_keeps .idle d

theorem backoffExpiry_keeps (d : Device) : KeepsSafe d (backoffExpiry d) := by
  unfold backoffExpiry
  split
  · exact afterRest_keeps d
  · exact .refl d

theorem leaveBlocked_keeps (failures : Nat) (d : Device) : KeepsSafe d (leaveBlocked failures d) := by
  unfold leaveBlocked
  extract_lets _ d1
  have counted : KeepsSafe d d1 := putCmp_keeps ⟨rfl, rfl, rfl⟩
  split
  · exact counted.trans ((afterRest_keeps _).after (postIndication_keeps ..))
  · exact counted

/-! ### The compressor's requests and RESTART -/

theorem fridgeConfigRequest_keeps (b : List Byte) (d : Device) : KeepsSafe d (fridgeConfigRequest b d).dev := by
  unfold fridgeConfigRequest
  extract_lets q _ d1
  have set : KeepsSafe d d1 := putCmp_keeps ⟨rfl, rfl, rfl⟩
  split_ifs
  · exact .refl d
  · exact .refl d
  · exact .refl d
  · exact set.trans (compCaps_keeps _)
  · exact set

theorem enableComp_keeps (d : Device) : KeepsSafe d (enableComp d) := by
  unfold enableComp
  extract_lets _ d1
  have enabled : KeepsSafe d d1 := putCmp_keeps ⟨rfl, rfl, rfl⟩
  split
  · exact enabled.trans (enterComp_keeps .idle _)
  · exact enabled

theorem disableComp_keeps (d : Device) : KeepsSafe d (disableComp d) := by
  unfold disableComp
  extract_lets _ _ d1
  have cleared : KeepsSafe d d1 := putCmp_keeps ⟨rfl, rfl, rfl⟩
  refine cleared.trans ?_
  split
  · exact toDisabled_keeps _
  · exact toDisabled_keeps _
  · exact (toDisabled_keeps _).after (withdrawAllowance_keeps ..)
  · exact (toStopping_keeps _).after (releaseAllowance_keeps ..)
  · exact toStopping_keeps _
  · exact setCompWish_keeps ..
  · exact setCompWish_keeps ..
  · exact setCompWish_keeps ..
  · exact .refl _

theorem restartComp_keeps (d : Device) : KeepsSafe d (restartComp d) := by
  unfold restartComp
  extract_lets _ _ d1 d2
  have cleared : KeepsSafe d d1 := putCmp_keeps ⟨rfl, rfl, rfl⟩
  have posted : KeepsSafe d d2 := by
    unfold d2
    split
    · exact cleared
    · exact cleared.trans (post_keeps ..)
  refine posted.trans ?_
  split
  · exact (toStopping_keeps _).after (releaseAllowance_keeps ..)
  · exact toStopping_keeps _
  · exact setCompWish_keeps ..
  · exact (toDisabled_keeps _).after (withdrawAllowance_keeps ..)
  · exact (toDisabled_keeps _).after (postIndication_keeps ..)
  · exact toDisabled_keeps _
  · exact toDisabled_keeps _
  · exact toDisabled_keeps _
  · exact .refl _

/-! ## The heater's operations -/

theorem putHtr_keeps {h : Heater} {d : Device}
    (hs : h.state = d.htr.state ∧ h.fuel.running = d.htr.fuel.running ∧ h.fuel.gate = d.htr.fuel.gate ∧
      h.glowSince = d.htr.glowSince ∧ h.latch = d.htr.latch) : KeepsSafe d (putHtr h d) :=
  .of_burn (by simpa using hs) (by simp)

theorem putHtrTimers_keeps (t : HeaterTimers) (d : Device) : KeepsSafe d (putHtrTimers t d) :=
  .of_burn ⟨rfl, rfl, rfl, rfl, rfl⟩ (by simp)

theorem recordFault_keeps (k : FaultKind) (d : Device) : KeepsSafe d (recordFault k d) :=
  .of_burn (by simp [recordFault]) (by simp)

theorem putHeatTable_keeps (table : List HeatLevel) (d : Device) : KeepsSafe d (putHeatTable table d) :=
  .of_burn ⟨rfl, rfl, rfl, rfl, rfl⟩ (by simp)

theorem applyTableDefault_keeps (d : Device) : KeepsSafe d (applyTableDefault d) := by
  unfold applyTableDefault
  split
  · exact putHeatTable_keeps ..
  · exact .refl d

/-- R13, R78: neither DIN5's raw level nor the latch holds a free gate off. -/
theorem gatesFree_iff (d : Device) : gatesFree d = true ↔ rawOf d 5 = false ∧ d.htr.latch = false := by
  simp [gatesFree]

theorem gatesFree_of_raw {d : Device} (h : rawOf d 5 = true) : gatesFree d = false := by simp [gatesFree, h]

/-- What entering a state makes of the heater's outputs (R78, R87). -/
theorem enterHeater_outputs (st : HeaterState) (cause : HeaterCause) (d : Device) :
    (enterHeater st cause d).htr.state = st ∧ (enterHeater st cause d).htr.latch = d.htr.latch ∧
    (enterHeater st cause d).htr.fuel = fuelOf d st ∧ (enterHeater st cause d).htr.glowSince = glowOf d st := by
  unfold enterHeater
  dsimp only
  cases st <;> split <;> simp [fuelOf, glowOf, gatesFree, rawOf, lineOf]

/-- R87: a state that is not fed, and in which the glow output is off, is entered with safe outputs, whatever they were. -/
theorem enterHeater_safe {st : HeaterState} (hf : ¬st.fed) (cause : HeaterCause) (d : Device) :
    fuelSafe (enterHeater st cause d) := by
  obtain ⟨hs, hl, hfu, hg⟩ := enterHeater_outputs st cause d
  unfold fuelSafe fuelSound
  rw [hs, hfu, hg]
  cases st <;> simp_all [fuelOf, glowOf, HeaterState.fed]

/-- R78, R79, R87: whatever state is entered, the fuel train and the glow output follow it. -/
theorem enterHeater_keeps (st : HeaterState) (cause : HeaterCause) (d : Device) : KeepsSafe d (enterHeater st cause d) := by
  refine .of_fuel (fun h => ?_) (by simp)
  by_cases hf : st.fed
  · obtain ⟨hs, hl, hfu, hg⟩ := enterHeater_outputs st cause d
    obtain ⟨-, hgate, hraw, -⟩ := h
    unfold fuelSafe fuelSound
    simp only [hs, hl, hfu, hg, enterHeater_frame]
    rcases hf with rfl | rfl | rfl
    · refine ⟨fun _ => .inl rfl, fun hg => ?_, fun hr => ?_, fun _ => .inr rfl⟩
      · exact ⟨rfl, ((gatesFree_iff d).1 hg).2⟩
      · exact gatesFree_of_raw hr
    · exact ⟨fun _ => .inr (.inl rfl), hgate, hraw, nofun⟩
    · exact ⟨fun _ => .inr (.inr rfl), hgate, hraw, nofun⟩
  · exact enterHeater_safe hf cause d

theorem toOff_keeps (cause : HeaterCause) (d : Device) : KeepsSafe d (toOff cause d) :=
  (applyTableDefault_keeps _).after (enterHeater_keeps .off cause d)

theorem toLockout_keeps (cause : HeaterCause) (d : Device) : KeepsSafe d (toLockout cause d) := by
  have entered := (enterHeater_keeps .lockout cause _).after (withdrawAllowance_keeps .heater d)
  exact (applyTableDefault_keeps _).after (entered.trans (putHtr_keeps ⟨rfl, rfl, rfl, rfl, rfl⟩))

theorem toPaused_keeps (cause : HeaterCause) (d : Device) : KeepsSafe d (toPaused cause d) :=
  (enterHeater_keeps .paused cause d).trans (putHtr_keeps ⟨rfl, rfl, rfl, rfl, rfl⟩)

theorem toPurge_keeps (cause : HeaterCause) (d : Device) : KeepsSafe d (toPurge cause d) :=
  (enterHeater_keeps .purge cause d).trans (putHtrTimers_keeps ..)

/-- R99: a cooldown is entered with safe outputs, whatever they were. -/
theorem toCooldown_safe (cause : CooldownCause) (d : Device) : fuelSafe (toCooldown cause d) :=
  (putHtrTimers_keeps ..).fuel (enterHeater_safe (by simp [HeaterState.fed]) ..)

theorem toCooldown_keeps (cause : CooldownCause) (d : Device) : KeepsSafe d (toCooldown cause d) :=
  .of_fuel (fun _ => toCooldown_safe cause d) (by simp)

theorem toGlow_keeps (d : Device) : KeepsSafe d (toGlow d) :=
  (enterHeater_keeps .glow .none d).trans (putHtrTimers_keeps ..)

theorem toIgnite_keeps (d : Device) : KeepsSafe d (toIgnite d) :=
  (putHtrTimers_keeps ..).after ((enterHeater_keeps .ignite .none d).trans (putHtr_keeps ⟨rfl, rfl, rfl, rfl, rfl⟩))

/-- R82, R83: the answers to the heater's request. -/
theorem requestHeater_keeps (d : Device) : KeepsSafe d (requestHeater d) := by
  have asked : KeepsSafe d (requestAllowance .heater d).1 := .of_frame (by simp)
  unfold requestHeater
  split
  · next d1 h => rwa [h] at asked
  · next d1 h => rw [h] at asked; exact asked.trans (toGlow_keeps d1)
  · next d1 h => rw [h] at asked; exact asked.trans (toOff_keeps _ d1)

theorem toWait_keeps (d : Device) : KeepsSafe d (toWait d) :=
  (requestHeater_keeps _).after ((enterHeater_keeps .waitInrush .none d).trans (putHtrTimers_keeps ..))

/-! ### The level in force -/

theorem changeLevel_keeps (n : Nat) (d : Device) : KeepsSafe d (changeLevel n d) := putHtr_keeps ⟨rfl, rfl, rfl, rfl, rfl⟩

theorem toRun_keeps (d : Device) : KeepsSafe d (toRun d) :=
  (enterHeater_keeps .run .none d).trans (putHtr_keeps ⟨rfl, rfl, rfl, rfl, rfl⟩)

theorem lowerTo_keeps (bound : Nat) (d : Device) : KeepsSafe d (lowerTo bound d) := by
  obtain ⟨-, -, h⟩ | ⟨-, h⟩ := lowerTo_cases bound d <;> rw [h]
  · exact changeLevel_keeps ..
  · exact .refl d

theorem heaterGrant_keeps (d : Device) : KeepsSafe d (heaterGrant d) := by
  obtain h | ⟨-, h⟩ := heaterGrant_cases d <;> rw [h]
  · exact lowerTo_keeps ..
  · exact (lowerTo_keeps ..).trans (toRun_keeps _)

theorem setWished_keeps (w : Nat) (d : Device) : KeepsSafe d (setWished w d) := by
  have wished : KeepsSafe d (putHtr { d.htr with wished := w } d) := putHtr_keeps ⟨rfl, rfl, rfl, rfl, rfl⟩
  exact (heaterGrant_keeps _).after (wished.trans (.of_frame (by simp)))

theorem rewish_keeps (d : Device) : KeepsSafe d (rewish d) := by
  unfold rewish
  split
  · exact setWished_keeps ..
  · exact setWished_keeps ..
  · exact .refl d

theorem heaterCaps_keeps (d : Device) : KeepsSafe d (heaterCaps d) := (rewish_keeps _).after (lowerTo_keeps ..)

theorem tryMove_keeps (d : Device) : KeepsSafe d (tryMove d) := by
  unfold tryMove
  split
  · obtain ⟨-, -, -, h⟩ | ⟨-, h⟩ | h := moveLevel_cases d <;> rw [h]
    · exact changeLevel_keeps ..
    · exact changeLevel_keeps ..
    · exact .refl d
  · exact .refl d

theorem toRamp_keeps (d : Device) : KeepsSafe d (toRamp d) := by
  have entered := (enterHeater_keeps .ramp .none _).after (releaseAllowance_keeps .heater d)
  exact (heaterGrant_keeps _).after (entered.trans (putHtr_keeps ⟨rfl, rfl, rfl, rfl, rfl⟩))

/-! ### Starting and stopping -/

theorem newStart_keeps (src : StartSource) (setpoint : Int) (d : Device) : KeepsSafe d (newStart src setpoint d) := by
  unfold newStart
  extract_lets _ _ d1
  have taken : KeepsSafe d d1 := putHtr_keeps ⟨rfl, rfl, rfl, rfl, rfl⟩
  exact (toWait_keeps _).after (taken.trans (putHtr_keeps ⟨rfl, rfl, rfl, rfl, rfl⟩))

theorem startHeater_keeps (src : StartSource) (setpoint : Int) (d : Device) :
    KeepsSafe d (startHeater src setpoint d).1 := by
  have kept (h : Heater) (hs : h.state = d.htr.state ∧ h.fuel = d.htr.fuel ∧ h.glowSince = d.htr.glowSince ∧
      h.latch = d.htr.latch) : KeepsSafe d (putHtr h d) := by
    obtain ⟨hst, hf, hg, hl⟩ := hs
    exact putHtr_keeps ⟨hst, hf ▸ rfl, hf ▸ rfl, hg, hl⟩
  unfold startHeater
  dsimp only
  split
  · split
    · exact .refl d
    · exact newStart_keeps ..
  · split
    · exact .refl d
    · exact newStart_keeps ..
  · exact .refl d
  · split
    · exact .refl d
    · exact kept _ ⟨rfl, rfl, rfl, rfl⟩
  · split
    · exact .refl d
    · exact kept _ ⟨rfl, rfl, rfl, rfl⟩
  all_goals exact kept _ ⟨rfl, rfl, rfl, rfl⟩

theorem postRefusal_keeps (r : Reason) (d : Device) : KeepsSafe d (postRefusal r d) :=
  (post_keeps ..).after (putHtr_keeps ⟨rfl, rfl, rfl, rfl, rfl⟩)

theorem clearRunUntil_keeps (d : Device) : KeepsSafe d (clearRunUntil d) := putHtr_keeps ⟨rfl, rfl, rfl, rfl, rfl⟩

theorem leaveWait_keeps (cause : HeaterCause) (d : Device) : KeepsSafe d (leaveWait cause d) :=
  (toOff_keeps ..).after (withdrawAllowance_keeps ..)

theorem stopHeater_keeps (d : Device) : KeepsSafe d (stopHeater d) := by
  unfold stopHeater
  refine (clearRunUntil_keeps d).trans ?_
  dsimp only
  split
  case h_5 =>
    split
    · exact .refl _
    · exact toCooldown_keeps ..
  case h_6 => exact putHtr_keeps ⟨rfl, rfl, rfl, rfl, rfl⟩
  case h_7 => exact leaveWait_keeps ..
  case h_8 => exact toOff_keeps ..
  case h_9 => exact .refl _
  case h_10 => exact .refl _
  all_goals exact toCooldown_keeps ..

theorem heaterFuelLow_keeps (d : Device) : KeepsSafe d (heaterFuelLow d) := by
  have cooled : KeepsSafe d (toCooldown .fuelLow (clearRunUntil d)) := (toCooldown_keeps ..).after (clearRunUntil_keeps d)
  unfold heaterFuelLow
  split
  case h_5 =>
    split
    · exact clearRunUntil_keeps d
    · exact cooled
  case h_6 => exact leaveWait_keeps ..
  case h_7 | h_8 | h_9 | h_10 => exact .refl d
  all_goals exact cooled

theorem panelPress_keeps (d : Device) : KeepsSafe d (panelPress d) := by
  unfold panelPress
  split
  · have started := startHeater_keeps .panel d.htr.lastSetpoint d
    split
    · next d1 h => rwa [h] at started
    · next d1 r h => rw [h] at started; exact started.trans (postRefusal_keeps r d1)
  · exact .refl d
  · exact stopHeater_keeps d

theorem runUntilTest_keeps (d : Device) : KeepsSafe d (runUntilTest d) := by
  unfold runUntilTest
  split
  · exact .refl d
  · split
    · exact stopHeater_keeps d
    · exact .refl d

/-! ### The allowance's answers and the timers of the attempt -/

theorem heaterGranted_keeps (d : Device) : KeepsSafe d (heaterGranted d) := by
  unfold heaterGranted
  split
  · exact toGlow_keeps d
  · exact .refl d

theorem heaterDenied_keeps (d : Device) : KeepsSafe d (heaterDenied d) := by
  unfold heaterDenied
  split
  · exact toOff_keeps _ d
  · exact .refl d

theorem attemptFails_keeps (d : Device) : KeepsSafe d (attemptFails d) := by
  unfold attemptFails
  split
  · exact (toPurge_keeps ..).after (putHtr_keeps ⟨rfl, rfl, rfl, rfl, rfl⟩)
  · exact .refl d

theorem waitExpiry_keeps (d : Device) : KeepsSafe d (waitExpiry d) := by
  unfold waitExpiry
  split
  · exact leaveWait_keeps _ d
  · exact .refl d

theorem glowExpiry_keeps (d : Device) : KeepsSafe d (glowExpiry d) := by
  unfold glowExpiry
  split
  · exact toIgnite_keeps d
  · exact .refl d

theorem windowExpiry_keeps (d : Device) : KeepsSafe d (windowExpiry d) := by
  unfold windowExpiry
  split
  · exact (attemptFails_keeps _).after (releaseAllowance_keeps ..)
  · exact .refl d

theorem purgeExpiry_keeps (d : Device) : KeepsSafe d (purgeExpiry d) := by
  unfold purgeExpiry
  split_ifs
  · exact .refl d
  · exact toLockout_keeps _ d
  · exact toWait_keeps d
  · exact (toLockout_keeps ..).after (recordFault_keeps ..)

/-! ### The fuel pulse train (R87) -/

theorem reach_keeps (t : Nat) (d : Device) : KeepsSafe d (reach t d) := .of_frame (by simp)

/-- R87: a pulse starts only where neither DIN5's raw level nor the latch holds the gate off. -/
theorem pulseStart_keeps (d : Device) : KeepsSafe d (pulseStart d) := by
  refine .of_fuel (fun h => ?_) (by simp)
  unfold pulseStart
  split
  · next running =>
    obtain ⟨hfed, -, -, hglow⟩ := h
    exact ⟨hfed, fun hg => ⟨running, ((gatesFree_iff d).1 hg).2⟩, fun hr => gatesFree_of_raw hr, hglow⟩
  · exact h

theorem pulseEnd_keeps (d : Device) : KeepsSafe d (pulseEnd d) := by
  refine .of_fuel (fun h => ?_) (by simp)
  unfold pulseEnd
  split
  · obtain ⟨hfed, -, -, hglow⟩ := h
    exact ⟨hfed, nofun, fun _ => rfl, hglow⟩
  · exact h

theorem rampStep_keeps (d : Device) : KeepsSafe d (rampStep d) := by
  unfold rampStep
  split
  · exact (heaterGrant_keeps _).after ((putHtrTimers_keeps ..).after (changeLevel_keeps ..))
  · exact .refl d

theorem dwellExpiry_keeps (d : Device) : KeepsSafe d (dwellExpiry d) := (tryMove_keeps _).after (putHtrTimers_keeps ..)

theorem pauseExpiry_keeps (d : Device) : KeepsSafe d (pauseExpiry d) := by
  unfold pauseExpiry
  split
  · exact toCooldown_keeps _ d
  · exact .refl d

/-! ### Overheat, sensors, the blower and cooldown -/

theorem markLockout_keeps (d : Device) : KeepsSafe d (markLockout d) := putHtr_keeps ⟨rfl, rfl, rfl, rfl, rfl⟩

theorem softOverheat_keeps (d : Device) : KeepsSafe d (softOverheat d) := by
  have marked := (markLockout_keeps _).after (recordFault_keeps .overheatSoft d)
  unfold softOverheat
  dsimp only
  split_ifs
  · exact marked.trans (toCooldown_keeps ..)
  · exact marked
  · exact .refl d

theorem exchangerFails_keeps (d : Device) : KeepsSafe d (exchangerFails d) := by
  unfold exchangerFails
  split_ifs
  · exact (toCooldown_keeps ..).after ((markLockout_keeps _).after (recordFault_keeps ..))
  · exact leaveWait_keeps _ d
  · exact .refl d

/-- R96: outside the burning states no fuel is fed, so the latch leaves the fuel train safe; out of them the trip enters COOLDOWN. -/
theorem overheatTrip_keeps (d : Device) : KeepsSafe d (overheatTrip d) := by
  refine .of_fuel (fun h => ?_) (by simp)
  unfold overheatTrip
  extract_lets src d1
  have hs : d1.htr.state = d.htr.state := by simp [d1, recordFault, src]
  have tripped (hu : ¬d.htr.state.fed) : fuelSafe d1 := by
    obtain ⟨hfed, hgate, -, hglow⟩ := h
    have hoff : d.htr.fuel.gate = false := by
      cases hg : d.htr.fuel.gate
      · rfl
      · exact absurd (hfed (hgate hg).1) hu
    have hf : d1.htr.fuel = d.htr.fuel := by simp [d1, recordFault, src]
    have hg : d1.htr.glowSince = d.htr.glowSince := by simp [d1, recordFault, src]
    unfold fuelSafe fuelSound
    rw [hs, hf, hg, hoff]
    exact ⟨hfed, nofun, fun _ => rfl, hglow⟩
  rw [hs]
  split
  case h_5 st =>
    split
    · exact tripped (by simp [HeaterState.fed, st])
    · exact toCooldown_safe ..
  case h_6 st => exact (markLockout_keeps _).fuel (tripped (by simp [HeaterState.fed, st]))
  case h_7 st | h_8 st | h_9 st => exact (toLockout_keeps ..).fuel (tripped (by simp [HeaterState.fed, st]))
  case h_10 st => exact tripped (by simp [HeaterState.fed, st])
  all_goals exact toCooldown_safe ..

theorem blowerFault_keeps (d : Device) : KeepsSafe d (blowerFault d) := by
  unfold blowerFault
  split
  · have recorded := (releaseAllowance_keeps .heater _).after (recordFault_keeps .blower d)
    exact (toPurge_keeps ..).after (recorded.trans (putHtr_keeps ⟨rfl, rfl, rfl, rfl, rfl⟩))
  · exact .refl d

theorem tachPulse_keeps (periodUs : Nat) (d : Device) : KeepsSafe d (tachPulse periodUs d) :=
  putHtr_keeps ⟨rfl, rfl, rfl, rfl, rfl⟩

theorem speedWatch_keeps (d : Device) : KeepsSafe d (speedWatch d) := by
  unfold speedWatch
  split
  · exact putHtrTimers_keeps ..
  · exact .refl d

theorem completeCooldown_keeps (d : Device) : KeepsSafe d (completeCooldown d) := by
  unfold completeCooldown
  dsimp only
  split_ifs
  · exact toLockout_keeps _ d
  · refine (applyTableDefault_keeps d).trans ?_
    split
    · exact newStart_keeps ..
    · exact toOff_keeps ..
  · exact toPaused_keeps _ d
  · exact toOff_keeps _ d

theorem cooldownTest_keeps (d : Device) : KeepsSafe d (cooldownTest d) := by
  unfold cooldownTest
  extract_lets endTemp exch
  split
  · exact completeCooldown_keeps d
  · exact .refl d

theorem cooldownTooLong_keeps (d : Device) : KeepsSafe d (cooldownTooLong d) := by
  unfold cooldownTooLong
  split
  · exact (toLockout_keeps ..).after (recordFault_keeps ..)
  · exact .refl d

/-! ### The published sweep -/

theorem flameLost_keeps (d : Device) : KeepsSafe d (flameLost d) := by
  unfold flameLost
  dsimp only
  split_ifs
  · exact (toPurge_keeps ..).after ((markLockout_keeps _).after (recordFault_keeps ..))
  · exact (toPurge_keeps ..).after (putHtr_keeps ⟨rfl, rfl, rfl, rfl, rfl⟩)

theorem pauseWatch_keeps (d : Device) : KeepsSafe d (pauseWatch d) := by
  unfold pauseWatch
  split
  · exact .refl d
  · dsimp only
    split
    · exact putHtrTimers_keeps ..
    · exact .refl d

theorem runSweep_keeps (d : Device) : KeepsSafe d (runSweep d) := by
  unfold runSweep
  extract_lets exch _ d1
  have referred : KeepsSafe d d1 := by
    unfold d1
    split
    · exact putHtr_keeps ⟨rfl, rfl, rfl, rfl, rfl⟩
    · exact .refl d
  split
  · exact flameLost_keeps d
  · exact (pauseWatch_keeps _).after ((tryMove_keeps _).after (referred.trans (setWished_keeps ..)))

theorem pausedSweep_keeps (d : Device) : KeepsSafe d (pausedSweep d) := by
  have started := startHeater_keeps .again d.htr.setpoint d
  unfold pausedSweep
  dsimp only
  split_ifs
  · split
    · next d1 h => rwa [h] at started
    · next d1 r h =>
      rw [h] at started
      split
      · exact started
      · exact (postRefusal_keeps ..).after (started.trans (putHtr_keeps ⟨rfl, rfl, rfl, rfl, rfl⟩))
  · exact .refl d

theorem heaterStateSweep_keeps (d : Device) : KeepsSafe d (heaterStateSweep d) := by
  unfold heaterStateSweep
  split
  · unfold flameTest
    dsimp only
    split
    · exact toRamp_keeps d
    · exact .refl d
  · exact setWished_keeps ..
  · exact runSweep_keeps d
  · exact cooldownTest_keeps d
  · exact pausedSweep_keeps d
  all_goals exact .refl d

/-- A published sweep reaches the heater. -/
theorem heaterSweep_keeps (exchWasOk : Bool) (d : Device) : KeepsSafe d (heaterSweep exchWasOk d) := by
  unfold heaterSweep
  extract_lets st d1
  have tested : KeepsSafe d d1 := by
    unfold d1
    split
    · exact exchangerFails_keeps d
    · exact .refl d
  exact (speedWatch_keeps _).after ((heaterStateSweep_keeps _).after (tested.trans (softOverheat_keeps _)))

/-! ## The Load Budget's hand-offs -/

/-- A walk over a list keeps both safe, if each of its steps does. -/
theorem foldl_keeps {α : Type} {f : Device → α → Device} (hf : ∀ d a, KeepsSafe d (f d a)) (l : List α) (d : Device) :
    KeepsSafe d (l.foldl f d) := by
  induction l generalizing d with
  | nil => exact .refl d
  | cons a l ih => exact (hf d a).trans (ih _)

theorem answerGranted_keeps (l : Load) (d : Device) : KeepsSafe d (answerGranted l d) := by
  cases l with
  | heater => exact heaterGranted_keeps d
  | compressor => exact compGranted_keeps d
  | outlet => exact .of_frame (by simp [answerGranted])
  | base | lights | warning => exact .refl d

theorem answerDenied_keeps (l : Load) (d : Device) : KeepsSafe d (answerDenied l d) := by
  cases l with
  | heater => exact heaterDenied_keeps d
  | compressor => exact compDenied_keeps d
  | outlet => exact .of_frame (by simp [answerDenied])
  | base | lights | warning => exact .refl d

theorem answerRevoked_keeps (l : Load) (d : Device) : KeepsSafe d (answerRevoked l d) := by
  cases l with
  | heater => exact attemptFails_keeps d
  | compressor => exact compRevoked_keeps d
  | outlet => exact .of_frame (by simp [answerRevoked])
  | base | lights | warning => exact .refl d

theorem putAllowance_keeps (a : Allowance) (d : Device) : KeepsSafe d (putAllowance a d) := .of_frame (by simp)

theorem revokeHolder_keeps (d : Device) : KeepsSafe d (revokeHolder d) := by
  unfold revokeHolder
  split
  · exact (answerRevoked_keeps ..).after (putAllowance_keeps ..)
  all_goals exact .refl d

theorem settlingExpiry_keeps (d : Device) : KeepsSafe d (settlingExpiry d) := by
  unfold settlingExpiry
  split
  · exact putAllowance_keeps ..
  · exact (answerGranted_keeps ..).after (putAllowance_keeps ..)

theorem flushAllowance_keeps (d : Device) : KeepsSafe d (flushAllowance d) :=
  (revokeHolder_keeps _).after ((foldl_keeps (fun d l => answerDenied_keeps l d) _ _).after (putAllowance_keeps ..))

theorem handGrant_keeps (l : Load) (d : Device) : KeepsSafe d (handGrant l d) := by
  cases l with
  | heater => exact heaterGrant_keeps d
  | compressor => exact compGrant_keeps d
  | lights | outlet => exact .of_frame (by simp [handGrant])
  | base | warning => exact .refl d

/-- R57 to R62: a budget pass. -/
theorem runPass_keeps (d : Device) : KeepsSafe d (runPass d) := by
  unfold runPass
  extract_lets p h usable old
  split
  next t stage short _ =>
    extract_lets new waiting last d1 d2 changed
    have decided : KeepsSafe d d2 := by
      refine .of_frame ?_
      unfold d2
      split <;> simp [d1]
    exact (foldl_keeps (fun d l => handGrant_keeps l d) _ _).after (decided.trans (.of_frame (by simp)))

theorem budgetPass_keeps (d : Device) : KeepsSafe d (budgetPass d) :=
  (runPass_keeps _).after (.of_frame ⟨rfl, rfl, rfl, rfl⟩)

theorem restartBudget_keeps (d : Device) : KeepsSafe d (restartBudget d) := by
  have emptied : KeepsSafe d (flushAllowance (defaultBudget d)) :=
    (flushAllowance_keeps _).after (.of_frame ⟨rfl, rfl, rfl, rfl⟩)
  exact (runPass_keeps _).after (emptied.trans (.of_frame (by simp)))

/-! ## The Charge Counter's hand-offs -/

theorem putChg_keeps (c : Charge) (d : Device) : KeepsSafe d (putChg c d) := .of_frame (by simp)

theorem publishCharge_keeps (wasKnown : Bool) (wasUv : Undervoltage) (d : Device) :
    KeepsSafe d (publishCharge wasKnown wasUv d) := by
  unfold publishCharge handOnCharge
  refine (putChg_keeps d.chg.derived d).trans ?_
  extract_lets d1 d2
  have triggered : KeepsSafe (putChg d.chg.derived d) d1 := by
    unfold d1
    split
    · exact .refl _
    · exact .of_frame (by simp)
  have twice : KeepsSafe (putChg d.chg.derived d) d2 := triggered.trans (.of_frame (by simp [d2]))
  split_ifs
  · exact triggered
  · exact twice.trans (flushAllowance_keeps _)
  · exact twice

theorem accountingTick_keeps (d : Device) : KeepsSafe d (accountingTick d) := by
  unfold accountingTick
  extract_lets _ d1
  refine (publishCharge_keeps ..).after (.of_frame ?_)
  split <;> simp [d1]

theorem gradingComplete_keeps (d : Device) : KeepsSafe d (gradingComplete d) := by
  unfold gradingComplete
  split
  · exact .refl d
  · exact (publishCharge_keeps ..).after (.of_frame (by simp))

theorem fullChargeReached_keeps (d : Device) : KeepsSafe d (fullChargeReached d) := by
  unfold fullChargeReached
  split
  · exact (publishCharge_keeps ..).after (.of_frame (by simp))
  · exact .refl d

theorem setChargeRequest_keeps (b : List Byte) (d : Device) : KeepsSafe d (setChargeRequest b d).dev := by
  unfold setChargeRequest
  extract_lets _ d1
  split_ifs
  · exact .refl d
  · exact .refl d
  · exact (publishCharge_keeps ..).after (.of_frame (by simp [d1]))

theorem batteryConfigRequest_keeps (b : List Byte) (d : Device) : KeepsSafe d (batteryConfigRequest b d).dev := by
  unfold batteryConfigRequest
  extract_lets q d1 d2
  split
  · exact .refl d
  · split
    · exact .refl d
    · split
      · exact .refl d
      · refine (publishCharge_keeps ..).after (.of_frame ?_)
        unfold d2
        split <;> simp [d1]

/-! ## The Night Plan's hand-offs -/

theorem refreshQuiet_keeps (d : Device) : KeepsSafe d (refreshQuiet d) := by
  unfold refreshQuiet
  extract_lets q _ d1
  split
  · exact .refl d
  · have handed : KeepsSafe d d1 := (heaterCaps_keeps _).after ((compCaps_keeps _).after (.of_frame (by simp)))
    refine handed.trans (.of_frame ?_)
    split <;> simp

theorem putPlan_keeps (p : Plan) (d : Device) : KeepsSafe d (putPlan p d) := .of_frame (by simp)

theorem postPlan_keeps (c : PlanCause) (d : Device) : KeepsSafe d (postPlan c d) := .of_frame (by simp)

/-- R175: a pre-warm start handed to the heater. -/
theorem givePrewarm_keeps (d : Device) : KeepsSafe d (givePrewarm d) := by
  have started := (startHeater_keeps .prewarm d.npl.setpoint _).after (putPlan_keeps { d.npl with state := .prewarm } d)
  unfold givePrewarm
  split
  · next d1 h =>
    rw [h] at started
    exact started.trans (.of_frame (by simp))
  · next d1 r h =>
    rw [h] at started
    exact started.trans (.of_frame (by simp))

theorem prewarmTest_keeps (d : Device) : KeepsSafe d (prewarmTest d) := by
  unfold prewarmTest
  split
  · split
    · exact givePrewarm_keeps d
    · exact .refl d
  · exact .refl d

theorem leadRecompute_keeps (d : Device) : KeepsSafe d (leadRecompute d) := by
  unfold leadRecompute
  split
  · exact (prewarmTest_keeps _).after (putPlan_keeps ..)
  · exact .refl d

theorem moveWake_keeps (wake : Option Nat) (d : Device) : KeepsSafe d (moveWake wake d) := by
  unfold moveWake
  split
  · exact .refl d
  · exact (prewarmTest_keeps _).after (.of_frame (by simp))

theorem carryOutWake_keeps (d : Device) : KeepsSafe d (carryOutWake d) := by
  unfold carryOutWake
  extract_lets _ d1 d2 _ d3
  have quieted : KeepsSafe d d1 := (refreshQuiet_keeps _).after (putPlan_keeps ..)
  have recalled : KeepsSafe d1 d2 := by
    refine .of_frame ?_
    unfold d2
    split <;> simp
  exact (putPlan_keeps ..).after ((quieted.trans recalled).trans (.of_frame (by simp [d3])))

theorem wakeTest_keeps (d : Device) : KeepsSafe d (wakeTest d) := by
  unfold wakeTest
  split
  · exact .refl d
  · split
    · exact carryOutWake_keeps d
    · exact .refl d

theorem retarget_keeps (projection : Option Nat) (d : Device) : KeepsSafe d (retarget projection d) := by
  unfold retarget
  split
  · split
    · exact moveWake_keeps ..
    · split
      · exact carryOutWake_keeps d
      · exact moveWake_keeps ..
  · exact .refl d

theorem planHandoff_keeps (cls : ActClass) (projection : Option Nat) (d : Device) :
    KeepsSafe d (planHandoff cls projection d) := by
  unfold planHandoff
  extract_lets moved _ d1
  have quieted : KeepsSafe d d1 := (refreshQuiet_keeps _).after (putPlan_keeps ..)
  split
  · exact quieted.trans (retarget_keeps ..)
  · exact quieted

theorem setPlan_keeps (source : WakeSource) (wall setpoint : Nat) (lights : Bool) (d : Device) :
    KeepsSafe d (setPlan source wall setpoint lights d) := by
  unfold setPlan
  extract_lets d1 _ p
  have set : KeepsSafe d (wakeChange (putPlan p d1)) := .of_frame (by simp [d1])
  exact (prewarmTest_keeps _).after ((postPlan_keeps ..).after ((refreshQuiet_keeps _).after set))

theorem planSetRequest_keeps (b : List Byte) (d : Device) : KeepsSafe d (planSetRequest b d).dev := by
  unfold planSetRequest
  extract_lets wall setpoint host d1
  split
  · exact .refl d
  · split
    · exact .refl d
    · split
      · exact .refl d
      · split
        · exact .refl d
        · exact setPlan_keeps ..

theorem cancelPlan_keeps (d : Device) : KeepsSafe d (cancelPlan d) := by
  unfold cancelPlan
  extract_lets live _ d1 d2
  have quieted : KeepsSafe d d1 := (refreshQuiet_keeps _).after (putPlan_keeps ..)
  refine quieted.trans (.of_frame ?_)
  split <;> simp [d2]

theorem planCancelRequest_keeps (b : List Byte) (d : Device) : KeepsSafe d (planCancelRequest b d).dev := by
  unfold planCancelRequest
  split
  · exact .refl d
  · exact cancelPlan_keeps d

theorem quietSetRequest_keeps (b : List Byte) (d : Device) : KeepsSafe d (quietSetRequest b d).dev := by
  unfold quietSetRequest
  extract_lets _ d1
  split_ifs
  · exact .refl d
  · exact .refl d
  · exact (refreshQuiet_keeps _).after (putPlan_keeps ..)

theorem restartPlan_keeps (d : Device) : KeepsSafe d (restartPlan d) := by
  unfold restartPlan
  extract_lets _ d1
  have quieted : KeepsSafe d d1 := (refreshQuiet_keeps _).after (putPlan_keeps ..)
  exact quieted.trans (.of_frame (by simp))

/-! ## The Rest-Time Monitor's hand-offs -/

theorem handToPlan_keeps (took : Bool) (d : Device) : KeepsSafe d (handToPlan took d) := by
  unfold handToPlan
  split
  · exact (planHandoff_keeps ..).after (.of_frame (by simp))
  · exact .refl d

theorem tickTail_keeps (took : Bool) (d : Device) : KeepsSafe d (tickTail took d) :=
  (handToPlan_keeps ..).after (.of_frame (by simp))

theorem restTick_keeps (d : Device) : KeepsSafe d (restTick d) := by
  have headed : KeepsSafe d (takeIfSettled (tickHead { d with sched := { d.sched with restTick := false } })).1 :=
    .of_frame (by simp)
  exact headed.trans (tickTail_keeps ..)

theorem classTake_keeps (d : Device) : KeepsSafe d (classTake d) := by
  have taken : KeepsSafe d (takeIfSettled d).1 := .of_frame (by simp)
  unfold classTake
  split
  · next d1 h =>
    rw [h] at taken
    exact taken.trans (tickTail_keeps true d1)
  · exact .refl d

theorem restCrossing_keeps (d : Device) : KeepsSafe d (restCrossing d) := by
  unfold restCrossing
  dsimp only
  split
  · exact .refl d
  · exact (handToPlan_keeps ..).after (.of_frame (by simp))

/-- A request that one more check may refuse keeps both safe, if it does past the check. -/
theorem refuse_or_keeps {c : Prop} [Decidable c] {r : Result} {d : Device} {a : Answered} (h : KeepsSafe d a.dev) :
    KeepsSafe d (if c then refuse r d else a).dev := by
  split
  · exact .refl d
  · exact h

theorem taken_keeps {d t : Device} (h : KeepsSafe d t) (c : List Byte) : KeepsSafe d (taken t c).dev := h

/-! ## The listener's hand-offs -/

theorem handSignals_keeps (was : Signals) (d : Device) : KeepsSafe d (handSignals was d) := by
  unfold handSignals
  extract_lets now d1 d2
  have handed : KeepsSafe d d2 := by
    refine .of_frame ?_
    unfold d2
    split <;> (unfold d1; split <;> simp)
  split
  · exact handed.trans (heaterFuelLow_keeps _)
  · exact handed

theorem handing_keeps {f : Device → Device} {d : Device} (hf : KeepsSafe d (f d)) : KeepsSafe d (handing f d) :=
  hf.trans (handSignals_keeps ..)

theorem busConfigRequest_keeps (b : List Byte) (d : Device) : KeepsSafe d (busConfigRequest b d).dev := by
  unfold busConfigRequest
  exact refuse_or_keeps (refuse_or_keeps (taken_keeps (handing_keeps (.of_frame (by simp))) _))

theorem busSlotSetRequest_keeps (b : List Byte) (d : Device) : KeepsSafe d (busSlotSetRequest b d).dev := by
  unfold busSlotSetRequest
  refine refuse_or_keeps (refuse_or_keeps (refuse_or_keeps (refuse_or_keeps (refuse_or_keeps (taken_keeps (handing_keeps ?_) _)))))
  exact .of_frame (by simp)

theorem busBindRequest_keeps (b : List Byte) (d : Device) : KeepsSafe d (busBindRequest b d).dev := by
  have bound (g : Signal) (o : Option Binding) : KeepsSafe d (handing (bindSignal g o) d) := handing_keeps (.of_frame (by simp))
  unfold busBindRequest
  refine refuse_or_keeps ?_
  split
  · exact .refl d
  · refine refuse_or_keeps ?_
    split
    · exact bound ..
    · exact refuse_or_keeps (refuse_or_keeps (bound ..))

/-! ## The input lines -/

theorem postInputChange_keeps (line : Nat) (forcing : Bool) (d : Device) : KeepsSafe d (postInputChange line forcing d) :=
  .of_frame (by simp)

/-- R11: an input event reaches the line's owner. -/
theorem deliverEvent_keeps (line : Nat) (rising : Bool) (d : Device) : KeepsSafe d (deliverEvent line rising d) := by
  unfold deliverEvent
  split
  · exact .of_frame (by simp)
  · exact .of_frame (by simp)
  · split
    · exact .of_frame (by simp)
    · exact .refl d
  · split
    · exact panelPress_keeps d
    · exact .refl d
  · exact .of_frame (by simp)
  · split
    · exact overheatTrip_keeps d
    · exact .refl d
  · split
    · exact compFails_keeps .overcurrent d
    · exact .refl d
  · exact .of_frame (by simp)
  · exact .refl d

theorem deliveredChange_keeps (line : Nat) (level forcing : Bool) (d : Device) :
    KeepsSafe d (deliveredChange line level forcing d) := by
  unfold deliveredChange
  extract_lets l d1
  have posted : KeepsSafe d d1 := by
    unfold d1
    split
    · exact postInputChange_keeps ..
    · exact .refl d
  split
  · exact posted.trans (deliverEvent_keeps ..)
  · exact posted

/-- R13: whatever the pins and the lines have become, the fuel train is safe once DIN5's raw level has acted. -/
theorem holdFuel_safe {d t : Device} (hh : t.htr = d.htr) (h : fuelSafe d) : fuelSafe (holdFuel t) := by
  obtain ⟨hfed, hgate, -, hglow⟩ := h
  unfold holdFuel
  split
  · simp only [hh]
    exact ⟨hfed, nofun, fun _ => rfl, hglow⟩
  · next hr =>
    refine ⟨by rwa [hh], by rwa [hh], fun h5 => absurd h5 hr, by rwa [hh]⟩

/-- R13, R122: whatever the pins and the lines have become, the bridge is safe once DIN6's raw level has acted. -/
theorem holdBridge_safe {d t : Device} (hc : t.cmp = d.cmp) (h : bridgeSafe d) : bridgeSafe (holdBridge t) := by
  obtain ⟨hu, hv, hw, hd, hl, -⟩ := h
  unfold holdBridge
  split
  · exact overcurrentRaw_safe t
  · next hr =>
    unfold bridgeSafe bridgeSound
    rw [hc]
    exact ⟨hu, hv, hw, hd, hl, fun h6 => absurd h6 hr⟩

/-- R13: the protection lines act at once on a change of the pins or of the lines' settings. -/
theorem protect_keeps {d t : Device} (hc : t.cmp = d.cmp) (hh : t.htr = d.htr) : KeepsSafe d (protect t) where
  bridge h := holdBridge_safe (by simpa using hc) h
  fuel h := by
    refine (KeepsSafe.of_bridge (d := holdFuel t) ?_ (by simp [protect])).fuel (holdFuel_safe hh h)
    exact holdBridge_safe rfl

/-- A line whose polarity stays has the same raw level. -/
theorem rawOf_putLine {n : Nat} {l : InputLine} {d : Device} (h : l.polarity = (lineOf d n).polarity) (m : Nat) :
    rawOf (putLine n l d) m = rawOf d m := by
  simp only [rawOf, lineOf, putLine, List.getD_eq_getElem?_getD, List.getElem?_set] at h ⊢
  split
  · next e =>
    subst e
    split
    · simp [h]
    · next hn => simp [List.getElem?_eq_none (Nat.le_of_not_lt hn)]
  · rfl

/-- A line's levels, run, forcing and settings but its polarity are none of what holds a gate off. -/
theorem putLine_keeps {n : Nat} {l : InputLine} {d : Device} (h : l.polarity = (lineOf d n).polarity) :
    KeepsSafe d (putLine n l d) :=
  ⟨bridgeSafe_of_same rfl rfl rfl (rawOf_putLine h 6), fuelSafe_of_same rfl rfl rfl rfl rfl (rawOf_putLine h 5)⟩

theorem acceptLevel_keeps (line : Nat) (level : Bool) (d : Device) : KeepsSafe d (acceptLevel line level d) := by
  unfold acceptLevel
  extract_lets l d1
  have put : KeepsSafe d d1 := putLine_keeps rfl
  split
  · exact put
  · exact put.trans (deliveredChange_keeps ..)

theorem sampleLine_keeps (line : Nat) (d : Device) : KeepsSafe d (sampleLine line d) := by
  unfold sampleLine
  dsimp only
  split_ifs
  · exact putLine_keeps rfl
  · exact putLine_keeps rfl
  · exact acceptLevel_keeps ..
  · exact putLine_keeps rfl

theorem sampleLines_keeps (pins : BitVec 8) (d : Device) : KeepsSafe d (sampleLines pins d) :=
  (foldl_keeps (fun d n => sampleLine_keeps n d) _ _).after (protect_keeps rfl rfl)

theorem acceptedChange_keeps (line : Nat) (level : Bool) (d : Device) : KeepsSafe d (acceptedChange line level d) :=
  (acceptLevel_keeps ..).after (protect_keeps (by simp) (by simp))

theorem putForcing_keeps (line : Nat) (forced : Option Bool) (d : Device) : KeepsSafe d (putForcing line forced d) := by
  unfold putForcing
  extract_lets l l1 d1
  have put : KeepsSafe d d1 := putLine_keeps rfl
  split
  · exact put
  · exact put.trans (deliveredChange_keeps ..)

theorem inputConfigRequest_keeps (b : List Byte) (d : Device) : KeepsSafe d (inputConfigRequest b d).dev := by
  unfold inputConfigRequest
  exact refuse_or_keeps (refuse_or_keeps (refuse_or_keeps (protect_keeps rfl rfl)))

theorem inputForceRequest_keeps (b : List Byte) (d : Device) : KeepsSafe d (inputForceRequest b d).dev := by
  unfold inputForceRequest
  exact refuse_or_keeps (refuse_or_keeps (refuse_or_keeps (putForcing_keeps ..)))

theorem inputReleaseRequest_keeps (b : List Byte) (d : Device) : KeepsSafe d (inputReleaseRequest b d).dev := by
  unfold inputReleaseRequest
  exact refuse_or_keeps (refuse_or_keeps (putForcing_keeps ..))

theorem restartSensing_keeps (d : Device) : KeepsSafe d (restartSensing d) := protect_keeps rfl rfl

/-! ### The raw levels of DIN5 and DIN6 -/

/-- One pin put high or low leaves the other pins. -/
theorem putPin_din {n m : Nat} (hn : n < 8) (hm : m < 8) (high : Bool) (d : Device) :
    (putPin n high d).pins.din.getLsbD m = if m = n then high else d.pins.din.getLsbD m := by
  unfold putPin
  by_cases h : m = n
  · subst h
    cases high <;> simp [hm]
  · rcases Nat.lt_or_gt_of_ne h with hlt | hgt
    · cases high <;> simp [h, hm, hlt]
    · have : m - n ≠ 0 := by omega
      cases high <;> simp [h, hm, this]

/-- A line's pin put at the level that its polarity reads as `level` leaves the other lines' raw levels. -/
theorem rawOf_putRaw {n m : Nat} (hn : n < 8) (hm : m < 8) (level : Bool) (d : Device) :
    rawOf (putRaw n level d) m = if m = n then level else rawOf d m := by
  have hline : lineOf (putRaw n level d) m = lineOf d m := rfl
  unfold rawOf
  rw [hline, putRaw, putPin_din hn hm]
  split
  · next e => subst e; cases (lineOf d m).polarity <;> simp [Polarity.active]
  · rfl

theorem din5RawActive_keeps (d : Device) : KeepsSafe d (holdFuel (putRaw 5 true d)) where
  bridge := bridgeSafe_of_same (by simp) (by simp) (by simp)
    ((rawOf_congr (by simp) (by simp) 6).trans (rawOf_putRaw (n := 5) (by decide) (by decide) true d))
  fuel := holdFuel_safe (by simp)

theorem din6RawActive_keeps (d : Device) : KeepsSafe d (holdBridge (putRaw 6 true d)) where
  bridge := holdBridge_safe (by simp)
  fuel := fuelSafe_of_same (by simp) (by simp) (by simp) (by simp) (by simp)
    ((rawOf_congr (by simp) (by simp) 5).trans (rawOf_putRaw (n := 6) (by decide) (by decide) true d))

theorem din5RawInactive_keeps (d : Device) : KeepsSafe d (putRaw 5 false d) where
  bridge := bridgeSafe_of_same rfl rfl rfl (rawOf_putRaw (n := 5) (by decide) (by decide) false d)
  fuel h := by
    obtain ⟨hfed, hgate, -, hglow⟩ := h
    have hr : rawOf (putRaw 5 false d) 5 = false := rawOf_putRaw (by decide) (by decide) false d
    exact ⟨hfed, hgate, fun h5 => absurd (hr.symm.trans h5) Bool.false_ne_true, hglow⟩

theorem din6RawInactive_keeps (d : Device) : KeepsSafe d (putRaw 6 false d) where
  bridge h := by
    obtain ⟨hu, hv, hw, hd, hl, -⟩ := h
    have hr : rawOf (putRaw 6 false d) 6 = false := rawOf_putRaw (by decide) (by decide) false d
    exact ⟨hu, hv, hw, hd, hl, fun h6 => absurd (hr.symm.trans h6) Bool.false_ne_true⟩
  fuel := fuelSafe_of_same rfl rfl rfl rfl rfl (rawOf_putRaw (n := 6) (by decide) (by decide) false d)

/-- R1: a measurement sweep reaches the heater and the compressor. -/
theorem sweep_keeps (codes : SweepCodes) (d : Device) : KeepsSafe d (sweep codes d) := by
  unfold sweep
  extract_lets d1 was _ _ _ d2
  have published : KeepsSafe d d2 := ⟨bridgeSafe_of_same rfl rfl rfl rfl, fuelSafe_of_same rfl rfl rfl rfl rfl rfl⟩
  exact (compSweep_keeps _).after ((heaterSweep_keeps ..).after (published.trans (.of_frame (by simp))))

/-! ## RESTART and the transmitter -/

theorem restartHeater_keeps (d : Device) : KeepsSafe d (restartHeater d) := by
  unfold restartHeater
  extract_lets d1 _ d2
  have set : KeepsSafe d d1 := putHtr_keeps ⟨rfl, rfl, rfl, rfl, rfl⟩
  have left : KeepsSafe d1 d2 := by
    unfold d2
    split
    case h_5 =>
      split
      · exact .refl _
      · exact toCooldown_keeps ..
    case h_6 => exact putHtr_keeps ⟨rfl, rfl, rfl, rfl, rfl⟩
    case h_7 => exact leaveWait_keeps ..
    case h_8 => exact toOff_keeps ..
    case h_9 | h_10 => exact .refl _
    all_goals exact toCooldown_keeps ..
  refine (set.trans left).trans ?_
  split
  · exact putHeatTable_keeps ..
  · exact putHtr_keeps ⟨rfl, rfl, rfl, rfl, rfl⟩

theorem restartBlocks_keeps (d : Device) : KeepsSafe d (restartBlocks d) := by
  have sensed : KeepsSafe d (restartCharge (restartSensing d)) := (restartSensing_keeps d).trans (.of_frame (by simp))
  have planned := (restartHeater_keeps _).after ((restartPlan_keeps _).after sensed)
  exact (restartBudget_keeps _).after (((restartComp_keeps _).after planned).trans (.of_frame (by simp)))

theorem restartPart_keeps (d : Device) : KeepsSafe d (restartPart d) :=
  (restartBlocks_keeps _).after (.of_frame (by simp))

theorem replyEnded_keeps (d : Device) : KeepsSafe d (replyEnded d) := by
  unfold replyEnded
  split
  · exact .refl d
  · split
    · extract_lets _ d1
      have taken : KeepsSafe d d1 := .of_frame ⟨rfl, rfl, rfl, rfl⟩
      split
      · exact taken.trans (restartPart_keeps d1)
      · exact taken
    · exact .refl d

theorem chooseFrame_keeps (d : Device) : KeepsSafe d (chooseFrame d) := .of_frame (by simp)

theorem endFrame_keeps (d : Device) : KeepsSafe d (endFrame d) := .of_frame (by simp)

theorem transmitterFree_keeps (d : Device) : KeepsSafe d (transmitterFree d) := by
  unfold transmitterFree
  split
  · exact chooseFrame_keeps d
  · exact (chooseFrame_keeps _).after ((replyEnded_keeps _).after (endFrame_keeps d))
  · exact (chooseFrame_keeps _).after (endFrame_keeps d)

/-- R197: a cold reset leaves every gate off, whatever the pins are. -/
theorem coldReset_keeps (d : Device) : KeepsSafe d (coldReset d) where
  bridge _ := bridgeSafe_of_off (by simp [coldReset, coldDevice, coldCompressor, idleBridge, idleLeg, LegState.sound])
    (by simp [coldReset, coldDevice, coldCompressor, idleBridge, idleLeg, Bridge.isOff, LegState.isOff])
  fuel _ := ⟨nofun, nofun, fun _ => rfl, fun h => absurd rfl h⟩

/-! ## Every command and every step -/

/-- A request keeps both safe, if its owner does. -/
theorem deliver_keeps {owner : List Byte → Device → Answered} (h : ∀ b d, KeepsSafe d (owner b d).dev) (f : Frame)
    (replyKind : Byte) (restart : Bool) (d : Device) : KeepsSafe d (deliver f replyKind restart owner d) := by
  have replied (kind tag : Byte) (a : Answered) : KeepsSafe a.dev (putReply kind tag restart a) :=
    .of_frame (by simp [putReply])
  have heard : KeepsSafe d (acceptFrame f d) := .of_frame (by simp)
  unfold deliver
  dsimp only
  split_ifs
  · exact (h f.body d).trans (replied ..)
  · exact (heard.trans (h f.body _)).trans (replied ..)
  · exact heard

theorem serve_keeps {owner : List Byte → Device → Answered} (h : ∀ b d, KeepsSafe d (owner b d).dev) (kind tag : Byte)
    (body : List Byte) (d : Device) : KeepsSafe d (serve kind tag body owner d) := deliver_keeps h ..

/-- A timer's event keeps both safe, if what it brings about does. -/
theorem atTimer_keeps {f : Device → Device} (h : ∀ d, KeepsSafe d (f d)) (timer : Option Nat) (d : Device) :
    KeepsSafe d (atTimer timer f d) := by
  cases timer with
  | none => exact .refl d
  | some t => exact (reach_keeps t d).trans (h _)

/-! ### The heater's requests -/

theorem heaterStartRequest_keeps (b : List Byte) (d : Device) : KeepsSafe d (heaterStartRequest b d).dev := by
  unfold heaterStartRequest
  refine refuse_or_keeps (refuse_or_keeps (refuse_or_keeps (refuse_or_keeps ?_)))
  split
  · next d1 h =>
    have started := congrArg Prod.fst h ▸ startHeater_keeps _ _ d
    exact taken_keeps started _
  · exact .refl d

theorem heaterStopRequest_keeps (b : List Byte) (d : Device) : KeepsSafe d (heaterStopRequest b d).dev := by
  unfold heaterStopRequest
  exact refuse_or_keeps (stopHeater_keeps d)

/-- R101: a latch that is cleared holds no gate off that is on. -/
theorem releaseLatch_keeps (d : Device) : KeepsSafe d (releaseLatch d) := by
  refine .of_fuel (fun h => ?_) (by simp)
  obtain ⟨hfed, hgate, hraw, hglow⟩ := h
  unfold releaseLatch fuelSafe
  simp only [heaterIndication_frame, putHtr_htr, putHtr_frame]
  exact ⟨hfed, fun hg => ⟨(hgate hg).1, rfl⟩, hraw, hglow⟩

theorem unlockRequest_keeps (service : Bool) (b : List Byte) (d : Device) : KeepsSafe d (unlockRequest service b d).dev := by
  unfold unlockRequest
  extract_lets _ cleared
  have counted : KeepsSafe d cleared := by
    unfold cleared
    split
    · exact putHtr_keeps ⟨rfl, rfl, rfl, rfl, rfl⟩
    · exact .refl d
  have left : KeepsSafe d (leaveLockout cleared) :=
    (releaseLatch_keeps _).after ((toOff_keeps ..).after (counted.trans (putHtr_keeps ⟨rfl, rfl, rfl, rfl, rfl⟩)))
  refine refuse_or_keeps (refuse_or_keeps ?_)
  split
  · exact refuse_or_keeps (taken_keeps left _)
  · split
    · exact refuse_or_keeps (taken_keeps (counted.trans (releaseLatch_keeps _)) _)
    · exact taken_keeps counted _
  · exact refuse_or_keeps (taken_keeps counted _)
  · exact refuse_or_keeps (taken_keeps counted _)
  · exact taken_keeps counted _

theorem heaterConfigRequest_keeps (b : List Byte) (d : Device) : KeepsSafe d (heaterConfigRequest b d).dev := by
  have limited (l : LevelLimits) : KeepsSafe d (heaterCaps (putHtr { d.htr with limits := l } d)) :=
    (heaterCaps_keeps _).after (putHtr_keeps ⟨rfl, rfl, rfl, rfl, rfl⟩)
  have sequenced (q : SeqSettings) : KeepsSafe d (putHtr { d.htr with seq := q } d) :=
    putHtr_keeps ⟨rfl, rfl, rfl, rfl, rfl⟩
  unfold heaterConfigRequest
  refine refuse_or_keeps ?_
  split
  · exact refuse_or_keeps (refuse_or_keeps (refuse_or_keeps (taken_keeps (putHeatTable_keeps ..) _)))
  · exact refuse_or_keeps (refuse_or_keeps (refuse_or_keeps (taken_keeps (sequenced _) _)))
  · exact refuse_or_keeps (refuse_or_keeps (taken_keeps (limited _) _))
  · exact .refl d

/-! ### The commands -/

/-- R186: a request of no known kind is refused, and keeps both safe. -/
theorem unknownRequest_keeps (kind tag : Byte) (body : List Byte) (d : Device) :
    KeepsSafe d (unknownRequest kind tag body d) := by
  have refused : ∀ b d, KeepsSafe d ((fun (_ : List Byte) d1 => refuse .unknownKind d1) b d).dev := fun _ d => .refl d
  unfold unknownRequest
  split
  · exact .refl d
  · exact deliver_keeps refused ..

theorem fridgeEnableRequest_keeps (b : List Byte) (d : Device) : KeepsSafe d (fridgeEnableRequest b d).dev := by
  unfold fridgeEnableRequest
  exact refuse_or_keeps (enableComp_keeps d)

theorem fridgeDisableRequest_keeps (b : List Byte) (d : Device) : KeepsSafe d (fridgeDisableRequest b d).dev := by
  unfold fridgeDisableRequest
  exact refuse_or_keeps (disableComp_keeps d)

theorem fridgeClearRequest_keeps (b : List Byte) (d : Device) : KeepsSafe d (fridgeClearRequest b d).dev := by
  unfold fridgeClearRequest
  exact refuse_or_keeps (leaveBlocked_keeps 0 d)

/-- R125: a BLOCKED compressor that its timer frees. -/
theorem blockedExpiry_keeps (d : Device) :
    KeepsSafe d (if d.cmp.state = .blocked then leaveBlocked 2 d else d) := by
  split
  · exact leaveBlocked_keeps 2 d
  · exact .refl d

/-- A command that runs keeps both safe, if what it does to every part does. -/
theorem running_keeps {s t : State} {f : Device → Device} (h : running s f = .next t) (k : ∀ d, KeepsSafe d (f d)) :
    KeepsSafe s.dev t.dev := by
  cases h; exact k _

/-- A command that runs keeps both safe, if the part it leaves is as safe. -/
theorem next_keeps {s t u : State} (h : (Host.Outcome.next u : Host.Outcome State Fault Refusal) = .next t)
    (k : KeepsSafe s.dev u.dev) : KeepsSafe s.dev t.dev := by
  cases h; exact k

/-- R16: the dial's pins are none of the raw levels that hold a gate off. -/
theorem dialCount_keeps (a b : Bool) (d : Device) : KeepsSafe d (dialCount a b d) := by
  unfold dialCount
  have stood (x : Dial) : KeepsSafe d
      { d with pins := { d.pins with dialA := a, dialB := b }, sns := { d.sns with dial := x } } :=
    ⟨bridgeSafe_of_same rfl rfl rfl rfl, fuelSafe_of_same rfl rfl rfl rfl rfl rfl⟩
  have turned (e : Device) : KeepsSafe e (turnDial a b e) := .of_frame (by simp)
  exact (turned _).after (stood _)

/-- R9: a current sample adds to the revolution's sum alone. -/
theorem currentSample_keeps (raw : RawCode) (d : Device) :
    KeepsSafe d (if d.cmp.state = .run then
      putSns { d.sns with current := { sum := d.sns.current.sum + 5 * raw.toNat, count := d.sns.current.count + 1 } } d
      else d) := by
  split
  · exact .of_frame ⟨rfl, rfl, rfl, rfl⟩
  · exact .refl d

/-- A request whose owner leaves the drives, the pins and the lines keeps both safe. -/
theorem serve_frame_keeps {owner : List Byte → Device → Answered}
    (h : ∀ b d, (owner b d).dev.cmp = d.cmp ∧ (owner b d).dev.htr = d.htr ∧ (owner b d).dev.pins = d.pins ∧
      (owner b d).dev.sns.lines = d.sns.lines) (kind tag : Byte) (body : List Byte) (d : Device) :
    KeepsSafe d (serve kind tag body owner d) := serve_keeps (fun b d => .of_frame (h b d)) ..

/-- Every command keeps the bridge and the fuel train safe. -/
theorem exec_keeps {c : Instr} {s t : State} (h : exec c s = .next t) : KeepsSafe s.dev t.dev := by
  cases c with
  -- the part and the Host Link
  | coldReset => exact running_keeps h coldReset_keeps
  | transmitterFree => exact running_keeps h transmitterFree_keeps
  | idleTimerExpiry => exact running_keeps h fun _ => atTimer_keeps (fun _ => .of_frame (by simp)) ..
  | unknownKind => exact running_keeps h fun _ => unknownRequest_keeps ..
  | restart tag body => exact running_keeps h fun _ => deliver_keeps (fun _ _ => .of_frame (by simp)) ..
  -- the requests that leave the drives and the lines
  | identify | getStatus | linkConfig | setClock | setSensorTable | readSensors | readVehicle | readCharge | budgetConfig
  | readBudget | outletSet | readPlan | readHeater | readFridge | lightSet | lightGroup | sceneSet | sceneRecall
  | lightConfig | readLights | restRules | declareActivity | ackWarning | readRest | readTimeline =>
    exact running_keeps h fun _ => serve_frame_keeps (by simp) ..
  -- the events that leave the drives, the pins and the lines
  | frameReceived | frameDiscarded | byteReceived | detent | uptimeSecond | fadeEnd | ch7PatternPhase | buzzerBeatPhase
  | lampPwmBoundary | repeatRaise =>
    exact running_keeps h fun _ => .of_frame (by simp)
  | silenceTimerExpiry | closingTimerExpiry | courtesyTimerExpiry =>
    exact running_keeps h fun _ => atTimer_keeps (fun _ => .of_frame (by simp)) ..
  -- the Sensing Unit
  | inputConfig => exact running_keeps h fun _ => serve_keeps inputConfigRequest_keeps ..
  | inputForce => exact running_keeps h fun _ => serve_keeps inputForceRequest_keeps ..
  | inputRelease => exact running_keeps h fun _ => serve_keeps inputReleaseRequest_keeps ..
  | measurementSweep => exact running_keeps h fun _ => sweep_keeps ..
  | acceptedChange => exact running_keeps h fun _ => acceptedChange_keeps ..
  | inputSample pins => exact running_keeps h (sampleLines_keeps pins)
  | din5RawActive => exact next_keeps h (din5RawActive_keeps _)
  | din5RawInactive => exact running_keeps h din5RawInactive_keeps
  | din6RawActive => exact next_keeps h (din6RawActive_keeps _)
  | din6RawInactive => exact running_keeps h din6RawInactive_keeps
  | dialCount => exact running_keeps h fun _ => dialCount_keeps ..
  | compressorCurrentSample raw => exact next_keeps h (currentSample_keeps raw _)
  -- the Vehicle Bus Listener
  | busConfig => exact running_keeps h fun _ => serve_keeps busConfigRequest_keeps ..
  | busSlotSet => exact running_keeps h fun _ => serve_keeps busSlotSetRequest_keeps ..
  | busBind => exact running_keeps h fun _ => serve_keeps busBindRequest_keeps ..
  | canFrame => exact running_keeps h fun _ => handing_keeps (.of_frame (by simp))
  | freshnessTimerExpiry => exact running_keeps h fun _ => atTimer_keeps (fun _ => handing_keeps (.of_frame (by simp))) ..
  -- the Charge Counter and the Load Budget
  | batteryConfig => exact running_keeps h fun _ => serve_keeps batteryConfigRequest_keeps ..
  | setCharge => exact running_keeps h fun _ => serve_keeps setChargeRequest_keeps ..
  | chgAccountingTick => exact running_keeps h accountingTick_keeps
  | gradingRunComplete => exact running_keeps h gradingComplete_keeps
  | fullChargeDetection => exact running_keeps h fullChargeReached_keeps
  | budgetPass => exact running_keeps h budgetPass_keeps
  | holdTimerExpiry => exact running_keeps h fun _ => atTimer_keeps revokeHolder_keeps ..
  | settlingTimerExpiry => exact running_keeps h fun _ => atTimer_keeps settlingExpiry_keeps ..
  -- the Heater Sequencer
  | heaterConfigLevelTable | heaterConfigSequence | heaterConfigLimits =>
    exact running_keeps h fun _ => serve_keeps heaterConfigRequest_keeps ..
  | heaterStart => exact running_keeps h fun _ => serve_keeps heaterStartRequest_keeps ..
  | heaterStop => exact running_keeps h fun _ => serve_keeps heaterStopRequest_keeps ..
  | heaterUnlock => exact running_keeps h fun _ => serve_keeps (unlockRequest_keeps false) ..
  | heaterServiceClear => exact running_keeps h fun _ => serve_keeps (unlockRequest_keeps true) ..
  | waitTimerExpiry => exact running_keeps h fun _ => atTimer_keeps waitExpiry_keeps ..
  | glowTimeExpiry => exact running_keeps h fun _ => atTimer_keeps glowExpiry_keeps ..
  | glowOneShotExpiry => exact running_keeps h fun _ => atTimer_keeps attemptFails_keeps ..
  | flameWindowExpiry => exact running_keeps h fun _ => atTimer_keeps windowExpiry_keeps ..
  | purgeTimeExpiry => exact running_keeps h fun _ => atTimer_keeps purgeExpiry_keeps ..
  | fuelPulseStart => exact running_keeps h pulseStart_keeps
  | fuelPulseEnd => exact running_keeps h pulseEnd_keeps
  | rampStep => exact running_keeps h fun _ => atTimer_keeps rampStep_keeps ..
  | levelDwellExpiry => exact running_keeps h fun _ => atTimer_keeps dwellExpiry_keeps ..
  | pauseTimerExpiry => exact running_keeps h fun _ => atTimer_keeps pauseExpiry_keeps ..
  | tachPulse => exact running_keeps h fun _ => tachPulse_keeps ..
  | tachTimeout => exact running_keeps h fun _ => atTimer_keeps blowerFault_keeps ..
  | blowerSpeedTimeout => exact running_keeps h fun _ => atTimer_keeps blowerFault_keeps ..
  | runUntilReached => exact next_keeps h ((runUntilTest_keeps _).after (.of_frame ⟨rfl, rfl, rfl, rfl⟩))
  | minimumCooldownExpiry => exact running_keeps h fun _ => atTimer_keeps (fun d => putHtrTimers_keeps { d.htr.timers with coolMin := none } d) ..
  | maximumCooldownExpiry => exact running_keeps h fun _ => atTimer_keeps cooldownTooLong_keeps ..
  -- the Compressor Drive
  | fridgeConfig => exact running_keeps h fun _ => serve_keeps fridgeConfigRequest_keeps ..
  | fridgeEnable => exact running_keeps h fun _ => serve_keeps fridgeEnableRequest_keeps ..
  | fridgeDisable => exact running_keeps h fun _ => serve_keeps fridgeDisableRequest_keeps ..
  | fridgeClear => exact running_keeps h fun _ => serve_keeps fridgeClearRequest_keeps ..
  | timedPhaseExpiry => exact running_keeps h fun _ => atTimer_keeps phaseExpiry_keeps ..
  | minimumOffPassed => exact running_keeps h fun _ => atTimer_keeps minOffExpiry_keeps ..
  | dutyRampStep => exact running_keeps h fun _ => atTimer_keeps dutyStep_keeps ..
  | startTimerExpiry => exact running_keeps h fun _ => atTimer_keeps (compFails_keeps .startFail) ..
  | hallEdge => exact running_keeps h fun _ => hallEdge_keeps ..
  | hallCodeInvalid => exact running_keeps h fun _ => hallInvalid_keeps ..
  | minimumRunExpiry => exact running_keeps h fun _ => atTimer_keeps minRunExpiry_keeps ..
  | failureCounterResetTimer => exact running_keeps h fun _ => atTimer_keeps failureReset_keeps ..
  | raiseTimerExpiry => exact running_keeps h fun _ => atTimer_keeps raiseExpiry_keeps ..
  | stoppingCoastEnd => exact running_keeps h fun _ => atTimer_keeps coastEnd_keeps ..
  | stallTimerExpiry => exact running_keeps h fun _ => atTimer_keeps (compFails_keeps .stall) ..
  | backoffExpiry => exact running_keeps h fun _ => atTimer_keeps backoffExpiry_keeps ..
  | blockedTimerExpiry => exact running_keeps h fun _ => atTimer_keeps blockedExpiry_keeps ..
  | carrierValley => exact next_keeps h (putCmp_keeps ⟨rfl, rfl, rfl⟩)
  | deadTimeExpiry => exact running_keeps h fun _ => deadTimeOver_keeps ..
  -- the Rest-Time Monitor and the Night Plan
  | restTick => exact running_keeps h restTick_keeps
  | classTake => exact running_keeps h classTake_keeps
  | restCrossing => exact running_keeps h restCrossing_keeps
  | planSet => exact running_keeps h fun _ => serve_keeps planSetRequest_keeps ..
  | planCancel => exact running_keeps h fun _ => serve_keeps planCancelRequest_keeps ..
  | quietSet => exact running_keeps h fun _ => serve_keeps quietSetRequest_keeps ..
  | leadRecompute => exact next_keeps h ((leadRecompute_keeps _).after (.of_frame ⟨rfl, rfl, rfl, rfl⟩))
  | prewarmTimeReached => exact next_keeps h ((prewarmTest_keeps _).after (.of_frame ⟨rfl, rfl, rfl, rfl⟩))
  | wake => exact next_keeps h ((wakeTest_keeps _).after (.of_frame ⟨rfl, rfl, rfl, rfl⟩))

/-! ## A step -/

/-- A step is a command on a state with the same part, or one millisecond. -/
theorem step_cases {s t : State} (h : step s = .next t) :
    (∃ c u, u.dev = s.dev ∧ exec c u = .next t) ∨ t = { s with dev := tickMs s.dev } := by
  unfold step at h
  split at h
  · next c rest _ => exact .inl ⟨c, { s with pending := rest }, rfl, h⟩
  · split at h
    · exact .inl ⟨_, _, rfl, h⟩
    · cases h; exact .inr rfl

/-- Every step keeps the bridge and the fuel train safe. -/
theorem step_keeps {s t : State} (h : step s = .next t) : KeepsSafe s.dev t.dev := by
  obtain ⟨c, u, hu, hc⟩ | rfl := step_cases h
  · exact hu ▸ exec_keeps hc
  · exact .of_frame (by simp)

/-- R78: what a safe fuel train says of the GLOW output. -/
theorem glowGate_of_safe {d : Device} (h : fuelSafe d) (hg : glowGate d = true) :
    (d.htr.state = .glow ∨ d.htr.state = .ignite) ∧ d.bgt.allowance.state = .held .heater ∧ d.htr.latch = false ∧
      rawOf d 5 = false := by
  obtain ⟨-, -, -, hglow⟩ := h
  obtain ⟨⟨hs, ha⟩, hr⟩ : (d.htr.glowSince.isSome = true ∧ holds d .heater = true) ∧ gatesFree d = true := by
    simpa [glowGate] using hg
  obtain ⟨hraw, hl⟩ := (gatesFree_iff d).1 hr
  exact ⟨hglow (Option.isSome_iff_ne_none.1 hs), by simpa [holds] using ha, hl, hraw⟩

end Sys2Proof.Machine

namespace Sys2Proof.Proofs

open Sys2Proof Sys2Proof.Machine

/-- Settles O57: the bridge is safe after every step that finds it safe, command by command. -/
theorem bridgeStaysSafe : Obligations.BridgeStaysSafe := fun _ _ hs h => (step_keeps h).bridge hs

/-- Settles O58: the fuel train is safe after every step that finds it safe, and the GLOW output with it. -/
theorem fuelStaysSafe : Obligations.FuelStaysSafe := fun _ _ hs h =>
  have safe := (step_keeps h).fuel hs
  ⟨safe, glowGate_of_safe safe⟩

end Sys2Proof.Proofs
end

section
/-! PROOFS. The machine's step, the dial and the lookup in a table (R5, R16, R17). -/

namespace Sys2Proof.Machine

open Sys2Proof.Stated

/-! ## Parts that are the same -/

/-- Two parts with the same blocks are the same. -/
theorem Device.eq_of_blocks {d t : Device} (h : d.pins = t.pins ∧ d.factory = t.factory ∧ d.sns = t.sns ∧ d.vbl = t.vbl ∧
    d.chg = t.chg ∧ d.bgt = t.bgt ∧ d.htr = t.htr ∧ d.cmp = t.cmp ∧ d.lgt = t.lgt ∧ d.rtm = t.rtm ∧ d.npl = t.npl ∧
    d.lnk = t.lnk ∧ d.sched = t.sched) : d = t := by
  cases d; cases t
  simpa only [Device.mk.injEq] using h

/-! ## The dial (R16, R17) -/

/-- R16: the places of the cycle are those of the statements. -/
theorem cyclePlace_eq_place (a b : Bool) : cyclePlace a b = place (a, b) := by
  cases a <;> cases b <;> rfl

theorem place_lt (p : Bool × Bool) : place p < 4 := by
  obtain ⟨a, b⟩ := p; cases a <;> cases b <;> decide

/-- R16: a place of the cycle is that of one pair state. -/
theorem place_inj {p q : Bool × Bool} (h : place p = place q) : p = q := by
  obtain ⟨a, b⟩ := p; obtain ⟨x, y⟩ := q
  cases a <;> cases b <;> cases x <;> cases y <;> first | rfl | cases h

/-- R16: the part with a filtered pair state and a count. -/
def dialAt (a b : Bool) (n : Int) (d : Device) : Device :=
  { d with sns := { d.sns with dial := { d.sns.dial with a := a, b := b, count := n } } }

/-- R16: the dial's turn, by how far the pair state has moved along the cycle. -/
theorem turnDial_eq (a b : Bool) (d : Device) :
    turnDial a b d =
      if (place (a, b) + 4 - place (d.sns.dial.a, d.sns.dial.b)) % 4 = 0 then dialAt a b d.sns.dial.count d
      else if (place (a, b) + 4 - place (d.sns.dial.a, d.sns.dial.b)) % 4 = 2 then dialAt a b 0 d
      else
        let n := stepCount (decide ((place (a, b) + 4 - place (d.sns.dial.a, d.sns.dial.b)) % 4 = 1)) d.sns.dial.count
        if n = 4 then detent .plus (dialAt a b d.sns.dial.count d)
        else if n = -4 then detent .minus (dialAt a b d.sns.dial.count d)
        else dialAt a b n d := by
  simp only [← cyclePlace_eq_place]; rfl

/-- R16: the pair state that stands already leaves the part as it was. -/
theorem turnDial_same {a b : Bool} {d : Device} (h : place (a, b) = place (d.sns.dial.a, d.sns.dial.b)) :
    turnDial a b d = d := by
  obtain ⟨rfl, rfl⟩ := Prod.mk.inj (place_inj h)
  rw [turnDial_eq, if_pos (by simp)]; rfl

/-- R16: both lines together. -/
theorem turnDial_skip {a b : Bool} {d : Device} (h : place (a, b) = (place (d.sns.dial.a, d.sns.dial.b) + 2) % 4) :
    turnDial a b d = dialAt a b 0 d := by
  have := place_lt (d.sns.dial.a, d.sns.dial.b)
  have moved : (place (a, b) + 4 - place (d.sns.dial.a, d.sns.dial.b)) % 4 = 2 := by omega
  rw [turnDial_eq, moved]; rfl

/-- R16: a step forward, counted or the fourth. -/
theorem turnDial_forward {a b : Bool} {d : Device} (h : place (a, b) = (place (d.sns.dial.a, d.sns.dial.b) + 1) % 4) :
    turnDial a b d =
      let n := stepCount true d.sns.dial.count
      if n = 4 then detent .plus (dialAt a b d.sns.dial.count d)
      else if n = -4 then detent .minus (dialAt a b d.sns.dial.count d)
      else dialAt a b n d := by
  have := place_lt (d.sns.dial.a, d.sns.dial.b)
  have moved : (place (a, b) + 4 - place (d.sns.dial.a, d.sns.dial.b)) % 4 = 1 := by omega
  rw [turnDial_eq, moved]; rfl

/-- R16: a step backward, counted or the fourth. -/
theorem turnDial_backward {a b : Bool} {d : Device} (h : place (a, b) = (place (d.sns.dial.a, d.sns.dial.b) + 3) % 4) :
    turnDial a b d =
      let n := stepCount false d.sns.dial.count
      if n = 4 then detent .plus (dialAt a b d.sns.dial.count d)
      else if n = -4 then detent .minus (dialAt a b d.sns.dial.count d)
      else dialAt a b n d := by
  have := place_lt (d.sns.dial.a, d.sns.dial.b)
  have moved : (place (a, b) + 4 - place (d.sns.dial.a, d.sns.dial.b)) % 4 = 3 := by omega
  rw [turnDial_eq, moved]; rfl

/-- R16: the count after a step forward; it reaches 4 from 3 alone, and never -4. -/
theorem stepCount_forward (c : Int) :
    stepCount true c = (if c < 0 then 1 else c + 1) ∧ (stepCount true c = 4 ↔ c = 3) ∧ stepCount true c ≠ -4 := by
  have h : stepCount true c = if c < 0 then 1 else c + 1 := rfl
  refine ⟨h, ?_, ?_⟩ <;> rw [h] <;> split <;> omega

/-- R16: the count after a step backward; it reaches -4 from -3 alone, and never 4. -/
theorem stepCount_backward (c : Int) :
    stepCount false c = (if 0 < c then -1 else c - 1) ∧ (stepCount false c = -4 ↔ c = -3) ∧ stepCount false c ≠ 4 := by
  have h : stepCount false c = if 0 < c then -1 else c - 1 := rfl
  refine ⟨h, ?_, ?_⟩ <;> rw [h] <;> split <;> omega

/-- R17: the marks of a detent are those of the statements. -/
theorem detentMarks_eq (last : Option LastDetent) (dir : DialDir) (ms : Nat) :
    detentMarks last dir ms = marksAfter last dir ms := by
  cases last with
  | none => rfl
  | some l =>
    unfold detentMarks marksAfter
    by_cases h : l.dir = dir <;> by_cases m : ms < l.time + 40 <;> simp [h, m]

/-- R17: a detent becomes the last one, and reaches the lights. -/
theorem detent_eq (dir : DialDir) (d : Device) :
    detent dir d = lightsDetent dir (marksAfter d.sns.dial.last dir d.sns.ms).1
      { d with sns := { d.sns with dial := { d.sns.dial with
          count := 0
          last := some { dir := dir, time := d.sns.ms, multiplier := (marksAfter d.sns.dial.last dir d.sns.ms).1,
                         directionChange := (marksAfter d.sns.dial.last dir d.sns.ms).2 } } } } := by
  rw [← detentMarks_eq]; rfl

/-! ## The lookup in a table (R5) -/

/-- R5: the whole number nearest to `num / den`, a tie going away from zero. -/
theorem roundHalfAway_nearest (num : Int) {den : Nat} (h : 0 < den) :
    let r := roundHalfAway num den
    2 * (den : Int) * |r| ≤ 2 * |num| + den ∧ 2 * |num| + den < 2 * (den : Int) * (|r| + 1) ∧ (0 < r → 0 < num) ∧
      (r < 0 → num < 0) := by
  have hq := Nat.div_add_mod (2 * num.natAbs + den) (2 * den)
  have hr := Nat.mod_lt (2 * num.natAbs + den) (Nat.mul_pos two_pos h)
  have habs : |num| = (num.natAbs : Int) := Int.abs_eq_natAbs num
  set q := (2 * num.natAbs + den) / (2 * den) with hqdef
  have signed : roundHalfAway num den = if num < 0 then -(q : Int) else q := rfl
  have size : |roundHalfAway num den| = (q : Int) := by
    rw [signed]
    split <;> simp
  have low : 2 * (den : Int) * q ≤ 2 * (num.natAbs : Int) + den := by
    exact_mod_cast (by omega : 2 * den * q ≤ 2 * num.natAbs + den)
  have high : 2 * (num.natAbs : Int) + den < 2 * (den : Int) * (q + 1) := by
    exact_mod_cast (by rw [Nat.mul_add]; omega : 2 * num.natAbs + den < 2 * den * (q + 1))
  have zero : num = 0 → q = 0 := by
    rintro rfl
    exact hqdef.trans (Nat.div_eq_of_lt (by simp; omega))
  have pos : 0 ≤ (q : Int) := Int.natCast_nonneg q
  intro r
  refine ⟨size ▸ habs ▸ low, size ▸ habs ▸ high, fun h => ?_, fun h => ?_⟩ <;> rw [show r = _ from signed] at h <;>
    split at h <;> omega

/-- R5: at or below the first code. -/
theorem tableLookup_first {p : Nat × Int} {rest : List (Nat × Int)} {raw : Nat} (h : raw ≤ p.1) :
    tableLookup (p :: rest) raw = p.2 := by
  cases rest <;> simp [tableLookup, h]

/-- R5: a point is passed over for the next one, where that is at or below the raw value. -/
theorem tableLookup_next {p q : Nat × Int} {rest : List (Nat × Int)} {raw : Nat} (h : p.1 < q.1) (hq : q.1 ≤ raw) :
    tableLookup (p :: q :: rest) raw = tableLookup (q :: rest) raw := by
  simp [tableLookup, show ¬raw ≤ p.1 by omega, show ¬raw < q.1 by omega]

/-- R5: the points before one at or below the raw value are passed over. -/
theorem tableLookup_skip {front rest : List (Nat × Int)} {p : Nat × Int} {raw : Nat}
    (hs : ((front ++ p :: rest).map (·.1)).Pairwise (· < ·)) (h : p.1 ≤ raw) :
    tableLookup (front ++ p :: rest) raw = tableLookup (p :: rest) raw := by
  induction front with
  | nil => rfl
  | cons q front ih =>
    obtain ⟨hq, hs⟩ := List.pairwise_cons.1 hs
    rw [← ih hs]
    cases front with
    | nil => exact tableLookup_next (hq _ (by simp)) h
    | cons r front =>
      have hr : r.1 < p.1 := (List.pairwise_cons.1 hs).1 _ (by simp)
      exact tableLookup_next (hq _ (by simp)) (by omega)

/-- R5: at a point's own code. -/
theorem tableLookup_at {front rest : List (Nat × Int)} {p : Nat × Int}
    (hs : ((front ++ p :: rest).map (·.1)).Pairwise (· < ·)) : tableLookup (front ++ p :: rest) p.1 = p.2 := by
  rw [tableLookup_skip hs le_rfl, tableLookup_first le_rfl]

/-- R5: between two adjacent points. -/
theorem tableLookup_between {front rest : List (Nat × Int)} {p q : Nat × Int} {raw : Nat}
    (hs : ((front ++ p :: q :: rest).map (·.1)).Pairwise (· < ·)) (hp : p.1 < raw) (hq : raw < q.1) :
    tableLookup (front ++ p :: q :: rest) raw =
      roundHalfAway (p.2 * ((q.1 : Int) - p.1) + ((raw : Int) - p.1) * (q.2 - p.2)) (q.1 - p.1) := by
  rw [tableLookup_skip hs hp.le]
  simp [tableLookup, show ¬raw ≤ p.1 by omega, hq]

/-! ## A step's first due event -/

/-- Log 2: the first of the events that is due, behind others that are not. -/
theorem dueEvent_eq_some {d : Device} {p r : List (Bool × Instr)} {c : Instr} (h : dueList d = p ++ (true, c) :: r)
    (hp : ∀ x ∈ p, x.1 = false) : dueEvent d = some c := by
  have none_before : p.find? (fun x => x.1) = none := List.find?_eq_none.2 fun x hx => by simp [hp x hx]
  simp [dueEvent, h, none_before]

/-- Log 2: nothing is due. -/
theorem dueEvent_eq_none {d : Device} (h : ∀ x ∈ dueList d, x.1 = false) : dueEvent d = none := by
  simpa [dueEvent, List.find?_eq_none] using h

/-- Log 2: the millisecond that follows is reached. -/
theorem reach_next (d : Device) : reach (d.sns.ms + 1) d = { d with sns := { d.sns with ms := d.sns.ms + 1 } } := by
  simp [reach]

/-- Log 2: with nothing waiting, the event that is due is taken. -/
theorem step_due {s : State} {c : Instr} (hs : s.pending = []) (h : dueEvent s.dev = some c) : step s = exec c s := by
  simp [step, hs, h]

/-- Log 2: with nothing waiting and nothing due, a millisecond passes. -/
theorem step_idle {s : State} (hs : s.pending = []) (h : dueEvent s.dev = none) :
    step s = .next { s with dev := tickMs s.dev } := by
  simp [step, hs, h]

/-- R16: one sample of a dial line: its level changes at the second sample in a row that differs. -/
theorem filterDial_eq (level differed raw : Bool) :
    filterDial level differed raw =
      (if differed = true ∧ raw ≠ level then raw else level, decide (differed = false ∧ raw ≠ level)) := by
  cases level <;> cases differed <;> cases raw <;> rfl

end Sys2Proof.Machine

namespace Sys2Proof.Proofs

open Sys2Proof Sys2Proof.Machine Sys2Proof.Stated

/-- Settles O1: a step reads the queue first, then the list of what may be due. -/
theorem stepRunsFrontCommandElseDueEvent : Obligations.StepRunsFrontCommandElseDueEvent := by
  refine ⟨fun c rest s h => by simp [step, h], fun s hs => ⟨fun p l hl hp c r h => ?_, fun h => ?_⟩⟩
  · exact step_due hs (dueEvent_eq_some (h ▸ hl) hp)
  · intro x level differs a b d
    have idle : step s = .next { s with dev := turnDial a b d } := by
      rw [step_idle hs (dueEvent_eq_none h)]
      simp only [tickMs, sampleDial, filterDial_eq, reach_next]
      rfl
    refine ⟨idle, fun ha hb => ?_⟩
    rw [idle, turnDial_same (by rw [ha, hb])]

/-- Settles O9, by the place of the raw value among the table's codes. -/
theorem tableLookupInterpolates : Obligations.TableLookupInterpolates := by
  intro table raw hs
  refine ⟨?_, ?_, ?_, ?_⟩
  · rintro p rest rfl h
    exact tableLookup_first h
  · rintro p front rfl h
    rw [tableLookup_skip hs h]; rfl
  · rintro p hp rfl
    obtain ⟨front, rest, rfl⟩ := List.append_of_mem hp
    exact tableLookup_at hs
  · rintro front p q rest rfl hp hq den num r
    have hden : den = ((q.1 - p.1 : Nat) : Int) := by omega
    have hr : r = roundHalfAway num (q.1 - p.1) := by
      rw [show num = p.2 * ((q.1 : Int) - p.1) + ((raw : Int) - p.1) * (q.2 - p.2) by ring]
      exact tableLookup_between hs hp hq
    rw [hr, hden]
    exact roundHalfAway_nearest num (by omega)

/-- Settles O12: a turn by its place in the cycle, and a detent by what it leaves of the part. -/
theorem dialCountsDetents : Obligations.DialCountsDetents := by
  refine ⟨fun a b d => ?_, fun a b s => rfl, fun s dir => ⟨_, rfl, rfl, ?_, ?_⟩⟩
  · intro x c here counted t
    refine ⟨turnDial_same, turnDial_skip, fun h hc => ?_, fun h hc => ?_, ?_⟩
    · obtain ⟨n, plus, minus⟩ := stepCount_forward c
      exact (turnDial_forward h).trans ((if_neg (plus.not.2 hc)).trans ((if_neg minus).trans (by rw [n]; rfl)))
    · obtain ⟨n, minus, plus⟩ := stepCount_backward c
      exact (turnDial_backward h).trans ((if_neg plus).trans ((if_neg (minus.not.2 hc)).trans (by rw [n]; rfl)))
    · rintro dir p (⟨h, hc, rfl⟩ | ⟨h, hc, rfl⟩)
      · obtain ⟨-, plus, -⟩ := stepCount_forward c
        have fourth : t = detent .plus (counted c) := (turnDial_forward h).trans (if_pos (plus.2 hc))
        exact fourth ▸ rfl
      · obtain ⟨-, minus, plus⟩ := stepCount_backward c
        have fourth : t = detent .minus (counted c) :=
          (turnDial_backward h).trans ((if_neg plus).trans (if_pos (minus.2 hc)))
        exact fourth ▸ rfl
  · rw [detent_eq]
    simp
  · rw [detent_eq]
    exact Device.eq_of_blocks (by simp)

end Sys2Proof.Proofs
end

section
/-! PROOFS. The answering of a request (R185, R186, R189) and the fields of bodies (R188), in the words of the statements. -/

namespace Sys2Proof.Machine

open Sys2Proof.Stated

/-! ## The frames of a reply (R189) -/

/-- R189: the bodies of a run begin with the code, hold 60 bytes but for the last, and carry the contents. -/
theorem runBodies_carry (code : Byte) {fuel : Nat} {contents : List Byte} (h : contents.length < fuel) :
    runBodies code fuel contents ≠ [] ∧ (∀ b ∈ runBodies code fuel contents, b.head? = some code) ∧
      (runBodies code fuel contents).flatMap List.tail = contents ∧
      (∀ b ∈ (runBodies code fuel contents).dropLast, b.length = 60) ∧
      (∀ b, (runBodies code fuel contents).getLast? = some b → b.length < 60) := by
  induction fuel generalizing contents with
  | zero => cases h
  | succ fuel ih =>
    unfold runBodies
    split
    · next short => exact ⟨by simp, by simp, by simp, by simp, by simp; omega⟩
    · next long =>
      obtain ⟨some_, heads, carried, full, last⟩ := ih (contents := contents.drop 59) (by simp; omega)
      refine ⟨by simp, by simpa using heads, by simp [carried], ?_, ?_⟩
      · rw [List.dropLast_cons_of_ne_nil some_]
        simpa using ⟨by omega, full⟩
      · rw [List.getLast?_cons_of_ne_nil some_]
        exact last

/-- R189: the frames of a reply are the run of its code and the bytes that follow. -/
theorem replyFrames_isRun (kind tag : Byte) {r : Result} {contents : List Byte} {code : Byte} {rest : List Byte}
    (h : r.bytes ++ contents = code :: rest) :
    replyFrames kind tag r contents ≠ [] ∧ isRun kind tag code rest (replyFrames kind tag r contents) := by
  obtain ⟨some_, heads, carried, full, last⟩ := runBodies_carry code (Nat.lt_succ_of_lt (Nat.lt_succ_self rest.length))
  simp only [replyFrames, h, List.headD_cons, List.tail_cons, List.length_cons]
  refine ⟨by simpa using some_, by simpa using heads, by simpa [List.flatMap_map] using carried, ?_, ?_⟩
  · rw [← List.map_dropLast]
    intro f hf
    obtain ⟨b, hb, rfl⟩ := List.mem_map.1 hf
    exact full b hb
  · rw [List.getLast?_map]
    intro f hf
    obtain ⟨b, hb, rfl⟩ := Option.map_eq_some_iff.1 hf
    exact last b hb

/-! ## A request that is served at once (R185, R186) -/

/-- Log 6: the time of a frame in the words of the statements. -/
theorem frameMs_eq (f : Frame) : frameMs f = airtime f := by
  unfold frameMs ceilDiv airtime
  rw [Nat.mul_comm]

theorem acceptFrame_eq (f : Frame) (d : Device) : acceptFrame f d = { d with lnk := heard d f } := rfl

/-- R185: an outcome whose owner has left the link as heard, but for its notices and settings, is answered. -/
theorem putReply_answers {d : Device} {a : Answered} {kind tag replyKind code : Byte} {body contents : List Byte}
    (restart : Bool)
    (link : a.dev.lnk = { heard d { kind := kind, tag := tag, body := body } with
      notices := a.dev.lnk.notices
      enables := a.dev.lnk.enables
      idleTime := a.dev.lnk.idleTime
      idle := some (d.sns.ms + a.dev.lnk.idleTime) })
    (time : a.dev.sns.ms = d.sns.ms) (bytes : a.result.bytes ++ a.contents = code :: contents) :
    Answers d (putReply replyKind tag restart a) kind tag body replyKind code contents
        (restart && decide (a.result = .ok)) ∧
      putReply replyKind tag restart a = { a.dev with lnk := (putReply replyKind tag restart a).lnk } ∧
      (putReply replyKind tag restart a).lnk.notices = a.dev.lnk.notices ∧
      (putReply replyKind tag restart a).lnk.enables = a.dev.lnk.enables ∧
      (putReply replyKind tag restart a).lnk.idleTime = a.dev.lnk.idleTime := by
  obtain ⟨some_, run⟩ := replyFrames_isRun replyKind tag bytes
  obtain ⟨first, rest, frames⟩ := List.exists_cons_of_ne_nil some_
  have tx : a.dev.lnk.tx = d.lnk.tx := by rw [link]; rfl
  have sendEnd : a.dev.lnk.sendEnd = d.lnk.sendEnd := by rw [link]; rfl
  unfold Answers
  by_cases idle : d.lnk.tx = .idle
  · have sent : putReply replyKind tag restart a = { a.dev with lnk := { a.dev.lnk with
        out := some { rest := rest, restart := restart && decide (a.result = .ok) }
        tx := .reply first
        sendEnd := d.sns.ms + airtime first } } := by
      simp [putReply, sendReply, frames, tx, idle, frameMs_eq, time]
    rw [sent]
    refine ⟨⟨first, rest, frames ▸ run, ?_⟩, rfl, rfl, rfl, rfl⟩
    dsimp only
    rw [link]
    simp [idle]
  · have waits : putReply replyKind tag restart a = { a.dev with lnk := { a.dev.lnk with
        out := some { rest := first :: rest, restart := restart && decide (a.result = .ok) } } } := by
      unfold putReply sendReply
      rw [frames]
      split
      · next h _ => exact absurd (tx.symm.trans h) idle
      · rfl
    rw [waits]
    refine ⟨⟨first, rest, frames ▸ run, ?_⟩, rfl, rfl, rfl, rfl⟩
    dsimp only
    rw [link]
    simp [idle, heard]

/-- What a request's owner makes of the part that has heard it, and the reply. -/
theorem serve_replied {d : Device} (free : noneInHand d) {kind tag code : Byte} {body contents : List Byte}
    {owner : List Byte → Device → Answered} {a : Answered}
    (ha : owner body { d with lnk := heard d { kind := kind, tag := tag, body := body } } = a)
    (link : a.dev.lnk = { heard d { kind := kind, tag := tag, body := body } with notices := a.dev.lnk.notices })
    (time : a.dev.sns.ms = d.sns.ms) (bytes : a.result.bytes ++ a.contents = code :: contents) :
    Replied d (serve kind tag body owner d) kind tag body code contents ∧
      serve kind tag body owner d = { a.dev with lnk := (serve kind tag body owner d).lnk } ∧
      (serve kind tag body owner d).lnk.notices = a.dev.lnk.notices := by
  have idle : a.dev.lnk.idleTime = d.lnk.idleTime := by rw [link]; rfl
  have enables : a.dev.lnk.enables = d.lnk.enables := by rw [link]; rfl
  obtain ⟨answers, same, notices, e, i⟩ := putReply_answers (a := a) (code := code) (contents := contents) false
    (replyKind := kind + 0x80) (kind := kind) (tag := tag) (body := body) (d := d)
    (by rw [idle, enables]; exact link) time bytes
  rw [serve_free free.1 free.2, acceptFrame_eq, ha]
  exact ⟨⟨answers, e.trans enables, i.trans idle⟩, same, notices⟩

/-- R186: a refusal answers with its code and changes nothing but the link. -/
theorem serve_refused {d : Device} (free : noneInHand d) {kind tag code : Byte} {body contents : List Byte}
    {owner : List Byte → Device → Answered} {r : Result}
    (ha : owner body { d with lnk := heard d { kind := kind, tag := tag, body := body } } =
      refuse r { d with lnk := heard d { kind := kind, tag := tag, body := body } })
    (bytes : r.bytes = code :: contents) :
    RepliedQuietly d (serve kind tag body owner d) kind tag body code contents ∧
      serve kind tag body owner d = { d with lnk := (serve kind tag body owner d).lnk } := by
  obtain ⟨replied, same, notices⟩ := serve_replied free ha rfl rfl (by simpa [refuse] using bytes)
  exact ⟨⟨replied, notices⟩, same⟩

/-- R186: a request taken is answered OK, with the contents its owner gives. -/
theorem serve_taken {d : Device} (free : noneInHand d) {kind tag : Byte} {body contents : List Byte}
    {owner : List Byte → Device → Answered} {t : Device}
    (ha : owner body { d with lnk := heard d { kind := kind, tag := tag, body := body } } = taken t contents)
    (link : t.lnk = { heard d { kind := kind, tag := tag, body := body } with notices := t.lnk.notices })
    (time : t.sns.ms = d.sns.ms) :
    Replied d (serve kind tag body owner d) kind tag body 0x00 contents ∧
      serve kind tag body owner d = { t with lnk := (serve kind tag body owner d).lnk } ∧
      (serve kind tag body owner d).lnk.notices = t.lnk.notices :=
  serve_replied free ha link time rfl

/-- A read request whose body is empty, answered with its contents. -/
theorem reads_of_readOnly {c : Instr} {s : State} {kind tag : Byte} {f : Device → List Byte} {P : List Byte → Prop}
    (hc : exec c s = running s (serve kind tag [] (readOnly f))) (free : noneInHand s.dev)
    (h : P (f { s.dev with lnk := heard s.dev { kind := kind, tag := tag, body := [] } })) : Reads c s kind tag [] P := by
  obtain ⟨replied, same, notices⟩ :=
    serve_taken (kind := kind) (tag := tag) free (owner := readOnly f) (if_pos rfl) rfl rfl
  exact ⟨_, hc, rfl, _, ⟨replied, notices⟩, h, same⟩

/-! ## Fields (R188) -/

theorem u8_eq (n : Nat) : u8 n = byte n := rfl
theorem u16_eq (n : Nat) : u16 n = le2 n := rfl
theorem u32_eq (n : Nat) : u32 n = le4 n := by simp [u32, le4, le2, Nat.div_div_eq_div_mul]
theorem i16_eq (x : Int) : i16 x = signed2 x := by simp [i16, signed2, u16_eq, BitVec.toNat_ofInt]
theorem i32_eq (x : Int) : i32 x = le4 (BitVec.ofInt 32 x).toNat := by simp [i32, u32_eq, BitVec.toNat_ofInt]
theorem mark8_eq (b : Bool) : mark8 b = yes b := by cases b <;> rfl
theorem opt8_eq (x : Option Nat) : opt8 x = opt1 x := by cases x <;> rfl
theorem opt16_eq (x : Option Nat) : opt16 x = opt2 x := by cases x <;> rfl
theorem opt32_eq (x : Option Nat) : opt32 x = opt4 x := by cases x <;> simp [opt32, opt4, u32_eq]
theorem counted_eq {α : Type} (item : α → List Byte) (l : List α) : counted item l = listed item l := rfl
theorem remaining_eq (d : Device) (timer : Option Nat) : opt32 (remaining d timer) = msLeft d timer := opt32_eq _
theorem wallField_eq (d : Device) :
    wallField d = if d.sns.clockSet then le4 ((d.sns.uptime + d.sns.clockOffset) % 2 ^ 32) else [] := by
  simp [wallField, wallOf, u32_eq]
theorem optTimeField_eq (d : Device) (x : Option Nat) : optTimeField d x = timed d x := by
  simp [optTimeField, timed, opt32_eq]; rfl
theorem timeField_eq (d : Device) (x : Nat) : timeField d x = timed d (some x) := by
  simp [timeField, timed, u32_eq, opt4, wallOf]

end Sys2Proof.Machine
end

section
/-! PROOFS. The contents of the read requests and of the notices (R8, R34, R48, R72, R181, R188, R190, R194). -/

namespace Sys2Proof.Machine

open Sys2Proof.Stated

theorem heard_awake (d : Device) (f : Frame) : (heard d f).awake = true := rfl
theorem heard_notices (d : Device) (f : Frame) : (heard d f).notices = d.lnk.notices := rfl

/-- R188: the level in force, none for 0. -/
theorem levelField_eq (d : Device) : levelField d = byte (if d.htr.level = 0 then 0xFF else d.htr.level) := by
  unfold levelField
  split <;> rfl

/-- R8: the value of a channel. -/
theorem valueField_eq (c : AnalogChannel) (x : Int) : valueField c x = if c = .batv then le2 x.toNat else signed2 x := by
  simp only [valueField, u16_eq, i16_eq]

theorem holderField_eq (d : Device) :
    holderField d = (match d.bgt.allowance.state with
      | .held l => byte l.code
      | _ => [0xFF]) := by
  unfold holderField
  cases d.bgt.allowance.state <;> rfl

/-- R53: the code of an entry's state. -/
theorem entryStatus_code (e : Entry) :
    e.status.code = if e.granted = e.requested then 0 else if e.granted = 0 ∧ 0 < e.requested then 2 else 1 := by
  unfold Entry.status
  split_ifs <;> rfl

/-- R72: an entry's fields. -/
theorem entryFields_eq (d : Device) : entryFields d = fun l =>
    let e := d.bgt.table.get l
    byte l.code ++ opt1 e.rank ++ listed le2 e.steps ++ byte e.requested ++ byte e.floor ++ byte e.granted ++
      byte (if e.granted = e.requested then 0 else if e.granted = 0 ∧ 0 < e.requested then 2 else 1) ++ le4 e.since := by
  funext l
  simp only [entryFields, entryOf, entryStatus_code, u8_eq, u32_eq, opt8_eq, counted_eq]
  rfl

theorem prewarmResult_field (r : PrewarmResult) :
    r.field = byte (match r with
      | .none => 0
      | .taken => 1
      | .refused r => r.code) := by
  cases r <;> rfl

/-- R68: the relay's mark. -/
theorem relayClosed_eq (d : Device) : relayClosed d = decide (d.bgt.outlet.state = .closing ∨ d.bgt.outlet.state = .on) := by
  simp [relayClosed]

/-- R34: a signal bound to a slot. -/
theorem boundTo_eq (n : Nat) (r : SignalRec) : boundTo n r = r.binding.any fun b => decide (b.slot = n) := by
  unfold boundTo
  cases r.binding <;> rfl

/-- R34: the slot that a list holds at a place. -/
theorem slotOf_eq {d : Device} {n : Nat} {v : Slot} (h : d.vbl.slots[n]? = some v) : slotOf d n = v := by
  simp [slotOf, h]

theorem frameFormat_code (x : FrameFormat) : FrameFormat.code x = if x = .standard then 0 else 1 := by cases x <;> rfl

/-- R34: an acceptance slot's record. -/
theorem slotRecord_eq {d : Device} {n : Nat} {v : Slot} (h : d.vbl.slots[n]? = some v) :
    slotRecord d n =
      yes v.enabled ++ byte (if v.format = .standard then 0 else 1) ++ le4 v.ident ++
        le4 (if n < 10 then d.vbl.mask else v.ownMask) ++ le2 v.limit ++ byte v.status.code ++
        listed (fun x : Byte => [x]) v.data ++ le2 (min 65535 (d.sns.ms - v.arrival)) ++
        listed (fun g : Signal => byte g.code)
          (allSignals.filter fun g => (d.vbl.signals.get g).binding.any fun b => decide (b.slot = n)) := by
  simp only [slotRecord, maskOf, slotOf_eq h, boundTo_eq, frameFormat_code, sat16, u8_eq, u16_eq, u32_eq, mark8_eq, counted_eq]

/-- R34: READ_VEHICLE of a part up to 12 is taken. -/
theorem readVehicleRequest_part (d : Device) {part : Byte} (h : part.toNat ≤ 12) :
    readVehicleRequest [part] d = taken d (if part = 0 then vehicleSummary d else slotRecord d (part.toNat - 1)) := by
  have hb : byteAt [part] 0 = part.toNat := rfl
  have hz : part.toNat = 0 ↔ part = 0 := ⟨fun h => BitVec.eq_of_toNat_eq h, fun h => h ▸ rfl⟩
  unfold readVehicleRequest
  rw [if_neg (by simp), hb, if_neg (by omega)]
  by_cases h0 : part = 0
  · rw [if_pos (hz.2 h0), if_pos h0]
  · rw [if_neg (hz.not.2 h0), if_neg h0]

theorem readVehicleRequest_refused (d : Device) {part : Byte} (h : 12 < part.toNat) :
    readVehicleRequest [part] d = refuse .badValue d := by
  unfold readVehicleRequest
  rw [if_neg (by simp), if_pos (by exact h)]

/-! ## Sets of codes as masks (R188) -/

/-- The bits of a mask are the codes gathered. -/
theorem maskOfCodes_testBit (codes : List Nat) (m k : Nat) :
    (codes.foldl (fun m n => m ||| (1 <<< n)) m).testBit k = (m.testBit k || decide (k ∈ codes)) := by
  induction codes generalizing m with
  | nil => simp
  | cons n rest ih =>
    have bit : (1 <<< n : Nat).testBit k = decide (k = n) := by
      rw [Nat.one_shiftLeft, Nat.testBit_two_pow]
      exact decide_eq_decide.2 eq_comm
    rw [List.foldl_cons, ih, Nat.testBit_or, bit]
    by_cases hk : k = n <;> simp [hk]

/-- R188: a set whose codes are places below 16 of a list travels as a mask of those places. -/
theorem mask16_places {α : Type} {code : α → Nat} {places : List α} (held : List α)
    (place_of : ∀ k c, places[k]? = some c ↔ code c = k) (few : places.length ≤ 16) :
    ∃ mask, mask < 65536 ∧ (∀ k, mask.testBit k = true ↔ ∃ c ∈ held, places[k]? = some c) ∧
      mask16 (held.map code) = le2 mask := by
  refine ⟨_, Nat.lt_pow_two_of_testBit (n := 16) _ fun k hk => ?_, fun k => ?_, rfl⟩
  · have high : ∀ c ∈ held, code c ≠ k := fun c _ h => by
      have := (List.getElem?_eq_some_iff.1 ((place_of k c).2 h)).1
      omega
    rw [maskOfCodes_testBit]
    simpa using high
  · rw [maskOfCodes_testBit]
    simp [place_of]

theorem chargeCause_place (k : Nat) (c : ChargeCause) :
    [ChargeCause.set, .capacity, .grade, .full][k]? = some c ↔ c.code = k := by
  rcases k with _ | _ | _ | _ | k <;> cases c <;> simp [ChargeCause.code]

theorem restCause_place (k : Nat) (c : RestCause) : [RestCause.cls, .brk, .day][k]? = some c ↔ c.code = k := by
  rcases k with _ | _ | _ | k <;> cases c <;> simp [RestCause.code]

theorem planCause_place (k : Nat) (c : PlanCause) :
    [PlanCause.set, .cancel, .wakeMoved, .prewarm, .prewarmFailed, .wake, .quiet][k]? = some c ↔ c.code = k := by
  rcases k with _ | _ | _ | _ | _ | _ | _ | k <;> cases c <;> simp [PlanCause.code]

/-! ## The snapshots of the notices (R190) -/

/-- R134: a channel whose fade has run out is ended. -/
theorem settled_eq_rested (c : LightChannel) (ms : Nat) : c.settled ms = rested ms c := by
  unfold LightChannel.settled LightChannel.ended rested
  by_cases run : c.fading = true ∧ c.fadeAt + c.fadeMs ≤ ms
  · by_cases dark : c.target = 0 <;> simp [run, dark]
  · simp [run]

/-- R134: the lights with every fade that has run out ended. -/
theorem settleLights_eq (d : Device) :
    settleLights d = { d with lgt := { d.lgt with channels := d.lgt.channels.map (rested d.sns.ms) } } := by
  simp only [settleLights, settled_eq_rested]
  rfl

/-- R157: the run of rest in the words of the statements. -/
theorem restRun_eq (d : Device) : restRun d = restRunOf d.rtm d.sns.uptime := by
  unfold restRun restRunOf
  split
  · cases d.rtm.settling <;> rfl
  · rfl

/-- R174, R188: the pre-warm time, the wake less the lead. -/
theorem prewarmTime_field (d : Device) :
    opt4 (prewarmTime d) = (match d.npl.wake with
      | none => List.replicate 4 0xFF
      | some w => le4 (BitVec.ofInt 32 ((w : Int) - d.npl.lead)).toNat) := by
  unfold prewarmTime
  cases d.npl.wake with
  | none => exact (by decide : opt4 none = List.replicate 4 0xFF)
  | some w => exact (u32_eq _).symm.trans (i32_eq _)

/-- R190: the cause of HEATER_STATE is one byte, which codes a refusal and a cooldown. -/
theorem heaterCause_field (x : HeaterCause) : ∃ cause : Byte,
    (∀ r, x = .refusal r → cause = BitVec.ofNat 8 r.code) ∧ (∀ c, x = .cooling c → cause = BitVec.ofNat 8 c.code) ∧
      x.field = [cause] := by
  cases x with
  | none => exact ⟨_, nofun, nofun, rfl⟩
  | refusal r => exact ⟨_, fun _ h => by cases h; rfl, nofun, rfl⟩
  | cooling c => exact ⟨_, nofun, fun _ h => by cases h; rfl, rfl⟩
  | flameRelight => exact ⟨_, nofun, nofun, rfl⟩

end Sys2Proof.Machine

namespace Sys2Proof.Proofs

open Sys2Proof Sys2Proof.Machine Sys2Proof.Stated

/-- Settles O51, request by request, from the contents each owner lays out. -/
theorem readsReportLinkAndSupply : Obligations.ReadsReportLinkAndSupply := by
  intro s tag free d signals signed4 wall
  refine ⟨?_, ?_, ?_, fun part h => ?_, fun part h => ?_, ?_, ?_, ?_⟩
  · refine reads_of_readOnly (f := identifyContents) rfl free ?_
    unfold identifyContents
    simp only [u8_eq, u16_eq, u32_eq]
    rfl
  · refine reads_of_readOnly (f := statusContents) rfl free ?_
    unfold statusContents
    simp only [clockField, wallField_eq, levelField_eq, u8_eq, u16_eq, u32_eq, mark8_eq, counted_eq,
      heard_awake, heard_notices, reduceIte]
    rfl
  · refine reads_of_readOnly (f := sensorContents) rfl free ?_
    unfold sensorContents
    simp only [clockField, wallField_eq, valueField_eq, u8_eq, u16_eq, u32_eq, mark8_eq, List.append_assoc]
    rfl
  · obtain ⟨replied, same, notices⟩ := serve_taken free (kind := 0x13) (tag := tag)
      (readVehicleRequest_part { d with lnk := heard d { kind := 0x13, tag := tag, body := [part] } } h) rfl rfl
    refine ⟨_, rfl, rfl, _, ⟨replied, notices⟩, ?_, same⟩
    by_cases h0 : part = 0
    · simp only [if_pos h0, vehicleSummary, u8_eq, u16_eq, u32_eq, i32_eq, mark8_eq]
      rfl
    · simp only [if_neg h0]
      intro v hv
      exact slotRecord_eq hv
  · obtain ⟨replied, same⟩ := serve_refused free (kind := 0x13) (tag := tag)
      (readVehicleRequest_refused { d with lnk := heard d { kind := 0x13, tag := tag, body := [part] } } h) rfl
    exact ⟨_, rfl, rfl, replied, same⟩
  · refine reads_of_readOnly (f := chargeContents) rfl free ?_
    unfold chargeContents
    simp only [u8_eq, u16_eq, u32_eq, i16_eq, i32_eq, mark8_eq, opt32_eq]
    rfl
  · refine reads_of_readOnly (f := budgetContents) rfl free ?_
    unfold budgetContents
    simp only [entryFields_eq, holderField_eq, remaining_eq, relayClosed_eq, u8_eq, u16_eq,
      u32_eq, mark8_eq, counted_eq]
    rfl
  · refine reads_of_readOnly (f := planContents) rfl free ?_
    unfold planContents
    simp only [planFields, prewarmResult_field, optTimeField_eq, u8_eq, u16_eq, mark8_eq, List.append_assoc]
    rfl

/-- Settles O53, notice by notice. -/
theorem noticesCarrySnapshots : Obligations.NoticesCarrySnapshots := by
  intro n d body signed4 a channels lines
  refine ⟨fun h => ?_, fun h => ?_, fun h => ?_, fun h => ?_, fun h => ?_, fun h => ?_, fun h => ?_, fun h => ?_,
    fun h => ?_, fun h => ?_, fun h => ?_, fun h => ?_, fun h => ?_, fun h => ?_⟩ <;>
    simp only [body, snapshot, h]
  case refine_1 =>
    simp only [restartedBody, clockField, u32_eq, mark8_eq]
  case refine_2 =>
    simp only [clockNeededBody, clockField, u32_eq, mark8_eq]
  case refine_3 =>
    simp only [sensorFaultBody, valueField_eq, u8_eq]
    rfl
  case refine_4 =>
    simp only [inputChangeBody, counted_eq, listed, u8_eq, mark8_eq]
    rfl
  case refine_5 =>
    simp only [busStateBody, u8_eq, u16_eq]
    rfl
  case refine_6 =>
    obtain ⟨mask, small, bits, sent⟩ := mask16_places d.chg.causes chargeCause_place (by decide)
    refine ⟨mask, small, bits, ?_⟩
    simp only [chargeStateBody, sent, u8_eq, u16_eq, u32_eq, i16_eq, i32_eq, mark8_eq, opt32_eq]
    rfl
  case refine_7 =>
    simp only [budgetStateBody, holderField_eq, entryStatus_code, u8_eq, u16_eq, u32_eq, mark8_eq]
    rfl
  case refine_8 =>
    obtain ⟨cause, refusal, cooling, sent⟩ := heaterCause_field d.htr.cause
    refine ⟨cause, refusal, cooling, ?_⟩
    simp only [heaterStateBody, sent, levelField_eq, rpmNow, u8_eq, u16_eq, u32_eq, i16_eq, mark8_eq]
    rfl
  case refine_9 =>
    simp only [heaterFaultBody]
    cases d.htr.faults.getLast? with
    | none => rfl
    | some f => simp only [faultField, u8_eq, u16_eq, u32_eq, i16_eq]
  case refine_10 =>
    simp only [fridgeStateBody, u8_eq, u16_eq, u32_eq, i16_eq, mark8_eq, opt8_eq, opt32_eq, List.append_assoc]
    cases d.cmp.lastFailure <;> cases d.cmp.demand <;> rfl
  case refine_11 =>
    simp only [lightStateBody, settleLights_eq, u8_eq, u16_eq, mark8_eq, List.append_assoc]
    rfl
  case refine_12 =>
    obtain ⟨mask, small, bits, sent⟩ := mask16_places d.rtm.causes restCause_place (by decide)
    refine ⟨mask, small, bits, ?_⟩
    simp only [restStateBody, sent, restRun_eq, u8_eq, u16_eq, u32_eq, opt32_eq]
  case refine_13 =>
    simp only [restWarningBody, warningFields, u8_eq, u16_eq, u32_eq]
    rfl
  case refine_14 =>
    obtain ⟨mask, small, bits, sent⟩ := mask16_places d.npl.causes planCause_place (by decide)
    refine ⟨mask, small, bits, ?_⟩
    unfold planStateBody planFields
    simp only [sent, prewarmResult_field, prewarmTime_field, u8_eq, u16_eq, mark8_eq, opt32_eq, List.append_assoc]
    rfl

end Sys2Proof.Proofs
end

section
/-! PROOFS. The second boundary, the clock and the sensor tables (R6, R18, R19, R32). -/

namespace Sys2Proof.Machine

open Sys2Proof.Stated

/-! ## Fields read back (R188) -/

/-- R188: a number below 2^16 is what its two bytes say. -/
theorem le2_read {n : Nat} (h : n < 65536) :
    (BitVec.ofNat 8 n).toNat + 256 * (BitVec.ofNat 8 (n / 256)).toNat = n := by
  simp only [BitVec.toNat_ofNat]
  omega

/-- A byte of an item of four, behind what stands before the items. -/
theorem items_getD {α : Type} (item : α → List Byte) (four : ∀ p, (item p).length = 4) (l : List α) (front : List Byte)
    {n j : Nat} (hn : n < l.length) (hj : j < 4) :
    (front ++ l.flatMap item).getD (front.length + 4 * n + j) 0 = (item l[n]).getD j 0 := by
  induction l generalizing front n with
  | nil => cases hn
  | cons p rest ih =>
    have hp := four p
    rw [List.flatMap_cons, ← List.append_assoc]
    cases n with
    | zero =>
      simp only [List.getD_eq_getElem?_getD]
      rw [List.getElem?_append_left (by simp; omega), List.getElem?_append_right (by omega)]
      simp
    | succ n =>
      have h := ih (front ++ item p) (n := n) (by simpa using hn)
      rw [List.length_append, hp] at h
      rw [show front.length + 4 * (n + 1) + j = front.length + 4 + 4 * n + j by omega, h]
      rfl

/-- R6: a point as SET_SENSOR_TABLE carries it. -/
def pointBytes (p : Nat × Int) : List Byte := u16 p.1 ++ i16 p.2

/-- R6: the nine points of a body are those it was made of. -/
theorem tablePairs_of_points (c : Byte) {table : List (Nat × Int)} (nine : table.length = 9)
    (small : ∀ p ∈ table, p.1 < 65536 ∧ -32768 ≤ p.2 ∧ p.2 < 32768) :
    tablePairs ([c] ++ table.flatMap pointBytes) = table := by
  refine List.ext_getElem (by simp [tablePairs, nine]) fun n h1 h2 => ?_
  obtain ⟨hx, lo, hi⟩ := small _ (List.getElem_mem h2)
  have at_ (j : Nat) (hj : j < 4) := items_getD pointBytes (fun _ => rfl) table [c] h2 hj
  have word1 : wordAt ([c] ++ table.flatMap pointBytes) (1 + 4 * n) = table[n].1 := by
    have b0 := at_ 0 (by omega)
    have b1 := at_ 1 (by omega)
    simp only [wordAt, byteAt]
    rw [show 1 + 4 * n + 1 = [c].length + 4 * n + 1 from rfl, b1, show 1 + 4 * n = [c].length + 4 * n + 0 from rfl, b0]
    exact le2_read hx
  have word2 : wordAt ([c] ++ table.flatMap pointBytes) (3 + 4 * n) = (table[n].2 % 65536).toNat := by
    have b2 := at_ 2 (by omega)
    have b3 := at_ 3 (by omega)
    simp only [wordAt, byteAt]
    rw [show 3 + 4 * n + 1 = [c].length + 4 * n + 3 by simp; omega, b3,
      show 3 + 4 * n = [c].length + 4 * n + 2 by simp; omega, b2]
    exact le2_read (by omega)
  simp only [tablePairs, List.getElem_map, List.getElem_range, word1, sWordAt, word2]
  refine Prod.ext rfl ?_
  dsimp only
  split <;> omega

/-! ## The tables of the temperature channels (R6) -/

/-- A list that rises strictly from each item to the next. -/
theorem risesStrictly_iff (l : List Nat) : risesStrictly l = true ↔ l.Pairwise (· < ·) := by
  rw [← List.isChain_iff_pairwise]
  induction l with
  | nil => simp [risesStrictly]
  | cons a l ih =>
    cases l with
    | nil => simp [risesStrictly]
    | cons b l => simp [risesStrictly, ih]

/-- R6: the check of a table of nine points. -/
theorem goodSensorTable_iff (c : AnalogChannel) {table : List (Nat × Int)} (nine : table.length = 9) :
    goodSensorTable (if c = .tExch then 2500 else 1250) table = true ↔ loadable c table := by
  simp [goodSensorTable, risesStrictly_iff, loadable, nine, withinInt]

/-- R6: a temperature channel is found by its code. -/
theorem temperatureChannel_find {c : AnalogChannel} (hv : c ≠ .batv) (hi : c ≠ .bati) :
    (temperatureChannels.find? fun x => decide (x.code = c.code)) = some c := by
  cases c <;> first | rfl | contradiction

/-- R6: a code of no temperature channel finds none. -/
theorem temperatureChannel_none {n : Nat} (h : ∀ c : AnalogChannel, c ≠ .batv → c ≠ .bati → c.code ≠ n) :
    (temperatureChannels.find? fun x => decide (x.code = n)) = none := by
  refine List.find?_eq_none.2 fun c hc => ?_
  have other : c ≠ .batv ∧ c ≠ .bati := by
    constructor <;> rintro rfl <;> revert hc <;> decide
  simpa using h c other.1 other.2

/-- R6: what a table put reads as. -/
theorem tableOf_put (t : SensorTables) {c : AnalogChannel} (hv : c ≠ .batv) (hi : c ≠ .bati) (table : List (Nat × Int)) :
    tableOf (t.put c table) c = table ∧ ∀ x, x ≠ c → tableOf (t.put c table) x = tableOf t x := by
  refine ⟨?_, fun x hx => ?_⟩
  · cases c <;> first | rfl | contradiction
  · cases c <;> cases x <;> first | rfl | contradiction

/-- R6: SET_SENSOR_TABLE of a body of 37 bytes, by its channel and its table. -/
theorem setSensorTableRequest_of_channel {b : List Byte} (hb : b.length = 37) {c : AnalogChannel} (hv : c ≠ .batv)
    (hi : c ≠ .bati) (hc : c.code = byteAt b 0) (d : Device) :
    (tableBusy d c → setSensorTableRequest b d = refuse .busy d) ∧
    (¬tableBusy d c → ¬loadable c (tablePairs b) → setSensorTableRequest b d = refuse .badValue d) ∧
    (¬tableBusy d c → loadable c (tablePairs b) →
      setSensorTableRequest b d = taken (putSns { d.sns with tables := d.sns.tables.put c (tablePairs b) } d) []) := by
  have good := goodSensorTable_iff c (table := tablePairs b) (by simp [tablePairs])
  unfold setSensorTableRequest
  rw [if_neg (by simpa using hb), ← hc, temperatureChannel_find hv hi]
  refine ⟨fun busy => if_pos busy, fun free bad => ?_, fun free ok => ?_⟩
  · refine (if_neg free).trans (if_pos ?_)
    simpa using good.not.2 bad
  · refine (if_neg free).trans (if_neg ?_)
    simpa using good.2 ok

/-- R6: SET_SENSOR_TABLE of no temperature channel. -/
theorem setSensorTableRequest_of_none {b : List Byte} (hb : b.length = 37)
    (h : ∀ c : AnalogChannel, c ≠ .batv → c ≠ .bati → c.code ≠ byteAt b 0) (d : Device) :
    setSensorTableRequest b d = refuse .badValue d := by
  unfold setSensorTableRequest
  rw [if_neg (by simpa using hb), temperatureChannel_none h]

/-- R6: a part that differs in the tables and the link alone. -/
theorem tables_replaced {d t : Device} {x : SensorTables}
    (h : t = { d with sns := { d.sns with tables := x }, lnk := t.lnk }) :
    t = { d with sns := { d.sns with tables := t.sns.tables }, lnk := t.lnk } := by
  have tables : t.sns.tables = x := by rw [h]
  rw [tables]
  exact h

/-! ## The second boundary (R18, R32) and SET_CLOCK (R19) -/

/-- R32: a source other than WIRED leaves the brake signal. -/
theorem wiredBrake_bus {d : Device} (h : d.vbl.source = .bus) : wiredBrake d = d := by simp [wiredBrake, h]

/-- R32: PARKING_BRAKE follows DIN7. -/
theorem wiredBrake_wired {d : Device} (h : d.vbl.source = .wired) :
    wiredBrake d = putSignals { d.vbl.signals with parkingBrake := { d.vbl.signals.parkingBrake with
      value := if deliveredOf d 7 = true then 1 else 0, status := .fresh, lastUpdate := d.sns.uptime, updated := true } } d :=
  if_pos h

theorem wiredBrake_only (d : Device) : wiredBrake d = { d with vbl := (wiredBrake d).vbl } := by
  unfold wiredBrake
  split <;> rfl

/-- R18: the second boundary, before the wired brake is read. -/
def secondPassed (d : Device) : Device :=
  { d with
    sns := { d.sns with ms := max d.sns.ms d.sched.nextSecond, uptime := (d.sns.uptime + 1) % 4294967296 }
    bgt := { d.bgt with
      passesDue := d.bgt.passesDue + (if (d.sns.uptime + 1) % 4294967296 % 10 = 0 then 1 else 0) }
    sched := { d.sched with
      nextSecond := d.sched.nextSecond + 1000, chgTick := true, restTick := true
      leadTick := d.sched.leadTick || decide ((d.sns.uptime + 1) % 4294967296 % 60 = 0)
      runUntilTick := true, wakeTick := true, prewarmTick := true } }

theorem uptimeSecond_eq (d : Device) : uptimeSecond d = wiredBrake (secondPassed d) := by
  have tens : (reach d.sched.nextSecond d).sns.uptime = d.sns.uptime := rfl
  unfold uptimeSecond secondPassed
  simp only [tens]
  split <;> rfl

/-- R19: SET_CLOCK of four bytes. -/
theorem setClockRequest_of_wall {b : List Byte} (hb : b.length = 4) (d : Device) :
    (longAt b 0 < d.sns.uptime → setClockRequest b d = refuse .badValue d) ∧
    (d.sns.uptime ≤ longAt b 0 → setClockRequest b d =
      taken { d with
        sns := { d.sns with clockSet := true, clockOffset := longAt b 0 - d.sns.uptime }
        lnk := { d.lnk with notices := d.lnk.notices.filter fun n => decide (n.kind ≠ .clockNeeded) } } []) := by
  unfold setClockRequest
  rw [if_neg (by simpa using hb)]
  exact ⟨fun h => if_pos h, fun h => if_neg (by omega)⟩

end Sys2Proof.Machine

namespace Sys2Proof.Proofs

open Sys2Proof Sys2Proof.Machine Sys2Proof.Stated

/-- Settles O13: the second, SET_CLOCK and SET_SENSOR_TABLE in turn. -/
theorem clockAndTablesAreSet : Obligations.ClockAndTablesAreSet := by
  refine ⟨fun s => ⟨?_, ?_⟩, fun s tag free => ⟨?_, ?_⟩⟩
  · refine ⟨_, rfl, rfl, ?_⟩
    rw [uptimeSecond_eq, wiredBrake_only]
    refine ⟨rfl, rfl, rfl, rfl, fun bus => ?_, fun wired => ?_⟩
    · exact (congrArg Device.vbl (wiredBrake_bus (d := secondPassed s.dev) bus)).trans rfl
    · exact congrArg Device.vbl (wiredBrake_wired (d := secondPassed s.dev) wired)
  · intro tag b0 b1 b2 b3 free wall
    have read : longAt [b0, b1, b2, b3] 0 = wall := by
      simp only [longAt, wordAt, byteAt, List.getD_cons_zero, List.getD_cons_succ, wall]
      omega
    obtain ⟨early, late⟩ := setClockRequest_of_wall (b := [b0, b1, b2, b3]) rfl
      { s.dev with lnk := heard s.dev { kind := 0x08, tag := tag, body := [b0, b1, b2, b3] } }
    refine ⟨fun h => ?_, fun h => ?_⟩
    · obtain ⟨replied, same, notices⟩ := serve_taken free (kind := 0x08) (tag := tag) (late (read ▸ h)) rfl rfl
      exact ⟨_, rfl, rfl, replied, read ▸ same, notices⟩
    · obtain ⟨replied, same⟩ := serve_refused free (kind := 0x08) (tag := tag) (early (read ▸ h)) rfl
      exact ⟨_, rfl, rfl, replied, same⟩
  · intro c table hv hi ok body
    have ⟨nine, _, range⟩ := ok
    have small : ∀ p ∈ table, p.1 < 65536 ∧ -32768 ≤ p.2 ∧ p.2 < 32768 := fun p hp => by
      obtain ⟨code, low, high⟩ := range p hp
      refine ⟨by omega, by omega, ?_⟩
      split at high <;> omega
    have hb : body.length = 37 := by
      simp [body, u8, u16, i16, List.length_flatMap, nine]
    have pairs : tablePairs body = table := tablePairs_of_points _ nine small
    have code : c.code = byteAt body 0 := by cases c <;> rfl
    obtain ⟨busy, -, loaded⟩ := setSensorTableRequest_of_channel hb hv hi code
      { s.dev with lnk := heard s.dev { kind := 0x09, tag := tag, body := body } }
    refine ⟨_, rfl, rfl, fun h => ?_, fun h => ?_⟩
    · obtain ⟨replied, same⟩ := serve_refused free (kind := 0x09) (tag := tag) (busy h) rfl
      exact ⟨replied, same⟩
    · obtain ⟨replied, same, notices⟩ := serve_taken free (kind := 0x09) (tag := tag) (loaded h (pairs.symm ▸ ok)) rfl rfl
      obtain ⟨put, others⟩ := tableOf_put s.dev.sns.tables hv hi (tablePairs body)
      have tables := congrArg (fun t : Device => t.sns.tables) same
      refine ⟨⟨replied, notices⟩, ?_, ?_, ?_⟩
      · exact (congrArg (tableOf · c) tables).trans (put.trans pairs)
      · exact fun x hx => (congrArg (tableOf · x) tables).trans (others x hx)
      · exact tables_replaced same
  · intro body hb points answers
    refine ⟨fun h => ?_, fun c hv hi hc => ⟨fun busy => ?_, fun idle bad => ?_⟩⟩
    · obtain ⟨replied, same⟩ := serve_refused free (kind := 0x09) (tag := tag) (setSensorTableRequest_of_none hb h _) rfl
      exact ⟨_, rfl, rfl, replied, same⟩
    · obtain ⟨replied, same⟩ := serve_refused free (kind := 0x09) (tag := tag)
        ((setSensorTableRequest_of_channel hb hv hi hc _).1 busy) rfl
      exact ⟨_, rfl, rfl, replied, same⟩
    · obtain ⟨replied, same⟩ := serve_refused free (kind := 0x09) (tag := tag)
        ((setSensorTableRequest_of_channel hb hv hi hc _).2.1 idle bad) rfl
      exact ⟨_, rfl, rfl, replied, same⟩

end Sys2Proof.Proofs
end

section
/-! PROOFS. The output gates and what holds them off (R13, R78, R87, R117, R118, R122). -/

namespace Sys2Proof.Machine

open Sys2Proof.Stated

/-- A command that runs, by what it makes of the part. -/
theorem runs_of_eq {c : Instr} {s : State} {f : Device → Device} {u : Device} {P : Device → Prop}
    (hc : exec c s = running s f) (hu : f s.dev = u) (h : P u) : Runs c s P := ⟨_, hc, rfl, hu ▸ h⟩

/-! ## Legs and bridges in the words of the statements (R118) -/

theorem driven_eq_legBecomes (g : LegState) (role : LegRole) (held : Bool) : g.driven role held = legBecomes g role held := by
  cases held <;> simp [LegState.driven, legBecomes]

theorem heldOff_eq (b : Bridge) : b.heldOff = bridgeStopped b := by
  simp only [Bridge.heldOff, bridgeStopped, driven_eq_legBecomes]

theorem parked_eq (b : Bridge) (held : Bool) : b.parked held = bridgeParked b held := by
  simp only [Bridge.parked, bridgeParked, driven_eq_legBecomes]

/-! ## The raw levels of DIN5 and DIN6 (R13) -/

/-- A pin put at a level that a line reads changes the pins of the lines alone. -/
theorem putRaw_only (n : Nat) (level : Bool) (d : Device) :
    putRaw n level d = { d with pins := { d.pins with din := (putRaw n level d).pins.din } } := rfl

/-- A pin put at a level that a line reads leaves the others. -/
theorem putRaw_others {n m : Nat} (hn : n < 8) (hm : m < 8) (h : m ≠ n) (level : Bool) (d : Device) :
    (putRaw n level d).pins.din.getLsbD m = d.pins.din.getLsbD m := by
  simp [putRaw, putPin_din hn hm, h]

theorem holdFuel_active {d : Device} (h : rawOf d 5 = true) :
    holdFuel d = { d with htr := { d.htr with fuel := { d.htr.fuel with gate := false } } } := if_pos h

theorem holdFuel_inactive {d : Device} (h : rawOf d 5 = false) : holdFuel d = d := if_neg (by simp [h])

theorem holdFuel_rawOf (d : Device) (n : Nat) : rawOf (holdFuel d) n = rawOf d n := rawOf_congr (by simp) (by simp) n

theorem holdBridge_active {d : Device} (h : rawOf d 6 = true) :
    holdBridge d = { d with cmp := { d.cmp with latch := true, bridge := bridgeStopped d.cmp.bridge } } := by
  rw [← heldOff_eq]
  exact if_pos h

theorem holdBridge_inactive {d : Device} (h : rawOf d 6 = false) : holdBridge d = d := if_neg (by simp [h])

theorem bridgeStopped_isOff (b : Bridge) : (bridgeStopped b).isOff := heldOff_eq b ▸ Bridge.heldOff_isOff b

/-- R78: what the GLOW output asks for. -/
theorem glowGate_iff (d : Device) :
    glowGate d = true ↔
      d.htr.glowSince ≠ none ∧ d.bgt.allowance.state = .held .heater ∧ rawOf d 5 = false ∧ d.htr.latch = false := by
  simp [glowGate, gatesFree, holds, Option.isSome_iff_ne_none, and_assoc]

/-- R13: what the raw levels make of the drives. -/
theorem protect_cmp (d : Device) :
    (rawOf d 6 = true → (protect d).cmp = { d.cmp with latch := true, bridge := bridgeStopped d.cmp.bridge }) ∧
    (rawOf d 6 = false → (protect d).cmp = d.cmp) := by
  have raw : rawOf (holdFuel d) 6 = rawOf d 6 := holdFuel_rawOf d 6
  have cmp : (holdFuel d).cmp = d.cmp := by simp
  refine ⟨fun h => ?_, fun h => ?_⟩
  · rw [protect, holdBridge_active (raw.trans h)]
    simp
  · rw [protect, holdBridge_inactive (raw.trans h), cmp]

theorem protect_htr (d : Device) :
    (rawOf d 5 = true → (protect d).htr = { d.htr with fuel := { d.htr.fuel with gate := false } }) ∧
    (rawOf d 5 = false → (protect d).htr = d.htr) := by
  have htr : (protect d).htr = (holdFuel d).htr := by simp [protect]
  refine ⟨fun h => ?_, fun h => ?_⟩
  · rw [htr, holdFuel_active h]
  · rw [htr, holdFuel_inactive h]

theorem protect_only (d : Device) : protect d = { d with htr := (protect d).htr, cmp := (protect d).cmp } :=
  Device.eq_of_blocks (by simp)

/-! ## The fuel pulses (R87) and the dead times (R118) -/

/-- R87: the interval in force has elapsed. -/
theorem pulseStart_running {d : Device} (h : d.htr.fuel.running = true) :
    pulseStart d = { d with
      sns := { d.sns with ms := max d.sns.ms (d.htr.fuel.lastStart + d.htr.fuel.interval) }
      htr := { d.htr with fuel :=
        { running := true
          interval := d.htr.fuel.staged.getD d.htr.fuel.interval
          staged := none
          lastStart := d.htr.fuel.lastStart + d.htr.fuel.interval
          gate := decide (rawOf d 5 = false ∧ d.htr.latch = false) } } } := by
  have gate : gatesFree d = decide (rawOf d 5 = false ∧ d.htr.latch = false) := by simp [gatesFree]
  unfold pulseStart
  rw [if_pos h, ← gate, ← h]
  rfl

theorem pulseStart_still {d : Device} (h : d.htr.fuel.running = false) : pulseStart d = d := if_neg (by simp [h])

/-- R87: the pulse width has elapsed. -/
theorem pulseEnd_on {d : Device} (h : d.htr.fuel.gate = true) :
    pulseEnd d = { d with
      sns := { d.sns with ms := max d.sns.ms (d.htr.fuel.lastStart + d.htr.seq.pulseWidth) }
      htr := { d.htr with fuel := { d.htr.fuel with gate := false } } } := if_pos h

theorem pulseEnd_off {d : Device} (h : d.htr.fuel.gate = false) : pulseEnd d = d := if_neg (by simp [h])

/-- R118: the legs whose dead time is over. -/
theorem deadTimeOver_free {d : Device} (leg : Leg) (h : bridgeHeld d = false) (hd : d.cmp.state.drives = true) :
    deadTimeOver leg d =
      let freed := fun (l : Leg) (g : LegState) => if l = leg ∧ (g.waitHigh = true ∨ g.waitLow = true) then g.released else g
      { d with cmp := { d.cmp with
        bridge := { u := freed .u d.cmp.bridge.u, v := freed .v d.cmp.bridge.v, w := freed .w d.cmp.bridge.w } } } := by
  unfold deadTimeOver
  rw [if_neg (by simp [h, hd])]
  cases leg <;> simp [putCmp]

theorem deadTimeOver_held {d : Device} (leg : Leg) (h : bridgeHeld d = true ∨ d.cmp.state.drives = false) :
    deadTimeOver leg d = d :=
  if_pos (by simpa using h)

end Sys2Proof.Machine

namespace Sys2Proof.Proofs

open Sys2Proof Sys2Proof.Machine Sys2Proof.Stated

/-- Settles O35: the raw levels, the fuel train and the bridge in turn. -/
theorem outputGatesFollowTheirHolds : Obligations.OutputGatesFollowTheirHolds := by
  refine ⟨fun s => ⟨?_, ?_, ?_, ?_⟩, glowGate_iff, ?_, ?_, ?_⟩
  · have raw : rawOf (putRaw 5 true s.dev) 5 = true := (rawOf_putRaw (by decide) (by decide) true s.dev).trans (if_pos rfl)
    refine runs_of_eq (f := fun d => holdFuel (putRaw 5 true d)) rfl (holdFuel_active raw) ⟨raw, ?_, fun m hm h => putRaw_others (by decide) hm h true s.dev, rfl⟩
    exact Bool.eq_false_iff.2 fun on => Bool.noConfusion (raw.symm.trans ((glowGate_iff _).1 on).2.2.1)
  · have raw : rawOf (putRaw 5 false s.dev) 5 = false :=
      (rawOf_putRaw (by decide) (by decide) false s.dev).trans (if_pos rfl)
    refine ⟨_, rfl, rfl, raw, ?_, fun m hm h => putRaw_others (by decide) hm h false s.dev, rfl⟩
    refine (glowGate_iff _).trans ?_
    rw [raw]
    simp [putRaw, putPin]
  · have raw : rawOf (putRaw 6 true s.dev) 6 = true := (rawOf_putRaw (by decide) (by decide) true s.dev).trans (if_pos rfl)
    exact runs_of_eq (f := fun d => holdBridge (putRaw 6 true d)) rfl (holdBridge_active raw) ⟨raw, fun m hm h => putRaw_others (by decide) hm h true s.dev, bridgeStopped_isOff _, rfl⟩
  · have raw : rawOf (putRaw 6 false s.dev) 6 = false :=
      (rawOf_putRaw (by decide) (by decide) false s.dev).trans (if_pos rfl)
    exact ⟨_, rfl, rfl, raw, fun m hm h => putRaw_others (by decide) hm h false s.dev, rfl⟩
  · intro d t
    obtain ⟨active, inactive⟩ := protect_cmp d
    obtain ⟨ended, kept⟩ := protect_htr d
    refine ⟨fun h => ⟨?_, active h⟩, inactive, ended, kept, protect_only d⟩
    rw [show t.cmp = _ from active h]
    exact bridgeStopped_isOff _
  · intro s f
    refine ⟨fun h => ⟨_, rfl, rfl, ?_⟩, fun h => ⟨_, rfl, rfl, pulseStart_still h⟩, fun h => ⟨_, rfl, rfl, pulseEnd_on h⟩,
      fun h => ⟨_, rfl, rfl, pulseEnd_off h⟩⟩
    refine (pulseStart_running h).trans ?_
    cases f.staged <;> simp [f]
  · intro s leg c freed free
    refine ⟨⟨_, rfl, rfl, rfl⟩, fun h => ⟨_, rfl, rfl, ?_⟩, fun h => ⟨_, rfl, rfl, deadTimeOver_held leg ?_⟩⟩
    · obtain ⟨drives, latch, raw⟩ := h
      change s.dev.cmp.latch = false at latch
      refine (deadTimeOver_free leg (by simp [bridgeHeld, latch, raw]) ?_).trans rfl
      simpa [CompState.drives] using drives
    · refine Classical.or_iff_not_imp_left.2 fun loose => Bool.eq_false_iff.2 fun drives => h ⟨?_, ?_⟩
      · simpa [CompState.drives] using drives
      · simpa [bridgeHeld] using loose

end Sys2Proof.Proofs
end

section
/-! PROOFS. The compressor's entry, its states and its failures, and a Hall edge (R108 to R123). -/

namespace Sys2Proof.Machine

open Sys2Proof.Stated

/-! ## The compressor's entry (R54, R65, R108) -/

/-- No load waits whose grant is 0 (R67). -/
def waitsGranted (d : Device) (l : Load) : Prop := (d.bgt.table.get l).granted = 0 → l ∉ d.bgt.allowance.waiting

theorem waitsGranted_of_sound {d : Device} (h : budgetSound d) (l : Load) : waitsGranted d l := by
  obtain ⟨-, -, waiting, -⟩ := h
  intro none' waits
  have := (waiting l waits).2.2
  omega

/-- R54: a written entry in the words of the statements. -/
theorem written_eq (e : Entry) (requested floor uptime : Nat) :
    e.written requested floor uptime = writtenEntry e requested floor uptime := by
  have clamp : max (min floor (e.steps.length - 1)) (min e.granted (max (min requested (e.steps.length - 1)) (min floor (e.steps.length - 1)))) =
      if e.granted < min floor (e.steps.length - 1) then min floor (e.steps.length - 1)
      else if max (min requested (e.steps.length - 1)) (min floor (e.steps.length - 1)) < e.granted then
        max (min requested (e.steps.length - 1)) (min floor (e.steps.length - 1))
      else e.granted := by
    split_ifs <;> omega
  simp only [Entry.written, writtenEntry, clamp]

/-- The Load Budget after the compressor writes a request with a floor of 0. -/
def compWrites (d : Device) (request : Nat) : Budget :=
  let e := d.bgt.table.compressor
  let e' := writtenEntry e request 0 d.sns.uptime
  { d.bgt with
    table := { d.bgt.table with compressor := e' }
    passesDue := d.bgt.passesDue + (if e'.requested = e.requested ∧ e'.floor = e.floor then 0 else 1)
    allowance := { d.bgt.allowance with waiting :=
      if e'.granted = 0 then d.bgt.allowance.waiting.filter fun l => decide (l ≠ .compressor)
      else d.bgt.allowance.waiting } }

theorem writeEntry_comp {d : Device} (h : waitsGranted d .compressor) (request : Nat) :
    writeEntry .compressor request 0 d = { d with bgt := compWrites d request } := by
  have kept : d.bgt.table.compressor.granted = 0 →
      (d.bgt.allowance.waiting.filter fun l => decide (l ≠ .compressor)) = d.bgt.allowance.waiting := fun none' =>
    List.filter_eq_self.2 fun l hl => decide_eq_true fun e => h none' (e ▸ hl)
  unfold writeEntry compWrites entryOf
  simp only [written_eq, LoadTable.get]
  set e := d.bgt.table.compressor
  by_cases gone : (writtenEntry e request 0 d.sns.uptime).granted = 0
  · by_cases was : e.granted = 0
    · simp only [gone, was, if_pos, ne_eq, not_true_eq_false, and_false, if_false, kept was]
      split_ifs <;> rfl
    · simp only [gone, was, ne_eq, not_false_eq_true, and_true, if_true]
      split_ifs <;> rfl
  · simp only [gone, false_and, if_false]
    split_ifs <;> rfl

/-- R108: the entry written for the state and the wished step, with the commanded step. -/
theorem writeComp_eq {d : Device} (h : waitsGranted d .compressor) :
    writeComp d = { d with
      bgt := compWrites d (compAsk d.cmp.state d.cmp.wished)
      cmp := { d.cmp with
        commanded := min d.cmp.wished (compWrites d (compAsk d.cmp.state d.cmp.wished)).table.compressor.granted } } := by
  unfold writeComp
  rw [writeEntry_comp h]
  rfl

/-- R65: the compressor's release. -/
theorem releaseAllowance_comp (d : Device) :
    releaseAllowance .compressor d =
      { d with bgt := { d.bgt with allowance := compReleased d.bgt.allowance d.sns.ms } } := by
  unfold releaseAllowance holds compReleased
  by_cases h : d.bgt.allowance.state = .held .compressor
  · simp only [h, decide_true, if_true]; rfl
  · simp [h]

/-! ## Postings (R191) -/

/-- A posting reads and changes the link alone. -/
theorem post_eq (k : NoticeKind) (d : Device) : post k d = { d with lnk := (post k d).lnk } :=
  Device.eq_of_blocks (by simp)

theorem post_lnk (k : NoticeKind) (d : Device) :
    (post k d).lnk =
      if d.lnk.enables.getLsbD k.number then { d.lnk with notices := mergeNotice k none d.lnk.notices } else d.lnk := by
  unfold post noticeEnabled
  split <;> rfl

theorem post_lnk_congr {d t : Device} (k : NoticeKind) (h : t.lnk = d.lnk) : (post k t).lnk = (post k d).lnk := by
  rw [post_lnk, post_lnk, h]

theorem post_of_lnk {d t : Device} (k : NoticeKind) (h : t.lnk = d.lnk) : post k t = { t with lnk := (post k d).lnk } :=
  post_lnk_congr k h ▸ post_eq k t

/-! ## States entered (R108, R110 to R114, R123) -/

/-- R108: the compressor record of a state entered, before its entry is written. -/
def compMoved (st : CompState) (d : Device) : Compressor :=
  let c := d.cmp
  { c with
    state := st
    wished := if c.demand = false ∧ (st = .stopping ∨ st = .stallBackoff ∨ st = .blocked) then 0 else c.wished
    deferred := if st = .run then c.deferred else false
    bridge := if st.drives then c.bridge else bridgeParked c.bridge (c.latch || rawOf d 6)
    window := if st.drives then c.window else { c.window with rpm := 0 }
    timers := if st.drives then timersIn c.timers st else restTimers c d.sns.ms }

/-- R108, R110 to R114: the part after a compressor state is entered. -/
def compEntered (st : CompState) (d : Device) : Device :=
  let c := compMoved st d
  { d with
    sns := { d.sns with current := if d.cmp.state = .run ∧ st ≠ .run then { sum := 0, count := 0 } else d.sns.current }
    bgt := compWrites d (compAsk st c.wished)
    cmp := { c with commanded := min c.wished (compWrites d (compAsk st c.wished)).table.compressor.granted }
    lnk := if st = d.cmp.state then d.lnk else (post .fridgeState d).lnk }

theorem drives_iff (st : CompState) : st.drives = true ↔ st = .start ∨ st = .run := by simp [CompState.drives]

/-- R110, R114: the timers of a state entered. -/
theorem timersIn_eq (st : CompState) (c : Compressor) (ms : Nat) :
    (if (c.state.drives && !st.drives) = true then { timersIn c.timers st with offSince := some ms } else timersIn c.timers st) =
      if st.drives then timersIn c.timers st else restTimers c ms := by
  cases h : st.drives
  · have run : st ≠ .run := by rintro rfl; cases h
    unfold restTimers
    simp only [timersIn, if_neg run, Bool.not_false, Bool.and_true, drives_iff]
    split <;> rfl
  · simp

theorem enterComp_eq {d : Device} (st : CompState) (h : waitsGranted d .compressor) : enterComp st d = compEntered st d := by
  unfold enterComp
  extract_lets c exits idles t c1 d1 _ d2 d3
  have moved : c1 = compMoved st d := by
    simp only [c1, exits, idles, t, timersIn_eq, parked_eq, bridgeHeld, SpeedWindow.stopped, c, compMoved]
    simp [or_assoc]
  have left : d2 = { d with
      sns := { d.sns with current := if d.cmp.state = .run ∧ st ≠ .run then { sum := 0, count := 0 } else d.sns.current }
      cmp := compMoved st d } := by
    unfold d2 d1
    rw [moved]
    split <;> rfl
  have written : d3 = { compEntered st d with lnk := d.lnk } := by
    unfold d3
    rw [left]
    exact writeComp_eq h
  rw [written]
  unfold compEntered
  by_cases same : st = d.cmp.state
  · simp [same, c]
  · simp only [c, same, if_false]
    exact post_of_lnk .fridgeState rfl

/-! ## States in which the bridge is off, in the words of the statements -/

theorem compAsk_eq (st : CompState) (w : Nat) :
    compAsk st w = if st = .disabled ∨ st = .stopping ∨ st = .stallBackoff ∨ st = .blocked then 0 else w := by
  cases st <;> rfl

theorem repeat_post_lnk_congr {d t : Device} (k : NoticeKind) (h : t.lnk = d.lnk) (n : Nat) :
    (Nat.repeat (post k) n t).lnk = (Nat.repeat (post k) n d).lnk := by
  induction n with
  | zero => exact h
  | succ n ih => exact post_lnk_congr k ih

/-- A state in which the bridge is off, entered. -/
theorem compEntered_rests {st : CompState} (rest : st.drives = false) (d : Device) :
    compRests d (compEntered st d) d.cmp st (restTimers d.cmp d.sns.ms) d.bgt.allowance := by
  have run : st ≠ .run := by rintro rfl; cases rest
  have asks := compAsk_eq st (compMoved st d).wished
  refine ⟨?_, asks ▸ ⟨rfl, rfl⟩, rfl, ?_, ?_⟩
  · simp only [compEntered, compMoved, rest, run, if_false, Bool.false_eq_true]
  · simp only [compEntered, run, ne_eq, not_false_eq_true, and_true]
  · unfold fridgePosted compEntered
    by_cases same : st = d.cmp.state
    · simp only [if_pos same]; rfl
    · simp only [if_neg same]; rfl

/-- What `compRests` reads of the part it starts from. -/
theorem compRests_congr {d d' t : Device} {c : Compressor} {st : CompState} {timers : CompTimers} {a : Allowance}
    (raw : rawOf d' 6 = rawOf d 6) (sns : d'.sns.uptime = d.sns.uptime ∧ d'.sns.current = d.sns.current)
    (bgt : d'.bgt.table.compressor = d.bgt.table.compressor ∧ d'.bgt.passesDue = d.bgt.passesDue) (lnk : d'.lnk = d.lnk)
    (h : compRests d t c st timers a) : compRests d' t c st timers a := by
  obtain ⟨cmp, wrote, allowance, current, posted⟩ := h
  obtain ⟨uptime, path⟩ := sns
  obtain ⟨entry, passes⟩ := bgt
  refine ⟨raw ▸ cmp, ?_, allowance, path ▸ current, ?_⟩
  · simpa only [compWrote, entry, uptime, passes] using wrote
  · unfold fridgePosted at posted ⊢
    rw [posted, repeat_post_lnk_congr _ lnk]

/-- What `compRests` reads of the part it leads to. -/
theorem compRests_timers {d t u : Device} {c : Compressor} {st : CompState} {timers timers' : CompTimers} {a : Allowance}
    (h : compRests d t c st timers a) (cmp : u.cmp = { t.cmp with timers := timers' }) (bgt : u.bgt = t.bgt)
    (sns : u.sns = t.sns) (lnk : u.lnk = t.lnk) : compRests d u c st timers' a := by
  obtain ⟨moved, wrote, allowance, current, posted⟩ := h
  refine ⟨?_, ?_, ?_, sns ▸ current, ?_⟩
  · rw [cmp, moved, bgt]
  · simpa only [compWrote, bgt] using wrote
  · simpa only [bgt] using allowance
  · simpa only [fridgePosted, lnk] using posted

/-! ## Indications (R141) -/

/-- Two parts that an indication finds the same: their lights, their quiet flag and their time. -/
def ShowsSame (d t : Device) : Prop := t.lgt = d.lgt ∧ t.npl.quiet = d.npl.quiet ∧ t.sns.ms = d.sns.ms

theorem ShowsSame.restartPattern {d t : Device} (h : ShowsSame d t) :
    ShowsSame (Machine.restartPattern d) (Machine.restartPattern t) := by
  obtain ⟨lgt, quiet, ms⟩ := h
  refine ⟨?_, quiet, ms⟩
  simp only [Machine.restartPattern, lgt, ms]

theorem ShowsSame.stopUnmarked {d t : Device} (h : ShowsSame d t) :
    ShowsSame (Machine.stopUnmarked d) (Machine.stopUnmarked t) := by
  have ⟨lgt, quiet, ms⟩ := h
  unfold Machine.stopUnmarked
  rw [lgt]
  split
  · exact ⟨rfl, quiet, ms⟩
  · exact h

theorem ShowsSame.marked {d t : Device} (h : ShowsSame d t) :
    ShowsSame { d with lgt := { d.lgt with buzzer := d.lgt.buzzer.marked d.sns.ms } }
      { t with lgt := { t.lgt with buzzer := t.lgt.buzzer.marked t.sns.ms } } := by
  obtain ⟨lgt, quiet, ms⟩ := h
  refine ⟨?_, quiet, ms⟩
  simp only [lgt, ms]

/-- An indication reads the lights, the quiet flag and the time alone. -/
theorem ShowsSame.postIndication {d t : Device} (h : ShowsSame d t) (g : Source) (n : Nat) (new : Bool) :
    ShowsSame (Machine.postIndication g n new d) (Machine.postIndication g n new t) := by
  obtain ⟨lgt, quiet, ms⟩ := h
  unfold Machine.postIndication
  rw [lgt, quiet]
  extract_lets e sources _ d1 restarts d2 _ d3 t1 t2 _ t3
  have one : ShowsSame d1 t1 := ⟨rfl, quiet, ms⟩
  have two : ShowsSame d2 t2 := by
    unfold d2 t2
    split
    · exact one.restartPattern
    · exact one
  have three : ShowsSame d3 t3 := by
    unfold d3 t3
    split
    · exact two.marked
    · exact two
  exact three.stopUnmarked

/-! ## Failures (R123) -/

/-- R123: the part once a failure has been counted and posted, and the allowance released. -/
def compFailed (k : FailKind) (d : Device) : Device :=
  { d with
    bgt := { d.bgt with allowance := compReleased d.bgt.allowance d.sns.ms }
    cmp := { d.cmp with
      failures := min 255 (d.cmp.failures + 1), lastFailure := some { kind := k, uptime := d.sns.uptime } }
    lnk := (post .fridgeState d).lnk }

theorem compReleased_waiting (a : Allowance) (ms : Nat) : (compReleased a ms).waiting = a.waiting := by
  unfold compReleased
  split <;> rfl

theorem compEntered_timers {st : CompState} (rest : st.drives = false) (d : Device) :
    (compEntered st d).cmp.timers = restTimers d.cmp d.sns.ms := by
  simp [compEntered, compMoved, rest]

/-- R123: a failure leads to STALL_BACKOFF, the third to BLOCKED. -/
theorem compFails_eq {k : FailKind} {d : Device} (hd : d.cmp.state.drives = true) (h : waitsGranted d .compressor) :
    compFails k d =
      if min 255 (d.cmp.failures + 1) < 3 then
        putCmpTimers { restTimers d.cmp d.sns.ms with backoff := some (d.sns.ms + 60000) }
          (compEntered .stallBackoff (compFailed k d))
      else
        postIndication .cmp 1 true (putCmpTimers { restTimers d.cmp d.sns.ms with blocked := some (d.sns.ms + 1800000) }
          (compEntered .blocked (compFailed k d))) := by
  unfold compFails
  rw [if_neg (by simp [hd]), releaseAllowance_comp]
  extract_lets _ d1 failures _ d2 d3 left3 d4 left4 _
  have waits : waitsGranted (compFailed k d) .compressor := fun none' waiting =>
    h none' (compReleased_waiting d.bgt.allowance d.sns.ms ▸ waiting)
  have failed : d2 = compFailed k d := post_of_lnk (d := d) .fridgeState rfl
  have backoff : d3 = compEntered .stallBackoff (compFailed k d) := by
    unfold d3
    rw [failed]
    exact enterComp_eq _ waits
  have blocked : d4 = compEntered .blocked (compFailed k d) := by
    unfold d4
    rw [failed]
    exact enterComp_eq _ waits
  have timers (st : CompState) (rest : st.drives = false) :
      (compEntered st (compFailed k d)).cmp.timers = restTimers d.cmp d.sns.ms := compEntered_timers rest _
  have timers3 : left3 = restTimers d.cmp d.sns.ms := (congrArg (·.cmp.timers) backoff).trans (timers _ rfl)
  have timers4 : left4 = restTimers d.cmp d.sns.ms := (congrArg (·.cmp.timers) blocked).trans (timers _ rfl)
  rw [timers3, timers4, backoff, blocked]
  rfl

/-- Of a state entered from what differs from `d0` in the Hall code and the compressor alone. -/
theorem compFailed_rests {d0 : Device} {c : Compressor} {hall : HallCode} {k : FailKind} {st : CompState}
    (rest : st.drives = false) (timers : CompTimers) (lgt : Lights) :
    let d := { d0 with pins := { d0.pins with hall := hall }, cmp := c }
    compRests (post .fridgeState d0) { putCmpTimers timers (compEntered st (compFailed k d)) with lgt := lgt }
      { c with failures := min 255 (c.failures + 1), lastFailure := some { kind := k, uptime := d0.sns.uptime } } st timers
      (compReleased d0.bgt.allowance d0.sns.ms) := by
  intro d
  have entered := compRests_timers (u := { putCmpTimers timers (compEntered st (compFailed k d)) with lgt := lgt })
    (compEntered_rests rest (compFailed k d)) rfl rfl rfl rfl
  exact compRests_congr (d := compFailed k d) (rawOf_congr (d := d0) (by simp) (by simp) 6)
    (by simp; exact ⟨rfl, rfl⟩) (by simp; exact ⟨rfl, rfl⟩) (post_lnk_congr .fridgeState rfl) entered

/-- An indication changes the lights alone. -/
theorem postIndication_only (g : Source) (n : Nat) (new : Bool) (d : Device) :
    postIndication g n new d = { d with lgt := (postIndication g n new d).lgt } := Device.eq_of_blocks (by simp)

/-- What a failure may touch. -/
theorem compFailed_frame {d0 : Device} {c : Compressor} {hall : HallCode} {k : FailKind} (st : CompState)
    (timers : CompTimers) (lgt : Lights) :
    let d := { d0 with pins := { d0.pins with hall := hall }, cmp := c }
    compFrame d0 { putCmpTimers timers (compEntered st (compFailed k d)) with lgt := lgt } d0.sns.ms hall := by
  intro d
  have lnk : (compEntered st (compFailed k d)).lnk.enables = d0.lnk.enables ∧
      (compEntered st (compFailed k d)).lnk.idleTime = d0.lnk.idleTime := by
    unfold compEntered
    dsimp only
    split <;> simp [compFailed, d]
  refine Device.eq_of_blocks ⟨rfl, rfl, rfl, rfl, rfl, rfl, rfl, rfl, rfl, rfl, rfl, ?_, rfl⟩
  simp [putCmpTimers, ← lnk.1, ← lnk.2]

/-- R123: a failure, in the words of the statements. -/
theorem compFails_with {d0 : Device} {c : Compressor} (hd : c.state.drives = true) (h : waitsGranted d0 .compressor)
    (hall : HallCode) (k : FailKind) :
    let t := compFails k { d0 with pins := { d0.pins with hall := hall }, cmp := c }
    compFailsWith d0 t c k d0.sns.ms ∧ compFrame d0 t d0.sns.ms hall := by
  intro t
  have failed := compFails_eq (k := k) (d := { d0 with pins := { d0.pins with hall := hall }, cmp := c }) hd h
  by_cases few : min 255 (c.failures + 1) < 3
  · have backoff : t = _ := failed.trans (if_pos few)
    let timers := { restTimers c d0.sns.ms with backoff := some (d0.sns.ms + 60000) }
    rw [backoff]
    exact ⟨⟨fun _ => ⟨compFailed_rests (hall := hall) rfl timers d0.lgt, rfl⟩, fun many => absurd few (by omega)⟩,
      compFailed_frame (hall := hall) .stallBackoff timers d0.lgt⟩
  · have blocked : t = _ := failed.trans (if_neg few)
    let timers := { restTimers c d0.sns.ms with blocked := some (d0.sns.ms + 1800000) }
    have shows : ShowsSame (reach d0.sns.ms d0) (putCmpTimers timers (compEntered .blocked
        (compFailed k { d0 with pins := { d0.pins with hall := hall }, cmp := c }))) :=
      ⟨rfl, rfl, (Nat.max_self _).symm⟩
    rw [blocked, postIndication_only]
    exact ⟨⟨fun many => absurd many few, fun _ => ⟨compFailed_rests (hall := hall) rfl timers _,
      (shows.postIndication .cmp 1 true).1⟩⟩, compFailed_frame (hall := hall) .blocked timers _⟩

end Sys2Proof.Machine
end

section
/-! PROOFS. A Hall edge (R9, R115 to R121). -/

namespace Sys2Proof.Machine

open Sys2Proof.Stated

/-! ## The pattern of a Hall code (R115, R116) -/

theorem validCode_iff (code : HallCode) : validCode code = true ↔ hallValid code.toNat := by
  unfold hallValid
  revert code
  decide

/-- R116: the roles of the legs in a valid code's pattern. -/
theorem patternOf_roles (o : CommOrder) (code : HallCode) (h : hallValid code.toNat) :
    (patternOf o code).map (fun p => (p.role .u, p.role .v, p.role .w)) =
      some (roleIn o code.toNat .u, roleIn o code.toNat .v, roleIn o code.toNat .w) := by
  unfold hallValid at h
  revert code
  cases o <;> decide

/-- R116, R118: a valid code's pattern applied to the bridge. -/
theorem applyPattern_valid {d : Device} (h : hallValid d.pins.hall.toNat) :
    applyPattern d = { d with cmp := { d.cmp with
      bridge := bridgeBecomes d.cmp.bridge d.cmp.orderNow d.pins.hall.toNat (d.cmp.latch || rawOf d 6) } } := by
  obtain ⟨p, hp, roles⟩ := Option.map_eq_some_iff.1 (patternOf_roles d.cmp.orderNow d.pins.hall h)
  simp only [Prod.mk.injEq] at roles
  obtain ⟨u, v, w⟩ := roles
  unfold applyPattern
  rw [hp]
  simp only [Bridge.driven, driven_eq_legBecomes, u, v, w]
  rfl

/-! ## RUN entered (R112, R113) -/

/-- R112, R113: the compressor record on entry to RUN, before its entry is written. -/
def compProved (d : Device) : Compressor :=
  { d.cmp with
    wished :=
      if d.cmp.demand = true ∧ d.cmp.mode = .thermostat then capped d d.cmp.settings.quietCap d.cmp.learned else d.cmp.wished
    cutIn := some d.sns.uptime
    learning := decide (d.cmp.mode = .thermostat)
    hadCutIn := d.cmp.demand || d.cmp.hadCutIn
    deferred := !d.cmp.demand }

theorem toCompRun_eq {d : Device} (h : waitsGranted d .compressor) :
    toCompRun d =
      let e := compEntered .run
        { d with bgt := { d.bgt with allowance := compReleased d.bgt.allowance d.sns.ms }, cmp := compProved d }
      { e with
        sns := { e.sns with current := { sum := 0, count := 0 } }
        cmp := { e.cmp with timers := { e.cmp.timers with
          minRun := some (d.sns.ms + 120000)
          failReset := some (d.sns.ms + 60000)
          raise := if d.cmp.mode = .thermostat then some (d.sns.ms + 900000) else none } } } := by
  have waits : waitsGranted
      { d with bgt := { d.bgt with allowance := compReleased d.bgt.allowance d.sns.ms }, cmp := compProved d } .compressor :=
    fun none' waiting => h none' (compReleased_waiting d.bgt.allowance d.sns.ms ▸ waiting)
  have proved : ({ d.cmp with
      wished := if d.cmp.demand && decide (d.cmp.mode = .thermostat) then quietCapped d.cmp.learned d else d.cmp.wished
      cutIn := some d.sns.uptime
      learning := decide (d.cmp.mode = .thermostat)
      hadCutIn := d.cmp.demand || d.cmp.hadCutIn
      deferred := !d.cmp.demand } : Compressor) = compProved d := by
    simp [compProved, quietCapped, capped]
  rw [← enterComp_eq .run waits]
  simp only [← proved]
  unfold toCompRun
  simp only [releaseAllowance_comp, decide_eq_true_eq]
  rfl

/-! ## The edge (R115, R119, R120) -/

theorem hallEdge_same {code : HallCode} {us : Nat} {d : Device} (h : code = d.pins.hall) : hallEdge code us d = d :=
  if_neg (by simp [h])

/-- R115: outside START and RUN the code is followed. -/
theorem hallEdge_idle {code : HallCode} (us : Nat) {d : Device} (valid : hallValid code.toNat) (other : code ≠ d.pins.hall)
    (hd : d.cmp.state.drives = false) : hallEdge code us d = { d with pins := { d.pins with hall := code } } := by
  unfold hallEdge
  rw [if_pos (by simp [(validCode_iff code).2 valid, other])]
  exact if_neg (by simp [hd])

/-- R115, R116, R119: the part after an edge in START and RUN, before its window is looked at. -/
def edgeTaken (code : HallCode) (us : Nat) (d : Device) : Device :=
  { d with
    pins := { d.pins with hall := code }
    cmp := { d.cmp with
      bridge := bridgeBecomes d.cmp.bridge d.cmp.orderNow code.toNat (d.cmp.latch || rawOf d 6)
      window := d.cmp.window.add us
      timers := { d.cmp.timers with stall := some (d.sns.ms + 250) } } }

theorem hallEdge_drives {code : HallCode} (us : Nat) {d : Device} (valid : hallValid code.toNat) (other : code ≠ d.pins.hall)
    (hd : d.cmp.state.drives = true) :
    hallEdge code us d =
      if (d.cmp.window.add us).edges = 6 then windowDone (edgeTaken code us d) else edgeTaken code us d := by
  have pattern := applyPattern_valid (d := { d with pins := { d.pins with hall := code } }) valid
  unfold hallEdge
  rw [if_pos (by simp [(validCode_iff code).2 valid, other])]
  refine (if_pos hd).trans ?_
  rw [pattern]
  rfl

/-- R119: the window after an edge. -/
theorem windowAdd_first {w : SpeedWindow} (h : w.first = true) (us : Nat) : w.add us = { w with first := false } := if_pos h

theorem windowAdd_next {w : SpeedWindow} (h : w.first = false) (us : Nat) :
    w.add us = { w with
      intervals := if 6 < (w.intervals ++ [us]).length then (w.intervals ++ [us]).drop 1 else w.intervals ++ [us]
      edges := w.edges + 1 } := if_neg (by simp [h])

/-- R119: the part with its window complete. -/
def windowShut (d : Device) : Device :=
  { d with cmp := { d.cmp with window := { d.cmp.window with
    edges := 0, rpm := windowRpm d.cmp.window.intervals d.cmp.polePairsNow d.sns.ms } } }

theorem windowDone_start {d : Device} (h : d.cmp.state = .start) :
    windowDone d = if 1500 ≤ (windowShut d).cmp.window.rpm then toCompRun (windowShut d) else windowShut d := by
  have hs : (windowShut d).cmp.state = .start := h
  unfold windowDone
  change (match (windowShut d).cmp.state with | .start => _ | .run => _ | _ => _) = _
  rw [hs]
  rfl

/-- R120: what regulation makes of the staged duty. -/
def regulated (mean : Option Nat) (c : Compressor) : Nat :=
  if mean.any (fun m => decide (c.settings.currentLimit < m)) = true then max 100 (min 950 (c.staged - 20))
  else if c.window.rpm + 50 < stepRpm c.commanded then max 100 (min 950 (c.staged + 5))
  else if stepRpm c.commanded + 50 < c.window.rpm then max 100 (min 950 (c.staged - 5))
  else c.staged

theorem targetRpm_eq (n : Nat) : targetRpm n = stepRpm n := by
  unfold targetRpm stepRpm
  rcases n with _ | _ | _ | _ | n <;> simp

theorem regulate_eq (mean : Option Nat) (d : Device) :
    regulate mean d = { d with cmp := { d.cmp with staged := regulated mean d.cmp } } := by
  unfold regulate regulated
  simp only [targetRpm_eq]
  cases mean <;> simp only [Option.any_none, Option.any_some] <;> split_ifs <;> rfl

theorem windowDone_run {d : Device} (h : d.cmp.state = .run) :
    windowDone d =
      let mean := if d.sns.current.count = 0 then none else some (d.sns.current.sum / d.sns.current.count)
      { windowShut d with
        sns := { d.sns with current := { sum := 0, count := 0 } }
        cmp := { (windowShut d).cmp with
          lastMean := mean.orElse fun _ => d.cmp.lastMean
          staged := regulated mean (windowShut d).cmp } } := by
  have hs : (windowShut d).cmp.state = .run := h
  unfold windowDone
  change (match (windowShut d).cmp.state with | .start => _ | .run => _ | _ => _) = _
  rw [hs]
  exact regulate_eq _ _

/-- R119: the rpm of a window whose intervals do not sum to 0. -/
theorem windowRpm_eq {intervals : List Nat} {pairs : Nat} (h : intervals.sum * pairs ≠ 0) (ms : Nat) :
    windowRpm intervals pairs ms = 60000000 / (intervals.sum * pairs) := if_neg h

theorem hallInvalid_none {code : HallCode} {d : Device} (h : hallValid code.toNat ∨ code = d.pins.hall) :
    hallInvalid code d = d := if_pos (by simpa [validCode_iff] using h)

theorem hallInvalid_eq {code : HallCode} {d : Device} (bad : ¬hallValid code.toNat) (other : code ≠ d.pins.hall) :
    hallInvalid code d = compFails .hall { d with
      pins := { d.pins with hall := code }, cmp := { d.cmp with window := { d.cmp.window with first := true } } } :=
  if_neg (by simpa [validCode_iff] using ⟨bad, other⟩)

theorem compFails_idle {k : FailKind} {d : Device} (h : d.cmp.state.drives = false) : compFails k d = d := if_pos (by simp [h])

/-- R112: RUN keeps the compressor record, but for the timers of START. -/
theorem compMoved_run (d : Device) :
    compMoved .run d = { d.cmp with state := .run, timers := timersIn d.cmp.timers .run } := by
  have drives : CompState.run.drives = true := rfl
  simp [compMoved, drives]

/-- R112, R126: the part after RUN is entered from another state. -/
theorem compEntered_run {d : Device} (h : d.cmp.state ≠ .run) :
    compEntered .run d = { d with
      bgt := compWrites d d.cmp.wished
      cmp := { d.cmp with
        state := .run, timers := timersIn d.cmp.timers .run
        commanded := min d.cmp.wished (compWrites d d.cmp.wished).table.compressor.granted }
      lnk := (post .fridgeState d).lnk } := by
  unfold compEntered
  rw [compMoved_run, if_neg (fun e => h e.1), if_neg (fun e => h e.symm)]
  rfl

/-- R112, R113: RUN entered from START, in the words of the statements. -/
theorem toCompRun_with {d0 : Device} {c : Compressor} (start : c.state = .start) (h : waitsGranted d0 .compressor)
    (hall : HallCode) :
    let t := toCompRun { d0 with pins := { d0.pins with hall := hall }, cmp := c }
    let a := compReleased d0.bgt.allowance d0.sns.ms
    t.cmp = { c with
      state := .run
      cutIn := some d0.sns.uptime
      learning := decide (c.mode = .thermostat)
      deferred := !c.demand
      hadCutIn := c.demand || c.hadCutIn
      wished := if c.demand = true ∧ c.mode = .thermostat then capped d0 c.settings.quietCap c.learned else c.wished
      commanded := min t.cmp.wished t.bgt.table.compressor.granted
      timers := { noCompTimers with
        phase := c.timers.phase, offSince := c.timers.offSince, stall := c.timers.stall, minRun := some (d0.sns.ms + 120000)
        failReset := some (d0.sns.ms + 60000)
        raise := if c.mode = .thermostat then some (d0.sns.ms + 900000) else none } } ∧
    compWrote d0 t t.cmp.wished ∧
    t.bgt.allowance = { a with waiting :=
      if t.bgt.table.compressor.granted = 0 then a.waiting.filter fun l => decide (l ≠ .compressor) else a.waiting } ∧
    t.sns.current = { sum := 0, count := 0 } ∧ fridgePosted d0 t 1 ∧ t.lgt = d0.lgt ∧ compFrame d0 t d0.sns.ms hall := by
  intro t a
  let d := { d0 with
    pins := { d0.pins with hall := hall }
    bgt := { d0.bgt with allowance := a }
    cmp := compProved { d0 with pins := { d0.pins with hall := hall }, cmp := c } }
  have entered : compEntered .run d = _ := compEntered_run (show c.state ≠ .run from start ▸ nofun)
  have run : t = _ := toCompRun_eq (d := { d0 with pins := { d0.pins with hall := hall }, cmp := c }) h
  have read : t = _ := run.trans (congrArg (fun e : Device => { e with
    sns := { e.sns with current := { sum := 0, count := 0 } }
    cmp := { e.cmp with timers := { e.cmp.timers with
      minRun := some (d0.sns.ms + 120000)
      failReset := some (d0.sns.ms + 60000)
      raise := if c.mode = CompMode.thermostat then some (d0.sns.ms + 900000) else none } } }) entered)
  have lnk : t.lnk = (post .fridgeState d0).lnk := (congrArg (·.lnk) read).trans (post_lnk_congr (d := d0) (t := d) _ rfl)
  have frame : t.lnk.enables = d0.lnk.enables ∧ t.lnk.idleTime = d0.lnk.idleTime := by rw [lnk]; simp
  obtain ⟨enables, idle⟩ := frame
  have posted : fridgePosted d0 t 1 := congrArg Link.notices lnk
  clear_value t
  subst read
  refine ⟨rfl, ⟨rfl, rfl⟩, rfl, rfl, posted, rfl, ?_⟩
  refine Device.eq_of_blocks ⟨rfl, rfl, rfl, rfl, rfl, rfl, rfl, rfl, rfl, rfl, rfl, ?_, rfl⟩
  simp only [← enables, ← idle]

end Sys2Proof.Machine

namespace Sys2Proof.Proofs

open Sys2Proof Sys2Proof.Machine Sys2Proof.Stated

/-- Settles O34: the edge by the state of the drive and of its window, the invalid code as a failure. -/
theorem hallEdgeCommutatesAndRegulates : Obligations.HallEdgeCommutatesAndRegulates := by
  intro s code us sound c ms pins drives held all kept bridge timers pairs path mean
  have waits := waitsGranted_of_sound sound .compressor
  have stopped : ¬drives → c.state.drives = false := fun h => Bool.eq_false_iff.2 fun hd => h ((drives_iff _).1 hd)
  refine ⟨fun same => ?_, fun valid other => ?_, fun bad other => ?_, fun raw => ?_⟩
  · exact ⟨⟨_, rfl, rfl, hallEdge_same same⟩, ⟨_, rfl, rfl, hallInvalid_none (.inr same)⟩⟩
  · have taken (hd : drives) := hallEdge_drives us valid other ((drives_iff _).2 hd)
    refine ⟨_, rfl, rfl, fun h => ?_, fun hd first more => ?_, fun hd next more => ?_, fun hd next last => ?_⟩
    · exact hallEdge_idle us valid other (stopped h)
    · refine (taken hd).trans ?_
      rw [windowAdd_first first]
      refine (if_neg more).trans ?_
      rw [edgeTaken, windowAdd_first first]
    · refine (taken hd).trans ?_
      rw [windowAdd_next next]
      refine (if_neg (fun e : c.window.edges + 1 = 6 => more (by omega))).trans ?_
      rw [edgeTaken, windowAdd_next next]
    · let shutCmp : Compressor := { c with
        bridge := bridge, timers := timers
        window := { c.window with intervals := kept, edges := 0, rpm := windowRpm kept pairs ms } }
      have shut : windowShut (edgeTaken code us s.dev) = { s.dev with pins := pins, cmp := shutCmp } := by
        rw [edgeTaken, windowAdd_next next]
        rfl
      have done := (taken hd).trans (if_pos (windowAdd_next next us ▸ congrArg (· + 1) last))
      refine ⟨windowRpm kept pairs ms, fun sum => windowRpm_eq sum ms, fun start slow => ?_, fun start fast => ?_, fun run => ?_⟩
      · have slow' := done.trans (windowDone_start (d := edgeTaken code us s.dev) start)
        rw [shut] at slow'
        exact slow'.trans (if_neg (Nat.not_le.2 slow))
      · have fast' := done.trans (windowDone_start (d := edgeTaken code us s.dev) start)
        rw [shut] at fast'
        have proved := fast'.trans (if_pos fast)
        exact proved ▸ toCompRun_with (d0 := s.dev) (c := shutCmp) start waits code
      · have ran := done.trans (windowDone_run (d := edgeTaken code us s.dev) run)
        rw [shut] at ran
        refine ran.trans ?_
        have keeps : (mean.orElse fun _ => c.lastMean) = if path.count = 0 then c.lastMean else mean := by
          by_cases empty : path.count = 0 <;> simp [mean, empty]
        rw [← keeps]
        rfl
  · have failed := hallInvalid_eq bad other
    by_cases hd : drives
    · obtain ⟨failure, frame⟩ := compFails_with (d0 := s.dev) (c := { c with window := { c.window with first := true } })
        ((drives_iff _).2 hd) waits code .hall
      exact runs_of_eq (f := hallInvalid code) rfl failed ⟨frame, fun no => absurd hd no, fun _ => failure⟩
    · exact runs_of_eq (f := hallInvalid code) rfl (failed.trans (compFails_idle (stopped hd)))
        ⟨rfl, fun _ => rfl, fun yes => absurd yes hd⟩
  · refine ⟨_, rfl, rfl, ?_⟩
    by_cases run : c.state = .run
    · exact (if_pos run).trans (by rw [if_pos run]; rfl)
    · exact (if_neg run).trans (by rw [if_neg run])

end Sys2Proof.Proofs
end

section
/-! PROOFS. What an input event reads of the lines (R10, R11). -/

namespace Sys2Proof.Machine

/-! ## A part retouched

An event reads of the lines DIN7's delivered level and, through their polarities, the raw levels of DIN5 and DIN6; of the link it
reads which kinds are enabled, and it changes the notice table alone. So it may be exchanged with what a sample makes of another
line, and with what a request in hand makes of the link. -/

/-- A change of the lines that keeps their polarities, and of the link that leaves the notice table and the kinds enabled. -/
structure Retouch where
  lines : List InputLine → List InputLine
  link : Link → Link
  polarity : ∀ table n, ((lines table).getD n noLine).polarity = (table.getD n noLine).polarity
  enables : ∀ x, (link x).enables = x.enables
  notices : ∀ x, (link x).notices = x.notices
  table : ∀ x notices, { link x with notices := notices } = link { x with notices := notices }

/-- The part retouched. -/
def retouched (r : Retouch) (d : Device) : Device :=
  { d with sns := { d.sns with lines := r.lines d.sns.lines }, lnk := r.link d.lnk }

variable {r : Retouch} {d t : Device}

theorem rawOf_retouched (m : Nat) (d : Device) : rawOf (retouched r d) m = rawOf d m :=
  congrArg (fun p : Polarity => p.active (d.pins.din.getLsbD m)) (r.polarity d.sns.lines m)

theorem retouched_ite {c c' : Prop} [Decidable c] [Decidable c'] {a b a' b' : Device} (hc : c' ↔ c)
    (ha : a' = retouched r a) (hb : b' = retouched r b) :
    (if c' then a' else b') = retouched r (if c then a else b) := by
  by_cases h : c
  · rw [if_pos h, if_pos (hc.2 h), ha]
  · rw [if_neg h, if_neg (mt hc.1 h), hb]

/-- A notice table written after the link has been retouched, or before. -/
theorem putNotices_retouched (notices : List Notice) (d : Device) :
    { retouched r d with lnk := { (retouched r d).lnk with notices := notices } } =
      retouched r { d with lnk := { d.lnk with notices := notices } } :=
  congrArg (fun x : Link => { retouched r d with lnk := x }) (r.table d.lnk notices)

theorem noticeEnabled_retouched (k : NoticeKind) (d : Device) : noticeEnabled (retouched r d) k = noticeEnabled d k :=
  congrArg (·.getLsbD k.number) (r.enables d.lnk)

theorem post_retouched (k : NoticeKind) (h : t = retouched r d) : post k t = retouched r (post k d) := by
  subst h
  refine retouched_ite (by rw [noticeEnabled_retouched]) ?_ rfl
  rw [putNotices_retouched]
  exact congrArg (fun table => retouched r { d with lnk := { d.lnk with notices := mergeNotice k none table } })
    (r.notices d.lnk)

theorem postInputChange_retouched (line : Nat) (forcing : Bool) (h : t = retouched r d) :
    postInputChange line forcing t = retouched r (postInputChange line forcing d) := by
  subst h
  refine retouched_ite (by rw [noticeEnabled_retouched]) ?_ rfl
  rw [putNotices_retouched]
  exact congrArg (fun table => retouched r { d with
    lnk := { d.lnk with notices := mergeNotice .inputChange (some (line, forcing)) table } }) (r.notices d.lnk)

/-! ## The Load Budget -/

theorem releaseAllowance_retouched (x : Load) (h : t = retouched r d) :
    releaseAllowance x t = retouched r (releaseAllowance x d) := by
  subst h
  exact retouched_ite Iff.rfl rfl rfl

theorem withdrawAllowance_retouched (x : Load) (h : t = retouched r d) :
    withdrawAllowance x t = retouched r (withdrawAllowance x d) := by
  subst h
  exact retouched_ite Iff.rfl (releaseAllowance_retouched x rfl) rfl

theorem requestAllowance_retouched (x : Load) (d : Device) :
    requestAllowance x (retouched r d) =
      (retouched r (requestAllowance x d).1, (requestAllowance x d).2) := by
  have held : (holds (retouched r d) x || waits (retouched r d) x) = (holds d x || waits d x) := rfl
  have none' : ((retouched r d).chg.uv = .critical ∨ grantOf (retouched r d) x = 0) ↔
      (d.chg.uv = .critical ∨ grantOf d x = 0) := Iff.rfl
  have free : (retouched r d).bgt.allowance.state = d.bgt.allowance.state := rfl
  unfold requestAllowance
  simp only [held, none', free]
  split_ifs <;> rfl

theorem leaveWaiting_retouched (x : Load) (h : t = retouched r d) :
    leaveWaiting x t = retouched r (leaveWaiting x d) := by
  subst h
  rfl

theorem writeEntry_retouched (x : Load) (requested floor : Nat) (h : t = retouched r d) :
    writeEntry x requested floor t = retouched r (writeEntry x requested floor d) := by
  subst h
  exact retouched_ite Iff.rfl (leaveWaiting_retouched x (retouched_ite Iff.rfl rfl rfl)) (retouched_ite Iff.rfl rfl rfl)

theorem setOutlet_retouched (st : OutletState) (closing : Option Nat) (h : t = retouched r d) :
    setOutlet st closing t = retouched r (setOutlet st closing d) := by
  subst h
  exact retouched_ite Iff.rfl rfl (post_retouched .budgetState rfl)

theorem outletOff_retouched (d : Device) : outletOff (retouched r d) = retouched r (outletOff d) := by
  have state : (retouched r d).bgt.outlet.state = d.bgt.outlet.state := rfl
  unfold outletOff
  rw [state]
  cases d.bgt.outlet.state with
  | off => rfl
  | waitToken =>
    exact writeEntry_retouched .outlet 0 0 (setOutlet_retouched .off none (withdrawAllowance_retouched .outlet rfl))
  | closing =>
    exact writeEntry_retouched .outlet 0 0 (setOutlet_retouched .off none (releaseAllowance_retouched .outlet rfl))
  | waitGrant | on | denied => exact writeEntry_retouched .outlet 0 0 (setOutlet_retouched .off none rfl)

theorem outletRequest_retouched (d : Device) : outletRequest (retouched r d) = retouched r (outletRequest d) := by
  unfold outletRequest
  rw [requestAllowance_retouched]
  rcases requestAllowance .outlet d with ⟨d1, _ | _ | _⟩
  · exact setOutlet_retouched .waitToken none rfl
  · exact setOutlet_retouched .closing _ rfl
  · exact setOutlet_retouched .denied none rfl

theorem outletOn_retouched (d : Device) : outletOn (retouched r d) = retouched r (outletOn d) := by
  have state : (retouched r d).bgt.outlet.state = d.bgt.outlet.state := rfl
  unfold outletOn
  rw [state]
  cases d.bgt.outlet.state with
  | off => exact writeEntry_retouched .outlet 1 0 (setOutlet_retouched .waitGrant none rfl)
  | denied => exact outletRequest_retouched d
  | waitGrant | waitToken | closing | on => rfl

theorem outletToggle_retouched (d : Device) : outletToggle (retouched r d) = retouched r (outletToggle d) :=
  retouched_ite Iff.rfl (outletOff_retouched d) (outletOn_retouched d)

/-! ## The lights -/

theorem postIndication_retouched (g : Source) (severity : Nat) (new : Bool) (h : t = retouched r d) :
    postIndication g severity new t = retouched r (postIndication g severity new d) := by
  subst h
  have same : ShowsSame d (retouched r d) := ⟨rfl, rfl, rfl⟩
  rw [postIndication_only, (same.postIndication g severity new).1]
  exact (congrArg (retouched r) (postIndication_only g severity new d)).symm

theorem recap_retouched (was : List ChannelSetting) (h : t = retouched r d) :
    recap was t = retouched r (recap was d) := by
  subst h
  exact retouched_ite Iff.rfl rfl (post_retouched .lightState rfl)

theorem refreshLights_retouched (was : List ChannelSetting) (h : t = retouched r d) :
    refreshLights was t = retouched r (refreshLights was d) := by
  subst h
  exact retouched_ite Iff.rfl (recap_retouched was rfl) (recap_retouched was (writeEntry_retouched .lights _ 0 rfl))

theorem changeDialGroup_retouched (f : LightChannel → LightChannel) (h : t = retouched r d) :
    changeDialGroup f t = retouched r (changeDialGroup f d) := by
  subst h
  exact refreshLights_retouched _ rfl

theorem startCourtesy_retouched (h : t = retouched r d) : startCourtesy t = retouched r (startCourtesy d) := by
  subst h
  rfl

theorem dialPress_retouched (d : Device) : dialPress (retouched r d) = retouched r (dialPress d) :=
  startCourtesy_retouched (post_retouched .lightState
    (retouched_ite Iff.rfl (changeDialGroup_retouched _ rfl) (changeDialGroup_retouched _ rfl)))

theorem doorOpen_retouched (d : Device) : doorOpen (retouched r d) = retouched r (doorOpen d) :=
  retouched_ite Iff.rfl rfl (post_retouched .lightState (refreshLights_retouched _ rfl))

/-! ## The heater -/

theorem gatesFree_retouched (h : t = retouched r d) : gatesFree t = gatesFree d := by
  subst h
  simp only [gatesFree, rawOf_retouched]
  rfl

theorem fuelOf_retouched (st : HeaterState) (h : t = retouched r d) : fuelOf t st = fuelOf d st := by
  have free := gatesFree_retouched h
  subst h
  cases st with
  | ignite =>
    simp only [fuelOf, free]
    rfl
  | off | waitInrush | glow | ramp | run | purge | cooldown | paused | lockout => rfl

theorem putHtr_retouched (x : Heater) (h : t = retouched r d) : putHtr x t = retouched r (putHtr x d) := by
  subst h
  rfl

theorem enterHeater_retouched (st : HeaterState) (cause : HeaterCause) (h : t = retouched r d) :
    enterHeater st cause t = retouched r (enterHeater st cause d) := by
  subst h
  unfold enterHeater
  extract_lets _ d1 _ _ h d2 _ d1' _ h' d2'
  have fuel : fuelOf d1 st = fuelOf d1' st := fuelOf_retouched st (putHtr_retouched _ rfl)
  have same : h = h' := by
    unfold h h'
    rw [fuel]
    rfl
  have written : d2 = retouched r d2' := by
    unfold d2
    rw [same]
    exact writeEntry_retouched .heater _ _ rfl
  exact retouched_ite Iff.rfl written (post_retouched .heaterState written)

theorem applyTableDefault_retouched (h : t = retouched r d) :
    applyTableDefault t = retouched r (applyTableDefault d) := by
  subst h
  exact retouched_ite Iff.rfl rfl rfl

theorem toOff_retouched (cause : HeaterCause) (h : t = retouched r d) : toOff cause t = retouched r (toOff cause d) :=
  applyTableDefault_retouched (enterHeater_retouched .off cause h)

theorem leaveWait_retouched (cause : HeaterCause) (h : t = retouched r d) :
    leaveWait cause t = retouched r (leaveWait cause d) :=
  toOff_retouched cause (withdrawAllowance_retouched .heater h)

theorem toLockout_retouched (cause : HeaterCause) (h : t = retouched r d) :
    toLockout cause t = retouched r (toLockout cause d) := by
  unfold toLockout
  rw [enterHeater_retouched .lockout cause (withdrawAllowance_retouched .heater h)]
  exact applyTableDefault_retouched rfl

theorem toCooldown_retouched (cause : CooldownCause) (h : t = retouched r d) :
    toCooldown cause t = retouched r (toCooldown cause d) := by
  subst h
  unfold toCooldown
  dsimp only
  rw [enterHeater_retouched .cooldown (.cooling cause) (releaseAllowance_retouched .heater (putHtr_retouched _ rfl))]
  rfl

theorem toGlow_retouched (h : t = retouched r d) : toGlow t = retouched r (toGlow d) := by
  unfold toGlow
  rw [enterHeater_retouched .glow .none h]
  rfl

theorem requestHeater_retouched (h : t = retouched r d) : requestHeater t = retouched r (requestHeater d) := by
  subst h
  unfold requestHeater
  rw [requestAllowance_retouched]
  rcases requestAllowance .heater d with ⟨d1, _ | _ | _⟩
  · rfl
  · exact toGlow_retouched rfl
  · exact toOff_retouched (.refusal .inrush) rfl

theorem toWait_retouched (h : t = retouched r d) : toWait t = retouched r (toWait d) := by
  unfold toWait
  rw [enterHeater_retouched .waitInrush .none h]
  exact requestHeater_retouched rfl

theorem newStart_retouched (src : StartSource) (setpoint : Int) (h : t = retouched r d) :
    newStart src setpoint t = retouched r (newStart src setpoint d) := by
  subst h
  exact toWait_retouched rfl

theorem startHeater_retouched (src : StartSource) (setpoint : Int) (d : Device) :
    startHeater src setpoint (retouched r d) =
      (retouched r (startHeater src setpoint d).1, (startHeater src setpoint d).2) := by
  have htr : (retouched r d).htr = d.htr := rfl
  have check : startCheck false (retouched r d) = startCheck false d := rfl
  unfold startHeater
  rw [check, newStart_retouched src setpoint rfl, htr]
  dsimp only
  cases d.htr.state with
  | off | paused => cases startCheck false d <;> rfl
  | lockout | waitInrush | glow | ignite | ramp | run => rfl
  | cooldown | purge =>
    dsimp only
    split_ifs <;> rfl

theorem stopHeater_retouched (d : Device) : stopHeater (retouched r d) = retouched r (stopHeater d) := by
  have htr : (retouched r (clearRunUntil d)).htr = (clearRunUntil d).htr := rfl
  have cleared : clearRunUntil (retouched r d) = retouched r (clearRunUntil d) := rfl
  unfold stopHeater
  rw [cleared]
  generalize clearRunUntil d = u at htr ⊢
  dsimp only
  rw [htr]
  cases u.htr.state with
  | glow | ignite | ramp | run => exact toCooldown_retouched .stop rfl
  | purge => exact retouched_ite Iff.rfl rfl (toCooldown_retouched .stop rfl)
  | cooldown | off | lockout => rfl
  | waitInrush => exact leaveWait_retouched (.cooling .stop) rfl
  | paused => exact toOff_retouched (.cooling .stop) rfl

theorem panelPress_retouched (d : Device) : panelPress (retouched r d) = retouched r (panelPress d) := by
  have htr : (retouched r d).htr = d.htr := rfl
  unfold panelPress
  rw [htr, startHeater_retouched]
  cases d.htr.state with
  | off =>
    dsimp only
    rcases startHeater .panel d.htr.lastSetpoint d with ⟨d1, _ | r⟩
    · rfl
    · exact post_retouched .heaterState rfl
  | lockout => rfl
  | waitInrush | glow | ignite | ramp | run | purge | cooldown | paused => exact stopHeater_retouched d

theorem heaterIndication_retouched (severity : Nat) (new : Bool) (h : t = retouched r d) :
    heaterIndication severity new t = retouched r (heaterIndication severity new d) := by
  unfold heaterIndication
  rw [postIndication_retouched .htr severity new h]
  rfl

theorem recordFault_retouched (k : FaultKind) (h : t = retouched r d) :
    recordFault k t = retouched r (recordFault k d) := by
  subst h
  exact heaterIndication_retouched _ true (post_retouched .heaterFault rfl)

theorem overheatTrip_retouched (d : Device) : overheatTrip (retouched r d) = retouched r (overheatTrip d) := by
  have recorded : recordFault .overheatTrip (putHtr { (retouched r d).htr with latch := true } (retouched r d)) =
      retouched r (recordFault .overheatTrip (putHtr { d.htr with latch := true } d)) :=
    recordFault_retouched .overheatTrip rfl
  have htr (t : Device) : (retouched r t).htr = t.htr := rfl
  unfold overheatTrip
  rw [recorded]
  generalize recordFault .overheatTrip (putHtr { d.htr with latch := true } d) = u
  dsimp only
  rw [htr]
  cases u.htr.state with
  | glow | ignite | ramp | run => exact toCooldown_retouched .overheat rfl
  | purge => exact retouched_ite Iff.rfl rfl (toCooldown_retouched .overheat rfl)
  | cooldown | lockout => rfl
  | waitInrush | off | paused => exact toLockout_retouched .none rfl

/-! ## The compressor -/

theorem writeComp_retouched (h : t = retouched r d) : writeComp t = retouched r (writeComp d) := by
  subst h
  unfold writeComp
  rw [writeEntry_retouched .compressor _ 0 rfl]
  rfl

theorem putCmp_retouched (c : Compressor) (h : t = retouched r d) : putCmp c t = retouched r (putCmp c d) := by
  subst h
  rfl

theorem enterComp_retouched (st : CompState) (h : t = retouched r d) :
    enterComp st t = retouched r (enterComp st d) := by
  subst h
  have held : bridgeHeld (retouched r d) = bridgeHeld d := by
    simp only [bridgeHeld, rawOf_retouched]
    rfl
  have written (c : Compressor) := writeComp_retouched (r := r)
    (retouched_ite (c := d.cmp.state = .run ∧ st ≠ .run) Iff.rfl
      (a := { putCmp c d with sns := { d.sns with current := { sum := 0, count := 0 } } }) (b := putCmp c d) rfl rfl)
  unfold enterComp
  rw [held]
  exact retouched_ite Iff.rfl (written _) (post_retouched .fridgeState (written _))

theorem compFails_retouched (k : FailKind) (d : Device) : compFails k (retouched r d) = retouched r (compFails k d) := by
  unfold compFails
  rw [releaseAllowance_retouched .compressor rfl]
  extract_lets d1 failures _ d2 backoff timers2 blocked timers3 d1' failures' _ d2' backoff' timers2' blocked' timers3'
  have posted : d2 = retouched r d2' := post_retouched .fridgeState (putCmp_retouched _ rfl)
  have left (st : CompState) : enterComp st d2 = retouched r (enterComp st d2') := enterComp_retouched st posted
  have first : backoff = retouched r backoff' := left .stallBackoff
  have third : blocked = retouched r blocked' := left .blocked
  have same2 : timers2 = timers2' := congrArg (·.cmp.timers) first
  have same3 : timers3 = timers3' := congrArg (·.cmp.timers) third
  rw [first, third, same2, same3]
  exact retouched_ite Iff.rfl rfl (retouched_ite Iff.rfl rfl (postIndication_retouched .cmp 1 true rfl))

/-! ## The events (R11) -/

theorem wiredBrake_retouched (same : lineOf (retouched r d) 7 = lineOf d 7) :
    wiredBrake (retouched r d) = retouched r (wiredBrake d) := by
  have level : deliveredOf (retouched r d) 7 = deliveredOf d 7 := congrArg InputLine.delivered same
  unfold wiredBrake
  rw [level]
  exact retouched_ite Iff.rfl rfl rfl

theorem deliverEvent_retouched {line : Nat} (same : lineOf (retouched r d) line = lineOf d line) (rising : Bool) :
    deliverEvent line rising (retouched r d) = retouched r (deliverEvent line rising d) := by
  unfold deliverEvent
  split
  · exact retouched_ite Iff.rfl (doorOpen_retouched d) rfl
  · rfl
  · exact retouched_ite Iff.rfl (outletToggle_retouched d) rfl
  · exact retouched_ite Iff.rfl (panelPress_retouched d) rfl
  · exact retouched_ite Iff.rfl (dialPress_retouched d) rfl
  · exact retouched_ite Iff.rfl (overheatTrip_retouched d) rfl
  · exact retouched_ite Iff.rfl (compFails_retouched .overcurrent d) rfl
  · exact wiredBrake_retouched same
  · rfl

theorem lineOf_congr {d t : Device} (h : t.sns.lines = d.sns.lines) (n : Nat) : lineOf t n = lineOf d n := by
  rw [lineOf, h, lineOf]

/-- R11: the change of a line's delivered level, with other lines or the link retouched before or after. -/
theorem deliveredChange_retouched {line : Nat} (same : lineOf (retouched r d) line = lineOf d line) (level forcing : Bool) :
    deliveredChange line level forcing (retouched r d) = retouched r (deliveredChange line level forcing d) := by
  unfold deliveredChange
  rw [same]
  extract_lets x u u'
  have posted : u = retouched r u' := retouched_ite Iff.rfl (postInputChange_retouched line forcing rfl) rfl
  have lines : u'.sns.lines = d.sns.lines := by
    unfold u'
    split <;> simp
  have same' : lineOf (retouched r u') line = lineOf u' line := calc
    lineOf (retouched r u') line = lineOf (retouched r d) line := lineOf_congr (congrArg r.lines lines) line
    _ = lineOf d line := same
    _ = lineOf u' line := (lineOf_congr lines line).symm
  rw [posted]
  exact retouched_ite Iff.rfl (deliverEvent_retouched same' level) rfl

/-! ## One line, and the link, retouched -/

/-- Line `n` replaced, its polarity kept. -/
def lineRetouch (n : Nat) (l : InputLine) : Retouch where
  lines table := table.set n { l with polarity := (table.getD n noLine).polarity }
  link x := x
  polarity table m := by
    simp only [List.getD_eq_getElem?_getD, List.getElem?_set]
    split
    · next e =>
      subst e
      split
      · rfl
      · next h => simp [List.getElem?_eq_none (Nat.le_of_not_lt h)]
    · rfl
  enables _ := rfl
  notices _ := rfl
  table _ _ := rfl

/-- The link replaced, its notice table and the kinds enabled kept. -/
def linkRetouch (x : Link) : Retouch where
  lines table := table
  link y := { x with notices := y.notices, enables := y.enables }
  polarity _ _ := rfl
  enables _ := rfl
  notices _ := rfl
  table _ _ := rfl

theorem lineOf_lineRetouch {m n : Nat} (h : m ≠ n) (l : InputLine) (d : Device) :
    lineOf (retouched (lineRetouch n l) d) m = lineOf d m := by
  simp [lineOf, retouched, lineRetouch, List.getElem?_set_ne h.symm]

theorem lineOf_linkRetouch (x : Link) (d : Device) (m : Nat) : lineOf (retouched (linkRetouch x) d) m = lineOf d m := rfl

end Sys2Proof.Machine
end

section
/-! PROOFS. The lines' filters and the changes they accept (R10, R11). -/

namespace Sys2Proof.Machine

open Sys2Proof.Stated

/-! ## INPUT_CHANGE (R191) -/

/-- R191: a kind that is not in the table is appended. -/
theorem mergeNotice_new (k : NoticeKind) (mark : Option (Nat × Bool)) {table : List Notice} (h : ∀ x ∈ table, x.kind ≠ k) :
    mergeNotice k mark table = table ++ [{ kind := k, merge := 1, lines := mark.toList }] := by
  induction table with
  | nil => rfl
  | cons x rest ih =>
    obtain ⟨hx, hrest⟩ := List.forall_mem_cons.1 h
    refine (if_neg hx).trans ?_
    rw [ih hrest]
    rfl

/-- R191: a kind that is in the table is merged into its entry, which keeps its place. -/
theorem mergeNotice_again {k : NoticeKind} (line : Nat) (forcing : Bool) {before : List Notice} {x : Notice}
    (after : List Notice) (hx : x.kind = k) (h : ∀ y ∈ before, y.kind ≠ k) :
    mergeNotice k (some (line, forcing)) (before ++ x :: after) =
      before ++ { x with merge := min 255 (x.merge + 1), lines := putLineMark line forcing x.lines } :: after := by
  induction before with
  | nil => exact if_pos hx
  | cons y rest ih =>
    obtain ⟨hy, hrest⟩ := List.forall_mem_cons.1 h
    exact (if_neg hy).trans (congrArg (y :: ·) (ih hrest))

theorem mem_putLineMark (n : Nat) (forcing : Bool) (lines : List (Nat × Bool)) (p : Nat × Bool) :
    p ∈ putLineMark n forcing lines ↔ p = (n, forcing) ∨ (p ∈ lines ∧ p.1 ≠ n) := by
  have apart : p.1 ≠ n ↔ p.1 < n ∨ n < p.1 := Nat.ne_iff_lt_or_gt
  simp only [putLineMark, List.mem_append, List.mem_cons, List.mem_filter, decide_eq_true_eq, apart]
  tauto

/-! ## The delivered level (R11) -/

/-- R11: the directions that an edge sense takes. -/
theorem takes_iff (e : EdgeSense) (level : Bool) :
    e.takes level = true ↔ e = .both ∨ (e = .rising ∧ level = true) ∨ (e = .falling ∧ level = false) := by
  cases e <;> cases level <;> decide

/-! ## The protection lines and the lines' levels (R13) -/

theorem protect_pins (d : Device) : (protect d).pins = d.pins := by simp

theorem protect_sns (d : Device) : (protect d).sns = d.sns := by simp

theorem protect_lnk (d : Device) : (protect d).lnk = d.lnk := by simp

/-- The part with the records of the lines replaced. -/
def withLines (lines : List InputLine) (d : Device) : Device := { d with sns := { d.sns with lines := lines } }

theorem withLines_lines (lines : List InputLine) (d : Device) : (withLines lines d).sns.lines = lines := rfl

theorem withLines_pins (lines : List InputLine) (d : Device) : (withLines lines d).pins = d.pins := rfl

/-- R13: the protection lines act the same, whatever the lines' levels. -/
theorem protect_withLines {lines : List InputLine} {d : Device} (h5 : rawOf (withLines lines d) 5 = rawOf d 5)
    (h6 : rawOf (withLines lines d) 6 = rawOf d 6) :
    protect (withLines lines d) = withLines lines (protect d) := by
  let u := withLines lines d
  obtain ⟨cmpOn, cmpOff⟩ := protect_cmp u
  obtain ⟨cmpOn', cmpOff'⟩ := protect_cmp d
  obtain ⟨htrOn, htrOff⟩ := protect_htr u
  obtain ⟨htrOn', htrOff'⟩ := protect_htr d
  have cmp : (protect u).cmp = (protect d).cmp := by
    cases raw : rawOf d 6
    · exact (cmpOff (h6.trans raw)).trans (cmpOff' raw).symm
    · exact (cmpOn (h6.trans raw)).trans (cmpOn' raw).symm
  have htr : (protect u).htr = (protect d).htr := by
    cases raw : rawOf d 5
    · exact (htrOff (h5.trans raw)).trans (htrOff' raw).symm
    · exact (htrOn (h5.trans raw)).trans (htrOn' raw).symm
  rw [protect_only u, protect_only d, cmp, htr]
  rfl

/-- R13: protection lines whose raw levels are inactive hold nothing off. -/
theorem protect_none {d : Device} (h5 : rawOf d 5 = false) (h6 : rawOf d 6 = false) : protect d = d := by
  rw [protect_only, (protect_cmp d).2 h6, (protect_htr d).2 h5]

/-! ## One line's filter (R10) -/

theorem sampled_polarity (l : InputLine) (raw : Bool) : (sampled l raw).polarity = l.polarity := by
  unfold sampled
  split_ifs <;> rfl

/-- A sample of line `n` delivers a change of its level. -/
def sampleDelivers (n : Nat) (d : Device) : Prop :=
  (lineOf d n).forced = none ∧ (lineOf d n).startAfresh = false ∧
    (sampled (lineOf d n) (rawOf d n)).real ≠ (lineOf d n).real

/-- The part with line `n` sampled and nothing delivered. -/
def sampledOnly (n : Nat) (d : Device) : Device := putLine n (sampled (lineOf d n) (rawOf d n)) d

theorem sampledOnly_eq_retouched (n : Nat) (d : Device) :
    sampledOnly n d = retouched (lineRetouch n (sampled (lineOf d n) (rawOf d n))) d := by
  have line : ({ sampled (lineOf d n) (rawOf d n) with polarity := (lineOf d n).polarity } : InputLine) =
      sampled (lineOf d n) (rawOf d n) := by
    rw [← sampled_polarity (lineOf d n) (rawOf d n)]
  exact congrArg (fun l => putLine n l d) line.symm

/-- R10: the three samples that a filter does not accept, and the one it does. -/
theorem sampleLine_cases (n : Nat) (d : Device) :
    sampleLine n d =
      if (lineOf d n).startAfresh = false ∧ rawOf d n ≠ (lineOf d n).real ∧ (lineOf d n).filter ≤ (lineOf d n).run + 1 then
        acceptLevel n (rawOf d n) d
      else sampledOnly n d := by
  have later : (lineOf d n).filter ≤ (lineOf d n).run + 1 ↔ ¬(lineOf d n).run + 1 < (lineOf d n).filter := Nat.not_lt.symm
  unfold sampleLine sampledOnly sampled
  simp only [later]
  cases (lineOf d n).startAfresh
  · by_cases still : rawOf d n = (lineOf d n).real
    · simp [still]
    · by_cases waits : (lineOf d n).run + 1 < (lineOf d n).filter <;> simp [still, waits]
  · simp

/-- R10: what an accepted level makes of a line. -/
theorem sampled_accepts {l : InputLine} {raw : Bool} (afresh : l.startAfresh = false) (moved : raw ≠ l.real)
    (full : l.filter ≤ l.run + 1) : sampled l raw = { l with real := raw, run := 0 } := by
  rw [sampled, if_neg (by simp [afresh]), if_neg moved, if_neg (Nat.not_lt.2 full)]

/-- R10: a filter that moves its line's level has accepted it. -/
theorem sampled_moves {l : InputLine} {raw : Bool} (afresh : l.startAfresh = false) (h : (sampled l raw).real ≠ l.real) :
    raw ≠ l.real ∧ l.filter ≤ l.run + 1 := by
  unfold sampled at h
  rw [if_neg (by simp [afresh])] at h
  split_ifs at h with still waits
  · exact absurd rfl h
  · exact absurd rfl h
  · exact ⟨still, Nat.not_lt.1 waits⟩

theorem sampleLine_delivers {n : Nat} {d : Device} (h : sampleDelivers n d) :
    sampleLine n d = deliveredChange n (sampled (lineOf d n) (rawOf d n)).real false (sampledOnly n d) := by
  obtain ⟨forced, afresh, moves⟩ := h
  obtain ⟨moved, full⟩ := sampled_moves afresh moves
  rw [sampleLine_cases, if_pos ⟨afresh, moved, full⟩, sampledOnly, sampled_accepts afresh moved full]
  exact if_neg (by simp [forced, moved.symm])

theorem sampleLine_quiet {n : Nat} {d : Device} (h : ¬sampleDelivers n d) : sampleLine n d = sampledOnly n d := by
  rw [sampleLine_cases]
  split_ifs with accepts
  · obtain ⟨afresh, moved, full⟩ := accepts
    have accepted := sampled_accepts afresh moved full
    have forced : (lineOf d n).forced ≠ none := fun none' => h ⟨none', afresh, by rw [accepted]; exact moved⟩
    rw [sampledOnly, accepted]
    exact if_pos (.inr forced)
  · rfl

theorem sampleLine_lines (n : Nat) (d : Device) : (sampleLine n d).sns.lines = (sampledOnly n d).sns.lines := by
  by_cases h : sampleDelivers n d
  · rw [sampleLine_delivers h]
    simp
  · rw [sampleLine_quiet h]

theorem lineOf_putLine {n : Nat} {d : Device} (h : n < d.sns.lines.length) (l : InputLine) : lineOf (putLine n l d) n = l := by
  simp [lineOf, h]

theorem lineOf_putLine_ne {m n : Nat} (h : m ≠ n) (l : InputLine) (d : Device) : lineOf (putLine n l d) m = lineOf d m := by
  simp [lineOf, List.getElem?_set_ne h.symm]

theorem rawOf_sampleLine (n m : Nat) (d : Device) : rawOf (sampleLine n d) m = rawOf d m := by
  have only : rawOf (sampledOnly n d) m = rawOf d m := rawOf_putLine (sampled_polarity _ _) m
  have lines := lineOf_congr (sampleLine_lines n d) m
  rw [rawOf, lines, (sampleLine_frame n d).1]
  exact only

/-! ## A sample of every line -/

/-- A sample of the lines in a list, in its order. -/
def sampleEach (ns : List Nat) (d : Device) : Device := ns.foldl (fun acc n => sampleLine n acc) d

/-- Those lines sampled with nothing delivered. -/
def sampledEach (ns : List Nat) (d : Device) : Device := ns.foldl (fun acc n => sampledOnly n acc) d

theorem sampledEach_only (ns : List Nat) (d : Device) :
    sampledEach ns d = withLines (sampledEach ns d).sns.lines d := by
  induction ns generalizing d with
  | nil => rfl
  | cons n ns ih => exact ih (sampledOnly n d)

theorem sampleEach_lines (ns : List Nat) (d t : Device) (lines : d.sns.lines = t.sns.lines) (pins : d.pins = t.pins) :
    (sampleEach ns d).sns.lines = (sampledEach ns t).sns.lines := by
  induction ns generalizing d t with
  | nil => exact lines
  | cons n ns ih =>
    refine ih (sampleLine n d) (sampledOnly n t) ?_ ?_
    · rw [sampleLine_lines, sampledOnly, sampledOnly, rawOf_congr pins lines, lineOf_congr lines, putLine_lines, putLine_lines,
        lines]
    · exact ((sampleLine_frame n d).1).trans pins

theorem sampledOnly_lineOf {n : Nat} {d : Device} (hn : n < d.sns.lines.length) (m : Nat) :
    lineOf (sampledOnly n d) m = if m = n then sampled (lineOf d n) (rawOf d n) else lineOf d m := by
  split_ifs with h
  · rw [h]
    exact lineOf_putLine hn _
  · exact lineOf_putLine_ne h _ d

theorem rawOf_sampledOnly (n m : Nat) (d : Device) : rawOf (sampledOnly n d) m = rawOf d m :=
  rawOf_putLine (sampled_polarity _ _) m

/-- R10: what a sample makes of each line. -/
theorem lineOf_sampledEach {ns : List Nat} (nodup : ns.Nodup) (d : Device) (h : ∀ n ∈ ns, n < d.sns.lines.length) (m : Nat) :
    lineOf (sampledEach ns d) m = if m ∈ ns then sampled (lineOf d m) (rawOf d m) else lineOf d m := by
  induction ns generalizing d with
  | nil => rfl
  | cons n ns ih =>
    obtain ⟨fresh, nodup⟩ := List.nodup_cons.1 nodup
    obtain ⟨hn, hns⟩ := List.forall_mem_cons.1 h
    have rest := ih nodup (sampledOnly n d) (by simpa [sampledOnly] using hns)
    refine rest.trans ?_
    rw [sampledOnly_lineOf hn, rawOf_sampledOnly]
    by_cases same : m = n
    · simp [same, fresh]
    · simp [same]

theorem sampledEach_length (ns : List Nat) (d : Device) : (sampledEach ns d).sns.lines.length = d.sns.lines.length := by
  induction ns generalizing d with
  | nil => rfl
  | cons n ns ih => exact (ih (sampledOnly n d)).trans (List.length_set ..)

/-- What decides whether a line's sample delivers. -/
theorem sampleDelivers_congr {n : Nat} {d t : Device} (line : lineOf t n = lineOf d n) (raw : rawOf t n = rawOf d n) :
    sampleDelivers n t ↔ sampleDelivers n d := by
  unfold sampleDelivers
  rw [line, raw]

theorem sampleDelivers_sampledOnly {m n : Nat} (h : m ≠ n) (d : Device) :
    sampleDelivers m (sampledOnly n d) ↔ sampleDelivers m d :=
  sampleDelivers_congr (lineOf_putLine_ne h _ d) (rawOf_sampledOnly n m d)

/-- R10: lines none of which delivers. -/
theorem sampleEach_quiet {ns : List Nat} (nodup : ns.Nodup) {d : Device} (h : ∀ n ∈ ns, ¬sampleDelivers n d) :
    sampleEach ns d = sampledEach ns d := by
  induction ns generalizing d with
  | nil => rfl
  | cons n ns ih =>
    obtain ⟨fresh, nodup⟩ := List.nodup_cons.1 nodup
    obtain ⟨hn, hns⟩ := List.forall_mem_cons.1 h
    change sampleEach ns (sampleLine n d) = _
    rw [sampleLine_quiet hn]
    refine ih nodup fun m hm => ?_
    rw [sampleDelivers_sampledOnly (ne_of_mem_of_not_mem hm fresh)]
    exact hns m hm

/-- R11: a delivery before the samples of other lines, none of which delivers, or after them. -/
theorem sampledEach_deliveredChange {line : Nat} {ns : List Nat} (fresh : line ∉ ns) (level : Bool)
    (d : Device) :
    sampledEach ns (deliveredChange line level false d) = deliveredChange line level false (sampledEach ns d) := by
  induction ns generalizing d with
  | nil => rfl
  | cons n ns ih =>
    obtain ⟨other, fresh⟩ := not_or.1 (mt List.mem_cons.2 fresh)
    have frame := deliveredChange_frame line level false d
    have lines : (deliveredChange line level false d).sns.lines = d.sns.lines := by simp
    have swap : sampledOnly n (deliveredChange line level false d) = deliveredChange line level false (sampledOnly n d) := by
      rw [sampledOnly_eq_retouched, sampledOnly_eq_retouched, rawOf_congr frame.1 lines, lineOf_congr lines,
        deliveredChange_retouched (lineOf_lineRetouch other _ d)]
    change sampledEach ns (sampledOnly n _) = _
    rw [swap]
    exact ih fresh (sampledOnly n d)

theorem sampledEach_others {ns : List Nat} {m : Nat} (h : m ∉ ns) (d : Device) : lineOf (sampledEach ns d) m = lineOf d m := by
  induction ns generalizing d with
  | nil => rfl
  | cons n ns ih =>
    obtain ⟨other, h⟩ := not_or.1 (mt List.mem_cons.2 h)
    exact (ih h (sampledOnly n d)).trans (lineOf_putLine_ne other _ d)

theorem rawOf_sampledEach (ns : List Nat) (m : Nat) (d : Device) : rawOf (sampledEach ns d) m = rawOf d m := by
  induction ns generalizing d with
  | nil => rfl
  | cons n ns ih => exact (ih (sampledOnly n d)).trans (rawOf_sampledOnly n m d)

/-- R10, R11: lines one of which delivers. -/
theorem sampleEach_one {before after : List Nat} {n : Nat} (nodup : (before ++ n :: after).Nodup)
    {d : Device} (one : sampleDelivers n d) (others : ∀ m ∈ before ++ n :: after, m ≠ n → ¬sampleDelivers m d) :
    sampleEach (before ++ n :: after) d =
      deliveredChange n (sampled (lineOf d n) (rawOf d n)).real false (sampledEach (before ++ n :: after) d) := by
  obtain ⟨front, back, apart⟩ := List.nodup_append.1 nodup
  obtain ⟨freshAfter, back⟩ := List.nodup_cons.1 back
  have freshBefore : n ∉ before := fun hn => apart n hn n List.mem_cons_self rfl
  let d1 := sampledEach before d
  have line : lineOf d1 n = lineOf d n := sampledEach_others freshBefore d
  have raw (m : Nat) : rawOf d1 m = rawOf d m := rawOf_sampledEach before m d
  have quietBefore : sampleEach before d = d1 := sampleEach_quiet front fun m hm =>
    others m (List.mem_append_left _ hm) (ne_of_mem_of_not_mem hm freshBefore)
  have delivers : sampleLine n d1 = deliveredChange n (sampled (lineOf d n) (rawOf d n)).real false (sampledOnly n d1) := by
    rw [sampleLine_delivers ((sampleDelivers_congr line (raw n)).2 one), line, raw]
  have quietAfter : ∀ m ∈ after, ¬sampleDelivers m (sampleLine n d1) := fun m hm => by
    have ne : m ≠ n := ne_of_mem_of_not_mem hm freshAfter
    have before' : m ∉ before := fun hb => apart m hb m (List.mem_cons_of_mem n hm) rfl
    have lineM : lineOf (sampleLine n d1) m = lineOf d m := calc
      lineOf (sampleLine n d1) m = lineOf (sampledOnly n d1) m := lineOf_congr (sampleLine_lines n d1) m
      _ = lineOf d1 m := lineOf_putLine_ne ne _ d1
      _ = lineOf d m := sampledEach_others before' d
    rw [sampleDelivers_congr lineM ((rawOf_sampleLine n m d1).trans (raw m))]
    exact others m (List.mem_append_right _ (List.mem_cons_of_mem n hm)) ne
  calc sampleEach (before ++ n :: after) d
      = sampleEach after (sampleLine n (sampleEach before d)) := List.foldl_append ..
    _ = sampledEach after (sampleLine n d1) := by rw [quietBefore, sampleEach_quiet back quietAfter]
    _ = deliveredChange n _ false (sampledEach after (sampledOnly n d1)) := by
      rw [delivers, sampledEach_deliveredChange freshAfter]
    _ = deliveredChange n _ false (sampledEach (before ++ n :: after) d) := by
      rw [sampledEach, sampledEach, List.foldl_append]
      rfl

/-- R10: the part at a sample, before the lines' filters. -/
def atSample (pins : BitVec 8) (d : Device) : Device :=
  { d with
    pins := { d.pins with din := pins }
    sns := { d.sns with ms := max d.sns.ms d.sched.nextSample }
    sched := { d.sched with nextSample := d.sched.nextSample + 5 } }

theorem sampleLines_eq (pins : BitVec 8) (d : Device) :
    sampleLines pins d = sampleEach (List.range 8) (protect (atSample pins d)) := rfl

theorem protect_lineOf (d : Device) (n : Nat) : lineOf (protect d) n = lineOf d n := lineOf_congr (by simp) n

theorem protect_rawOf (d : Device) (n : Nat) : rawOf (protect d) n = rawOf d n := rawOf_congr (by simp) (by simp) n

theorem sampleLines_lines (pins : BitVec 8) (d : Device) :
    (sampleLines pins d).sns.lines = (sampledEach (List.range 8) (protect (atSample pins d))).sns.lines := by
  rw [sampleLines_eq]
  exact sampleEach_lines _ _ _ rfl rfl

/-- R10: what a sample makes of each of the eight lines. -/
theorem sampleLines_lineOf (pins : BitVec 8) {d : Device} (eight : d.sns.lines.length = 8) {n : Nat} (hn : n < 8) :
    lineOf (sampleLines pins d) n = sampled (lineOf d n) ((lineOf d n).polarity.active (pins.getLsbD n)) := by
  have length : (protect (atSample pins d)).sns.lines.length = 8 := (congrArg List.length (by simp [atSample])).trans eight
  have each := lineOf_sampledEach List.nodup_range (protect (atSample pins d)) (fun m hm => length ▸ List.mem_range.1 hm) n
  rw [lineOf_congr (sampleLines_lines pins d), each, if_pos (List.mem_range.2 hn), protect_lineOf, protect_rawOf]
  rfl

theorem sampleLines_length (pins : BitVec 8) {d : Device} (eight : d.sns.lines.length = 8) :
    (sampleLines pins d).sns.lines.length = 8 := by
  rw [sampleLines_lines, sampledEach_length]
  simpa [atSample] using eight

/-- R10: whether a line's sample delivers, by what the sample makes of it. -/
theorem atSample_delivers (pins : BitVec 8) {d : Device} (eight : d.sns.lines.length = 8) {n : Nat} (hn : n < 8) :
    sampleDelivers n (protect (atSample pins d)) ↔
      (lineOf d n).forced = none ∧ (lineOf d n).startAfresh = false ∧
        (lineOf (sampleLines pins d) n).real ≠ (lineOf d n).real := by
  rw [sampleLines_lineOf pins eight hn, sampleDelivers, protect_lineOf, protect_rawOf]
  rfl

theorem sampleLines_pins (pins : BitVec 8) (d : Device) : (sampleLines pins d).pins = (atSample pins d).pins := by
  rw [sampleLines_eq, sampleEach]
  simp

theorem sampleLines_ms (pins : BitVec 8) (d : Device) : (sampleLines pins d).sns.ms = (atSample pins d).sns.ms := by
  rw [sampleLines_eq, sampleEach]
  simp

theorem sampleLines_sched (pins : BitVec 8) (d : Device) : (sampleLines pins d).sched = (atSample pins d).sched := by
  rw [sampleLines_eq, sampleEach]
  simp

theorem rawOf_sampleLines (pins : BitVec 8) (d : Device) (n : Nat) :
    rawOf (sampleLines pins d) n = rawOf (atSample pins d) n := by
  have lines := sampleLines_lines pins d
  have held := (rawOf_sampledEach (List.range 8) n (protect (atSample pins d))).trans (protect_rawOf (atSample pins d) n)
  have din : (sampleLines pins d).pins = (sampledEach (List.range 8) (protect (atSample pins d))).pins := by
    rw [sampledEach_only, sampleLines_pins, withLines_pins, protect_pins]
  exact (rawOf_congr din lines n).trans held

/-- The part before the lines' filters, with the lines that the sample leaves. -/
def sampledLines (pins : BitVec 8) (d : Device) : Device := withLines (sampleLines pins d).sns.lines (atSample pins d)

theorem sampledEach_protect (pins : BitVec 8) (d : Device) :
    sampledEach (List.range 8) (protect (atSample pins d)) = protect (sampledLines pins d) := by
  have pinsOf : (sampledLines pins d).pins = (sampleLines pins d).pins := by
    rw [sampledLines, withLines_pins, sampleLines_pins]
  have raw (n : Nat) : rawOf (sampledLines pins d) n = rawOf (atSample pins d) n := by
    rw [← rawOf_sampleLines]
    exact rawOf_congr pinsOf (withLines_lines _ _) n
  rw [sampledEach_only, ← sampleLines_lines]
  exact (protect_withLines (raw 5) (raw 6)).symm

/-- R10: a sample at which no line delivers. -/
theorem sampleLines_quiet {pins : BitVec 8} {d : Device}
    (h : ∀ n, n < 8 → ¬sampleDelivers n (protect (atSample pins d))) :
    sampleLines pins d = protect (sampledLines pins d) := by
  rw [sampleLines_eq, sampleEach_quiet List.nodup_range fun n hn => h n (List.mem_range.1 hn), sampledEach_protect]

/-- R10, R11: a sample at which one line delivers. -/
theorem sampleLines_one {pins : BitVec 8} {d : Device} (eight : d.sns.lines.length = 8) {n : Nat} (hn : n < 8)
    (one : sampleDelivers n (protect (atSample pins d)))
    (others : ∀ m, m < 8 → m ≠ n → ¬sampleDelivers m (protect (atSample pins d))) :
    sampleLines pins d =
      deliveredChange n (lineOf (sampleLines pins d) n).real false (protect (sampledLines pins d)) := by
  have cut : List.range 8 = List.range n ++ n :: List.range' (n + 1) (7 - n) := by
    interval_cases n <;> rfl
  have real : (sampled (lineOf (protect (atSample pins d)) n) (rawOf (protect (atSample pins d)) n)).real =
      (lineOf (sampleLines pins d) n).real := by
    rw [sampleLines_lineOf pins eight hn, protect_lineOf, protect_rawOf]
    rfl
  have delivered := sampleEach_one (cut ▸ List.nodup_range) one fun m hm => others m (List.mem_range.1 (cut ▸ hm))
  rw [← real, ← sampledEach_protect, sampleLines_eq]
  rwa [← cut] at delivered

theorem Sensing.eq_of_parts {x y : Sensing} (h : x.ms = y.ms ∧ x.uptime = y.uptime ∧ x.clockSet = y.clockSet ∧
    x.clockOffset = y.clockOffset ∧ x.analog = y.analog ∧ x.tables = y.tables ∧ x.lines = y.lines ∧ x.dial = y.dial ∧
    x.current = y.current) : x = y := by
  cases x; cases y
  simpa only [Sensing.mk.injEq] using h

/-- What an event leaves of the link. -/
theorem Link.eq_of_quiet {x y : Link} (h : x.receiver = y.receiver ∧ x.lastByte = y.lastByte ∧ x.queue = y.queue ∧
    x.out = y.out ∧ x.tx = y.tx ∧ x.sendEnd = y.sendEnd ∧ x.awake = y.awake ∧ x.idle = y.idle ∧
    x.lastFrame = y.lastFrame ∧ x.enables = y.enables ∧ x.idleTime = y.idleTime ∧ x.resetKind = y.resetKind ∧
    x.resetUptime = y.resetUptime) : x = { y with notices := x.notices } := by
  cases x; cases y
  simpa using h

/-! ## An accepted change (R11) -/

theorem acceptLevel_lines (n : Nat) (level : Bool) (d : Device) :
    (acceptLevel n level d).sns.lines = d.sns.lines.set n { lineOf d n with real := level, run := 0 } := by
  unfold acceptLevel
  dsimp only
  split_ifs <;> simp

/-- The part at an accepted change, before the protection lines act: the pin and the line. -/
def lineAccepted (n : Nat) (level : Bool) (d : Device) : Device :=
  putLine n { lineOf d n with real := level, run := 0 } (putRaw n level d)

theorem acceptedChange_pins (n : Nat) (level : Bool) (d : Device) : (acceptedChange n level d).pins = (putRaw n level d).pins := by
  unfold acceptedChange
  simp

theorem acceptedChange_lines (n : Nat) (level : Bool) (d : Device) :
    (acceptedChange n level d).sns.lines = (lineAccepted n level d).sns.lines := by
  rw [acceptedChange, acceptLevel_lines, protect_lineOf, (protect_sns _)]
  rfl

theorem rawOf_lineAccepted (n : Nat) (level : Bool) (d : Device) (m : Nat) :
    rawOf (lineAccepted n level d) m = rawOf (putRaw n level d) m :=
  rawOf_putLine (n := n) (l := { lineOf d n with real := level, run := 0 }) (d := putRaw n level d) rfl m

theorem lineAccepted_protect (n : Nat) (level : Bool) (d : Device) :
    putLine n { lineOf d n with real := level, run := 0 } (protect (putRaw n level d)) = protect (lineAccepted n level d) := by
  let line := { lineOf d n with real := level, run := 0 }
  have raw := rawOf_lineAccepted n level d
  have held := protect_withLines (lines := d.sns.lines.set n line) (d := putRaw n level d) (raw 5) (raw 6)
  have sns : (protect (putRaw n level d)).sns.lines = d.sns.lines := congrArg (·.lines) (protect_sns _)
  unfold putLine
  rw [sns]
  exact held.symm

/-- R11: a line that is forced, or at that level already, delivers nothing. -/
theorem acceptedChange_quiet {n : Nat} {level : Bool} {d : Device}
    (h : (lineOf d n).real = level ∨ (lineOf d n).forced ≠ none) :
    acceptedChange n level d = protect (lineAccepted n level d) := by
  rw [← lineAccepted_protect, acceptedChange]
  have line : lineOf (protect (putRaw n level d)) n = lineOf d n := protect_lineOf _ n
  unfold acceptLevel
  rw [line]
  exact if_pos h

theorem acceptedChange_delivers {n : Nat} {level : Bool} {d : Device} (forced : (lineOf d n).forced = none)
    (moved : (lineOf d n).real ≠ level) :
    acceptedChange n level d = deliveredChange n level false (protect (lineAccepted n level d)) := by
  rw [← lineAccepted_protect, acceptedChange]
  have line : lineOf (protect (putRaw n level d)) n = lineOf d n := protect_lineOf _ n
  unfold acceptLevel
  rw [line]
  exact if_neg (by simp [forced, moved])

end Sys2Proof.Machine

namespace Sys2Proof.Proofs

open Sys2Proof Sys2Proof.Machine Sys2Proof.Stated

/-- Settles O10: the samples of the eight lines in their order, the accepted change, the edge sense and the posting. -/
theorem lineFiltersAcceptChanges : Obligations.LineFiltersAcceptChanges := by
  refine ⟨fun s pins eight => ?_, fun s n level eight => ?_, fun n level forcing d => ?_,
    fun n forcing d => ⟨fun off => ?_, fun on new => ?_, fun before x after on table hx first => ?_⟩⟩
  · have delivers {n : Nat} (hn : n < 8) := atSample_delivers pins eight hn
    have quiet {n : Nat} (hn : n < 8) (h : (lineOf s.dev n).forced ≠ none ∨ (lineOf s.dev n).startAfresh = true ∨
        (lineOf (sampleLines pins s.dev) n).real = (lineOf s.dev n).real) :
        ¬sampleDelivers n (protect (atSample pins s.dev)) := by
      rw [delivers hn]
      rintro ⟨forced, afresh, moved⟩
      exact h.elim (· forced) fun h => h.elim (fun on => Bool.noConfusion (afresh.symm.trans on)) moved
    have length := sampleLines_length pins eight
    have lines {n : Nat} (hn : n < 8) := sampleLines_lineOf pins eight hn
    have raw := rawOf_sampleLines pins s.dev
    have parts := sampleLines_frame pins s.dev
    have ms := sampleLines_ms pins s.dev
    have sched := sampleLines_sched pins s.dev
    have din := sampleLines_pins pins s.dev
    have still := sampleLines_quiet (pins := pins) (d := s.dev)
    have moves {n : Nat} (hn : n < 8) := sampleLines_one (pins := pins) (d := s.dev) eight hn
    have shape : sampledLines pins s.dev = withLines (sampleLines pins s.dev).sns.lines (atSample pins s.dev) := rfl
    refine runs_of_eq (f := sampleLines pins) rfl rfl ?_
    rw [shape] at still moves
    generalize sampleLines pins s.dev = t at *
    have shown : withLines t.sns.lines (atSample pins s.dev) = { s.dev with
        pins := t.pins, sns := { s.dev.sns with ms := t.sns.ms, lines := t.sns.lines }, sched := t.sched } := by
      rw [ms, sched, din]
      rfl
    refine ⟨length, fun n hn => lines hn, din, parts.1, Sensing.eq_of_parts (by simp [ms, parts, atSample]), sched,
      by simp [parts], by simp [parts], Link.eq_of_quiet (by simp [parts]),
      fun quietly h5 h6 => ?_, fun n hn forced afresh moved others => ?_⟩
    · have held (n : Nat) : rawOf (withLines t.sns.lines (atSample pins s.dev)) n = rawOf t n :=
        rawOf_congr (d := t) (t := withLines t.sns.lines (atSample pins s.dev)) din.symm rfl n
      rw [protect_none ((held 5).trans h5) ((held 6).trans h6), shown] at still
      exact still fun n hn => quiet hn (quietly n hn)
    · have one := moves hn ((delivers hn).2 ⟨forced, afresh, moved⟩) fun m hm other => quiet hm (others m hm other)
      rwa [shown] at one
  · have hn := n.isLt
    have lines := acceptedChange_lines n level s.dev
    have pins := acceptedChange_pins n level s.dev
    have quiet := acceptedChange_quiet (n := n) (level := level) (d := s.dev)
    have delivers := acceptedChange_delivers (n := n) (level := level) (d := s.dev)
    have raw := rawOf_lineAccepted n level s.dev
    refine runs_of_eq (f := acceptedChange n level) rfl rfl ?_
    generalize acceptedChange n level s.dev = t at *
    have shown : lineAccepted n level s.dev =
        { s.dev with pins := t.pins, sns := { s.dev.sns with lines := t.sns.lines } } := by
      rw [pins, lines]
      rfl
    have rawT {m : Nat} (hm : m < 8) : rawOf t m = if m = n then level else rawOf s.dev m :=
      (rawOf_congr (d := lineAccepted n level s.dev) pins lines m).trans ((raw m).trans (rawOf_putRaw hn hm level s.dev))
    have lineT {m : Nat} (other : m ≠ n) : lineOf t m = lineOf s.dev m :=
      (lineOf_congr lines m).trans (lineOf_putLine_ne other _ _)
    refine ⟨(lineOf_congr lines n).trans (lineOf_putLine (d := putRaw n level s.dev) (eight.symm ▸ hn) _), (rawT hn).trans (if_pos rfl),
      fun m hm other => ⟨lineT other, (rawT hm).trans (if_neg other)⟩, fun still h5 h6 other => ?_, fun forced moved => ?_⟩
    · have free {m : Nat} (hm : m < 8) (ne : n.val ≠ m) (off : rawOf s.dev m = false) :
          rawOf (lineAccepted n level s.dev) m = false := by
        rw [raw, rawOf_putRaw hn hm, if_neg ne.symm, off]
      obtain ⟨ne5, ne6⟩ := other
      have free5 := free (by decide) ne5 (h5 ne5)
      have free6 := free (by decide) ne6 (h6 ne6)
      exact ((quiet still.symm).trans (protect_none free5 free6)).trans shown
    · rw [← shown]
      exact delivers forced moved
  · have takes := takes_iff (lineOf d n).edge level
    exact ⟨fun matched => if_pos (takes.2 matched), fun other => if_neg (mt takes.1 other)⟩
  · exact if_neg (by simp [off])
  · refine (if_pos on).trans ?_
    rw [mergeNotice_new _ _ new]
    rfl
  · refine ⟨putLineMark n forcing x.lines, mem_putLineMark n forcing x.lines, (if_pos on).trans ?_⟩
    rw [table, mergeNotice_again n forcing after hx first]

end Sys2Proof.Proofs
end

section
/-! PROOFS. The requests that set the input lines (R12, R14, R15). -/

namespace Sys2Proof.Machine

open Sys2Proof.Stated

/-! ## INPUT_CONFIG (R12) -/

theorem freeFlag_iff {b : Byte} (h : b.toNat ≤ 1) : freeFlag b.toNat = decide (b = 1) := by
  revert b
  decide

theorem edgeOfCode_eq (b : Byte) :
    edgeOfCode b.toNat = if b = 0 then .rising else if b = 1 then .falling else .both := by
  by_cases zero : b = 0
  · rw [if_pos zero, zero]
    rfl
  · by_cases one : b = 1
    · rw [if_neg zero, if_pos one, one]
      rfl
    · have zero' : b.toNat ≠ 0 := fun h => zero (BitVec.eq_of_toNat_eq h)
      have one' : b.toNat ≠ 1 := fun h => one (BitVec.eq_of_toNat_eq h)
      rw [if_neg zero, if_neg one]
      unfold edgeOfCode
      split
      · next h => exact absurd h zero'
      · next h => exact absurd h one'
      · rfl

/-- R12: settings outside their ranges. -/
def badSetting (n pol len edge : Byte) : Prop :=
  8 ≤ n.toNat ∨ 2 ≤ pol.toNat ∨ len.toNat = 0 ∨ 16 ≤ len.toNat ∨ 3 ≤ edge.toNat

/-- R12: settings that the protection lines do not take. -/
def guarded (n len edge : Byte) : Prop := (n.toNat = 5 ∨ n.toNat = 6) ∧ (len ≠ 2 ∨ edge ≠ 2)

theorem inputConfigRequest_eq (n pol len edge rep : Byte) (d : Device) :
    (badSetting n pol len edge → inputConfigRequest [n, pol, len, edge, rep] d = refuse .badValue d) ∧
    (¬badSetting n pol len edge → guarded n len edge →
      inputConfigRequest [n, pol, len, edge, rep] d = refuse .protectedItem d) ∧
    (¬badSetting n pol len edge → ¬guarded n len edge →
      inputConfigRequest [n, pol, len, edge, rep] d =
        taken (protect (putLine n.toNat ((lineOf d n.toNat).configured (if pol.toNat = 0 then .high else .low) len.toNat
          (edgeOfCode edge.toNat) (freeFlag rep.toNat)) d)) []) := by
  have bad : (7 < n.toNat ∨ 1 < pol.toNat ∨ (!within 1 15 len.toNat) = true ∨ 2 < edge.toNat) ↔ badSetting n pol len edge := by
    simp [within, badSetting]
    omega
  have two (b : Byte) : b.toNat ≠ 2 ↔ b ≠ 2 := not_congr ⟨fun h => BitVec.eq_of_toNat_eq h, fun h => h ▸ rfl⟩
  have held : ((n.toNat = 5 ∨ n.toNat = 6) ∧ (len.toNat ≠ 2 ∨ edge.toNat ≠ 2)) ↔ guarded n len edge := by
    rw [two, two]
    rfl
  refine ⟨fun h => ?_, fun h hg => ?_, fun h hg => ?_⟩
  · exact (if_neg (not_not.2 rfl)).trans (if_pos (bad.2 h))
  · exact (if_neg (not_not.2 rfl)).trans ((if_neg (mt bad.1 h)).trans (if_pos (held.2 hg)))
  · exact (if_neg (not_not.2 rfl)).trans ((if_neg (mt bad.1 h)).trans (if_neg (mt held.1 hg)))

/-! ## Forcing (R14, R15) -/

theorem putForcing_eq (n : Nat) (forced : Option Bool) (d : Device) :
    let l := { lineOf d n with forced := forced }
    (l.delivered = (lineOf d n).delivered → putForcing n forced d = putLine n l d) ∧
    (l.delivered ≠ (lineOf d n).delivered → putForcing n forced d = deliveredChange n l.delivered true (putLine n l d)) :=
  ⟨fun h => if_pos h, fun h => if_neg h⟩

theorem putForcing_lines (n : Nat) (forced : Option Bool) (d : Device) :
    (putForcing n forced d).sns.lines = d.sns.lines.set n { lineOf d n with forced := forced } := by
  unfold putForcing
  dsimp only
  split <;> simp

/-- R14, R15: forcing reads of the link which kinds are enabled, and changes its notice table alone. -/
theorem putForcing_retouched (n : Nat) (forced : Option Bool) (x : Link) (d : Device) :
    putForcing n forced (retouched (linkRetouch x) d) = retouched (linkRetouch x) (putForcing n forced d) :=
  retouched_ite Iff.rfl rfl (deliveredChange_retouched (lineOf_linkRetouch x (putLine n _ d) n) _ true)

/-- R185: the part once a request's frame has been heard. -/
theorem heard_retouched (d : Device) (f : Frame) : { d with lnk := heard d f } = retouched (linkRetouch (heard d f)) d := rfl

theorem inputForceRequest_eq (n level : Byte) (d : Device) :
    (8 ≤ n.toNat ∨ 2 ≤ level.toNat → inputForceRequest [n, level] d = refuse .badValue d) ∧
    (¬(8 ≤ n.toNat ∨ 2 ≤ level.toNat) → n.toNat = 5 ∨ n.toNat = 6 → inputForceRequest [n, level] d = refuse .protectedItem d) ∧
    (¬(8 ≤ n.toNat ∨ 2 ≤ level.toNat) → ¬(n.toNat = 5 ∨ n.toNat = 6) →
      inputForceRequest [n, level] d = taken (putForcing n.toNat (some (decide (level = 1))) d) []) := by
  have one : level.toNat = 1 ↔ level = 1 := ⟨fun h => BitVec.eq_of_toNat_eq h, fun h => h ▸ rfl⟩
  refine ⟨fun h => ?_, fun h hp => ?_, fun h hp => ?_⟩
  · exact (if_neg (not_not.2 rfl)).trans (if_pos h)
  · exact (if_neg (not_not.2 rfl)).trans ((if_neg h).trans (if_pos hp))
  · refine (if_neg (not_not.2 rfl)).trans ((if_neg h).trans ((if_neg hp).trans ?_))
    rw [← decide_eq_decide.2 one]
    rfl

theorem inputReleaseRequest_eq (n : Byte) (d : Device) :
    (8 ≤ n.toNat → inputReleaseRequest [n] d = refuse .badValue d) ∧
    (n.toNat < 8 → inputReleaseRequest [n] d = taken (putForcing n.toNat none d) []) := by
  refine ⟨fun h => (if_neg (not_not.2 rfl)).trans (if_pos h), fun h => ?_⟩
  exact (if_neg (not_not.2 rfl)).trans (if_neg (Nat.not_lt.2 (Nat.le_of_lt_succ h)))

/-- R14, R15: a request that changes the forcing of a line is answered OK, and a changed delivered level is delivered. -/
theorem forces {d : Device} (free : noneInHand d) (eight : d.sns.lines.length = 8) {kind tag : Byte} {body : List Byte}
    {owner : List Byte → Device → Answered} {n : Nat} (hn : n < 8) {forced : Option Bool} {level : Bool}
    (shows : ({ lineOf d n with forced := forced } : InputLine).delivered = level)
    (ha : owner body { d with lnk := heard d { kind := kind, tag := tag, body := body } } =
      taken (putForcing n forced { d with lnk := heard d { kind := kind, tag := tag, body := body } }) []) :
    let t := serve kind tag body owner d
    Replied d t kind tag body 0x00 [] ∧
    lineOf t n = { lineOf d n with forced := forced } ∧
    deliveredOf t n = level ∧ (∀ m, m < 8 → m ≠ n → lineOf t m = lineOf d m) ∧
    (deliveredOf d n = level →
      t = { d with sns := { d.sns with lines := t.sns.lines }, lnk := t.lnk } ∧ t.lnk.notices = d.lnk.notices) ∧
    (deliveredOf d n ≠ level → changeDelivered d t n level) := by
  intro t
  rw [heard_retouched, putForcing_retouched] at ha
  have enables : (putForcing n forced d).lnk.enables = d.lnk.enables := by simp
  obtain ⟨replied, same, notices⟩ := serve_taken free (kind := kind) (tag := tag) ha
    (congrArg (fun e => ({ heard d { kind := kind, tag := tag, body := body } with
      notices := (putForcing n forced d).lnk.notices, enables := e } : Link)) enables) (by simp [retouched])
  have lines : t.sns.lines = d.sns.lines.set n { lineOf d n with forced := forced } :=
    (congrArg (·.sns.lines) same).trans (putForcing_lines n forced d)
  have line : lineOf t n = { lineOf d n with forced := forced } :=
    (lineOf_congr (d := putLine n { lineOf d n with forced := forced } d) lines n).trans (lineOf_putLine (eight.symm ▸ hn) _)
  obtain ⟨still, moves⟩ := putForcing_eq n forced d
  refine ⟨replied, line, (congrArg InputLine.delivered line).trans shows, fun m _ other => ?_, fun h => ?_, fun h => ?_⟩
  · exact (lineOf_congr (d := putLine n { lineOf d n with forced := forced } d) lines m).trans (lineOf_putLine_ne other _ d)
  · rw [still (shows.trans h.symm)] at same notices
    refine ⟨?_, notices⟩
    rw [lines]
    exact same
  · rw [moves (fun e => h (e.symm.trans shows))] at same notices
    unfold changeDelivered
    rw [lines, ← shows]
    exact ⟨same, notices⟩

end Sys2Proof.Machine

namespace Sys2Proof.Proofs

open Sys2Proof Sys2Proof.Machine Sys2Proof.Stated

/-- Settles O11: each request by whether its owner takes it. -/
theorem inputRequestsSetLines : Obligations.InputRequestsSetLines := by
  intro s tag free eight
  refine ⟨fun n pol len edge rep hn hp lo hi he hr protected' => ?_, fun n level hn ne5 ne6 hl => ?_, fun n hn => ?_,
    fun n pol len edge rep => ?_, fun n hn => ?_, fun n level bad => ?_⟩
  · have ok : ¬badSetting n pol len edge := by
      unfold badSetting
      omega
    have open' : ¬guarded n len edge := fun ⟨line, other⟩ => by
      obtain ⟨two, both⟩ := protected' line
      exact other.elim (· two) (· both)
    let x : Device := { s.dev with lnk := heard s.dev { kind := 0x0B, tag := tag, body := [n, pol, len, edge, rep] } }
    let l := (lineOf s.dev n.toNat).configured (if pol.toNat = 0 then .high else .low) len.toNat (edgeOfCode edge.toNat)
      (freeFlag rep.toNat)
    let y := putLine n.toNat l x
    have polarity : (if pol.toNat = 0 then Polarity.high else .low) = if pol = 0 then .high else .low := by
      have zero : pol.toNat = 0 ↔ pol = 0 := ⟨fun h => BitVec.eq_of_toNat_eq h, fun h => h ▸ rfl⟩
      simp only [zero]
    obtain ⟨replied, same, notices⟩ := serve_taken free (kind := 0x0B) (tag := tag)
      ((inputConfigRequest_eq n pol len edge rep x).2.2 ok open') (by simp [x]) (by simp [x])
    refine runs_of_eq (f := serve 0x0B tag [n, pol, len, edge, rep] inputConfigRequest) rfl rfl ?_
    generalize serve 0x0B tag [n, pol, len, edge, rep] inputConfigRequest s.dev = t at *
    have lines : t.sns.lines = s.dev.sns.lines.set n.toNat l :=
      (congrArg (·.sns.lines) same).trans (congrArg (·.lines) (protect_sns y))
    have raw (m : Nat) : rawOf t m = rawOf y m :=
      rawOf_congr ((congrArg (·.pins) same).trans (protect_pins y)) lines m
    refine ⟨⟨replied, notices.trans (congrArg (·.notices) (protect_lnk y))⟩, ?_, fun m _ other => ?_, ?_, fun h5 => ?_,
      fun h6 => ?_⟩
    · refine ((lineOf_congr (d := y) lines n.toNat).trans (lineOf_putLine (eight.symm ▸ hn) l)).trans ?_
      unfold l
      rw [polarity, edgeOfCode_eq, freeFlag_iff hr]
      rfl
    · exact (lineOf_congr (d := y) lines m).trans (lineOf_putLine_ne other l x)
    · have htr : t.htr = (protect y).htr := congrArg (·.htr) same
      have cmp : t.cmp = (protect y).cmp := congrArg (·.cmp) same
      rw [lines, htr, cmp]
      exact same.trans (congrArg (fun u : Device => { u with lnk := t.lnk }) (protect_only y))
    · exact (congrArg (·.htr) same).trans ((protect_htr _).2 ((raw 5).symm.trans h5))
    · exact (congrArg (·.cmp) same).trans ((protect_cmp _).2 ((raw 6).symm.trans h6))
  · have ok : ¬(8 ≤ n.toNat ∨ 2 ≤ level.toNat) := by omega
    exact runs_of_eq (f := serve 0x0C tag [n, level] inputForceRequest) rfl rfl
      (forces free eight hn rfl ((inputForceRequest_eq n level _).2.2 ok (not_or.2 ⟨ne5, ne6⟩)))
  · exact runs_of_eq (f := serve 0x0D tag [n] inputReleaseRequest) rfl rfl
      (forces free eight hn rfl ((inputReleaseRequest_eq n _).2 hn))
  · intro bad none'
    obtain ⟨refused, guardedOff, -⟩ := inputConfigRequest_eq n pol len edge rep
      { s.dev with lnk := heard s.dev { kind := 0x0B, tag := tag, body := [n, pol, len, edge, rep] } }
    by_cases h : bad
    · obtain ⟨replied, same⟩ := serve_refused free (kind := 0x0B) (tag := tag) (refused h) rfl
      exact ⟨_, rfl, rfl, (if_pos h).symm ▸ replied, same⟩
    · obtain ⟨replied, same⟩ := serve_refused free (kind := 0x0B) (tag := tag) (guardedOff h (none'.resolve_left h)) rfl
      exact ⟨_, rfl, rfl, (if_neg h).symm ▸ replied, same⟩
  · obtain ⟨replied, same⟩ := serve_refused free (kind := 0x0D) (tag := tag) ((inputReleaseRequest_eq n _).1 hn) rfl
    exact ⟨_, rfl, rfl, replied, same⟩
  · obtain ⟨refused, guardedOff, -⟩ := inputForceRequest_eq n level
      { s.dev with lnk := heard s.dev { kind := 0x0C, tag := tag, body := [n, level] } }
    by_cases h : 8 ≤ n.toNat ∨ 2 ≤ level.toNat
    · obtain ⟨replied, same⟩ := serve_refused free (kind := 0x0C) (tag := tag) (refused h) rfl
      exact ⟨_, rfl, rfl, (if_pos h).symm ▸ replied, same⟩
    · obtain ⟨replied, same⟩ := serve_refused free (kind := 0x0C) (tag := tag) (guardedOff h (bad.resolve_left h)) rfl
      exact ⟨_, rfl, rfl, (if_neg h).symm ▸ replied, same⟩

end Sys2Proof.Proofs
end

section
/-! PROOFS. The measurement sweep (R1 to R5, R7). -/

namespace Sys2Proof.Machine

open Sys2Proof.Stated

/-! ## SNS's indication, which the heater and the compressor leave -/

/-- SNS's entry in the list of sources stays. -/
def KeepsSns (d t : Device) : Prop := t.lgt.sources.get .sns = d.lgt.sources.get .sns

theorem KeepsSns.refl (d : Device) : KeepsSns d d := rfl

theorem KeepsSns.of_lgt {d t : Device} (h : t.lgt = d.lgt) : KeepsSns d t := by rw [KeepsSns, h]

theorem KeepsSns.trans {d t u : Device} (h : KeepsSns d t) (h' : KeepsSns t u) : KeepsSns d u := Eq.trans h' h

theorem postIndication_keepsSns {g : Source} (h : g ≠ .sns) (n : Nat) (new : Bool) (d : Device) :
    KeepsSns d (postIndication g n new d) := by
  rw [KeepsSns, postIndication_sources, sourceList_get_put, if_neg h.symm]

theorem heaterIndication_keepsSns (n : Nat) (new : Bool) (d : Device) : KeepsSns d (heaterIndication n new d) :=
  postIndication_keepsSns (by decide) n new d

theorem recordFault_keepsSns (k : FaultKind) (d : Device) : KeepsSns d (recordFault k d) :=
  KeepsSns.trans (.of_lgt (by simp)) (heaterIndication_keepsSns _ true _)

theorem exchangerFails_keepsSns (d : Device) : KeepsSns d (exchangerFails d) := by
  unfold exchangerFails
  split_ifs
  · exact (recordFault_keepsSns .sensor d).trans (.of_lgt (by simp))
  · exact .of_lgt (by simp)
  · exact .refl d

theorem softOverheat_keepsSns (d : Device) : KeepsSns d (softOverheat d) := by
  unfold softOverheat
  dsimp only
  split_ifs
  · exact (recordFault_keepsSns .overheatSoft d).trans (.of_lgt (by simp))
  · exact (recordFault_keepsSns .overheatSoft d).trans (.of_lgt (by simp))
  · exact .refl d

theorem flameLost_keepsSns (d : Device) : KeepsSns d (flameLost d) := by
  unfold flameLost
  dsimp only
  split_ifs
  · exact (recordFault_keepsSns .flameLoss d).trans (.of_lgt (by simp))
  · exact .of_lgt (by simp)

theorem runSweep_keepsSns (d : Device) : KeepsSns d (runSweep d) := by
  unfold runSweep
  dsimp only
  split_ifs
  · exact flameLost_keepsSns d
  · exact .of_lgt (by simp)
  · exact .of_lgt (by simp)

theorem heaterStateSweep_keepsSns (d : Device) : KeepsSns d (heaterStateSweep d) := by
  unfold heaterStateSweep
  split
  · exact .of_lgt (by simp)
  · exact .of_lgt (by simp)
  · exact runSweep_keepsSns d
  · exact .of_lgt (by simp)
  · exact .of_lgt (by simp)
  · exact .refl d
  · exact .refl d
  · exact .refl d
  · exact .refl d
  · exact .refl d

theorem heaterSweep_keepsSns (was : Bool) (d : Device) : KeepsSns d (heaterSweep was d) := by
  unfold heaterSweep
  extract_lets st d1
  have failed : KeepsSns d d1 := by
    unfold d1
    split_ifs
    · exact exchangerFails_keepsSns d
    · exact .refl d
  exact ((failed.trans (softOverheat_keepsSns d1)).trans (heaterStateSweep_keepsSns _)).trans (.of_lgt (by simp))

theorem compFails_keepsSns (k : FailKind) (d : Device) : KeepsSns d (compFails k d) := by
  unfold compFails
  dsimp only
  split_ifs
  · exact .refl d
  · exact .of_lgt (by simp)
  · exact KeepsSns.trans (.of_lgt (by simp)) (postIndication_keepsSns (by decide) 1 true _)

theorem toStart_keepsSns (d : Device) : KeepsSns d (toStart d) := by
  unfold toStart
  dsimp only
  split_ifs
  · exact KeepsSns.trans (.of_lgt (by simp)) (compFails_keepsSns .overcurrent _)
  · exact .of_lgt (by simp)
  · exact KeepsSns.trans (.of_lgt (by simp)) (compFails_keepsSns .hall _)

theorem toCompWait_keepsSns (d : Device) : KeepsSns d (toCompWait d) := by
  have asked : KeepsSns d (requestAllowance .compressor (enterComp .waitInrush d)).1 := .of_lgt (by simp)
  unfold toCompWait
  revert asked
  rcases requestAllowance .compressor (enterComp .waitInrush d) with ⟨d1, _ | _ | _⟩ <;> intro asked
  · exact asked
  · exact asked.trans (toStart_keepsSns d1)
  · exact asked.trans (.of_lgt (by simp))

theorem holdTest_keepsSns (d : Device) : KeepsSns d (holdTest d) := by
  unfold holdTest
  split_ifs
  · exact toCompWait_keepsSns d
  · exact .refl d
  · exact .of_lgt (by simp)
  · exact .refl d

theorem demandComes_keepsSns (d : Device) : KeepsSns d (demandComes d) := by
  unfold demandComes
  dsimp only
  split
  · exact KeepsSns.trans (.of_lgt (by simp)) (holdTest_keepsSns _)
  · exact KeepsSns.trans (.of_lgt (by simp)) (holdTest_keepsSns _)
  · exact .of_lgt (by simp)

theorem demandGoes_keepsSns (d : Device) : KeepsSns d (demandGoes d) := by
  unfold demandGoes
  dsimp only
  split
  · exact KeepsSns.trans (.of_lgt (by simp)) (holdTest_keepsSns _)
  · exact .of_lgt (by simp)
  · exact .of_lgt (by simp)
  · split_ifs <;> exact .of_lgt (by simp)
  all_goals exact .of_lgt (by simp)

theorem setDemand_keepsSns (v : Bool) (d : Device) : KeepsSns d (setDemand v d) := by
  unfold setDemand
  split_ifs
  · exact .refl d
  · exact demandComes_keepsSns d
  · exact demandGoes_keepsSns d

theorem thermostat_keepsSns (d : Device) : KeepsSns d (thermostat d) := by
  unfold thermostat
  dsimp only
  split_ifs
  · exact setDemand_keepsSns true d
  · exact setDemand_keepsSns false d
  · exact .refl d

theorem enterTimed_keepsSns (d : Device) : KeepsSns d (enterTimed d) := by
  unfold enterTimed
  extract_lets changed _ _ d1 d2
  have entered : KeepsSns d d2 := .of_lgt (by unfold d2; split_ifs <;> simp [d1])
  split_ifs
  · exact entered.trans (.of_lgt (by simp))
  · exact entered.trans (setDemand_keepsSns true d2)

theorem compSweep_keepsSns (d : Device) : KeepsSns d (compSweep d) := by
  unfold compSweep
  split_ifs
  · exact .refl d
  · exact KeepsSns.trans (.of_lgt (by simp)) (thermostat_keepsSns _)
  · exact thermostat_keepsSns d
  · exact .refl d
  · exact enterTimed_keepsSns d

/-! ## The channels (R1 to R5) -/

/-- R1: a history of four. -/
theorem converted_history (c : Channel) (code : RawCode) :
    (c.converted code).history =
      if c.history.length < 4 then c.history ++ [code.toNat] else (c.history ++ [code.toNat]).drop 1 := by
  have length : 4 < (c.history ++ [code.toNat]).length ↔ ¬c.history.length < 4 := by
    rw [List.length_append, List.length_singleton]
    omega
  unfold Channel.converted
  simp only [length, ite_not]

theorem clampInt_eq (lo hi x : Int) : clampInt lo hi x = max lo (min hi x) := rfl

/-- R2, R3: a battery channel, by whether its history holds four codes. -/
theorem publishBattery_short {c : Channel} (h : c.history.length ≠ 4) (convert : Nat → Int) :
    c.publishBattery convert = { c with status := .notReady, average := 0, value := 0 } :=
  if_neg (by simpa [Channel.isFull] using h)

theorem publishBattery_full {c : Channel} (h : c.history.length = 4) (convert : Nat → Int) :
    c.publishBattery convert =
      { c with status := .ok, average := c.history.sum / 4, value := convert (c.history.sum / 4) } :=
  if_pos (by simpa [Channel.isFull] using h)

theorem publishTemp_short {c : Channel} (h : c.history.length ≠ 4) (table : List (Nat × Int)) :
    c.publishTemp table = { c with status := .notReady, average := 0, value := 0 } :=
  if_neg (by simpa [Channel.isFull] using h)

/-- R4: a temperature channel whose history holds four codes. -/
theorem publishTemp_full {c : Channel} (h : c.history.length = 4) (table : List (Nat × Int)) :
    let raw := c.history.sum / 4
    (raw < 40 → c.publishTemp table = { c with status := .shortCircuit, average := raw, value := c.lastGood }) ∧
    (4055 < raw → c.publishTemp table = { c with status := .openCircuit, average := raw, value := c.lastGood }) ∧
    (40 ≤ raw → raw ≤ 4055 → c.publishTemp table =
      { c with status := .ok, average := raw, value := tableLookup table raw, lastGood := tableLookup table raw }) := by
  intro raw
  have full : c.isFull = true := by simpa [Channel.isFull] using h
  have mean : c.mean = raw := rfl
  refine ⟨fun low => ?_, fun high => ?_, fun lo hi => ?_⟩
  · have grade : gradeRaw raw = .shortCircuit := if_pos low
    simp only [Channel.publishTemp, full, if_true, mean, grade]
  · have grade : gradeRaw raw = .openCircuit := (if_neg (by omega)).trans (if_pos high)
    simp only [Channel.publishTemp, full, if_true, mean, grade]
  · have grade : gradeRaw raw = .ok := (if_neg (by omega)).trans (if_neg (by omega))
    simp only [Channel.publishTemp, full, if_true, mean, grade]

/-- R4: a temperature channel `old` that becomes `new`, graded by its average. -/
def TempGraded (table : List (Nat × Int)) (old new : Channel) : Prop :=
  (new.average < 40 → new.status = .shortCircuit ∧ new.value = old.lastGood ∧ new.lastGood = old.lastGood) ∧
  (4055 < new.average → new.status = .openCircuit ∧ new.value = old.lastGood ∧ new.lastGood = old.lastGood) ∧
  (40 ≤ new.average → new.average ≤ 4055 →
    new.status = .ok ∧ new.value = tableLookup table new.average ∧ new.lastGood = new.value)

/-- R4, R5: what a sweep makes of a temperature channel. -/
theorem sweptTemp {f : Factory} {tables : SensorTables} {c : AnalogChannel} (hv : c ≠ .batv) (hi : c ≠ .bati)
    (code : RawCode) (old : Channel) :
    sweptChannel f tables c code old ((old.converted code).publishTemp (tableOf tables c)) := by
  let raw := (old.converted code).history.sum / 4
  have range : raw < 40 ∨ 4055 < raw ∨ (40 ≤ raw ∧ raw ≤ 4055) := by omega
  by_cases full : (old.converted code).history.length = 4
  · obtain ⟨low, high, good⟩ := publishTemp_full full (tableOf tables c)
    have kept : ((old.converted code).publishTemp (tableOf tables c)).history = (old.converted code).history ∧
        ((old.converted code).publishTemp (tableOf tables c)).average = raw := by
      rcases range with h | h | ⟨lo, hi'⟩
      · rw [low h]
        exact ⟨rfl, rfl⟩
      · rw [high h]
        exact ⟨rfl, rfl⟩
      · rw [good lo hi']
        exact ⟨rfl, rfl⟩
    obtain ⟨history, average⟩ := kept
    have graded : TempGraded (tableOf tables c) old ((old.converted code).publishTemp (tableOf tables c)) := by
      unfold TempGraded
      rw [average]
      refine ⟨fun h => ?_, fun h => ?_, fun lo hi => ?_⟩
      · rw [low h]
        exact ⟨rfl, rfl, rfl⟩
      · rw [high h]
        exact ⟨rfl, rfl, rfl⟩
      · rw [good lo hi]
        exact ⟨rfl, rfl, rfl⟩
    refine ⟨history.trans (converted_history old code), fun h => absurd (history.symm ▸ full) h, fun _ =>
      ⟨by rw [average, history], ?_⟩⟩
    cases c with
    | batv => exact absurd rfl hv
    | bati => exact absurd rfl hi
    | tCab | tExch | tFridge | tBatt => exact graded
  · rw [publishTemp_short full]
    exact ⟨converted_history old code, fun _ => ⟨rfl, rfl, rfl, rfl⟩, fun h => absurd h full⟩

theorem swept_channel (a : Analog) (codes : SweepCodes) (f : Factory) (tables : SensorTables) (c : AnalogChannel) :
    sweptChannel f tables c (codeOf codes c) (a.get c) ((a.swept codes f tables).get c) := by
  cases c with
  | batv =>
    change sweptChannel f tables .batv codes.batv a.batv ((a.batv.converted codes.batv).publishBattery (voltageOf f))
    by_cases full : (a.batv.converted codes.batv).history.length = 4
    · rw [publishBattery_full full]
      exact ⟨converted_history _ _, fun h => absurd full h, fun _ => ⟨rfl, rfl, rfl⟩⟩
    · rw [publishBattery_short full]
      exact ⟨converted_history _ _, fun _ => ⟨rfl, rfl, rfl, rfl⟩, fun h => absurd h full⟩
  | bati =>
    change sweptChannel f tables .bati codes.bati a.bati ((a.bati.converted codes.bati).publishBattery (currentOf f))
    by_cases full : (a.bati.converted codes.bati).history.length = 4
    · rw [publishBattery_full full]
      exact ⟨converted_history _ _, fun h => absurd full h, fun _ => ⟨rfl, rfl, rfl⟩⟩
    · rw [publishBattery_short full]
      exact ⟨converted_history _ _, fun _ => ⟨rfl, rfl, rfl, rfl⟩, fun h => absurd h full⟩
  | tCab => exact sweptTemp (by decide) (by decide) codes.tCab a.tCab
  | tExch => exact sweptTemp (by decide) (by decide) codes.tExch a.tExch
  | tFridge => exact sweptTemp (by decide) (by decide) codes.tFridge a.tFridge
  | tBatt => exact sweptTemp (by decide) (by decide) codes.tBatt a.tBatt

/-! ## SENSOR_FAULT and SNS's indication (R7) -/

theorem foldl_repeat {α β : Type} (f : β → β) (l : List α) (b : β) :
    l.foldl (fun acc _ => f acc) b = Nat.repeat f l.length b := by
  induction l using List.reverseRecOn with
  | nil => rfl
  | append_singleton l x ih =>
    rw [List.foldl_append, ih, List.length_append]
    rfl

theorem faultPosted_eq (was now : ChannelStatus) :
    faultPosted was now = bif decide (was = .notReady) then now.failed else decide (was ≠ now ∧ now ≠ .notReady) := by
  cases was <;> cases now <;> rfl

/-- R7: the indication that a sweep makes, by the channels found failed and the severity. -/
def sensorsShown (finds severity : Nat) (d : Device) : Device :=
  if finds = 0 ∧ severity ≠ (d.lgt.sources.get .sns).severity then postIndication .sns severity false d
  else Nat.repeat (postIndication .sns severity true) finds d

theorem repeat_succ {β : Type} (f : β → β) (n : Nat) (b : β) : Nat.repeat f (n + 1) b = f (Nat.repeat f n b) := rfl

theorem posted_severity (e : SourceEntry) (quiet : Bool) (n : Nat) (new : Bool) : (e.posted quiet n new).severity = n := rfl

theorem sensorsShown_severity (finds severity : Nat) (d : Device) :
    ((sensorsShown finds severity d).lgt.sources.get .sns).severity = severity := by
  unfold sensorsShown
  split_ifs with h
  · rw [postIndication_sources, sourceList_get_put, if_pos rfl, posted_severity]
  · cases finds with
    | zero =>
      have same : severity = (d.lgt.sources.get .sns).severity := by simpa using h
      exact same.symm
    | succ n => rw [repeat_succ, postIndication_sources, sourceList_get_put, if_pos rfl, posted_severity]

theorem ShowsSame.repeat {d t : Device} (h : ShowsSame d t) (g : Source) (severity : Nat) (new : Bool) (n : Nat) :
    ShowsSame (Nat.repeat (Machine.postIndication g severity new) n d) (Nat.repeat (Machine.postIndication g severity new) n t) := by
  induction n with
  | zero => exact h
  | succ n ih => exact ih.postIndication g severity new

theorem ShowsSame.sensorsShown {d t : Device} (h : ShowsSame d t) (finds severity : Nat) :
    (Machine.sensorsShown finds severity t).lgt = (Machine.sensorsShown finds severity d).lgt := by
  have ⟨lgt, _, _⟩ := h
  unfold Machine.sensorsShown
  rw [lgt]
  split_ifs
  · exact (h.postIndication ..).1
  · exact (h.repeat ..).1

/-- A step that changes one block alone, repeated. -/
theorem repeat_only {β : Type} {f : Device → Device} (block : Device → β) (put : β → Device → Device)
    (same : ∀ d, put (block d) d = d) (again : ∀ x y d, put x (put y d) = put x d) (only : ∀ d, f d = put (block (f d)) d)
    (n : Nat) (d : Device) : Nat.repeat f n d = put (block (Nat.repeat f n d)) d := by
  induction n with
  | zero => exact (same d).symm
  | succ n ih =>
    rw [repeat_succ]
    calc f (Nat.repeat f n d) = put (block (f (Nat.repeat f n d))) (Nat.repeat f n d) := only _
      _ = put (block (f (Nat.repeat f n d))) (put (block (Nat.repeat f n d)) d) := by rw [← ih]
      _ = put (block (f (Nat.repeat f n d))) d := again ..

theorem sensorsShown_only (finds severity : Nat) (d : Device) :
    sensorsShown finds severity d = { d with lgt := (sensorsShown finds severity d).lgt } := by
  unfold sensorsShown
  split_ifs
  · exact postIndication_only ..
  · exact repeat_only (fun t => t.lgt) (fun l t => { t with lgt := l }) (fun _ => rfl) (fun _ _ _ => rfl)
      (fun t => postIndication_only ..) finds d

theorem repeat_post_eq (k : NoticeKind) (n : Nat) (d : Device) :
    Nat.repeat (post k) n d = { d with lnk := (Nat.repeat (post k) n d).lnk } :=
  repeat_only (fun t => t.lnk) (fun l t => { t with lnk := l }) (fun _ => rfl) (fun _ _ _ => rfl) (fun t => post_eq k t) n d

theorem ShowsSame.of_lnk {d : Device} (x : Link) : ShowsSame d { d with lnk := x } := ⟨rfl, rfl, rfl⟩

theorem repeat_post_shows (k : NoticeKind) (n : Nat) (d : Device) : ShowsSame d (Nat.repeat (post k) n d) := by
  rw [repeat_post_eq]
  exact .of_lnk _

/-- R7: the postings and the indication of a sweep. -/
theorem sensorFaults_eq (was : Analog) (d : Device) :
    let now := d.sns.analog
    let posts := temperatureChannels.filter fun c => faultPosted (was.get c).status (now.get c).status
    let finds := temperatureChannels.filter fun c => decide ((was.get c).status = .ok) && (now.get c).status.failed
    let severity := if temperatureChannels.any fun c => (now.get c).status.failed then 1 else 0
    sensorFaults was d = { d with
      lgt := (sensorsShown finds.length severity d).lgt, lnk := (Nat.repeat (post .sensorFault) posts.length d).lnk } := by
  intro now posts finds severity
  unfold sensorFaults
  extract_lets d1 d2
  have one : d1 = Nat.repeat (post .sensorFault) posts.length d := foldl_repeat _ _ _
  have two : d2 = Nat.repeat (postIndication .sns severity true) finds.length d1 := foldl_repeat _ _ _
  have shown : (if severity = d2.lgt.sources.sns.severity then d2 else postIndication .sns severity false d2) =
      sensorsShown finds.length severity d1 := by
    unfold sensorsShown
    cases none' : finds.length with
    | zero =>
      rw [none'] at two
      rw [two]
      by_cases same : severity = (d1.lgt.sources.get .sns).severity
      · exact (if_pos same).trans (if_neg (by simp [same])).symm
      · exact (if_neg same).trans (if_pos (by simp [same])).symm
    | succ n =>
      have found : severity = d2.lgt.sources.sns.severity := by
        have posted := postIndication_sources .sns severity true (Nat.repeat (postIndication .sns severity true) n d1)
        rw [two, none', repeat_succ, posted]
        rfl
      rw [if_pos found, if_neg (by simp), two, none']
  have lgt : (sensorsShown finds.length severity d1).lgt = (sensorsShown finds.length severity d).lgt := by
    rw [one]
    exact (repeat_post_shows .sensorFault posts.length d).sensorsShown finds.length severity
  rw [shown, sensorsShown_only, lgt, one]
  exact congrArg (fun t : Device => { t with lgt := (sensorsShown finds.length severity d).lgt }) (repeat_post_eq ..)

theorem repeat_post_lnk (k : NoticeKind) (n : Nat) (d : Device) :
    (Nat.repeat (post k) n d).lnk = { d.lnk with notices := (Nat.repeat (post k) n d).lnk.notices } := by
  induction n with
  | zero => rfl
  | succ n ih =>
    have once : (post k (Nat.repeat (post k) n d)).lnk =
        { (Nat.repeat (post k) n d).lnk with notices := (post k (Nat.repeat (post k) n d)).lnk.notices } :=
      Link.eq_of_quiet (by simp)
    rw [repeat_succ, once, ih]

/-- R3: the published pair joins CHG's history while BATI is OK. -/
theorem handSample_eq (d : Device) :
    let joined := d.chg.history ++ [(d.sns.analog.bati.value, d.sns.analog.batv.value.toNat)]
    handSample d = { d with chg := { d.chg with history :=
      if d.sns.analog.bati.status = .ok then (if 10 < joined.length then joined.drop 1 else joined) else d.chg.history } } := by
  intro joined
  unfold handSample
  by_cases ok : d.sns.analog.bati.status = .ok
  · refine (if_pos ok).trans ?_
    rw [if_pos ok]
    rfl
  · refine (if_neg ok).trans ?_
    rw [if_neg ok]

/-- R1: the part at a sweep, with its channels published. -/
def atSweep (codes : SweepCodes) (d : Device) : Device :=
  { d with
    pins := { d.pins with analog := codes }
    sns := { d.sns with
      ms := max d.sns.ms d.sched.nextSweep, analog := d.sns.analog.swept codes d.factory d.sns.tables }
    sched := { d.sched with nextSweep := d.sched.nextSweep + 100 } }

theorem sweep_eq (codes : SweepCodes) (d : Device) :
    sweep codes d = compSweep (heaterSweep (decide (d.sns.analog.tExch.status = .ok))
      (handSample (sensorFaults d.sns.analog (atSweep codes d)))) := rfl

end Sys2Proof.Machine

namespace Sys2Proof.Proofs

open Sys2Proof Sys2Proof.Machine Sys2Proof.Stated

/-- Settles O8: the channels published, the faults posted, the sample handed on, and what the drives' sweeps leave. -/
theorem sweepPublishesChannels : Obligations.SweepPublishesChannels := by
  intro s codes
  let u := atSweep codes s.dev
  have whole := sweep_eq codes s.dev
  have faults := sensorFaults_eq s.dev.sns.analog u
  have handed := handSample_eq (sensorFaults s.dev.sns.analog u)
  have parts := sweep_frame codes s.dev
  have analog : (sweep codes s.dev).sns.analog = u.sns.analog := by
    rw [whole]
    simp [u]
  have ms : (sweep codes s.dev).sns.ms = u.sns.ms := by
    rw [whole]
    simp [u]
  have sched : (sweep codes s.dev).sched = u.sched := by
    rw [whole]
    simp [u]
  have pins : (sweep codes s.dev).pins = u.pins := by
    rw [whole]
    simp [u]
  refine runs_of_eq (f := sweep codes) rfl rfl ?_
  generalize sweep codes s.dev = t at *
  intro was now temps posts finds severity d0 shown sample joined
  have published : ∀ c, now c = (u.sns.analog.get c).status := fun c => by
    change (t.sns.analog.get c).status = _
    rw [analog]
  have lit : t.lgt.sources.get .sns = (sensorFaults s.dev.sns.analog u).lgt.sources.get .sns := by
    rw [whole]
    exact ((KeepsSns.of_lgt (d := sensorFaults s.dev.sns.analog u) (t := handSample (sensorFaults s.dev.sns.analog u))
      (by simp)).trans (heaterSweep_keepsSns _ _)).trans (compSweep_keepsSns _)
  have posted : posts = temperatureChannels.filter fun c =>
      faultPosted (s.dev.sns.analog.get c).status (u.sns.analog.get c).status := by
    simp only [posts, published, ← faultPosted_eq]
    rfl
  have found : finds = temperatureChannels.filter fun c =>
      decide ((s.dev.sns.analog.get c).status = .ok) && (u.sns.analog.get c).status.failed := by
    simp only [finds, published]
    rfl
  have graded : severity = if (temperatureChannels.any fun c => (u.sns.analog.get c).status.failed) = true then 1 else 0 := by
    simp only [severity, published]
    rfl
  have showsSame : ShowsSame d0 u := ⟨rfl, rfl, rfl⟩
  have lights : shown.lgt = (sensorsShown finds.length severity u).lgt := by
    rw [showsSame.sensorsShown]
    simp only [shown, sensorsShown, List.length_eq_zero_iff]
    rfl
  have notices : (Nat.repeat (post .sensorFault) posts.length u).lnk =
      { s.dev.lnk with notices := (Nat.repeat (post .sensorFault) posts.length d0).lnk.notices } := by
    rw [repeat_post_lnk, repeat_post_lnk_congr .sensorFault (d := d0) (t := u) rfl]
    rfl
  refine ⟨fun c => ?_, ?_, ?_, ?_, sched, pins, parts.1, by simp [parts], by simp [parts], Link.eq_of_quiet (by simp [parts])⟩
  · rw [analog]
    exact swept_channel ..
  · have shownFaults : sensorFaults s.dev.sns.analog u = { u with
        lgt := shown.lgt
        lnk := { s.dev.lnk with notices := (Nat.repeat (post .sensorFault) posts.length d0).lnk.notices } } := by
      rw [lights, ← notices, posted, found, graded]
      exact faults
    refine whole.trans (congrArg (fun x => compSweep (heaterSweep (decide (was .tExch = .ok)) x)) (handed.trans ?_))
    rw [shownFaults]
    simp only [joined, sample, analog]
    rfl
  · rw [lit, faults, graded]
    exact sensorsShown_severity ..
  · exact Sensing.eq_of_parts (by simp [ms, parts, u, atSweep, d0])

end Sys2Proof.Proofs
end

section
/-! PROOFS. What a RESTART of the blocks leaves as it was (R196). -/

namespace Sys2Proof.Machine

open Sys2Proof.Stated

/-! ## The first notice, the lockouts and the faults

Nothing that a RESTART of the blocks does takes RESTARTED off the head of the notice table, counts a lockout or records a fault. -/

/-- From `d` to `t`, a RESTARTED at the head of the table stays there, and the heater's lockouts and faults stay. -/
structure Continues (d t : Device) : Prop where
  first : ∀ r behind, r.kind = .restarted → d.lnk.notices = r :: behind → ∃ behind', t.lnk.notices = r :: behind'
  lockouts : t.htr.lockouts = d.htr.lockouts
  faults : t.htr.faults = d.htr.faults

theorem Continues.refl (d : Device) : Continues d d := ⟨fun _ behind _ h => ⟨behind, h⟩, rfl, rfl⟩

theorem Continues.trans {d t u : Device} (h : Continues d t) (k : Continues t u) : Continues d u where
  first r behind hr hd :=
    have ⟨behind', ht⟩ := h.first r behind hr hd
    k.first r behind' hr ht
  lockouts := k.lockouts.trans h.lockouts
  faults := k.faults.trans h.faults

theorem Continues.after {d t u : Device} (k : Continues t u) (h : Continues d t) : Continues d u := h.trans k

theorem Continues.of_same {d t : Device}
    (h : t.lnk.notices = d.lnk.notices ∧ t.htr.lockouts = d.htr.lockouts ∧ t.htr.faults = d.htr.faults) : Continues d t :=
  ⟨fun _ behind _ hd => ⟨behind, h.1.trans hd⟩, h.2.1, h.2.2⟩

/-- What touches neither the link nor the heater. -/
theorem Continues.of_blocks {d t : Device} (lnk : t.lnk = d.lnk) (htr : t.htr = d.htr) : Continues d t :=
  .of_same ⟨congrArg (·.notices) lnk, congrArg (·.lockouts) htr, congrArg (·.faults) htr⟩

theorem post_continues {k : NoticeKind} (h : k ≠ .restarted) (d : Device) : Continues d (post k d) where
  first r behind hr hd := by
    rw [post_lnk]
    split
    · refine ⟨mergeNotice k none behind, ?_⟩
      rw [hd]
      exact if_neg (hr ▸ h.symm)
    · exact ⟨behind, hd⟩
  lockouts := by simp
  faults := by simp

/-! ## The Load Budget -/

theorem writeEntry_continues (l : Load) (requested floor : Nat) (d : Device) : Continues d (writeEntry l requested floor d) :=
  .of_blocks (by simp) (by simp)

theorem setOutlet_continues (st : OutletState) (closing : Option Nat) (d : Device) : Continues d (setOutlet st closing d) := by
  unfold setOutlet
  split
  · exact .of_blocks rfl rfl
  · exact (post_continues (k := .budgetState) nofun _).after (.of_blocks rfl rfl)

theorem outletRevoked_continues (d : Device) : Continues d (outletRevoked d) := by
  unfold outletRevoked
  split
  · exact setOutlet_continues ..
  · exact .refl d

theorem outletDenied_continues (d : Device) : Continues d (outletDenied d) := by
  unfold outletDenied
  split
  · exact setOutlet_continues ..
  · exact .refl d

theorem outletOff_continues (d : Device) : Continues d (outletOff d) := by
  unfold outletOff
  cases d.bgt.outlet.state with
  | off => exact .refl d
  | waitToken =>
    exact (Continues.of_blocks (by simp) (by simp)).trans ((setOutlet_continues ..).trans (writeEntry_continues ..))
  | closing =>
    exact (Continues.of_blocks (by simp) (by simp)).trans ((setOutlet_continues ..).trans (writeEntry_continues ..))
  | waitGrant | on | denied => exact (setOutlet_continues ..).trans (writeEntry_continues ..)

theorem requestAllowance_continues (l : Load) (d : Device) : Continues d (requestAllowance l d).1 :=
  .of_blocks (by simp) (by simp)

theorem outletRequest_continues (d : Device) : Continues d (outletRequest d) := by
  have asked := requestAllowance_continues .outlet d
  unfold outletRequest
  revert asked
  rcases requestAllowance .outlet d with ⟨d1, _ | _ | _⟩ <;> intro asked
  · exact asked.trans (setOutlet_continues ..)
  · exact asked.trans (setOutlet_continues ..)
  · exact asked.trans (setOutlet_continues ..)

theorem outletGrant_continues (d : Device) : Continues d (outletGrant d) := by
  unfold outletGrant
  dsimp only
  cases d.bgt.outlet.state with
  | off => exact .refl d
  | waitGrant =>
    dsimp only
    split_ifs
    · exact .refl d
    · exact outletRequest_continues d
  | waitToken | on | denied =>
    dsimp only
    split_ifs
    · exact setOutlet_continues ..
    · exact .refl d
  | closing =>
    dsimp only
    split_ifs
    · exact (Continues.of_blocks (by simp) (by simp)).trans (setOutlet_continues ..)
    · exact .refl d

/-! ## The lights -/

theorem recap_continues (was : List ChannelSetting) (d : Device) : Continues d (recap was d) := by
  unfold recap
  dsimp only
  split
  · exact .of_blocks rfl rfl
  · exact (post_continues (k := .lightState) nofun _).after (.of_blocks rfl rfl)

theorem lightsGrant_continues (d : Device) : Continues d (lightsGrant d) :=
  (Continues.of_blocks (by simp) (by simp)).trans (recap_continues ..)

theorem refreshLights_continues (was : List ChannelSetting) (d : Device) : Continues d (refreshLights was d) := by
  unfold refreshLights
  dsimp only
  split
  · exact recap_continues ..
  · exact (Continues.of_blocks (by simp) (by simp)).trans (recap_continues ..)

theorem restartLights_continues (d : Device) : Continues d (restartLights d) := by
  unfold restartLights
  extract_lets u was before dark _ d1 d2
  have refreshed : Continues d d2 := (Continues.of_blocks (by simp [d1, u]) (by simp [d1, u])).trans (refreshLights_continues was d1)
  split
  · unfold postIfMoved
    split
    · exact refreshed
    · exact refreshed.trans (post_continues (k := .lightState) nofun _)
  · exact refreshed

/-! ## The heater -/

/-- R78: the heater record of a state entered, before its entry is written. -/
def heaterMoved (st : HeaterState) (cause : HeaterCause) (d : Device) : Heater :=
  { d.htr with
    state := st
    level := levelIn d st
    fuel := fuelOf (putHtr { d.htr with level := levelIn d st } d) st
    glowSince := glowOf d st
    blower := d.htr.blower.command (dutyOf (putHtr { d.htr with level := levelIn d st } d) st) d.sns.ms
    timers := if st = .run then { noHeaterTimers with lowSpeed := d.htr.timers.lowSpeed } else noHeaterTimers
    cause := if st = d.htr.state then d.htr.cause else cause }

/-- R78, R79, R102: a state entered: the record, the entry, the posting. -/
theorem enterHeater_eq (st : HeaterState) (cause : HeaterCause) (d : Device) :
    enterHeater st cause d =
      if st = d.htr.state then writeHeater (putHtr (heaterMoved st cause d) d)
      else post .heaterState (writeHeater (putHtr (heaterMoved st cause d) d)) := by
  have timers : (match st with
      | .run => { noHeaterTimers with lowSpeed := d.htr.timers.lowSpeed }
      | _ => noHeaterTimers : HeaterTimers) =
      if st = .run then { noHeaterTimers with lowSpeed := d.htr.timers.lowSpeed } else noHeaterTimers := by
    cases st <;> rfl
  unfold heaterMoved
  rw [← timers]
  cases st <;> rfl

theorem writeHeater_continues (d : Device) : Continues d (writeHeater d) := writeEntry_continues ..

theorem enterHeater_continues (st : HeaterState) (cause : HeaterCause) (d : Device) : Continues d (enterHeater st cause d) := by
  have entered : Continues d (writeHeater (putHtr (heaterMoved st cause d) d)) :=
    Continues.trans (t := putHtr (heaterMoved st cause d) d) (.of_same ⟨rfl, rfl, rfl⟩) (writeHeater_continues _)
  rw [enterHeater_eq]
  split
  · exact entered
  · exact entered.trans (post_continues (k := .heaterState) nofun _)

theorem toOff_continues (cause : HeaterCause) (d : Device) : Continues d (toOff cause d) := by
  have entered := enterHeater_continues .off cause d
  unfold toOff applyTableDefault
  split
  · exact entered.trans (.of_same ⟨rfl, rfl, rfl⟩)
  · exact entered

theorem leaveWait_continues (cause : HeaterCause) (d : Device) : Continues d (leaveWait cause d) :=
  (Continues.of_blocks (by simp) (by simp)).trans (toOff_continues ..)

theorem toCooldown_continues (cause : CooldownCause) (d : Device) : Continues d (toCooldown cause d) := by
  unfold toCooldown
  extract_lets q _ d1 d2 _
  have released : Continues d (releaseAllowance .heater d1) :=
    Continues.trans (t := d1) (.of_same ⟨rfl, rfl, rfl⟩) (.of_blocks (by simp) (by simp))
  exact (released.trans (enterHeater_continues ..)).trans (.of_same ⟨rfl, rfl, rfl⟩)

theorem toPurge_continues (cause : HeaterCause) (d : Device) : Continues d (toPurge cause d) := by
  have entered := enterHeater_continues .purge cause d
  unfold toPurge
  extract_lets d1 _
  exact Continues.trans (t := d1) entered (.of_same ⟨rfl, rfl, rfl⟩)

theorem toRun_continues (d : Device) : Continues d (toRun d) := by
  have entered := enterHeater_continues .run .none d
  unfold toRun
  extract_lets d1 _
  exact Continues.trans (t := d1) entered (.of_same ⟨rfl, rfl, rfl⟩)

theorem attemptFails_continues (d : Device) : Continues d (attemptFails d) := by
  unfold attemptFails
  split
  · exact (toPurge_continues ..).after (.of_same ⟨rfl, rfl, rfl⟩)
  · exact .refl d

theorem heaterDenied_continues (d : Device) : Continues d (heaterDenied d) := by
  unfold heaterDenied
  split
  · exact toOff_continues ..
  · exact .refl d

theorem lowerTo_continues (bound : Nat) (d : Device) : Continues d (lowerTo bound d) := by
  unfold lowerTo
  split
  · exact .of_same ⟨rfl, rfl, rfl⟩
  · exact .refl d

theorem rampTest_continues (d : Device) : Continues d (rampTest d) := by
  unfold rampTest
  split
  · exact toRun_continues d
  · exact .refl d

theorem heaterGrant_continues (d : Device) : Continues d (heaterGrant d) :=
  (lowerTo_continues ..).trans (rampTest_continues _)

theorem setWished_continues (w : Nat) (d : Device) : Continues d (setWished w d) :=
  ((heaterGrant_continues _).after (writeHeater_continues _)).after (.of_same ⟨rfl, rfl, rfl⟩)

theorem heaterCaps_continues (d : Device) : Continues d (heaterCaps d) := by
  have lowered := lowerTo_continues (maxAllowed d) d
  unfold heaterCaps rewish
  split
  · exact lowered.trans (setWished_continues ..)
  · exact lowered.trans (setWished_continues ..)
  · exact lowered

/-- R105: what a RESTART makes of the heater's state, once its settings are at their defaults. -/
def heaterStopped (d : Device) : Device :=
  match d.htr.state with
  | .glow | .ignite | .ramp | .run => toCooldown .restart d
  | .purge => if d.htr.marks.lockoutPending || d.htr.marks.forcedPurge then d else toCooldown .restart d
  | .cooldown => putHtr { d.htr with cool := d.htr.cool.map Cooldown.restarted } d
  | .waitInrush => leaveWait (.cooling .restart) d
  | .paused => toOff (.cooling .restart) d
  | .off | .lockout => d

/-- R77, R105: the heat level table at its defaults, at once in OFF and LOCKOUT. -/
def tableRestarted (d : Device) : Device :=
  if d.htr.state = .off ∨ d.htr.state = .lockout then putHeatTable defaultHeatTable d
  else putHtr { d.htr with marks := { d.htr.marks with tableDefault := true } } d

theorem restartHeater_eq (d : Device) : restartHeater d = tableRestarted (heaterStopped (restartHeaterSettings d)) := rfl

theorem heaterStopped_continues (d : Device) : Continues d (heaterStopped d) := by
  unfold heaterStopped
  cases d.htr.state with
  | glow | ignite | ramp | run => exact toCooldown_continues .restart d
  | purge =>
    dsimp only
    split_ifs
    · exact .refl d
    · exact toCooldown_continues .restart d
  | cooldown => exact .of_same ⟨rfl, rfl, rfl⟩
  | waitInrush => exact leaveWait_continues ..
  | paused => exact toOff_continues ..
  | off | lockout => exact .refl d

theorem tableRestarted_continues (d : Device) : Continues d (tableRestarted d) := by
  unfold tableRestarted
  split
  · exact .of_same ⟨rfl, rfl, rfl⟩
  · exact .of_same ⟨rfl, rfl, rfl⟩

theorem restartHeater_continues (d : Device) : Continues d (restartHeater d) :=
  ((tableRestarted_continues _).after (heaterStopped_continues _)).after (.of_same ⟨rfl, rfl, rfl⟩)

/-! ## The compressor -/

theorem setCompWish_continues (w : Nat) (d : Device) : Continues d (setCompWish w d) := .of_blocks (by simp) (by simp)

theorem enterComp_continues (st : CompState) (d : Device) : Continues d (enterComp st d) := by
  unfold enterComp
  extract_lets c exits idles timers c1 d1 _ d2 d3
  have entered : Continues d d3 := .of_blocks (by simp [d3, d2, d1]; split <;> simp) (by simp [d3, d2, d1]; split <;> simp)
  split
  · exact entered
  · exact entered.trans (post_continues (k := .fridgeState) nofun _)

theorem toStopping_continues (d : Device) : Continues d (toStopping d) := by
  have entered := enterComp_continues .stopping d
  unfold toStopping
  extract_lets d1 _
  exact Continues.trans (t := d1) entered (.of_blocks rfl rfl)

theorem toDisabled_continues (d : Device) : Continues d (toDisabled d) :=
  (enterComp_continues ..).after (.of_blocks rfl rfl)

theorem backToHold_continues (d : Device) : Continues d (backToHold d) :=
  (enterComp_continues ..).after (.of_blocks (by simp) (by simp))

theorem compDenied_continues (d : Device) : Continues d (compDenied d) := by
  unfold compDenied
  split
  · exact backToHold_continues d
  · exact .refl d

theorem compFails_continues (k : FailKind) (d : Device) : Continues d (compFails k d) := by
  unfold compFails
  extract_lets d1 failures _ d2 backoff _ blocked _
  have released : Continues d d1 := .of_blocks (by simp [d1]) (by simp [d1])
  have posted : Continues d d2 :=
    (post_continues (k := .fridgeState) nofun _).after (released.trans (.of_blocks rfl rfl))
  have left (st : CompState) : Continues d (enterComp st d2) := posted.trans (enterComp_continues st d2)
  split
  · exact .refl d
  · split
    · exact Continues.trans (t := backoff) (left .stallBackoff) (.of_blocks rfl rfl)
    · exact Continues.trans (t := blocked) (left .blocked) (.of_blocks (by simp) (by simp))

theorem compRevoked_continues (d : Device) : Continues d (compRevoked d) := by
  unfold compRevoked
  split_ifs
  · exact compFails_continues .startFail d
  · exact toStopping_continues d
  · exact .refl d

theorem toStart_continues (d : Device) : Continues d (toStart d) := by
  have entered := enterComp_continues .start d
  unfold toStart
  extract_lets d1 ms blocked _ _ c d2
  have started : Continues d d2 := Continues.trans (t := d1) entered (.of_blocks rfl rfl)
  split_ifs
  · exact started.trans (compFails_continues .overcurrent d2)
  · exact started.trans (.of_blocks (by simp) (by simp))
  · exact started.trans (compFails_continues .hall d2)

theorem toCompWait_continues (d : Device) : Continues d (toCompWait d) := by
  have entered := enterComp_continues .waitInrush d
  have asked := requestAllowance_continues .compressor (enterComp .waitInrush d)
  unfold toCompWait
  revert asked
  rcases requestAllowance .compressor (enterComp .waitInrush d) with ⟨d1, _ | _ | _⟩ <;> intro asked
  · exact entered.trans asked
  · exact (entered.trans asked).trans (toStart_continues d1)
  · exact (entered.trans asked).trans (backToHold_continues d1)

theorem holdTest_continues (d : Device) : Continues d (holdTest d) := by
  unfold holdTest
  split_ifs
  · exact toCompWait_continues d
  · exact .refl d
  · exact enterComp_continues ..
  · exact .refl d

theorem compGrant_continues (d : Device) : Continues d (compGrant d) := by
  have followed : Continues d (commandStep d) := .of_blocks (by simp) (by simp)
  unfold compGrant
  extract_lets u none'
  have follow : Continues d u := followed
  cases u.cmp.state with
  | offHold => exact follow.trans (holdTest_continues u)
  | waitInrush =>
    dsimp only
    split_ifs
    · exact follow.trans (backToHold_continues u)
    · exact follow
  | start =>
    dsimp only
    split_ifs
    · exact follow.trans ((toStopping_continues _).after (.of_blocks (by simp) (by simp)))
    · exact follow
  | run =>
    dsimp only
    split_ifs
    · exact follow.trans ((toStopping_continues _).after (.of_blocks (by simp) (by simp)))
    · exact follow.trans (toStopping_continues u)
    · exact follow
  | disabled | idle | stopping | stallBackoff | blocked => exact follow

theorem restartComp_continues (d : Device) : Continues d (restartComp d) := by
  unfold restartComp
  extract_lets _ _ d1 u
  have fresh : Continues d u := by
    unfold u
    split
    · exact .of_blocks rfl rfl
    · exact (post_continues (k := .fridgeState) nofun _).after (.of_blocks rfl rfl)
  cases u.cmp.state with
  | start => exact fresh.trans ((toStopping_continues _).after (.of_blocks (by simp) (by simp)))
  | run => exact fresh.trans (toStopping_continues u)
  | stopping => exact fresh.trans (setCompWish_continues 0 u)
  | waitInrush => exact fresh.trans ((toDisabled_continues _).after (.of_blocks (by simp) (by simp)))
  | blocked => exact fresh.trans ((toDisabled_continues _).after (.of_blocks (by simp) (by simp)))
  | idle | offHold | stallBackoff => exact fresh.trans (toDisabled_continues u)
  | disabled => exact fresh

/-! ## The plan, the rest monitor, the charge and the sensors -/

theorem postPlan_continues (c : PlanCause) (d : Device) : Continues d (postPlan c d) := by
  unfold postPlan
  split
  · exact (post_continues (k := .planState) nofun _).after (.of_blocks rfl rfl)
  · exact .refl d

theorem refreshQuiet_continues (d : Device) : Continues d (refreshQuiet d) := by
  unfold refreshQuiet
  extract_lets q _ d1
  have capped : Continues d d1 := (heaterCaps_continues _).after ((Continues.of_blocks (by simp) (by simp)))
  split_ifs
  · exact .refl d
  · exact (postPlan_continues ..).after (capped.trans (.of_blocks (by simp) (by simp)))
  · exact (postPlan_continues ..).after capped

theorem restartPlan_continues (d : Device) : Continues d (restartPlan d) := by
  unfold restartPlan
  extract_lets _ d1
  have fresh : Continues d d1 := (refreshQuiet_continues _).after (.of_blocks rfl rfl)
  exact fresh.trans (.of_blocks (by simp) (by simp))

theorem restartSensing_continues (d : Device) : Continues d (restartSensing d) := by
  have fuel (u : Device) : Continues u (protect u) := by
    obtain ⟨on, off⟩ := protect_htr u
    refine .of_same ⟨by simp, ?_⟩
    cases raw : rawOf u 5
    · rw [off raw]
      exact ⟨rfl, rfl⟩
    · rw [on raw]
      exact ⟨rfl, rfl⟩
  exact (fuel _).after (.of_blocks rfl rfl)

/-! ## The Load Budget's RESTART -/

theorem answerDenied_continues (l : Load) (d : Device) : Continues d (answerDenied l d) := by
  cases l with
  | heater => exact heaterDenied_continues d
  | compressor => exact compDenied_continues d
  | outlet => exact outletDenied_continues d
  | base | lights | warning => exact .refl d

theorem answerRevoked_continues (l : Load) (d : Device) : Continues d (answerRevoked l d) := by
  cases l with
  | heater => exact attemptFails_continues d
  | compressor => exact compRevoked_continues d
  | outlet => exact outletRevoked_continues d
  | base | lights | warning => exact .refl d

theorem handGrant_continues (l : Load) (d : Device) : Continues d (handGrant l d) := by
  cases l with
  | heater => exact heaterGrant_continues d
  | compressor => exact compGrant_continues d
  | lights => exact lightsGrant_continues d
  | outlet => exact outletGrant_continues d
  | base | warning => exact .refl d

theorem foldl_continues {α : Type} {f : Device → α → Device} (hf : ∀ d x, Continues d (f d x)) (l : List α) (d : Device) :
    Continues d (l.foldl f d) := by
  induction l generalizing d with
  | nil => exact .refl d
  | cons x l ih => exact (hf d x).trans (ih (f d x))

theorem revokeHolder_continues (d : Device) : Continues d (revokeHolder d) := by
  unfold revokeHolder
  split
  · exact (answerRevoked_continues ..).after (.of_blocks rfl rfl)
  · exact .refl d
  · exact .refl d

theorem flushAllowance_continues (d : Device) : Continues d (flushAllowance d) :=
  ((revokeHolder_continues _).after (foldl_continues (fun d l => answerDenied_continues l d) _ _)).after (.of_blocks rfl rfl)

theorem runPass_continues (d : Device) : Continues d (runPass d) := by
  unfold runPass
  extract_lets p h usable old
  rcases decideGrants p h usable old with ⟨table, stage, short⟩
  dsimp -zeta only
  extract_lets new waiting last d1 d2 changed
  have passed : Continues d d2 := by
    unfold d2
    split
    · exact .of_blocks rfl rfl
    · exact (post_continues (k := .budgetState) nofun _).after (.of_blocks rfl rfl)
  have shown : Continues d2 (showShort d.bgt.last.short short d2) := .of_blocks (by simp) (by simp)
  exact (passed.trans shown).trans (foldl_continues (fun d l => handGrant_continues l d) _ _)

theorem restartBudget_continues (d : Device) : Continues d (restartBudget d) :=
  (((runPass_continues _).after (outletOff_continues _)).after (flushAllowance_continues _)).after (.of_blocks rfl rfl)

theorem restartCharge_continues (d : Device) : Continues d (restartCharge d) := .of_blocks (by simp) (by simp)

theorem restartRest_continues (d : Device) : Continues d (restartRest d) := .of_blocks (by simp) (by simp)

theorem restartBlocks_continues (d : Device) : Continues d (restartBlocks d) :=
  (((((((restartBudget_continues _).after (restartRest_continues _)).after (restartLights_continues _)).after
    (restartComp_continues _)).after (restartHeater_continues _)).after (restartPlan_continues _)).after
    (restartCharge_continues _)).after (restartSensing_continues d)

end Sys2Proof.Machine
end

section
/-! PROOFS. RESTART: its reply, the link, and what it keeps (R196). -/

namespace Sys2Proof.Machine

open Sys2Proof.Stated

/-! ## The learned start step, which no RESTART moves -/

/-- The compressor is in STOPPING or DISABLED, where no grant and no answer moves it. -/
def CompRests (d : Device) : Prop := d.cmp.state = .stopping ∨ d.cmp.state = .disabled

/-- From a compressor in STOPPING or DISABLED, its state and its learned step stay. -/
def KeepsLearned (d t : Device) : Prop := CompRests d → t.cmp.state = d.cmp.state ∧ t.cmp.learned = d.cmp.learned

theorem KeepsLearned.refl (d : Device) : KeepsLearned d d := fun _ => ⟨rfl, rfl⟩

theorem KeepsLearned.of_cmp {d t : Device} (h : t.cmp = d.cmp) : KeepsLearned d t := fun _ =>
  ⟨congrArg (·.state) h, congrArg (·.learned) h⟩

theorem KeepsLearned.trans {d t u : Device} (h : KeepsLearned d t) (k : KeepsLearned t u) : KeepsLearned d u := fun rests => by
  obtain ⟨state, learned⟩ := h rests
  obtain ⟨state', learned'⟩ := k (by rwa [CompRests, state])
  exact ⟨state'.trans state, learned'.trans learned⟩

theorem KeepsLearned.after {d t u : Device} (k : KeepsLearned t u) (h : KeepsLearned d t) : KeepsLearned d u := h.trans k

theorem foldl_keepsLearned {α : Type} {f : Device → α → Device} (hf : ∀ d x, KeepsLearned d (f d x)) (l : List α) (d : Device) :
    KeepsLearned d (l.foldl f d) := by
  induction l generalizing d with
  | nil => exact .refl d
  | cons x l ih => exact (hf d x).trans (ih (f d x))

theorem answerDenied_keepsLearned (l : Load) (d : Device) : KeepsLearned d (answerDenied l d) := by
  cases l with
  | heater => exact .of_cmp (by simp [answerDenied])
  | compressor =>
    intro rests
    have other : d.cmp.state ≠ .waitInrush := by rcases rests with h | h <;> simp [h]
    rw [answerDenied, compDenied, if_neg other]
    exact ⟨rfl, rfl⟩
  | outlet => exact .of_cmp (by simp [answerDenied])
  | base | lights | warning => exact .refl d

theorem answerRevoked_keepsLearned (l : Load) (d : Device) : KeepsLearned d (answerRevoked l d) := by
  cases l with
  | heater => exact .of_cmp (by simp [answerRevoked])
  | compressor =>
    intro rests
    have other : d.cmp.state ≠ .start := by rcases rests with h | h <;> simp [h]
    rw [answerRevoked, compRevoked, if_neg other]
    exact ⟨rfl, rfl⟩
  | outlet => exact .of_cmp (by simp [answerRevoked])
  | base | lights | warning => exact .refl d

theorem handGrant_keepsLearned (l : Load) (d : Device) : KeepsLearned d (handGrant l d) := by
  cases l with
  | heater => exact .of_cmp (by simp [handGrant])
  | compressor =>
    intro rests
    have followed : compGrant d = commandStep d := by
      have state : (commandStep d).cmp.state = d.cmp.state := rfl
      unfold compGrant
      dsimp only
      rw [state]
      rcases rests with h | h <;> rw [h]
    rw [handGrant, followed]
    exact ⟨rfl, rfl⟩
  | lights => exact .of_cmp (by simp [handGrant])
  | outlet => exact .of_cmp (by simp [handGrant])
  | base | warning => exact .refl d

theorem revokeHolder_keepsLearned (d : Device) : KeepsLearned d (revokeHolder d) := by
  unfold revokeHolder
  split
  · exact (answerRevoked_keepsLearned _ _).after (.of_cmp rfl)
  · exact .refl d
  · exact .refl d

theorem runPass_keepsLearned (d : Device) : KeepsLearned d (runPass d) := by
  unfold runPass
  extract_lets p h usable old
  rcases decideGrants p h usable old with ⟨table, stage, short⟩
  dsimp -zeta only
  extract_lets new waiting last d1 d2 changed
  have passed : KeepsLearned d d2 := .of_cmp (by unfold d2; split <;> simp [d1])
  exact (passed.trans (.of_cmp (by simp))).trans (foldl_keepsLearned (fun d l => handGrant_keepsLearned l d) _ _)

theorem restartBudget_keepsLearned (d : Device) : KeepsLearned d (restartBudget d) := by
  have flushed : KeepsLearned d (flushAllowance (defaultBudget d)) :=
    ((revokeHolder_keepsLearned _).after (foldl_keepsLearned (fun d l => answerDenied_keepsLearned l d) _ _)).after (.of_cmp rfl)
  exact ((runPass_keepsLearned _).after (.of_cmp (by simp))).after flushed

theorem enterComp_state (st : CompState) (d : Device) :
    (enterComp st d).cmp.state = st ∧ (enterComp st d).cmp.learned = d.cmp.learned := by
  unfold enterComp writeComp commandStep
  dsimp only
  split_ifs <;> simp_all

theorem toStopping_rests (d : Device) : CompRests (toStopping d) ∧ (toStopping d).cmp.learned = d.cmp.learned := by
  obtain ⟨state, learned⟩ := enterComp_state .stopping d
  exact ⟨.inl state, learned⟩

theorem toDisabled_rests (d : Device) : CompRests (toDisabled d) ∧ (toDisabled d).cmp.learned = d.cmp.learned := by
  obtain ⟨state, learned⟩ := enterComp_state .disabled (putCmp { d.cmp with wished := 0 } d)
  exact ⟨.inr state, learned⟩

theorem setCompWish_state (w : Nat) (d : Device) :
    (setCompWish w d).cmp.state = d.cmp.state ∧ (setCompWish w d).cmp.learned = d.cmp.learned := by
  unfold setCompWish writeComp commandStep
  split <;> simp

/-- R128: the compressor's settings at their defaults, and a change of the mode posted. -/
def compDefaults (d : Device) : Device :=
  let u := putCmp { d.cmp with
    settings := defaultFridge
    enable := false
    demand := false
    mode := .thermostat
    timers := { d.cmp.timers with phase := none } } d
  if d.cmp.mode = .thermostat then u else post .fridgeState u

/-- R128: what a RESTART makes of the compressor's state, once its settings are at their defaults. -/
def compStopped (d : Device) : Device :=
  match d.cmp.state with
  | .start => toStopping (releaseAllowance .compressor d)
  | .run => toStopping d
  | .stopping => setCompWish 0 d
  | .waitInrush => toDisabled (withdrawAllowance .compressor d)
  | .blocked => toDisabled (postIndication .cmp 0 false d)
  | .idle | .offHold | .stallBackoff => toDisabled d
  | .disabled => d

theorem restartComp_eq (d : Device) : restartComp d = compStopped (compDefaults d) := rfl

theorem compDefaults_cmp (d : Device) :
    (compDefaults d).cmp = { d.cmp with
      settings := defaultFridge, enable := false, demand := false, mode := .thermostat
      timers := { d.cmp.timers with phase := none } } := by
  unfold compDefaults
  dsimp only
  split
  · rfl
  · simp

theorem compStopped_rests (d : Device) : CompRests (compStopped d) ∧ (compStopped d).cmp.learned = d.cmp.learned := by
  have off {u : Device} (h : u.cmp.learned = d.cmp.learned) :
      CompRests (toDisabled u) ∧ (toDisabled u).cmp.learned = d.cmp.learned := by
    obtain ⟨rests, learned⟩ := toDisabled_rests u
    exact ⟨rests, learned.trans h⟩
  unfold compStopped
  cases h : d.cmp.state with
  | start =>
    obtain ⟨rests, learned⟩ := toStopping_rests (releaseAllowance .compressor d)
    dsimp only
    exact ⟨rests, learned.trans (by simp)⟩
  | run =>
    dsimp only
    exact toStopping_rests d
  | stopping =>
    obtain ⟨state, learned⟩ := setCompWish_state 0 d
    dsimp only
    exact ⟨.inl (state.trans h), learned⟩
  | waitInrush =>
    dsimp only
    exact off (by simp)
  | blocked =>
    dsimp only
    exact off (by simp)
  | idle | offHold | stallBackoff =>
    dsimp only
    exact off rfl
  | disabled =>
    dsimp only
    exact ⟨.inr h, rfl⟩

/-- R128: a RESTART leaves the compressor in STOPPING or DISABLED. -/
theorem restartComp_rests (d : Device) : CompRests (restartComp d) ∧ (restartComp d).cmp.learned = d.cmp.learned := by
  obtain ⟨rests, learned⟩ := compStopped_rests (compDefaults d)
  exact ⟨rests, learned.trans (congrArg (·.learned) (compDefaults_cmp d))⟩

theorem restartSensing_learned (d : Device) : (restartSensing d).cmp.learned = d.cmp.learned := by
  have held (u : Device) : (protect u).cmp.learned = u.cmp.learned := by
    obtain ⟨on, off⟩ := protect_cmp u
    cases raw : rawOf u 6
    · rw [off raw]
    · rw [on raw]
  rw [restartSensing, held]
  rfl

theorem postPlan_cmp (c : PlanCause) (d : Device) : (postPlan c d).cmp = d.cmp := by simp

theorem muteForQuiet_cmp (d : Device) : (muteForQuiet d).cmp = d.cmp := by simp

theorem restartPlan_learned (d : Device) : (restartPlan d).cmp.learned = d.cmp.learned := by
  have capped (u : Device) : (heaterCaps (compCaps u)).cmp.learned = u.cmp.learned := by
    have same : (heaterCaps (compCaps u)).cmp = (compCaps u).cmp := by simp
    rw [same]
    exact (setCompWish_state ..).2
  have quiet (u : Device) : (refreshQuiet u).cmp.learned = u.cmp.learned := by
    unfold refreshQuiet
    dsimp only
    split_ifs
    · rfl
    · rw [postPlan_cmp, muteForQuiet_cmp, capped]
      rfl
    · rw [postPlan_cmp, capped]
      rfl
  unfold restartPlan
  dsimp only
  have resolved (u : Device) : (resolveMark (handHorizon u)).cmp = u.cmp := by simp
  rw [resolved, quiet]
  rfl

theorem restartBudget_learned (d : Device) :
    (restartBudget (restartRest (restartLights (restartComp d)))).cmp.learned = d.cmp.learned := by
  obtain ⟨rests, learned⟩ := restartComp_rests d
  have same : (restartRest (restartLights (restartComp d))).cmp = (restartComp d).cmp := by simp
  have kept := restartBudget_keepsLearned (restartRest (restartLights (restartComp d)))
  rw [KeepsLearned, CompRests, same] at kept
  exact (kept rests).2.trans learned

/-- R128: the learned start step survives a RESTART. -/
theorem restartBlocks_learned (d : Device) : (restartBlocks d).cmp.learned = d.cmp.learned := by
  have heater (u : Device) : (restartHeater u).cmp = u.cmp := by simp
  have charge (u : Device) : (restartCharge u).cmp = u.cmp := by simp
  rw [restartBlocks, restartBudget_learned, heater, restartPlan_learned, charge, restartSensing_learned]

/-! ## The lines, the charge, the timeline and the plan -/

theorem restartSensing_lines (d : Device) :
    (restartSensing d).sns.lines = (List.range 8).map fun n => (lineOf d n).restarted n := by
  rw [restartSensing, protect_sns]
  rfl

theorem restartBlocks_lines (d : Device) :
    (restartBlocks d).sns.lines = (List.range 8).map fun n => (lineOf d n).restarted n := by
  have kept : (restartBlocks d).sns.lines = (restartSensing d).sns.lines := by simp [restartBlocks]
  exact kept.trans (restartSensing_lines d)

theorem restartBlocks_chg (d : Device) : (restartBlocks d).chg = (restartCharge (restartSensing d)).chg := by simp [restartBlocks]

theorem restartRest_rtm (d : Device) :
    (restartRest d).rtm = { d.rtm with rules := defaultRules, declaration := .auto } := by simp [restartRest]

theorem restartBlocks_rtm (d : Device) :
    (restartBlocks d).rtm = { d.rtm with rules := defaultRules, declaration := .auto } := by
  simp [restartBlocks, restartRest_rtm]

theorem restartBlocks_npl (d : Device) : (restartBlocks d).npl.state = .none ∧ (restartBlocks d).npl.wake = none := by
  simp [restartBlocks, restartPlan]

/-! ## RESTART acts (R196) -/

theorem emptyCauses_eq (k : NoticeKind) (d : Device) :
    emptyCauses k d = { d with
      chg := { d.chg with causes := if k = .chargeState then [] else d.chg.causes }
      rtm := { d.rtm with causes := if k = .restState then [] else d.rtm.causes }
      npl := { d.npl with causes := if k = .planState then [] else d.npl.causes } } := by
  cases k <;> rfl


theorem ite_stood_cons {α : Type} (x : Notice) (l : List Notice) (k : NoticeKind) (causes : List α) :
    (if ∃ n ∈ l, n.kind = k then [] else if x.kind = k then [] else causes) =
      if ∃ n ∈ x :: l, n.kind = k then [] else causes := by
  by_cases later : ∃ n ∈ l, n.kind = k
  · rw [if_pos later, if_pos (later.imp fun _ h => ⟨.tail _ h.1, h.2⟩)]
  · rw [if_neg later]
    exact if_congr ⟨fun h => ⟨x, .head _, h⟩, fun ⟨n, hn, hk⟩ => by
      rcases List.mem_cons.1 hn with rfl | hn
      · exact hk
      · exact absurd ⟨n, hn, hk⟩ later⟩ rfl rfl

theorem filter_stood_cons (x : Notice) (l table : List Notice) :
    ((table.filter fun n => decide (n.kind ≠ x.kind)).filter fun n => decide (¬∃ m ∈ l, m.kind = n.kind)) =
      table.filter fun n => decide (¬∃ m ∈ x :: l, m.kind = n.kind) := by
  rw [List.filter_filter]
  refine List.filter_congr fun n _ => ?_
  simp only [List.exists_mem_cons_iff, not_or, ← Bool.decide_and, decide_eq_decide]
  exact ⟨fun h => ⟨Ne.symm h.2, h.1⟩, fun h => ⟨h.2, Ne.symm h.1⟩⟩

/-- R192: the entries of a list of kinds removed, their owners' causes emptied. -/
theorem foldl_removeNotice (l : List Notice) (d : Device) :
    l.foldl (fun acc n => removeNotice n.kind acc) d = { d with
      chg := { d.chg with causes := if ∃ n ∈ l, n.kind = .chargeState then [] else d.chg.causes }
      rtm := { d.rtm with causes := if ∃ n ∈ l, n.kind = .restState then [] else d.rtm.causes }
      npl := { d.npl with causes := if ∃ n ∈ l, n.kind = .planState then [] else d.npl.causes }
      lnk := { d.lnk with notices := d.lnk.notices.filter fun n => decide (¬∃ m ∈ l, m.kind = n.kind) } } := by
  induction l generalizing d with
  | nil => simp
  | cons x l ih =>
    rw [List.foldl_cons, ih, removeNotice, emptyCauses_eq]
    dsimp only
    rw [ite_stood_cons, ite_stood_cons, ite_stood_cons, filter_stood_cons]

/-- R196: the notice table emptied, with the causes of the owners that had an entry there. -/
theorem removeAll_eq (d : Device) :
    removeAll d = { d with
      chg := { d.chg with causes := if ∃ n ∈ d.lnk.notices, n.kind = .chargeState then [] else d.chg.causes }
      rtm := { d.rtm with causes := if ∃ n ∈ d.lnk.notices, n.kind = .restState then [] else d.rtm.causes }
      npl := { d.npl with causes := if ∃ n ∈ d.lnk.notices, n.kind = .planState then [] else d.npl.causes }
      lnk := { d.lnk with notices := [] } } := by
  have emptied : (d.lnk.notices.filter fun n => decide (¬∃ m ∈ d.lnk.notices, m.kind = n.kind)) = [] :=
    List.filter_eq_nil_iff.2 fun n hn => by simpa using ⟨n, hn, rfl⟩
  rw [removeAll, foldl_removeNotice, emptied]

/-- R196, stages 1 to 4. -/
theorem restartPart_eq {d : Device} (out : d.lnk.out = some { rest := [], restart := true }) :
    replyEnded (endFrame d) = restartBlocks (linkRestarted d) := by
  have ended : (endFrame d).lnk.out = some { rest := [], restart := true } := out
  unfold replyEnded
  rw [ended]
  refine (if_pos rfl).trans ((if_pos rfl).trans (congrArg restartBlocks ?_))
  have linked := removeAll_eq { (endFrame d) with lnk := { (endFrame d).lnk with out := none, queue := [] } }
  unfold restartLink
  dsimp only at linked ⊢
  rw [linked]
  exact if_pos (show defaultEnables.getLsbD NoticeKind.restarted.number = true by decide)

/-- R190: the frame of RESTARTED after a request. -/
theorem noticeFrame_restarted {d : Device} (kind : d.lnk.resetKind = true) :
    noticeFrame { kind := .restarted, merge := 1, lines := [] } d =
      { kind := 0xC1, tag := 0, body := 0x01 :: 0x01 :: u32 d.lnk.resetUptime ++ [if d.sns.clockSet = true then 1 else 0] } := by
  have body : restartedBody d = 0x01 :: u32 d.lnk.resetUptime ++ [if d.sns.clockSet = true then 1 else 0] := by
    rw [restartedBody, clockField, kind]
    cases d.sns.clockSet <;> rfl
  exact congrArg (fun b => ({ kind := 0xC1, tag := 0, body := 0x01 :: b } : Frame)) body

/-- R190, R196: RESTARTED is the notice sent first, and the blocks' notices stay behind it. -/
theorem chooseFrame_restarted {u : Device} {x : Link} {behind : List Notice}
    (notices : u.lnk.notices = { kind := .restarted, merge := 1, lines := [] } :: behind)
    (lnk : u.lnk = { x with notices := u.lnk.notices }) (out : x.out = none) (awake : x.awake = true) (queue : x.queue = [])
    (kind : x.resetKind = true) :
    let g : Frame :=
      { kind := 0xC1, tag := 0, body := 0x01 :: 0x01 :: u32 x.resetUptime ++ [if u.sns.clockSet = true then 1 else 0] }
    chooseFrame u = { u with lnk := { x with notices := behind, tx := .notice g, sendEnd := u.sns.ms + airtime g } } := by
  intro g
  have frame : noticeFrame { kind := .restarted, merge := 1, lines := [] } u = g := by
    have uptime : u.lnk.resetUptime = x.resetUptime := congrArg (·.resetUptime) lnk
    exact (noticeFrame_restarted ((congrArg (·.resetKind) lnk).trans kind)).trans (by rw [uptime])
  have out' : u.lnk.out = none := (congrArg (·.out) lnk).trans out
  have awake' : u.lnk.awake = true := (congrArg (·.awake) lnk).trans awake
  have queue' : u.lnk.queue = [] := (congrArg (·.queue) lnk).trans queue
  have chosen : chooseFrame u = beginNotice u := by simp [chooseFrame, unanswered, out', awake', queue']
  rw [chosen, beginNotice, notices]
  dsimp only
  rw [frame, frameMs_eq, lnk]
  rfl

theorem post_lnk_notices (k : NoticeKind) (d : Device) : (post k d).lnk = { d.lnk with notices := (post k d).lnk.notices } :=
  repeat_post_lnk k 1 d

theorem restartBlocks_lnk (d : Device) : (restartBlocks d).lnk = { d.lnk with notices := (restartBlocks d).lnk.notices } :=
  Link.eq_of_quiet (by simp)

/-- R190, R196: after the RESTART the transmitter sends RESTARTED. -/
theorem transmitterFree_restart {d u : Device} {f : Frame} (tx : d.lnk.tx = .reply f)
    (out : d.lnk.out = some { rest := [], restart := true }) (hu : restartBlocks (linkRestarted d) = u) :
    let g : Frame :=
      { kind := 0xC1, tag := 0, body := 0x01 :: 0x01 :: u32 d.sns.uptime ++ [if d.sns.clockSet = true then 1 else 0] }
    ∃ behind, u.lnk.notices = { kind := .restarted, merge := 1, lines := [] } :: behind ∧
      transmitterFree d = { u with lnk := { (linkRestarted d).lnk with
        notices := behind, tx := .notice g, sendEnd := (linkRestarted d).sns.ms + airtime g } } := by
  have freed : transmitterFree d = chooseFrame u := by rw [transmitterFree, tx, ← hu, ← restartPart_eq out]
  have lnk := restartBlocks_lnk (linkRestarted d)
  have time : u.sns.ms = (linkRestarted d).sns.ms := by simp [← hu]
  have clock : u.sns.clockSet = d.sns.clockSet := by simp [← hu, linkRestarted]
  obtain ⟨behind, notices⟩ := (restartBlocks_continues (linkRestarted d)).first _ [] rfl rfl
  rw [hu] at lnk notices
  refine ⟨behind, notices, ?_⟩
  rw [freed, chooseFrame_restarted notices lnk rfl rfl rfl rfl, time, clock]
  rfl

/-- R196: what survives a RESTART, from `d` to `u`; the Night Plan and every forcing end. -/
def RestartKeeps (d u : Device) : Prop :=
  u.sns.uptime = d.sns.uptime ∧ u.sns.clockSet = d.sns.clockSet ∧ u.sns.clockOffset = d.sns.clockOffset ∧
    u.sns.analog = d.sns.analog ∧ (∀ n, n < 8 → (lineOf u n).forced = none) ∧ u.vbl = d.vbl ∧
    u.chg.q = d.chg.q ∧ u.chg.acc = d.chg.acc ∧ u.chg.known = d.chg.known ∧
    u.htr.lockouts = d.htr.lockouts ∧ u.htr.faults = d.htr.faults ∧ u.cmp.learned = d.cmp.learned ∧
    u.rtm.closed = d.rtm.closed ∧ u.rtm.current = d.rtm.current ∧
    u.rtm.driveSinceBreak = d.rtm.driveSinceBreak ∧ u.rtm.driveInDay = d.rtm.driveInDay ∧
    u.npl.state = .none ∧ u.npl.wake = none

theorem restartBlocks_survivors {d u : Device} (hu : restartBlocks (linkRestarted d) = u) : RestartKeeps d u := by
  have continues := restartBlocks_continues (linkRestarted d)
  have learned := restartBlocks_learned (linkRestarted d)
  have lines := restartBlocks_lines (linkRestarted d)
  have chg := restartBlocks_chg (linkRestarted d)
  have rtm := restartBlocks_rtm (linkRestarted d)
  obtain ⟨state, wake⟩ := restartBlocks_npl (linkRestarted d)
  have sensing : (restartSensing (linkRestarted d)).chg = (linkRestarted d).chg := by simp
  obtain ⟨uptime, set, offset, analog, vbl⟩ : u.sns.uptime = d.sns.uptime ∧ u.sns.clockSet = d.sns.clockSet ∧
      u.sns.clockOffset = d.sns.clockOffset ∧ u.sns.analog = d.sns.analog ∧ u.vbl = d.vbl := by
    simp [← hu, linkRestarted]
  rw [hu] at continues learned lines chg rtm state wake
  rw [restartCharge, sensing] at chg
  have forced (n : Nat) (hn : n < 8) : (lineOf u n).forced = none := by simp [lineOf, lines, hn, InputLine.restarted]
  exact ⟨uptime, set, offset, analog, forced, vbl, congrArg (·.q) chg, congrArg (·.acc) chg, congrArg (·.known) chg,
    continues.lockouts, continues.faults, learned, congrArg (·.closed) rtm, congrArg (·.current) rtm,
    congrArg (·.driveSinceBreak) rtm, congrArg (·.driveInDay) rtm, state, wake⟩

/-- R186, R196: RESTART is answered OK, and its reply carries the mark that lets it act. -/
theorem restart_answers (s : State) (tag : Byte) (free : noneInHand s.dev) :
    Runs (.restart tag []) s fun t =>
      Answers s.dev t 0x02 tag [] 0x82 0x00 [] true ∧ t = { s.dev with lnk := t.lnk } ∧ t.lnk.notices = s.dev.lnk.notices ∧
        t.lnk.enables = s.dev.lnk.enables ∧ t.lnk.idleTime = s.dev.lnk.idleTime := by
  obtain ⟨queue, out⟩ := free
  have served : deliver { kind := 0x02, tag := tag, body := [] } 0x82 true (readOnly fun _ => []) s.dev =
      putReply 0x82 tag true (taken { s.dev with lnk := heard s.dev { kind := 0x02, tag := tag, body := [] } } []) := by
    simp [deliver, inHand, acceptFrame_eq, queue, out, readOnly]
  refine ⟨_, rfl, rfl, ?_⟩
  dsimp only
  rw [served]
  exact putReply_answers true (a := taken { s.dev with lnk := heard s.dev { kind := 0x02, tag := tag, body := [] } } [])
    (contents := []) rfl rfl rfl

end Sys2Proof.Machine
end

section
/-! PROOFS. RESTART in the Sensing Unit, the Charge Counter, the Night Plan and the Rest-Time Monitor (R6, R9, R12, R15, R16, R52,
R183, R170). -/

namespace Sys2Proof.Machine

open Sys2Proof.Stated

/-! ## Sensing (R6, R9, R12, R15, R16) -/

/-- Section 1.4: the settings of the cold reset's lines are the defaults. -/
theorem reset_line (n : Nat) (hn : n < 8) :
    (lineOf State.reset.dev n).polarity = defaultPolarity n ∧ (lineOf State.reset.dev n).filter = defaultFilter n ∧
      (lineOf State.reset.dev n).edge = defaultEdge n := by
  have line : lineOf State.reset.dev n = coldLine State.resetPins n := by
    have lines : State.reset.dev.sns.lines = (List.range 8).map (coldLine State.resetPins) := rfl
    simp [lineOf, lines, hn]
  rw [line]
  exact ⟨rfl, rfl, rfl⟩

theorem restartSensing_line (d : Device) (n : Nat) (hn : n < 8) : lineOf (restartSensing d) n = (lineOf d n).restarted n := by
  simp [lineOf, restartSensing_lines, hn]

theorem restartSensing_restarts (d : Device) : sensingRestarts d (restartSensing d) := by
  refine ⟨fun n hn => ?_, ?_⟩
  · obtain ⟨polarity, filter, edge⟩ := reset_line n hn
    rw [restartSensing_line d n hn]
    dsimp only
    rw [polarity, filter, edge]
    rfl
  · rw [restartSensing_lines]
    rfl

/-! ## The charge (R52) -/

theorem Charge.derived_fits (c : Charge) : derivedFits c.derived := by
  refine ⟨?_, rfl, rfl, ?_⟩
  · change (derateOf c.temp : Int) = if 200 ≤ c.temp then 1000 else max 550 (1000 - ((200 - c.temp) * 8 + 9) / 10)
    unfold derateOf ceilDiv
    split_ifs
    · rfl
    · omega
  · change (c.q - c.derived.qmin) * c.derived.derate / 1000 =
      if c.derived.qmin < c.q then (c.q - c.derived.qmin) * c.derived.derate / 1000 else 0
    split_ifs with above
    · rfl
    · rw [Nat.sub_eq_zero_of_le (Nat.le_of_not_lt above), Nat.zero_mul, Nat.zero_div]

theorem restartCharge_restarts (d : Device) : chargeRestarts d (restartCharge d) := ⟨Charge.derived_fits _, rfl⟩

/-! ## The Night Plan (R183) -/

theorem resolveMark_eq (d : Device) : resolveMark d = markResolved d := by
  unfold resolveMark markResolved
  split
  · rw [postIndication_only]
    rfl
  · rfl

theorem putHorizon_eq (wake : Option Nat) (d : Device) : putHorizon wake d = horizonGiven d wake := by
  unfold putHorizon horizonGiven
  split
  · next same => rw [same]; rfl
  · rfl

theorem handHorizon_of_none {d : Device} (state : d.npl.state = .none) :
    handHorizon d = if d.npl.horizonHanded = none then d
      else horizonGiven { d with npl := { d.npl with horizonHanded := none } } none := by
  have dead : planLive d = false := by simp [planLive, state]
  unfold handHorizon
  rw [dead]
  simp only [Bool.false_eq_true, if_false, eq_comm (a := (none : Option Nat)), putHorizon_eq]
  rfl

theorem handHorizon_npl {d : Device} (state : d.npl.state = .none) :
    (handHorizon d).npl = { d.npl with horizonHanded := none } := by
  rw [handHorizon_of_none state]
  split
  · next none' => exact none' ▸ rfl
  · rfl

theorem resolveMark_npl (d : Device) : (resolveMark d).npl = { d.npl with prewarmMark := false } := by
  rw [resolveMark_eq, markResolved]
  split
  · rfl
  · next off => exact (Bool.not_eq_true _ ▸ off) ▸ rfl

/-- R178: with no plan and no host's wish the quiet flag falls. -/
theorem refreshQuiet_npl {d : Device} (state : d.npl.state = .none) (host : d.npl.hostQuiet = false) (causes : d.npl.causes = []) :
    (refreshQuiet d).npl = { d.npl with
      quiet := false, causes := if d.npl.quiet = true ∧ noticeEnabled d .planState = true then [.quiet] else [] } := by
  have dead : (planQuiet d || d.npl.hostQuiet) = false := by simp [planQuiet, planLive, state, host]
  unfold refreshQuiet
  dsimp only
  rw [dead]
  cases quiet : d.npl.quiet with
  | false =>
    calc d.npl = { d.npl with quiet := d.npl.quiet, causes := d.npl.causes } := rfl
      _ = _ := by rw [quiet, causes]; rfl
  | true =>
    let u := heaterCaps (compCaps (putPlan { d.npl with quiet := false } d))
    have npl : u.npl = { d.npl with quiet := false } := by simp [u]
    have enabled : noticeEnabled u .planState = noticeEnabled d .planState := by simp [u, noticeEnabled]
    change (postPlan .quiet u).npl = _
    unfold postPlan
    rw [enabled]
    clear_value u
    cases noticeEnabled d .planState with
    | false =>
      calc u.npl = { d.npl with quiet := false, causes := d.npl.causes } := npl
        _ = _ := by rw [causes]; rfl
    | true => simp [npl, causes, addCause]

/-- R183: the plan's settings at their defaults. -/
def planDefaults (d : Device) : Device :=
  putPlan { d.npl with
    state := .none, wake := none, setpoint := 210, lead := 600, wakeLights := false, hostQuiet := false, result := .none
    causes := [] } d

theorem restartPlan_eq (d : Device) : restartPlan d = resolveMark (handHorizon (refreshQuiet (planDefaults d))) := rfl

theorem restartPlan_restarts (d : Device) : planRestarts d (restartPlan d) := by
  have npl := refreshQuiet_npl (d := planDefaults d) rfl rfl rfl
  have state : (refreshQuiet (planDefaults d)).npl.state = .none := congrArg (·.state) npl
  have handed : (refreshQuiet (planDefaults d)).npl.horizonHanded = d.npl.horizonHanded := congrArg (·.horizonHanded) npl
  constructor
  · rw [restartPlan_eq, resolveMark_eq, handHorizon_of_none state, handed]
    rfl
  · rw [restartPlan_eq, resolveMark_npl, handHorizon_npl state, npl]
    rfl

/-! ## The Rest-Time Monitor (R170) -/

theorem restSeverity_eq (t : Warnings) : restSeverity t = standing t := by
  have none' : (if (t.get .restComplete).state = .clear then 0 else WarnKind.restComplete.severity) = 0 := ite_self 0
  simp only [restSeverity, standing, allWarnings, List.map_cons, List.map_nil, List.foldl_cons, List.foldl_nil, none',
    Nat.zero_max, Nat.max_zero, Nat.max_assoc]
  rfl

theorem restartRest_eq (d : Device) : restartRest d = restRestarted d := by
  have same : ShowsSame d (putRest { d.rtm with rules := defaultRules, declaration := .auto } d) := ⟨rfl, rfl, rfl⟩
  rw [restartRest, postIndication_only, (same.postIndication _ _ _).1, restSeverity_eq]
  rfl

end Sys2Proof.Machine
end

section
/-! PROOFS. RESTART in the Load Budget (R75). -/

namespace Sys2Proof.Machine

open Sys2Proof.Stated

/-! ## An entry written, the allowance with it (R54, R67) -/

/-- R54: the Load Budget after a load writes its entry. -/
def entryWrites (d : Device) (l : Load) (request floor : Nat) : Budget :=
  let e := d.bgt.table.get l
  let e' := writtenEntry e request floor d.sns.uptime
  { d.bgt with
    table := d.bgt.table.put l e'
    passesDue := d.bgt.passesDue + (if e'.requested = e.requested ∧ e'.floor = e.floor then 0 else 1)
    allowance := { d.bgt.allowance with waiting :=
      if e'.granted = 0 then d.bgt.allowance.waiting.filter fun x => decide (x ≠ l) else d.bgt.allowance.waiting } }

theorem writeEntry_eq {d : Device} {l : Load} (h : waitsGranted d l) (request floor : Nat) :
    writeEntry l request floor d = { d with bgt := entryWrites d l request floor } := by
  have kept : (d.bgt.table.get l).granted = 0 →
      (d.bgt.allowance.waiting.filter fun x => decide (x ≠ l)) = d.bgt.allowance.waiting := fun none' =>
    List.filter_eq_self.2 fun x hx => decide_eq_true fun e => h none' (e ▸ hx)
  unfold writeEntry entryWrites entryOf
  simp only [written_eq]
  set e := d.bgt.table.get l
  by_cases gone : (writtenEntry e request floor d.sns.uptime).granted = 0
  · by_cases was : e.granted = 0
    · simp only [gone, was, if_pos, ne_eq, not_true_eq_false, and_false, if_false, kept was]
      split_ifs <;> rfl
    · simp only [gone, was, ne_eq, not_false_eq_true, and_true, if_true]
      split_ifs <;> rfl
  · simp only [gone, false_and, if_false]
    split_ifs <;> rfl

/-! ## No load waits -/

/-- No load waits for the allowance. -/
def NoneWaits (d : Device) : Prop := d.bgt.allowance.waiting = []

theorem NoneWaits.granted {d : Device} (h : NoneWaits d) (l : Load) : waitsGranted d l := fun _ => by
  rw [show d.bgt.allowance.waiting = [] from h]
  exact List.not_mem_nil

theorem NoneWaits.of_same {d t : Device} (same : t.bgt.allowance.waiting = d.bgt.allowance.waiting) (h : NoneWaits d) : NoneWaits t :=
  same.trans h

theorem post_noneWaits {d : Device} (k : NoticeKind) (h : NoneWaits d) : NoneWaits (post k d) := h.of_same (by simp)

theorem writeEntry_noneWaits {d : Device} (l : Load) (request floor : Nat) (h : NoneWaits d) :
    NoneWaits (writeEntry l request floor d) := by
  rw [writeEntry_eq (h.granted l), NoneWaits]
  change (if _ then d.bgt.allowance.waiting.filter _ else d.bgt.allowance.waiting) = []
  rw [show d.bgt.allowance.waiting = [] from h, List.filter_nil, ite_self]

theorem setOutlet_noneWaits {d : Device} (st : OutletState) (closing : Option Nat) (h : NoneWaits d) :
    NoneWaits (setOutlet st closing d) := by
  unfold setOutlet
  split
  · exact h
  · exact post_noneWaits .budgetState h

theorem enterHeater_noneWaits {d : Device} (st : HeaterState) (cause : HeaterCause) (h : NoneWaits d) :
    NoneWaits (enterHeater st cause d) := by
  have written : NoneWaits (writeHeater (putHtr (heaterMoved st cause d) d)) := writeEntry_noneWaits _ _ _ h
  rw [enterHeater_eq]
  split
  · exact written
  · exact post_noneWaits .heaterState written

theorem heaterDenied_noneWaits {d : Device} (h : NoneWaits d) : NoneWaits (heaterDenied d) := by
  unfold heaterDenied toOff applyTableDefault
  split_ifs
  · exact enterHeater_noneWaits .off _ h
  · exact enterHeater_noneWaits .off _ h
  · exact h

theorem attemptFails_noneWaits {d : Device} (h : NoneWaits d) : NoneWaits (attemptFails d) := by
  unfold attemptFails
  split
  · exact enterHeater_noneWaits .purge .none (d := putHtr { d.htr with attempts := d.htr.attempts + 1 } d) h
  · exact h

theorem enterComp_noneWaits {d : Device} (st : CompState) (h : NoneWaits d) : NoneWaits (enterComp st d) := by
  rw [enterComp_eq st (h.granted _), NoneWaits]
  change (if _ then d.bgt.allowance.waiting.filter _ else d.bgt.allowance.waiting) = []
  rw [show d.bgt.allowance.waiting = [] from h, List.filter_nil, ite_self]

theorem compFails_noneWaits {d : Device} (k : FailKind) (h : NoneWaits d) : NoneWaits (compFails k d) := by
  unfold compFails
  extract_lets d1 failures _ d2 backoff _ blocked _
  have released : NoneWaits d1 := by
    unfold d1
    rw [releaseAllowance_comp]
    exact (compReleased_waiting _ _).trans h
  have posted : NoneWaits d2 := post_noneWaits .fridgeState (d := putCmp _ d1) released
  split_ifs
  · exact h
  · exact (enterComp_noneWaits .stallBackoff posted : NoneWaits backoff)
  · exact (enterComp_noneWaits .blocked posted : NoneWaits blocked).of_same (by simp [blocked])

theorem answerDenied_noneWaits {d : Device} (l : Load) (h : NoneWaits d) : NoneWaits (answerDenied l d) := by
  cases l with
  | heater => exact heaterDenied_noneWaits h
  | compressor =>
    rw [answerDenied]
    unfold compDenied
    split
    · exact enterComp_noneWaits .offHold (h.of_same (by simp))
    · exact h
  | outlet =>
    rw [answerDenied]
    unfold outletDenied
    split
    · exact setOutlet_noneWaits .denied none h
    · exact h
  | base | lights | warning => exact h

theorem answerRevoked_noneWaits {d : Device} (l : Load) (h : NoneWaits d) : NoneWaits (answerRevoked l d) := by
  cases l with
  | heater => exact attemptFails_noneWaits h
  | compressor =>
    rw [answerRevoked]
    unfold compRevoked
    split_ifs
    · exact compFails_noneWaits .startFail h
    · exact enterComp_noneWaits .stopping h
    · exact h
  | outlet =>
    rw [answerRevoked]
    unfold outletRevoked
    split
    · exact setOutlet_noneWaits .on none h
    · exact h
  | base | lights | warning => exact h

theorem revokeHolder_noneWaits {d : Device} (h : NoneWaits d) : NoneWaits (revokeHolder d) := by
  unfold revokeHolder
  split
  · exact answerRevoked_noneWaits _ h
  · exact h
  · exact h

/-- R67: after a flush no load waits. -/
theorem flushAllowance_noneWaits (d : Device) : NoneWaits (flushAllowance d) := by
  have denied (l : List Load) {u : Device} (h : NoneWaits u) : NoneWaits (l.foldl (fun acc l => answerDenied l acc) u) := by
    induction l generalizing u with
    | nil => exact h
    | cons x l ih => exact ih (answerDenied_noneWaits x h)
  exact revokeHolder_noneWaits (denied _ rfl)

/-! ## The outlet off (R68) -/

/-- R65: the allowance once the outlet has released it or left its waiting list. -/
def outletGone (d : Device) : Allowance :=
  { (if d.bgt.outlet.state = .waitToken ∨ d.bgt.outlet.state = .closing then outletReleased d.bgt.allowance d.sns.ms
      else d.bgt.allowance) with
    waiting := d.bgt.allowance.waiting.filter fun l => decide (l ≠ .outlet) }

theorem outletDropped_of_gone {d : Device} (on : d.bgt.outlet.state ≠ .off) (h : NoneWaits d) :
    writeEntry .outlet 0 0 (setOutlet .off none (putAllowance (outletGone d) d)) =
      { d with bgt := outletDropped d, lnk := { d.lnk with notices := (post .budgetState d).lnk.notices } } := by
  let v : Device := { d with bgt := { d.bgt with allowance := outletGone d, outlet := { state := .off, closing := none } } }
  have off : setOutlet .off none (putAllowance (outletGone d) d) = { v with lnk := (post .budgetState d).lnk } :=
    (if_neg (Ne.symm on)).trans (post_of_lnk (t := v) .budgetState rfl)
  have none' : (outletGone d).waiting = [] := by
    rw [outletGone, show d.bgt.allowance.waiting = [] from h]
    rfl
  have link : (post .budgetState d).lnk = { d.lnk with notices := (post .budgetState d).lnk.notices } :=
    post_lnk_notices ..
  have waits : NoneWaits v := none'
  have kept : (entryWrites v .outlet 0 0).allowance.waiting = [] := by
    have written := writeEntry_noneWaits .outlet 0 0 waits
    rwa [writeEntry_eq (waits.granted .outlet)] at written
  have waiting : (entryWrites v .outlet 0 0).allowance = outletGone d :=
    calc (entryWrites v .outlet 0 0).allowance
        = { outletGone d with waiting := (entryWrites v .outlet 0 0).allowance.waiting } := rfl
      _ = { outletGone d with waiting := (outletGone d).waiting } := by rw [kept, none']
      _ = outletGone d := rfl
  have budget : entryWrites v .outlet 0 0 = outletDropped d :=
    calc entryWrites v .outlet 0 0 = { entryWrites v .outlet 0 0 with allowance := (entryWrites v .outlet 0 0).allowance } := rfl
      _ = outletDropped d := by rw [waiting]; rfl
  rw [off, ← link]
  have waits' : NoneWaits { v with lnk := (post .budgetState d).lnk } := none'
  exact (writeEntry_eq (waits'.granted .outlet) 0 0).trans (by rw [← budget]; rfl)

/-- R68: the outlet switched off, with no load waiting. -/
theorem outletOff_eq {d : Device} (h : NoneWaits d) :
    outletOff d = if d.bgt.outlet.state = .off then d
      else { d with bgt := outletDropped d, lnk := { d.lnk with notices := (post .budgetState d).lnk.notices } } := by
  have released : releaseAllowance .outlet d = putAllowance (outletReleased d.bgt.allowance d.sns.ms) d := by
    unfold releaseAllowance holds outletReleased
    by_cases held : d.bgt.allowance.state = .held .outlet
    · simp only [held, decide_true, if_true]; rfl
    · simp only [held, decide_false, if_false, Bool.false_eq_true]; rfl
  have none' : d.bgt.allowance.waiting = [] := h
  have same (a : Allowance) (ha : a.waiting = []) : { a with waiting := [] } = a := by rw [← ha]
  have releasedNone : (outletReleased d.bgt.allowance d.sns.ms).waiting = [] := by
    unfold outletReleased
    split <;> exact none'
  have withdrawn : withdrawAllowance .outlet d = putAllowance (outletReleased d.bgt.allowance d.sns.ms) d := by
    unfold withdrawAllowance
    split
    · exact released
    · next other =>
      have left : outletReleased d.bgt.allowance d.sns.ms = d.bgt.allowance := if_neg (by simpa [holds] using other)
      rw [left, leaveWaiting, none', List.filter_nil, same _ none']
      rfl
  have dropped := fun on => outletDropped_of_gone (d := d) on h
  unfold outletGone at dropped
  unfold outletOff
  rw [none', List.filter_nil] at dropped
  cases state : d.bgt.outlet.state with
  | off => rfl
  | waitToken =>
    have := dropped (by rw [state]; nofun)
    rw [if_pos (.inl state), same _ releasedNone] at this
    rw [withdrawn]
    exact this
  | closing =>
    have := dropped (by rw [state]; nofun)
    rw [if_pos (.inr state), same _ releasedNone] at this
    rw [released]
    exact this
  | waitGrant | on | denied =>
    have := dropped (by rw [state]; nofun)
    rw [if_neg (by rw [state]; simp), same _ none'] at this
    exact this

theorem restartBudget_restarts (d : Device) : budgetRestarts d (restartBudget d) := by
  have off := outletOff_eq (flushAllowance_noneWaits (defaultBudget d))
  have passed (v : Device) : budgetPass { v with bgt := { v.bgt with passesDue := v.bgt.passesDue + 1 } } = runPass v := rfl
  unfold restartBudget
  rw [off, ← passed]
  rfl

end Sys2Proof.Machine
end

section
/-! PROOFS. RESTART in the Light Controller (R148). -/

namespace Sys2Proof.Machine

open Sys2Proof.Stated

/-! ## The present level (R129) -/

theorem present_eq_levelAt (c : LightChannel) (ms : Nat) : c.present ms = levelAt c ms := by
  unfold LightChannel.present levelAt
  dsimp only
  by_cases ended : c.fading = false ∨ c.fadeMs ≤ ms - c.fadeAt
  · rw [if_pos (by simpa using ended), if_pos ended]
  · rw [if_neg (by simpa using ended), if_neg ended]
    split_ifs with rises
    · obtain ⟨up, target⟩ := Nat.exists_eq_add_of_le rises
      have step : ((c.target : Int) - c.fadeFrom) = (up : Int) := by omega
      rw [step, ← Int.natCast_mul, Int.tdiv_eq_ediv_of_nonneg (by positivity), target, Nat.add_sub_cancel_left]
      norm_cast
    · obtain ⟨down, start⟩ := Nat.exists_eq_add_of_le (Nat.le_of_not_le rises)
      have step : ((c.target : Int) - c.fadeFrom) = -(down : Int) := by omega
      rw [step, Int.neg_mul, Int.neg_tdiv, ← Int.natCast_mul, Int.tdiv_eq_ediv_of_nonneg (by positivity), start,
        Nat.add_sub_cancel_left, ← Int.natCast_ediv]
      omega

/-! ## Channels at target 0 with no fade -/

/-- A channel that stands at level 0. -/
def LightChannel.dark (c : LightChannel) : Prop := c.target = 0 ∧ c.fading = false ∧ c.hold = false ∧ c.courtesy = false

theorem LightChannel.dark.level {c : LightChannel} (h : c.dark) (ms : Nat) : levelAt c ms = 0 := by
  obtain ⟨target, still, -, -⟩ := h
  exact (if_pos (.inl still)).trans target

theorem LightChannel.dark.recapped {c : LightChannel} (h : c.dark) (old new ms : Nat) : c.recapped old new ms = c :=
  if_neg fun higher => by
    rw [present_eq_levelAt, h.level] at higher
    omega

theorem LightChannel.dark.recappedTo {c : LightChannel} (h : c.dark) (old new ms : Nat) : recappedTo old new ms c = c :=
  if_neg fun higher => by
    rw [h.level] at higher
    omega

theorem neededStep_zero (essential : Bool) : neededStep essential 0 = 0 := if_pos (Nat.zero_le _)

theorem lightsNeeded_dark {d : Device} (h : ∀ c ∈ d.lgt.channels, c.dark) : lightsNeeded d = 0 := by
  unfold lightsNeeded
  generalize d.lgt.channels = channels at h
  generalize d.lgt.chSettings = settings
  induction channels generalizing settings with
  | nil => rfl
  | cons c channels ih =>
    obtain ⟨target, -⟩ := h c (.head _)
    cases settings with
    | nil => rfl
    | cons t settings =>
      rw [List.zipWith_cons_cons, target, neededStep_zero, List.foldl_cons, Nat.max_self]
      exact ih (fun c hc => h c (.tail _ hc)) settings

theorem zipWith_recapped_dark {channels : List LightChannel} (h : ∀ c ∈ channels, c.dark) {caps : List (Nat × Nat)}
    (length : channels.length = caps.length) (ms : Nat) :
    List.zipWith (fun (c : LightChannel) (p : Nat × Nat) => c.recapped p.1 p.2 ms) channels caps = channels := by
  induction channels generalizing caps with
  | nil => rfl
  | cons c channels ih =>
    obtain ⟨p, caps, rfl⟩ := List.exists_cons_of_length_eq_add_one length.symm
    rw [List.zipWith_cons_cons, (h c (.head _)).recapped, ih (fun c hc => h c (.tail _ hc)) (by simpa using length)]

/-- R131, R134: channels that stand at level 0 are the same under any old and new caps. -/
theorem map_recappedTo_dark {channels : List LightChannel} (h : ∀ c ∈ channels, c.dark) (seven : channels.length = 7)
    (old new : Nat → Nat) (ms : Nat) :
    ((List.range 7).map fun k => recappedTo (old k) (new k) ms (channels.getD k darkChannel)) = channels := by
  refine List.ext_getElem (by simp [seven]) fun k _ hk => ?_
  rw [List.getElem_map, List.getElem_range, List.getD_eq_getElem _ _ hk]
  exact (h _ (List.getElem_mem hk)).recappedTo _ _ _

/-- R131: channels that stand at level 0 keep their records under new caps. -/
theorem recap_dark {was : List ChannelSetting} {d : Device} (h : ∀ c ∈ d.lgt.channels, c.dark)
    (length : d.lgt.channels.length = was.length) (settings : d.lgt.chSettings.length = was.length) :
    let step := min d.bgt.table.lights.requested d.bgt.table.lights.granted
    recap was d = { d with
      lgt := { d.lgt with capStep := step }
      lnk := if step = d.lgt.capStep then d.lnk else (post .lightState d).lnk } := by
  intro step
  unfold recap
  extract_lets e step' caps channels _ d1
  have same : channels = d.lgt.channels := zipWith_recapped_dark h (by simp [caps, length, settings]) d.sns.ms
  have capped : d1 = { d with lgt := { d.lgt with capStep := step } } := by
    unfold d1
    rw [same]
    rfl
  by_cases stays : step = d.lgt.capStep
  · rw [if_pos stays]
    exact (if_pos stays).trans capped
  · rw [if_neg stays]
    refine (if_neg stays).trans ?_
    rw [capped]
    exact post_of_lnk .lightState rfl

/-! ## The lights put out (R148) -/

/-- R148: the channel records after a RESTART. -/
def darkChannels (d : Device) : List LightChannel :=
  d.lgt.channels.map fun c => { handSet 0 0 d.sns.ms (rested d.sns.ms c) with saved := none }

theorem fadeTo_dark (c : LightChannel) (ms : Nat) :
    { c with saved := none, courtesy := false, hold := true }.fadeTo 0 0 ms = { handSet 0 0 ms c with saved := none } := by
  have level : ({ c with saved := none, courtesy := false, hold := true } : LightChannel).present ms = levelAt c ms := by
    rw [present_eq_levelAt]
    rfl
  unfold LightChannel.fadeTo
  dsimp only
  rw [level, if_pos (.inl rfl)]
  rfl

theorem darkChannels_dark (d : Device) : ∀ c ∈ darkChannels d, c.dark := by
  intro c hc
  obtain ⟨c, -, rfl⟩ := List.mem_map.1 hc
  exact ⟨rfl, rfl, rfl, rfl⟩

/-- R132: LIGHTS' entry with every target 0. -/
def darkEntry (d : Device) : Entry :=
  if 0 = d.lgt.written then d.bgt.table.lights else writtenEntry d.bgt.table.lights 0 0 d.sns.uptime

/-- R148: the lights' settings, scenes and records through a RESTART, their entry and caps still to follow. -/
def lightsDefaults (d : Device) : Device :=
  { d with lgt := { d.lgt with
    channels := darkChannels d, courtesyTimer := none
    chSettings := defaultChSettings, scenes := defaultScenes, settings := defaultLightSettings } }

/-- R132, R148: the lights through a RESTART, their caps still to follow. -/
def lightsWritten (d : Device) : Device :=
  let e := d.bgt.table.lights
  { lightsDefaults d with
    bgt := { d.bgt with
      table := { d.bgt.table with lights := darkEntry d }
      passesDue := d.bgt.passesDue + (if (darkEntry d).requested = e.requested ∧ (darkEntry d).floor = e.floor then 0 else 1) }
    lgt := { (lightsDefaults d).lgt with written := 0 } }

/-- R131, R148: the part after a RESTART of the lights, before its posting. -/
def lightsDark (d : Device) : Device :=
  { lightsWritten d with
    lgt := { (lightsWritten d).lgt with capStep := min (darkEntry d).requested (darkEntry d).granted } }

/-- R148: whether a RESTART of the lights posts LIGHT_STATE. -/
def lightsMoved (d : Device) : Prop := (lightsDark d).lgt.capStep ≠ d.lgt.capStep ∨ ∃ c ∈ d.lgt.channels, c.target ≠ 0

theorem writeEntry_lights {d : Device} (h : budgetSound d) (request : Nat) :
    let e := d.bgt.table.lights
    let e' := writtenEntry e request 0 d.sns.uptime
    writeEntry .lights request 0 d = { d with bgt := { d.bgt with
      table := { d.bgt.table with lights := e' }
      passesDue := d.bgt.passesDue + (if e'.requested = e.requested ∧ e'.floor = e.floor then 0 else 1) } } := by
  have other : Load.lights ∉ d.bgt.allowance.waiting := by
    obtain ⟨-, -, waiting, -⟩ := h
    exact fun waits => absurd (waiting _ waits).2.1 (by decide)
  have kept : (d.bgt.allowance.waiting.filter fun x => decide (x ≠ .lights)) = d.bgt.allowance.waiting :=
    List.filter_eq_self.2 fun x hx => decide_eq_true fun e => other (e ▸ hx)
  rw [writeEntry_eq (waitsGranted_of_sound h .lights), entryWrites, kept, ite_self]
  rfl

/-- R131, R132: the entry and the caps follow the channels put out. -/
theorem refreshLights_defaults {d : Device} (budget : budgetSound d) (sound : lightsSound d) :
    refreshLights d.lgt.chSettings (lightsDefaults d) =
      { lightsDark d with lnk := if (lightsDark d).lgt.capStep = d.lgt.capStep then d.lnk else (post .lightState d).lnk } := by
  obtain ⟨⟨seven, settings, -⟩, -⟩ := sound
  have need : lightsNeeded (lightsDefaults d) = 0 := lightsNeeded_dark (darkChannels_dark d)
  have length : (darkChannels d).length = d.lgt.chSettings.length := by simp [darkChannels, seven, settings]
  have written : refreshLights d.lgt.chSettings (lightsDefaults d) = recap d.lgt.chSettings (lightsWritten d) := by
    unfold refreshLights
    dsimp only
    rw [need]
    by_cases same : 0 = d.lgt.written
    · have entry : darkEntry d = d.bgt.table.lights := if_pos same
      have bgt : (lightsWritten d).bgt = d.bgt := by simp [lightsWritten, entry]
      refine (if_pos same).trans (congrArg _ ?_)
      calc lightsDefaults d
          = { lightsDefaults d with bgt := d.bgt, lgt := { (lightsDefaults d).lgt with written := d.lgt.written } } := rfl
        _ = lightsWritten d := by rw [← same, ← bgt]; rfl
    · have entry : darkEntry d = writtenEntry d.bgt.table.lights 0 0 d.sns.uptime := if_neg same
      refine (if_neg same).trans (congrArg _ ?_)
      refine (writeEntry_lights (d := { lightsDefaults d with
        lgt := { (lightsDefaults d).lgt with written := 0 } }) budget 0).trans ?_
      unfold lightsWritten
      rw [entry]
      rfl
  rw [written]
  refine (recap_dark (was := d.lgt.chSettings) (d := lightsWritten d) (darkChannels_dark d) length settings.symm).trans ?_
  dsimp only
  rw [post_lnk_congr (t := lightsWritten d) (d := d) .lightState rfl]
  rfl

/-- A RESTART of the lights in the words of the statements. -/
theorem restartLights_refreshed (d : Device) :
    restartLights d =
      let u := refreshLights d.lgt.chSettings (lightsDefaults d)
      if u.lgt.capStep = d.lgt.capStep then postIfMoved (targetsOf d) u else u := by
  have dark : ((settleLights d).lgt.channels.map fun c =>
      { c with saved := none, courtesy := false, hold := true }.fadeTo 0 0 (settleLights d).sns.ms) = darkChannels d := by
    rw [settleLights_eq]
    simp only [fadeTo_dark, List.map_map]
    rfl
  have before : targetsOf (settleLights d) = targetsOf d := by
    rw [settleLights_eq]
    simp only [targetsOf, List.map_map]
    exact List.map_congr_left fun c _ => by
      unfold Function.comp rested
      split <;> rfl
  unfold restartLights
  dsimp only
  rw [dark, before, settleLights_eq]
  rfl

theorem targets_dark_iff (d : Device) : (darkChannels d).map (·.target) = targetsOf d ↔ ¬∃ c ∈ d.lgt.channels, c.target ≠ 0 := by
  rw [darkChannels, targetsOf, List.map_map, List.map_inj_left]
  push Not
  exact forall₂_congr fun c _ => eq_comm

theorem restartLights_eq {d : Device} (budget : budgetSound d) (sound : lightsSound d) :
    (lightsMoved d → restartLights d = { lightsDark d with lnk := (post .lightState d).lnk }) ∧
      (¬lightsMoved d → restartLights d = lightsDark d) := by
  have targets : targetsOf (lightsDark d) = targetsOf d ↔ ¬∃ c ∈ d.lgt.channels, c.target ≠ 0 := targets_dark_iff d
  rw [restartLights_refreshed, refreshLights_defaults budget sound]
  dsimp only
  by_cases step : (lightsDark d).lgt.capStep = d.lgt.capStep
  · rw [if_pos step, if_pos step]
    unfold postIfMoved
    constructor
    · rintro (changed | lit)
      · exact absurd step changed
      · exact (if_neg fun same => targets.1 same lit).trans (post_of_lnk (t := lightsDark d) .lightState rfl)
    · intro still
      exact if_pos (targets.2 fun lit => still (.inr lit))
  · rw [if_neg step, if_neg step]
    exact ⟨fun _ => rfl, fun still => absurd (.inl step) still⟩

theorem restartLights_restarts {d : Device} (budget : budgetSound d) (sound : lightsSound d) :
    lightsRestart d (restartLights d) := by
  obtain ⟨moves, stays⟩ := restartLights_eq budget sound
  obtain ⟨x, eq, lnk, posted, quiet⟩ : ∃ x, restartLights d = { lightsDark d with lnk := x } ∧
      x = { d.lnk with notices := x.notices } ∧
      (lightsMoved d → x = (post .lightState d).lnk) ∧ (¬lightsMoved d → x = d.lnk) := by
    by_cases moved : lightsMoved d
    · exact ⟨_, moves moved, post_lnk_notices .., fun _ => rfl, fun still => absurd moved still⟩
    · exact ⟨_, stays moved, rfl, fun h => absurd h moved, fun _ => rfl⟩
  have seven : (darkChannels d).length = 7 := by
    obtain ⟨⟨seven, -⟩, -⟩ := sound
    rw [darkChannels, List.length_map, seven]
  rw [eq]
  refine ⟨⟨0, ⟨by decide, ?_, fun m hm => absurd hm (Nat.not_lt_zero m)⟩, ⟨rfl, rfl, rfl, rfl⟩, ?_⟩, fun moved => ?_, fun still => ?_,
    rfl, darkChannels_dark d, ?_, lnk, rfl⟩
  · intro p hp
    have dark := darkChannels_dark d p.1 (List.of_mem_zip hp).1
    rw [dark.1]
    exact Nat.zero_le _
  · exact (map_recappedTo_dark (darkChannels_dark d) seven _ _ _).symm
  · exact congrArg (·.notices) (posted moved)
  · exact congrArg (·.notices) (quiet still)
  · have enables : x.enables = d.lnk.enables := congrArg (·.enables) lnk
    have idle : x.idleTime = d.lnk.idleTime := congrArg (·.idleTime) lnk
    unfold lightsFrame
    dsimp only
    rw [← enables, ← idle]
    rfl

end Sys2Proof.Machine
end

section
/-! PROOFS. RESTART in the Heater Sequencer (R105). -/

namespace Sys2Proof.Machine

open Sys2Proof.Stated

/-! ## A heater state entered (R78, R79) -/

/-- R78, R79, R102: the part after a heater state is entered. -/
def heaterEntered (st : HeaterState) (cause : HeaterCause) (d : Device) : Device :=
  { d with
    htr := heaterMoved st cause d
    bgt := entryWrites d .heater (heaterAsk st d.htr.wished).1 (heaterAsk st d.htr.wished).2
    lnk := if st = d.htr.state then d.lnk else (post .heaterState d).lnk }

theorem enterHeater_entered {d : Device} (h : waitsGranted d .heater) (st : HeaterState) (cause : HeaterCause) :
    enterHeater st cause d = heaterEntered st cause d := by
  have written : writeHeater (putHtr (heaterMoved st cause d) d) = { heaterEntered st cause d with lnk := d.lnk } :=
    writeEntry_eq (d := putHtr (heaterMoved st cause d) d) h _ _
  rw [enterHeater_eq, written]
  unfold heaterEntered
  by_cases same : st = d.htr.state
  · rw [if_pos same, if_pos same]
  · rw [if_neg same, if_neg same]
    exact post_of_lnk .heaterState rfl

/-- R65: the heater's release. -/
theorem releaseAllowance_heater (d : Device) :
    releaseAllowance .heater d = putAllowance (heaterReleased d.bgt.allowance d.sns.ms) d := by
  unfold releaseAllowance holds heaterReleased
  by_cases held : d.bgt.allowance.state = .held .heater
  · simp only [held, decide_true, if_true]; rfl
  · simp only [held, decide_false, if_false, Bool.false_eq_true]; rfl

theorem heaterReleased_waiting (a : Allowance) (ms : Nat) : (heaterReleased a ms).waiting = a.waiting := by
  unfold heaterReleased
  split <;> rfl

/-! ## COOLDOWN entered (R99) -/

/-- R99: the settings that a cooldown captures. -/
def cooldownFrom (h : Heater) (cause : CooldownCause) : Cooldown :=
  { cause := cause, duty := h.seq.coolDuty, endTemp := h.seq.coolEnd, minTime := h.seq.coolMin, maxTime := h.seq.coolMax }

/-- R99: the heater record once COOLDOWN is entered. -/
def cooledHeater (h : Heater) (cause : CooldownCause) (ms : Nat) : Heater :=
  { heaterTo h .cooldown h.seq.coolDuty none (.cooling cause)
      { noHeaterTimers with coolMin := some (ms + 1000 * h.seq.coolMin), coolMax := some (ms + 1000 * h.seq.coolMax) } ms with
    cool := some (cooldownFrom h cause) }

/-- R54: a floor of 1 in HEATER's entry keeps its grant at 1 or more. -/
theorem heater_granted {d : Device} (sound : budgetSound d) (request : Nat) :
    (writtenEntry d.bgt.table.heater request 1 d.sns.uptime).granted ≠ 0 := by
  obtain ⟨⟨-, ⟨steps, -⟩, -⟩, -⟩ := sound
  unfold writtenEntry
  simp only [steps]
  split_ifs <;> omega

theorem toCooldown_eq {d : Device} (sound : budgetSound d) (other : d.htr.state ≠ .cooldown) (cause : CooldownCause) :
    toCooldown cause d = { d with
      htr := cooledHeater d.htr cause d.sns.ms
      bgt := { entryWrites d .heater 1 1 with allowance := heaterReleased d.bgt.allowance d.sns.ms }
      lnk := (post .heaterState d).lnk } := by
  let u := putAllowance (heaterReleased d.bgt.allowance d.sns.ms) (putHtr { d.htr with cool := some (cooldownFrom d.htr cause) } d)
  have waits : waitsGranted u .heater := fun none' => by
    change Load.heater ∉ (heaterReleased d.bgt.allowance d.sns.ms).waiting
    rw [heaterReleased_waiting]
    exact waitsGranted_of_sound sound .heater none'
  have entered : heaterEntered .cooldown (.cooling cause) u = { u with
      htr := heaterMoved .cooldown (.cooling cause) u
      bgt := { entryWrites d .heater 1 1 with allowance := heaterReleased d.bgt.allowance d.sns.ms }
      lnk := (post .heaterState d).lnk } := by
    have bgt : entryWrites u .heater 1 1 =
        { entryWrites d .heater 1 1 with allowance := heaterReleased d.bgt.allowance d.sns.ms } :=
      congrArg (fun w => ({ entryWrites d .heater 1 1 with
        allowance := { heaterReleased d.bgt.allowance d.sns.ms with waiting := w } } : Budget)) (if_neg (heater_granted sound 1))
    have lnk : (if HeaterState.cooldown = u.htr.state then u.lnk else (post .heaterState u).lnk) = (post .heaterState d).lnk :=
      (if_neg (Ne.symm other)).trans (post_lnk_congr .heaterState rfl)
    rw [heaterEntered, lnk]
    dsimp only [heaterAsk]
    rw [bgt]
  have released : releaseAllowance .heater (putHtr { d.htr with cool := some (cooldownFrom d.htr cause) } d) = u :=
    releaseAllowance_heater _
  have moved := (congrArg (enterHeater .cooldown (.cooling cause)) released).trans ((enterHeater_entered waits _ _).trans entered)
  exact (congrArg (fun v : Device => putHtrTimers { v.htr.timers with
    coolMin := some (v.sns.ms + 1000 * d.htr.seq.coolMin), coolMax := some (v.sns.ms + 1000 * d.htr.seq.coolMax) } v) moved)

/-! ## The table at its defaults (R105) -/

theorem tableRestarted_toOff {d : Device} (h : waitsGranted d .heater) (cause : HeaterCause) :
    tableRestarted (toOff cause d) = putHeatTable defaultHeatTable (heaterEntered .off cause d) := by
  unfold toOff applyTableDefault
  rw [enterHeater_entered h]
  split
  · rfl
  · rfl

/-- R105: the heater's settings after a RESTART, the table's return to its defaults pending. -/
def restartedHeater (d : Device) : Heater :=
  { d.htr with
    setpoint := 200, lastSetpoint := 200, runUntil := none, seq := defaultSeq, limits := defaultLimits
    lastRestart := none, marks := { d.htr.marks with restartPending := false, tableDefault := true } }

theorem restartHeater_cools {d : Device} (sound : budgetSound d)
    (st : d.htr.state = .glow ∨ d.htr.state = .ignite ∨ d.htr.state = .ramp ∨ d.htr.state = .run ∨
      d.htr.state = .purge ∧ ¬(d.htr.marks.lockoutPending = true ∨ d.htr.marks.forcedPurge = true)) :
    restartHeater d = { d with
      htr := cooledHeater (restartedHeater d) .restart d.sns.ms
      bgt := { entryWrites d .heater 1 1 with allowance := heaterReleased d.bgt.allowance d.sns.ms }
      lnk := (post .heaterState d).lnk } := by
  have state : (restartHeaterSettings d).htr.state = d.htr.state := rfl
  have other : (restartHeaterSettings d).htr.state ≠ .cooldown := by
    rw [state]
    rcases st with st | st | st | st | ⟨st, -⟩ <;> simp [st]
  have stopped : heaterStopped (restartHeaterSettings d) = toCooldown .restart (restartHeaterSettings d) := by
    unfold heaterStopped
    rw [state]
    rcases st with st | st | st | st | ⟨st, unmarked⟩ <;> rw [st]
    exact if_neg (by simpa [restartHeaterSettings] using unmarked)
  have posted : (post .heaterState (restartHeaterSettings d)).lnk = (post .heaterState d).lnk := post_lnk_congr .heaterState rfl
  rw [restartHeater_eq, stopped, toCooldown_eq (d := restartHeaterSettings d) sound other, posted]
  rfl

theorem restartHeater_purges {d : Device} (st : d.htr.state = .purge)
    (marked : d.htr.marks.lockoutPending = true ∨ d.htr.marks.forcedPurge = true) :
    restartHeater d = { d with htr := restartedHeater d } := by
  have stopped : heaterStopped (restartHeaterSettings d) = restartHeaterSettings d := by
    unfold heaterStopped
    rw [show (restartHeaterSettings d).htr.state = .purge from st]
    exact if_pos (by simpa [restartHeaterSettings] using marked)
  rw [restartHeater_eq, stopped]
  exact if_neg (by rw [show (restartHeaterSettings d).htr.state = .purge from st]; simp)

theorem restartHeater_cooldown {d : Device} (st : d.htr.state = .cooldown) :
    restartHeater d = { d with htr := { restartedHeater d with cool := d.htr.cool.map Cooldown.restarted } } := by
  have stopped : heaterStopped (restartHeaterSettings d) = putHtr
      { (restartHeaterSettings d).htr with cool := d.htr.cool.map Cooldown.restarted } (restartHeaterSettings d) := by
    unfold heaterStopped
    rw [show (restartHeaterSettings d).htr.state = .cooldown from st]
    rfl
  rw [restartHeater_eq, stopped]
  exact if_neg (by
    rw [show (putHtr { (restartHeaterSettings d).htr with cool := d.htr.cool.map Cooldown.restarted }
      (restartHeaterSettings d)).htr.state = .cooldown from st]
    simp)

theorem writtenEntry_zero (e : Entry) (uptime : Nat) : (writtenEntry e 0 0 uptime).granted = 0 := by
  unfold writtenEntry
  simp only [Nat.zero_min, Nat.max_self]
  split_ifs <;> omega

/-- R78, R105: OFF entered at a RESTART, the table at its defaults, the allowance as its owner has left it. -/
theorem restartHeater_toOff {d : Device} {a : Allowance} (sound : budgetSound d) (other : d.htr.state ≠ .off)
    (waiting : ∀ l ∈ a.waiting, l ∈ d.bgt.allowance.waiting) :
    tableRestarted (toOff (.cooling .restart) (putAllowance a (restartHeaterSettings d))) = { d with
      htr := heaterTo (restartedHeater d) .off 0 none (.cooling .restart) noHeaterTimers d.sns.ms
      bgt := { entryWrites d .heater 0 0 with
        table := { d.bgt.table with heater :=
          { writtenEntry d.bgt.table.heater 0 0 d.sns.uptime with steps := heaterSteps defaultHeatTable } }
        allowance := { a with waiting := a.waiting.filter fun l => decide (l ≠ .heater) } }
      lnk := (post .heaterState d).lnk } := by
  have waits : waitsGranted (putAllowance a (restartHeaterSettings d)) .heater := fun none' waits =>
    waitsGranted_of_sound sound .heater none' (waiting _ waits)
  have lnk : (if HeaterState.off = (putAllowance a (restartHeaterSettings d)).htr.state then d.lnk
      else (post .heaterState (putAllowance a (restartHeaterSettings d))).lnk) = (post .heaterState d).lnk :=
    (if_neg (Ne.symm other)).trans (post_lnk_congr .heaterState rfl)
  have bgt : entryWrites (putAllowance a (restartHeaterSettings d)) .heater 0 0 = { entryWrites d .heater 0 0 with
      allowance := { a with waiting := a.waiting.filter fun l => decide (l ≠ .heater) } } :=
    congrArg (fun w => ({ entryWrites d .heater 0 0 with allowance := { a with waiting := w } } : Budget))
      (if_pos (writtenEntry_zero ..))
  rw [tableRestarted_toOff waits, heaterEntered]
  dsimp only [heaterAsk]
  rw [bgt]
  exact congrArg (fun x => ({ d with
    htr := heaterTo (restartedHeater d) .off 0 none (.cooling .restart) noHeaterTimers d.sns.ms
    bgt := { entryWrites d .heater 0 0 with
      table := { d.bgt.table with heater :=
        { writtenEntry d.bgt.table.heater 0 0 d.sns.uptime with steps := heaterSteps defaultHeatTable } }
      allowance := { a with waiting := a.waiting.filter fun l => decide (l ≠ .heater) } }
    lnk := x } : Device)) lnk

theorem restartHeater_off {d : Device} (sound : budgetSound d) (st : d.htr.state = .waitInrush ∨ d.htr.state = .paused) :
    restartHeater d = { d with
      htr := heaterTo (restartedHeater d) .off 0 none (.cooling .restart) noHeaterTimers d.sns.ms
      bgt := { entryWrites d .heater 0 0 with
        table := { d.bgt.table with heater :=
          { writtenEntry d.bgt.table.heater 0 0 d.sns.uptime with steps := heaterSteps defaultHeatTable } }
        allowance := if d.htr.state = .waitInrush then heaterWithdrawn d.bgt.allowance d.sns.ms
          else { d.bgt.allowance with waiting := d.bgt.allowance.waiting.filter fun l => decide (l ≠ .heater) } }
      lnk := (post .heaterState d).lnk } := by
  have state : (restartHeaterSettings d).htr.state = d.htr.state := rfl
  rw [restartHeater_eq]
  rcases st with st | st
  · have other : d.htr.state ≠ .off := by simp [st]
    have stopped : heaterStopped (restartHeaterSettings d) =
        toOff (.cooling .restart) (withdrawAllowance .heater (restartHeaterSettings d)) := by
      unfold heaterStopped
      rw [state, st]
      rfl
    have withdrawn : ∀ l ∈ (d.bgt.allowance.waiting.filter fun x => decide (x ≠ .heater)), l ∈ d.bgt.allowance.waiting :=
      fun _ hl => List.mem_of_mem_filter hl
    rw [stopped, if_pos st]
    rcases withdrawAllowance_cases .heater (restartHeaterSettings d) with ⟨held, eq⟩ | ⟨free, eq⟩
    · have released : heaterReleased d.bgt.allowance d.sns.ms = d.bgt.allowance.release d.sns.ms :=
        if_pos (of_decide_eq_true held)
      rw [eq, heaterWithdrawn, released]
      exact restartHeater_toOff sound other fun _ h => h
    · have kept : heaterReleased d.bgt.allowance d.sns.ms = d.bgt.allowance := if_neg (of_decide_eq_false free)
      have off := restartHeater_toOff (a := { d.bgt.allowance with
        waiting := d.bgt.allowance.waiting.filter fun x => decide (x ≠ .heater) }) sound other withdrawn
      simp only [List.filter_filter, Bool.and_self] at off
      rw [eq, heaterWithdrawn, kept]
      exact off
  · have stopped : heaterStopped (restartHeaterSettings d) = toOff (.cooling .restart) (restartHeaterSettings d) := by
      unfold heaterStopped
      rw [state, st]
    rw [stopped, if_neg (by simp [st])]
    exact restartHeater_toOff (a := d.bgt.allowance) sound (by simp [st]) fun _ h => h

theorem restartHeater_rests {d : Device} (st : d.htr.state = .off ∨ d.htr.state = .lockout) :
    restartHeater d = { d with
      htr := { restartedHeater d with table := defaultHeatTable, marks := { (restartedHeater d).marks with tableDefault := false } }
      bgt := { d.bgt with table := { d.bgt.table with heater :=
        { d.bgt.table.heater with steps := heaterSteps defaultHeatTable } } } } := by
  have stopped : heaterStopped (restartHeaterSettings d) = restartHeaterSettings d := by
    have state : (restartHeaterSettings d).htr.state = d.htr.state := rfl
    unfold heaterStopped
    rw [state]
    rcases st with st | st <;> rw [st]
  rw [restartHeater_eq, stopped]
  exact if_pos st

/-- What a step of the heater that shows no fault touches, and whether it posts. -/
def heaterTouches (d t : Device) : Prop :=
  t = { d with
    htr := t.htr
    bgt := { d.bgt with
      table := { d.bgt.table with heater := t.bgt.table.heater }, passesDue := t.bgt.passesDue, allowance := t.bgt.allowance }
    lnk := t.lnk } ∧
  t.lnk = if t.htr.state = d.htr.state then d.lnk else (post .heaterState d).lnk

theorem heaterTouches.framed {d t : Device} (h : heaterTouches d t) :
    heaterPosted d t ∧ heaterFrame d t d.sns.ms ∧ calm d t ∧ t.lnk = { d.lnk with notices := t.lnk.notices } := by
  obtain ⟨eq, lnk⟩ := h
  have quiet : t.lnk = { d.lnk with notices := t.lnk.notices } := by
    rw [lnk]
    split_ifs
    · rfl
    · exact post_lnk_notices ..
  have same : ({ t.lnk with enables := d.lnk.enables, idleTime := d.lnk.idleTime } : Link) = t.lnk := by
    rw [quiet]
  refine ⟨?_, ?_, ⟨congrArg (·.lgt) eq, congrArg (·.npl) eq⟩, quiet⟩
  · rw [heaterPosted, lnk]
    split_ifs <;> rfl
  · unfold heaterFrame
    rw [same, congrArg (·.lgt) eq, congrArg (·.npl) eq]
    exact eq

/-- The states in which a RESTART finds the heater (R105). -/
theorem heaterState_groups (d : Device) :
    let marked := d.htr.marks.lockoutPending = true ∨ d.htr.marks.forcedPurge = true
    (d.htr.state = .glow ∨ d.htr.state = .ignite ∨ d.htr.state = .ramp ∨ d.htr.state = .run ∨ d.htr.state = .purge ∧ ¬marked) ∨
      (d.htr.state = .purge ∧ marked) ∨ d.htr.state = .cooldown ∨ (d.htr.state = .waitInrush ∨ d.htr.state = .paused) ∨
      (d.htr.state = .off ∨ d.htr.state = .lockout) := by
  intro marked
  cases d.htr.state <;> simp [em']

theorem restartHeater_touches {d : Device} (sound : budgetSound d) : heaterTouches d (restartHeater d) := by
  rcases heaterState_groups d with cools | ⟨st, marked⟩ | st | off | rests
  · have moved : HeaterState.cooldown ≠ d.htr.state := by
      rcases cools with st | st | st | st | ⟨st, -⟩ <;> simp [st]
    rw [restartHeater_cools sound cools]
    exact ⟨rfl, (if_neg moved).symm⟩
  · rw [restartHeater_purges st marked]
    exact ⟨rfl, (if_pos rfl).symm⟩
  · rw [restartHeater_cooldown st]
    exact ⟨rfl, (if_pos rfl).symm⟩
  · have moved : HeaterState.off ≠ d.htr.state := by
      rcases off with st | st <;> simp [st]
    rw [restartHeater_off sound off]
    exact ⟨rfl, (if_neg moved).symm⟩
  · rw [restartHeater_rests rests]
    exact ⟨rfl, (if_pos rfl).symm⟩

theorem restartHeater_restarts {d : Device} (sound : budgetSound d) : heaterRestarts d (restartHeater d) := by
  refine ⟨fun st => ?_, fun st marked => ?_, fun st => ?_, fun st => ?_, fun st => ?_, ?_⟩
  · rw [restartHeater_cools sound st]
    exact ⟨rfl, ⟨rfl, rfl⟩, rfl⟩
  · rw [restartHeater_purges st marked]
    exact ⟨rfl, rfl⟩
  · rw [restartHeater_cooldown st]
    exact ⟨rfl, rfl⟩
  · rw [restartHeater_off sound st]
    exact ⟨rfl, ⟨rfl, rfl⟩, rfl⟩
  · rw [restartHeater_rests st]
    exact ⟨rfl, rfl⟩
  · exact (restartHeater_touches sound).framed

end Sys2Proof.Machine
end

section
/-! PROOFS. RESTART in the Compressor Controller (R128). -/

namespace Sys2Proof.Machine

open Sys2Proof.Stated

/-! ## The settings at their defaults -/

/-- R126, R128: a mode that changes at a RESTART is posted. -/
def compModePosted (d : Device) : Device := if d.cmp.mode = .thermostat then d else post .fridgeState d

/-- R128: the compressor's record with its settings at their defaults. -/
def defaultedComp (d : Device) : Compressor :=
  { d.cmp with
    settings := defaultFridge, enable := false, demand := false, mode := .thermostat
    timers := { d.cmp.timers with phase := none } }

theorem compModePosted_eq (d : Device) : compModePosted d = { d with lnk := (compModePosted d).lnk } := by
  unfold compModePosted
  split
  · rfl
  · exact post_eq ..

theorem compModePosted_lnk (d : Device) : (compModePosted d).lnk = { d.lnk with notices := (compModePosted d).lnk.notices } := by
  unfold compModePosted
  split
  · rfl
  · exact post_lnk_notices ..

theorem compDefaults_eq (d : Device) : compDefaults d = { d with cmp := defaultedComp d, lnk := (compModePosted d).lnk } := by
  unfold compDefaults compModePosted
  dsimp only
  split
  · rfl
  · exact post_of_lnk (d := d) .fridgeState rfl

/-! ## A state entered at a RESTART -/

/-- The part with the compressor's record and the allowance as given, the mode's change posted. -/
def compGiven (a : Allowance) (c : Compressor) (d : Device) : Device :=
  { d with bgt := { d.bgt with allowance := a }, cmp := c, lnk := (compModePosted d).lnk }

/-- A state in which the bridge is off, entered at a RESTART. -/
theorem compGiven_rests {st : CompState} (rest : st.drives = false) (a : Allowance) (c : Compressor) (timers : CompTimers)
    (lgt : Lights) (d : Device) :
    compRests (compModePosted d) { putCmpTimers timers (compEntered st (compGiven a c d)) with lgt := lgt } c st timers a := by
  have entered := compRests_timers (u := { putCmpTimers timers (compEntered st (compGiven a c d)) with lgt := lgt })
    (compEntered_rests rest (compGiven a c d)) rfl rfl rfl rfl
  have same := compModePosted_eq d
  exact compRests_congr (d := compGiven a c d) (rawOf_congr (d := compGiven a c d) (by rw [same]; rfl) (by rw [same]; rfl) 6)
    (by rw [same]; exact ⟨rfl, rfl⟩) (by rw [same]; exact ⟨rfl, rfl⟩) rfl entered

/-- What a state entered at a RESTART may touch. -/
theorem compGiven_frame (st : CompState) (a : Allowance) (c : Compressor) (timers : CompTimers) (lgt : Lights) (d : Device) :
    let t := { putCmpTimers timers (compEntered st (compGiven a c d)) with lgt := lgt }
    compFrame d t d.sns.ms d.pins.hall ∧ t.lnk = { d.lnk with notices := t.lnk.notices } := by
  intro t
  have lnk : t.lnk = { d.lnk with notices := t.lnk.notices } := by
    have given : (compGiven a c d).lnk = { d.lnk with notices := (compGiven a c d).lnk.notices } := compModePosted_lnk d
    by_cases same : st = (compGiven a c d).cmp.state
    · have stays : t.lnk = (compGiven a c d).lnk := if_pos same
      rw [stays, given]
    · have posts : t.lnk = (post .fridgeState (compGiven a c d)).lnk := if_neg same
      rw [posts, post_lnk_notices, given]
  refine ⟨Device.eq_of_blocks ⟨rfl, rfl, rfl, rfl, rfl, rfl, rfl, rfl, rfl, rfl, rfl, ?_, rfl⟩, lnk⟩
  rw [lnk]

/-! ## RESTART by state (R128) -/

theorem compDefaults_given (d : Device) : compDefaults d = compGiven d.bgt.allowance (defaultedComp d) d := compDefaults_eq d

theorem compGiven_waits {d : Device} (sound : budgetSound d) {a : Allowance} (waiting : ∀ l ∈ a.waiting, l ∈ d.bgt.allowance.waiting)
    (c : Compressor) : waitsGranted (compGiven a c d) .compressor := fun none' waits =>
  waitsGranted_of_sound sound .compressor none' (waiting _ waits)

/-- R114: STOPPING entered at a RESTART. -/
theorem toStopping_given {a : Allowance} {c : Compressor} {d : Device} (waits : waitsGranted (compGiven a c d) .compressor) :
    toStopping (compGiven a c d) = putCmpTimers { restTimers c d.sns.ms with coast := some (d.sns.ms + 1000) }
      (compEntered .stopping (compGiven a c d)) := by
  have timers : (compEntered .stopping (compGiven a c d)).cmp.timers = restTimers c d.sns.ms := compEntered_timers rfl _
  unfold toStopping
  dsimp only
  rw [enterComp_eq _ waits, timers]
  rfl

theorem toDisabled_given {a : Allowance} {c : Compressor} {d : Device}
    (waits : waitsGranted (compGiven a { c with wished := 0 } d) .compressor) :
    toDisabled (compGiven a c d) = compEntered .disabled (compGiven a { c with wished := 0 } d) := enterComp_eq _ waits

/-- R114, R128: the part once STOPPING is entered. -/
def compCoasts (a : Allowance) (d : Device) : Device :=
  putCmpTimers { restTimers (defaultedComp d) d.sns.ms with coast := some (d.sns.ms + 1000) }
    (compEntered .stopping (compGiven a (defaultedComp d) d))

/-- R128: the part once DISABLED is entered. -/
def compTurnedOff (a : Allowance) (d : Device) : Device := compEntered .disabled (compGiven a { defaultedComp d with wished := 0 } d)

theorem restartComp_start {d : Device} (sound : budgetSound d) (st : d.cmp.state = .start) :
    restartComp d = compCoasts (compReleased d.bgt.allowance d.sns.ms) d := by
  have stopped : compStopped (compGiven d.bgt.allowance (defaultedComp d) d) =
      toStopping (releaseAllowance .compressor (compGiven d.bgt.allowance (defaultedComp d) d)) := by
    unfold compStopped
    rw [show (compGiven d.bgt.allowance (defaultedComp d) d).cmp.state = .start from st]
  have waits := compGiven_waits sound (a := compReleased d.bgt.allowance d.sns.ms)
    (fun _ hl => compReleased_waiting d.bgt.allowance d.sns.ms ▸ hl) (defaultedComp d)
  rw [restartComp_eq, compDefaults_given, stopped, releaseAllowance_comp]
  exact toStopping_given waits

theorem restartComp_run {d : Device} (sound : budgetSound d) (st : d.cmp.state = .run) :
    restartComp d = compCoasts d.bgt.allowance d := by
  have stopped : compStopped (compGiven d.bgt.allowance (defaultedComp d) d) =
      toStopping (compGiven d.bgt.allowance (defaultedComp d) d) := by
    unfold compStopped
    rw [show (compGiven d.bgt.allowance (defaultedComp d) d).cmp.state = .run from st]
  rw [restartComp_eq, compDefaults_given, stopped]
  exact toStopping_given (compGiven_waits sound (fun _ hl => hl) _)

theorem restartComp_waitInrush {d : Device} (sound : budgetSound d) (st : d.cmp.state = .waitInrush) :
    restartComp d = compTurnedOff (compWithdrawn d.bgt.allowance d.sns.ms) d := by
  have stopped : compStopped (compGiven d.bgt.allowance (defaultedComp d) d) =
      toDisabled (withdrawAllowance .compressor (compGiven d.bgt.allowance (defaultedComp d) d)) := by
    unfold compStopped
    rw [show (compGiven d.bgt.allowance (defaultedComp d) d).cmp.state = .waitInrush from st]
  have withdrawn : withdrawAllowance .compressor (compGiven d.bgt.allowance (defaultedComp d) d) =
      compGiven (compWithdrawn d.bgt.allowance d.sns.ms) (defaultedComp d) d := by
    rcases withdrawAllowance_cases .compressor (compGiven d.bgt.allowance (defaultedComp d) d) with ⟨held, eq⟩ | ⟨free, eq⟩
    · have state : d.bgt.allowance.state = .held .compressor := of_decide_eq_true held
      have released : compReleased d.bgt.allowance d.sns.ms = d.bgt.allowance.release d.sns.ms := if_pos state
      have kept : (d.bgt.allowance.waiting.filter fun l => decide (l ≠ .compressor)) = d.bgt.allowance.waiting := by
        obtain ⟨-, -, waiting, -⟩ := sound
        exact List.filter_eq_self.2 fun l hl => decide_eq_true fun e => (waiting l hl).1 (e ▸ state)
      rw [eq, compWithdrawn, released, kept]
      rfl
    · have kept : compReleased d.bgt.allowance d.sns.ms = d.bgt.allowance := if_neg (of_decide_eq_false free)
      rw [eq, compWithdrawn, kept]
      rfl
  rw [restartComp_eq, compDefaults_given, stopped, withdrawn]
  exact toDisabled_given (compGiven_waits sound (fun _ hl => List.mem_of_mem_filter hl) _)

theorem restartComp_idle {d : Device} (sound : budgetSound d)
    (st : d.cmp.state = .idle ∨ d.cmp.state = .offHold ∨ d.cmp.state = .stallBackoff) :
    restartComp d = compTurnedOff d.bgt.allowance d := by
  have state : (compGiven d.bgt.allowance (defaultedComp d) d).cmp.state = d.cmp.state := rfl
  have stopped : compStopped (compGiven d.bgt.allowance (defaultedComp d) d) =
      toDisabled (compGiven d.bgt.allowance (defaultedComp d) d) := by
    unfold compStopped
    rw [state]
    rcases st with st | st | st <;> rw [st]
  rw [restartComp_eq, compDefaults_given, stopped]
  exact toDisabled_given (compGiven_waits sound (fun _ hl => hl) _)

theorem compEntered_lgt (st : CompState) (lgt : Lights) (u : Device) :
    compEntered st { u with lgt := lgt } = { compEntered st u with lgt := lgt } := by
  have posted : (post .fridgeState { u with lgt := lgt }).lnk = (post .fridgeState u).lnk := post_lnk_congr .fridgeState rfl
  unfold compEntered
  rw [posted]
  rfl

theorem restartComp_blocked {d : Device} (sound : budgetSound d) (st : d.cmp.state = .blocked) :
    restartComp d = { compTurnedOff d.bgt.allowance d with lgt := (postIndication .cmp 0 false d).lgt } := by
  have stopped : compStopped (compGiven d.bgt.allowance (defaultedComp d) d) =
      toDisabled (postIndication .cmp 0 false (compGiven d.bgt.allowance (defaultedComp d) d)) := by
    unfold compStopped
    rw [show (compGiven d.bgt.allowance (defaultedComp d) d).cmp.state = .blocked from st]
  have shows : ShowsSame d (compGiven d.bgt.allowance (defaultedComp d) d) := ⟨rfl, rfl, rfl⟩
  have waits := compGiven_waits sound (a := d.bgt.allowance) (fun _ hl => hl) { defaultedComp d with wished := 0 }
  rw [restartComp_eq, compDefaults_given, stopped, postIndication_only, (shows.postIndication ..).1]
  exact (enterComp_eq (d := { compGiven d.bgt.allowance { defaultedComp d with wished := 0 } d with
    lgt := (postIndication .cmp 0 false d).lgt }) .disabled waits).trans (compEntered_lgt ..)

theorem restartComp_stopping {d : Device} (sound : budgetSound d) (st : d.cmp.state = .stopping) :
    restartComp d =
      let b := if 0 = d.cmp.wished then d.bgt else compWrites d 0
      { compGiven d.bgt.allowance { defaultedComp d with wished := 0, commanded := 0 } d with bgt := b } := by
  have stopped : compStopped (compGiven d.bgt.allowance (defaultedComp d) d) =
      setCompWish 0 (compGiven d.bgt.allowance (defaultedComp d) d) := by
    unfold compStopped
    rw [show (compGiven d.bgt.allowance (defaultedComp d) d).cmp.state = .stopping from st]
  have waits := compGiven_waits sound (a := d.bgt.allowance) (fun _ hl => hl) { defaultedComp d with wished := 0 }
  rw [restartComp_eq, compDefaults_given, stopped]
  dsimp only
  by_cases zero : 0 = d.cmp.wished
  · rw [if_pos zero]
    refine (if_pos zero).trans ?_
    calc commandStep (compGiven d.bgt.allowance (defaultedComp d) d)
        = compGiven d.bgt.allowance { defaultedComp d with
            wished := d.cmp.wished, commanded := min d.cmp.wished (grantOf d .compressor) } d := rfl
      _ = _ := by rw [← zero, Nat.zero_min]; rfl
  · rw [if_neg zero]
    refine (if_neg zero).trans ((writeComp_eq waits).trans ?_)
    rw [show (compGiven d.bgt.allowance { defaultedComp d with wished := 0 } d).cmp.state = .stopping from st]
    dsimp only [compAsk, compGiven]
    rw [Nat.zero_min]
    rfl

theorem restartComp_disabled {d : Device} (st : d.cmp.state = .disabled) :
    restartComp d = compGiven d.bgt.allowance (defaultedComp d) d := by
  have stopped : compStopped (compGiven d.bgt.allowance (defaultedComp d) d) =
      compGiven d.bgt.allowance (defaultedComp d) d := by
    unfold compStopped
    rw [show (compGiven d.bgt.allowance (defaultedComp d) d).cmp.state = .disabled from st]
  rw [restartComp_eq, compDefaults_given, stopped]

theorem compCoasts_frame (a : Allowance) (d : Device) :
    let t := compCoasts a d
    compFrame d t d.sns.ms d.pins.hall ∧ t.lnk = { d.lnk with notices := t.lnk.notices } :=
  compGiven_frame .stopping a (defaultedComp d) { restTimers (defaultedComp d) d.sns.ms with coast := some (d.sns.ms + 1000) } d.lgt d

theorem compTurnedOff_frame (a : Allowance) (lgt : Lights) (d : Device) :
    let t := { compTurnedOff a d with lgt := lgt }
    compFrame d t d.sns.ms d.pins.hall ∧ t.lnk = { d.lnk with notices := t.lnk.notices } :=
  compGiven_frame .disabled a { defaultedComp d with wished := 0 } (restTimers (defaultedComp d) d.sns.ms) lgt d

theorem compTurnedOff_rests (a : Allowance) (lgt : Lights) (d : Device) :
    compRests (compModePosted d) { compTurnedOff a d with lgt := lgt } { defaultedComp d with wished := 0 } .disabled
      (restTimers (defaultedComp d) d.sns.ms) a :=
  compGiven_rests rfl a { defaultedComp d with wished := 0 } (restTimers (defaultedComp d) d.sns.ms) lgt d

theorem compGiven_quiet (a : Allowance) (c : Compressor) (b : Budget) (d : Device) (kept : b = { d.bgt with
      table := { d.bgt.table with compressor := b.table.compressor }, passesDue := b.passesDue, allowance := b.allowance }) :
    let t := { compGiven a c d with bgt := b }
    compFrame d t d.sns.ms d.pins.hall ∧ t.lnk = { d.lnk with notices := t.lnk.notices } := by
  intro t
  have lnk : t.lnk = { d.lnk with notices := t.lnk.notices } := compModePosted_lnk d
  refine ⟨Device.eq_of_blocks ⟨rfl, rfl, rfl, rfl, rfl, kept, rfl, rfl, rfl, rfl, rfl, ?_, rfl⟩, lnk⟩
  rw [lnk]

/-- What a RESTART of the compressor touches. -/
theorem restartComp_touches {d : Device} (sound : budgetSound d) :
    let t := restartComp d
    compFrame d t d.sns.ms d.pins.hall ∧ t.lnk = { d.lnk with notices := t.lnk.notices } := by
  dsimp only
  cases st : d.cmp.state with
  | start => rw [restartComp_start sound st]; exact compCoasts_frame ..
  | run => rw [restartComp_run sound st]; exact compCoasts_frame ..
  | waitInrush => rw [restartComp_waitInrush sound st]; exact compTurnedOff_frame _ d.lgt d
  | idle => rw [restartComp_idle sound (.inl st)]; exact compTurnedOff_frame _ d.lgt d
  | offHold => rw [restartComp_idle sound (.inr (.inl st))]; exact compTurnedOff_frame _ d.lgt d
  | stallBackoff => rw [restartComp_idle sound (.inr (.inr st))]; exact compTurnedOff_frame _ d.lgt d
  | blocked => rw [restartComp_blocked sound st]; exact compTurnedOff_frame ..
  | stopping => rw [restartComp_stopping sound st]; exact compGiven_quiet _ _ _ d (by split <;> rfl)
  | disabled => rw [restartComp_disabled st]; exact compGiven_quiet d.bgt.allowance (defaultedComp d) d.bgt d rfl

theorem restartComp_lgt {d : Device} (sound : budgetSound d) :
    (restartComp d).lgt = if d.cmp.state = .blocked then (postIndication .cmp 0 false d).lgt else d.lgt := by
  cases st : d.cmp.state with
  | start => rw [restartComp_start sound st]; rfl
  | run => rw [restartComp_run sound st]; rfl
  | waitInrush => rw [restartComp_waitInrush sound st]; rfl
  | idle => rw [restartComp_idle sound (.inl st)]; rfl
  | offHold => rw [restartComp_idle sound (.inr (.inl st))]; rfl
  | stallBackoff => rw [restartComp_idle sound (.inr (.inr st))]; rfl
  | blocked => rw [restartComp_blocked sound st]; rfl
  | stopping => rw [restartComp_stopping sound st]; rfl
  | disabled => rw [restartComp_disabled st]; rfl

/-- R108, R128: in STOPPING W becomes 0, and 0 is asked for. -/
theorem compStopping_wished {d : Device} (st : d.cmp.state = .stopping) :
    let b := if 0 = d.cmp.wished then d.bgt else compWrites d 0
    compWished d { compGiven d.bgt.allowance { defaultedComp d with wished := 0, commanded := 0 } d with bgt := b }
      (defaultedComp d) 0 := by
  intro b
  refine ⟨?_, fun changed => ?_, fun same => if_pos same⟩
  · rw [Nat.zero_min]
    rfl
  · have written : b = compWrites d 0 := if_neg changed
    rw [written, if_pos (.inr (.inl st))]
    exact ⟨⟨rfl, rfl⟩, rfl⟩

theorem restartComp_restarts {d : Device} (sound : budgetSound d) : compRestarts d (restartComp d) := by
  obtain ⟨frame, lnk⟩ := restartComp_touches sound
  refine ⟨frame, lnk, restartComp_lgt sound, fun st => ?_, fun st => ?_, fun st => ?_, fun st => ?_, fun st => ?_, fun st => ?_,
    fun st => ?_⟩
  · rw [restartComp_start sound st]
    exact compGiven_rests rfl _ _ _ d.lgt d
  · rw [restartComp_run sound st]
    exact compGiven_rests rfl _ _ _ d.lgt d
  · rw [restartComp_waitInrush sound st]
    exact compTurnedOff_rests _ d.lgt d
  · rcases st with st | st | st | st
    · rw [restartComp_idle sound (.inl st)]
      exact compTurnedOff_rests _ d.lgt d
    · rw [restartComp_idle sound (.inr (.inl st))]
      exact compTurnedOff_rests _ d.lgt d
    · rw [restartComp_idle sound (.inr (.inr st))]
      exact compTurnedOff_rests _ d.lgt d
    · rw [restartComp_blocked sound st]
      exact compTurnedOff_rests ..
  · rw [restartComp_stopping sound st]
    exact compStopping_wished st
  · rw [restartComp_disabled st]
    exact ⟨rfl, rfl⟩
  · rcases st with st | st
    · rw [restartComp_stopping sound st]
      exact ⟨rfl, rfl⟩
    · rw [restartComp_disabled st]
      exact ⟨rfl, rfl⟩

end Sys2Proof.Machine
end

section
/-! PROOFS. RESTART (R196). -/

namespace Sys2Proof.Machine

open Sys2Proof.Stated

/-- R196: the end of RESTART's reply. -/
theorem restart_acts {s : State} {f : Frame} {u : Device} (tx : s.dev.lnk.tx = .reply f)
    (out : s.dev.lnk.out = some { rest := [], restart := true }) (hu : restartBlocks (linkRestarted s.dev) = u) :
    Runs .transmitterFree s fun t =>
      let g : Frame :=
        { kind := 0xC1, tag := 0, body := 0x01 :: 0x01 :: u32 s.dev.sns.uptime ++ [if s.dev.sns.clockSet = true then 1 else 0] }
      (∃ behind, u.lnk.notices = { kind := .restarted, merge := 1, lines := [] } :: behind ∧
        t = { u with lnk := { (linkRestarted s.dev).lnk with
          notices := behind, tx := .notice g, sendEnd := (linkRestarted s.dev).sns.ms + airtime g } }) ∧
      RestartKeeps s.dev t := by
  obtain ⟨behind, notices, freed⟩ := transmitterFree_restart tx out hu
  have kept := restartBlocks_survivors hu
  exact runs_of_eq (f := transmitterFree) rfl freed ⟨⟨behind, notices, rfl⟩, kept⟩

end Sys2Proof.Machine

namespace Sys2Proof.Proofs

open Sys2Proof Sys2Proof.Machine Sys2Proof.Stated

/-- Settles O54: the reply's end is taken apart stage by stage (the link, the blocks, the notice), and each block by its states. -/
theorem restartActsAfterItsReply : Obligations.RestartActsAfterItsReply := by
  unfold Obligations.RestartActsAfterItsReply
  refine ⟨restart_answers, fun s f tx out => ?_, fun d budget lights => ?_⟩
  · exact restart_acts tx out rfl
  · exact ⟨restartSensing_restarts d, restartCharge_restarts d, restartPlan_restarts d, restartHeater_restarts budget,
      restartComp_restarts budget, restartLights_restarts budget lights, restartRest_eq d, restartBudget_restarts d⟩

end Sys2Proof.Proofs
end

section
/-! PROOFS. The raw field of a binding (R29). -/

namespace Sys2Proof.Machine

open Sys2Proof.Stated

/-! ## Bytes read as one number -/

/-- A bit of the bytes read as one number, the first least significant. -/
theorem testBit_firstLow (l : List Byte) (j : Nat) : (firstLow l).testBit j = (l.getD (j / 8) 0).getLsbD (j % 8) := by
  induction l generalizing j with
  | nil => simp [firstLow]
  | cons b l ih =>
    have split : firstLow (b :: l) = 2 ^ 8 * firstLow l + b.toNat := Nat.add_comm ..
    rw [split, Nat.testBit_two_pow_mul_add _ b.isLt]
    by_cases low : j < 8
    · rw [if_pos low, Nat.div_eq_of_lt low, Nat.mod_eq_of_lt low]
      rfl
    · obtain ⟨k, rfl⟩ := Nat.exists_eq_add_of_le' (Nat.le_of_not_lt low)
      rw [if_neg low, Nat.add_sub_cancel, ih, Nat.add_div_right k (by decide), Nat.add_mod_right]
      rfl

/-- A byte of the first `q + 1`, counted from the last of them. -/
theorem getD_reverse_take {data : List Byte} {q k : Nat} (hq : q < data.length) (hk : k ≤ q) :
    (data.take (q + 1)).reverse.getD k 0 = data.getD (q - k) 0 := by
  have length : (data.take (q + 1)).length = q + 1 := by simp; omega
  rw [List.getD_eq_getElem _ _ (by rw [List.length_reverse]; omega), List.getElem_reverse, List.getElem_take,
    List.getD_eq_getElem _ _ (by omega)]
  congr 1
  omega

/-- The number that bits form, each with its weight. -/
theorem sum_bits_eq_mod (x n : Nat) : ((List.range n).map fun i => if x.testBit i then 2 ^ i else 0).sum = x % 2 ^ n := by
  induction n with
  | zero => simp [Nat.mod_one]
  | succ n ih =>
    rw [List.range_succ, List.map_append, List.sum_append, ih, Nat.mod_pow_succ]
    rcases Nat.mod_two_eq_zero_or_one (x / 2 ^ n) with bit | bit <;> simp [Nat.testBit_eq_decide_div_mod_eq, bit]

/-! ## The field (R29) -/

/-- R29: the raw field, where its bits are those of a number from a start bit up. -/
theorem rawField_of_bits {b : Binding} {data : List Byte} {x start : Nat}
    (bits : ∀ i < b.length, (data.getD (bitPlace b i).1 0).getLsbD (bitPlace b i).2 = x.testBit (start + i)) :
    rawField b data = x / 2 ^ start % 2 ^ b.length := by
  rw [← sum_bits_eq_mod, rawField]
  refine congrArg List.sum (List.map_congr_left fun i hi => ?_)
  rw [bits i (List.mem_range.1 hi), Nat.testBit_div_two_pow, Nat.add_comm]

theorem bitPlace_firstLsb {b : Binding} (order : b.order = .firstLsb) (i : Nat) :
    bitPlace b i = ((b.start + i) / 8, (b.start + i) % 8) := by
  unfold bitPlace
  rw [order]

theorem bitPlace_firstMsb {b : Binding} (order : b.order = .firstMsb) (i : Nat) :
    bitPlace b i = (b.start / 8 - (b.start % 8 + i) / 8, (b.start % 8 + i) % 8) := by
  unfold bitPlace
  rw [order]

theorem fieldPresent_iff (b : Binding) (data : List Byte) :
    fieldPresent b data = true ↔ ∀ i < b.length, (bitPlace b i).1 < data.length := by
  simp [fieldPresent]

/-- R29: a FIRST_LSB field is present when its last bit is. -/
theorem fieldPresent_firstLsb {b : Binding} (order : b.order = .firstLsb) (some_ : 1 ≤ b.length) (data : List Byte) :
    fieldPresent b data = true ↔ b.start + b.length ≤ 8 * data.length := by
  simp only [fieldPresent_iff, bitPlace_firstLsb order]
  refine ⟨fun h => ?_, fun h i hi => by omega⟩
  have last := h (b.length - 1) (by omega)
  omega

/-- R29: a FIRST_MSB field is present when the byte of its start bit is. -/
theorem fieldPresent_firstMsb {b : Binding} (order : b.order = .firstMsb) (some_ : 1 ≤ b.length) (data : List Byte) :
    fieldPresent b data = true ↔ b.start / 8 < data.length := by
  simp only [fieldPresent_iff, bitPlace_firstMsb order]
  refine ⟨fun h => ?_, fun h i hi => by omega⟩
  have first := h 0 (by omega)
  omega

/-- R29: a FIRST_LSB field. -/
theorem rawField_firstLsb {b : Binding} (order : b.order = .firstLsb) (data : List Byte) :
    rawField b data = firstLow data / 2 ^ b.start % 2 ^ b.length :=
  rawField_of_bits fun i _ => by rw [bitPlace_firstLsb order, testBit_firstLow]

/-- R29: a FIRST_MSB field whose bits lie at or before the byte of its start bit. -/
theorem rawField_firstMsb {b : Binding} (order : b.order = .firstMsb) {data : List Byte} (here : b.start / 8 < data.length)
    (fits : b.start % 8 + b.length ≤ 8 * (b.start / 8 + 1)) :
    rawField b data = firstHigh (data.take (b.start / 8 + 1)) / 2 ^ (b.start % 8) % 2 ^ b.length :=
  rawField_of_bits fun i hi => by
    rw [bitPlace_firstMsb order, firstHigh, testBit_firstLow, getD_reverse_take here (by omega)]

end Sys2Proof.Machine

namespace Sys2Proof.Proofs

open Sys2Proof Sys2Proof.Machine Sys2Proof.Stated

/-- Settles O14: each byte order's field lists the bits of one number, from its start bit up. -/
theorem rawFieldFollowsByteOrder : Obligations.RawFieldFollowsByteOrder := by
  intro b data ⟨_, start, one, _, _, _, _, _, _, _, _, _, _, _, fits⟩
  refine ⟨fun order => fieldPresent_firstLsb order one data, fun order => fieldPresent_firstMsb order one data,
    fun order _ => rawField_firstLsb order data, fun order present => ?_⟩
  have := fits order
  exact rawField_firstMsb order ((fieldPresent_firstMsb order one data).1 present) (by omega)

end Sys2Proof.Proofs
end

section
/-! PROOFS. The listener's operations, one rule each: what they do to the slots, the signals and the link (R21, R22, R24 to R26,
R30, R33). -/

namespace Sys2Proof.Machine

open Sys2Proof.Stated

/-! ## The signals that frames and slots act on (R26, R30, R32) -/

theorem fromBus_iff (d : Device) (g : Signal) : fromBus d g = true ↔ onBus d.vbl g := by
  unfold fromBus onBus
  cases d.vbl.source <;> simp

theorem boundTo_iff (n : Nat) (r : SignalRec) : boundTo n r = true ↔ bound r n := by
  unfold boundTo bound
  cases r.binding <;> simp

/-- Reading the signal table after an operation on each signal of a list. -/
theorem foldl_put_get (f : SignalRec → SignalRec) (p : Signal → Bool) {l : List Signal} (nodup : l.Nodup) (t : Signals) (k : Signal) :
    (l.foldl (fun (acc : Signals) g => if p g then acc.put g (f (acc.get g)) else acc) t).get k =
      if k ∈ l ∧ p k = true then f (t.get k) else t.get k := by
  induction l generalizing t with
  | nil => simp
  | cons g l ih =>
    obtain ⟨fresh, nodup⟩ := List.nodup_cons.1 nodup
    rw [List.foldl_cons, ih nodup]
    by_cases same : k = g
    · subst same
      by_cases hp : p k = true <;> simp [fresh, hp]
    · by_cases hp : p g = true <;> simp [same, hp]

/-- Each signal after an operation on all that frames and slots act on. -/
theorem mapBusSignals_get (f : SignalRec → SignalRec) (d : Device) (g : Signal) :
    (mapBusSignals f d).vbl.signals.get g = if fromBus d g = true then f (d.vbl.signals.get g) else d.vbl.signals.get g := by
  have listed : g ∈ allSignals := by cases g <;> decide
  refine (foldl_put_get f (fromBus d) (by decide) d.vbl.signals g).trans ?_
  simp [listed]

theorem mapBusSignals_off {f : SignalRec → SignalRec} {d : Device} {g : Signal}
    (h : ¬onBus d.vbl g ∨ f (d.vbl.signals.get g) = d.vbl.signals.get g) :
    (mapBusSignals f d).vbl.signals.get g = d.vbl.signals.get g := by
  rw [mapBusSignals_get]
  split
  · next on => exact h.resolve_left (not_not.2 ((fromBus_iff d g).1 on))
  · rfl

theorem mapBusSignals_on {f : SignalRec → SignalRec} {d : Device} {g : Signal} (h : onBus d.vbl g) :
    (mapBusSignals f d).vbl.signals.get g = f (d.vbl.signals.get g) := by
  rw [mapBusSignals_get, if_pos ((fromBus_iff d g).2 h)]

/-- A signal bound to slot `n`, after an operation on all that are. -/
theorem mapBound_in {f : SignalRec → SignalRec} {n : Nat} {d : Device} {g : Signal} (h : bound (d.vbl.signals.get g) n)
    (on : onBus d.vbl g) :
    (mapBusSignals (fun r => if boundTo n r then f r else r) d).vbl.signals.get g = f (d.vbl.signals.get g) :=
  (mapBusSignals_on on).trans (if_pos ((boundTo_iff n _).2 h))

theorem mapBound_out {f : SignalRec → SignalRec} {n : Nat} {d : Device} {g : Signal}
    (h : ¬bound (d.vbl.signals.get g) n ∨ ¬onBus d.vbl g) :
    (mapBusSignals (fun r => if boundTo n r then f r else r) d).vbl.signals.get g = d.vbl.signals.get g :=
  mapBusSignals_off (h.symm.imp id fun free => if_neg (mt (boundTo_iff n _).1 free))

/-! ## The slots -/

theorem slotOf_of_vbl {d t : Device} (h : t.vbl = d.vbl) (n : Nat) : slotOf t n = slotOf d n :=
  congrArg (fun v : Vehicle => v.slots.getD n coldSlot) h

theorem slotOf_putSlot {n : Nat} {d : Device} (h : n < d.vbl.slots.length) (v : Slot) : slotOf (putSlot n v d) n = v := by
  simp [slotOf, putSlot, h]

theorem slotOf_putSlot_ne {m n : Nat} (h : m ≠ n) (v : Slot) (d : Device) : slotOf (putSlot n v d) m = slotOf d m := by
  simp [slotOf, putSlot, List.getElem?_set_ne h.symm]

/-! ## Changes that turn no signal on (R33) -/

/-- A signal has kept its value, and its status or lost it without becoming FRESH. -/
def Fades (r r' : SignalRec) : Prop := r'.value = r.value ∧ (r'.status = r.status ∨ r'.status ≠ .fresh)

theorem Fades.refl (r : SignalRec) : Fades r r := ⟨rfl, .inl rfl⟩

theorem Fades.trans {r r' r'' : SignalRec} (h : Fades r r') (k : Fades r' r'') : Fades r r'' := by
  obtain ⟨value, status⟩ := h
  obtain ⟨value', status'⟩ := k
  refine ⟨value'.trans value, ?_⟩
  rcases status' with same | lost
  · rwa [same]
  · exact .inr lost

theorem Fades.of_never (r : SignalRec) : Fades r { r with status := .never } := ⟨rfl, .inr nofun⟩

/-- R22, R26: STALE in the words of the statements. -/
theorem goStale_eq (r : SignalRec) : r.goStale = { r with status := staleStatus r.status } := by
  unfold SignalRec.goStale staleStatus
  split
  · next never => rw [← never]
  · rfl

theorem Fades.of_stale (r : SignalRec) : Fades r r.goStale := by
  rw [goStale_eq]
  refine ⟨rfl, ?_⟩
  dsimp only [staleStatus]
  split
  · next never => exact .inl never.symm
  · exact .inr nofun

/-- R33: a signal becomes FRESH and 1. -/
def comesOn (r r' : SignalRec) : Prop := ¬(r.status = .fresh ∧ r.value = 1) ∧ r'.status = .fresh ∧ r'.value = 1

theorem isOn_iff (r : SignalRec) : r.isOn = true ↔ r.status = .fresh ∧ r.value = 1 := by simp [SignalRec.isOn]

theorem turnedOn_iff (r r' : SignalRec) : turnedOn r r' = true ↔ comesOn r r' := by
  rw [turnedOn, Bool.and_eq_true, Bool.not_eq_true', ← Bool.not_eq_true, isOn_iff, isOn_iff, comesOn]

theorem Fades.not_turnedOn {r r' : SignalRec} (h : Fades r r') : turnedOn r r' = false := by
  obtain ⟨value, same | lost⟩ := h
  · exact Bool.eq_false_iff.2 fun on => ((turnedOn_iff r r').1 on).1 (same ▸ value ▸ ((turnedOn_iff r r').1 on).2)
  · exact Bool.eq_false_iff.2 fun on => lost ((turnedOn_iff r r').1 on).2.1

/-- R33: after changes that turn no signal on, a changed ENGINE_RUNNING triggers one pass, and nothing else is handed on. -/
theorem handSignals_fades {was : Signals} {d : Device} (h : ∀ g, g ≠ .parkingBrake → Fades (was.get g) (d.vbl.signals.get g)) :
    handSignals was d = { d with bgt := { d.bgt with passesDue := d.bgt.passesDue +
      (if (d.vbl.signals.get .engineRunning).status ≠ (was.get .engineRunning).status then 1 else 0) } } := by
  have ignition : turnedOn was.ignition d.vbl.signals.ignition = false := (h .ignition nofun).not_turnedOn
  have fuelLow : turnedOn was.fuelLow d.vbl.signals.fuelLow = false := (h .fuelLow nofun).not_turnedOn
  have value : was.engineRunning.value = d.vbl.signals.engineRunning.value := (h .engineRunning nofun).1.symm
  have moved : signalMoved was.engineRunning d.vbl.signals.engineRunning = true ↔
      (d.vbl.signals.get .engineRunning).status ≠ (was.get .engineRunning).status := by
    rw [signalMoved, Bool.or_eq_true, decide_eq_true_eq, decide_eq_true_eq, ne_comm]
    exact or_iff_left (not_not.2 value)
  have engine : (if signalMoved was.engineRunning d.vbl.signals.engineRunning = true then triggerPass d else d) =
      { d with bgt := { d.bgt with passesDue := d.bgt.passesDue +
        (if (d.vbl.signals.get .engineRunning).status ≠ (was.get .engineRunning).status then 1 else 0) } } := by
    by_cases changed : signalMoved was.engineRunning d.vbl.signals.engineRunning = true
    · rw [if_pos changed, if_pos (moved.1 changed)]
      rfl
    · rw [if_neg changed, if_neg (mt moved.2 changed)]
      rfl
  unfold handSignals
  dsimp only
  rw [ignition, fuelLow, engine]
  rfl

/-! ## The listener's state (R21) -/

/-- A posting changes the notice table by the kinds enabled alone. -/
theorem post_notices_congr {d t : Device} (k : NoticeKind) (enables : t.lnk.enables = d.lnk.enables)
    (notices : t.lnk.notices = d.lnk.notices) : (post k t).lnk.notices = (post k d).lnk.notices := by
  rw [post_lnk, post_lnk, enables]
  split
  · exact congrArg (mergeNotice k none) notices
  · exact notices

/-- R21: the link after the listener has come to a state. -/
def listenerPosted (st : ListenerState) (d : Device) : Link := if st = d.vbl.listener then d.lnk else (post .busState d).lnk

theorem setListener_eq (st : ListenerState) (silence : Option Nat) (d : Device) :
    setListener st silence d =
      { d with vbl := { d.vbl with listener := st, silence := silence }, lnk := listenerPosted st d } := by
  unfold setListener listenerPosted
  dsimp only
  split
  · rfl
  · exact post_of_lnk .busState rfl

theorem listenerPosted_lnk (st : ListenerState) (d : Device) :
    listenerPosted st d = { d.lnk with notices := (listenerPosted st d).notices } := by
  unfold listenerPosted
  split
  · rfl
  · exact post_lnk_notices .busState d

theorem listenerPosted_notices (st : ListenerState) {d t : Device} (listener : t.vbl.listener = d.vbl.listener)
    (enables : t.lnk.enables = d.lnk.enables) (notices : t.lnk.notices = d.lnk.notices) :
    (listenerPosted st t).notices = if st = d.vbl.listener then d.lnk.notices else (post .busState d).lnk.notices := by
  rw [listenerPosted, listener]
  split
  · exact notices
  · exact post_notices_congr .busState enables notices

end Sys2Proof.Machine
end

section
/-! PROOFS. A frame on the vehicle bus, and the listener's timers (R20, R21, R24 to R26, R30, R33). -/

namespace Sys2Proof.Machine

open Sys2Proof.Stated

/-! ## The slot that takes a frame (R24) -/

theorem formatMask_eq (f : FrameFormat) (mask : Nat) : formatMask f mask = mask % 2 ^ identWidth f := by cases f <;> rfl

/-- Two numbers agree under a mask cut to a width where its bits below the width say so. -/
theorem and_mask_eq_iff (x y mask width : Nat) :
    x &&& mask % 2 ^ width = y &&& mask % 2 ^ width ↔ ∀ i, i < width → mask.testBit i = true → x.testBit i = y.testBit i := by
  refine ⟨fun h i hi bit => ?_, fun h => Nat.eq_of_testBit_eq fun i => ?_⟩
  · simpa [hi, bit] using congrArg (·.testBit i) h
  · by_cases masked : i < width ∧ mask.testBit i = true
    · simp [h i masked.1 masked.2]
    · rw [not_and] at masked
      rw [Nat.testBit_and, Nat.testBit_and, Nat.testBit_mod_two_pow]
      by_cases hi : i < width
      · simp [masked hi]
      · simp [hi]

/-- R24: the model's test of a slot in the words of the statements. -/
theorem slotTakes_iff (d : Device) (format : FrameFormat) (ident n : Nat) :
    slotTakes d format ident n = true ↔ accepts d.vbl format ident n := by
  unfold slotTakes accepts
  dsimp only
  rw [Bool.and_eq_true, Bool.and_eq_true, decide_eq_true_eq, decide_eq_true_eq, formatMask_eq, and_mask_eq_iff, and_assoc]
  refine and_congr_right fun _ => and_congr_right fun same => ?_
  rw [← same]
  rfl

theorem matchSlot_eq_some {d : Device} {format : FrameFormat} {ident n : Nat} (hn : n < 12) (takes : accepts d.vbl format ident n)
    (first : ∀ m, m < n → ¬accepts d.vbl format ident m) : matchSlot d format ident = some n := by
  refine List.find?_range_eq_some.2 ⟨(slotTakes_iff ..).2 takes, List.mem_range.2 hn, fun m hm => ?_⟩
  rw [Bool.not_eq_true', ← Bool.not_eq_true, slotTakes_iff]
  exact first m hm

theorem matchSlot_eq_none {d : Device} {format : FrameFormat} {ident : Nat} (none' : ∀ n, n < 12 → ¬accepts d.vbl format ident n) :
    matchSlot d format ident = none :=
  List.find?_eq_none.2 fun n hn => mt (slotTakes_iff d format ident n).1 (none' n (List.mem_range.1 hn))

/-! ## The slot and its signals (R25, R30) -/

/-- R30: what a frame makes of a signal. -/
theorem evaluated_by (b : Binding) (data : List Byte) (uptime : Nat) (r : SignalRec) :
    evaluatedBy b data uptime r (r.evaluated b data uptime) := by
  unfold evaluatedBy SignalRec.evaluated
  dsimp only
  by_cases present : fieldPresent b data = true
  · simp only [present, Bool.not_true, Bool.false_eq_true, if_false, Bool.true_eq_false, false_or]
    split_ifs <;> simp
  · simp [present]

theorem afterFrame_bound {n : Nat} {r : SignalRec} {b : Binding} (binding : r.binding = some b) (slot : b.slot = n)
    (data : List Byte) (uptime : Nat) : r.afterFrame n data uptime = r.evaluated b data uptime := by
  simp [SignalRec.afterFrame, binding, slot]

theorem afterFrame_unbound {n : Nat} {r : SignalRec} (h : ¬bound r n) (data : List Byte) (uptime : Nat) :
    r.afterFrame n data uptime = r := by
  unfold SignalRec.afterFrame
  split
  · rfl
  · next b binding => exact if_neg fun slot => h ⟨b, binding, slot⟩

/-- R25: the slot that takes a frame. -/
def filledSlot (n : Nat) (data : List Byte) (d : Device) : Slot :=
  { slotOf d n with data := data, arrival := d.sns.ms, status := .fresh, timer := some (d.sns.ms + (slotOf d n).limit) }

theorem slotFrame_eq (n : Nat) (data : List Byte) (d : Device) :
    slotFrame n data d = mapBusSignals (SignalRec.afterFrame n data d.sns.uptime) (putSlot n (filledSlot n data d) d) := rfl

/-- R20, R21: a frame has been heard on the bus. -/
def listening (d : Device) : Device :=
  { d with
    vbl := { d.vbl with listener := .listening, silence := some (d.sns.ms + 2000) }
    lnk := listenerPosted .listening d }

theorem canFrame_off {d : Device} (off : d.vbl.listener = .off) (format : FrameFormat) (ident : Nat) (data : List Byte) :
    canFrame format ident data d = d := if_pos off

theorem canFrame_on {d : Device} (on : d.vbl.listener ≠ .off) (format : FrameFormat) (ident : Nat) (data : List Byte) :
    canFrame format ident data d = match matchSlot (listening d) format ident with
      | none => listening d
      | some n => slotFrame n data (listening d) := by
  rw [canFrame, if_neg on, setListener_eq]
  rfl

theorem canFrame_taken {d : Device} (on : d.vbl.listener ≠ .off) {format : FrameFormat} {ident n : Nat} (hn : n < 12)
    (takes : accepts d.vbl format ident n) (first : ∀ m, m < n → ¬accepts d.vbl format ident m) (data : List Byte) :
    canFrame format ident data d = slotFrame n data (listening d) := by
  rw [canFrame_on on, matchSlot_eq_some (d := listening d) hn takes first]

theorem canFrame_passed {d : Device} (on : d.vbl.listener ≠ .off) {format : FrameFormat} {ident : Nat}
    (none' : ∀ n, n < 12 → ¬accepts d.vbl format ident n) (data : List Byte) :
    canFrame format ident data d = listening d := by
  rw [canFrame_on on, matchSlot_eq_none (d := listening d) none']

/-- R21, R25: what a frame touches. -/
theorem canFrame_touches {d : Device} (on : d.vbl.listener ≠ .off) (format : FrameFormat) (ident : Nat) (data : List Byte) :
    let t := canFrame format ident data d
    t = { listening d with vbl := t.vbl } ∧
      t.vbl = { (listening d).vbl with slots := t.vbl.slots, signals := t.vbl.signals } := by
  dsimp only
  rw [canFrame_on on]
  cases matchSlot (listening d) format ident <;> exact ⟨rfl, rfl⟩

/-- R21: the posting of BUS_STATE by a listener that was SILENT. -/
theorem listening_posts {d : Device} (on : d.vbl.listener ≠ .off) (v : Vehicle) :
    { listening d with vbl := v } =
      if d.vbl.listener = .silent then post .busState { d with vbl := v } else { d with vbl := v } := by
  cases st : d.vbl.listener with
  | off => exact absurd st on
  | listening => rw [if_neg nofun, listening, listenerPosted, if_pos st.symm]
  | silent =>
    rw [if_pos rfl, listening, listenerPosted, if_neg (st.symm ▸ nofun),
      post_of_lnk (d := d) (t := { d with vbl := v }) .busState rfl]

/-! ## The changes handed on (R33) -/

theorem handSignals_same (d : Device) : handSignals d.vbl.signals d = d := by
  rw [handSignals_fades fun _ _ => Fades.refl _, if_neg (not_not.2 rfl)]
  rfl

theorem signalMoved_iff (r r' : SignalRec) : signalMoved r r' = true ↔ r.status ≠ r'.status ∨ r.value ≠ r'.value := by
  simp [signalMoved]

/-- R33: ENGINE_RUNNING's change handed on. -/
def engineHanded (was : Signals) (d : Device) : Device :=
  if signalMoved was.engineRunning d.vbl.signals.engineRunning then triggerPass d else d

/-- R33: IGNITION's change handed on, after ENGINE_RUNNING's (log 40). -/
def ignitionHanded (was : Signals) (d : Device) : Device :=
  if turnedOn was.ignition d.vbl.signals.ignition then lightsIgnitionOn (engineHanded was d) else engineHanded was d

theorem handSignals_eq (was : Signals) (d : Device) :
    handSignals was d =
      if turnedOn was.fuelLow d.vbl.signals.fuelLow then heaterFuelLow (ignitionHanded was d) else ignitionHanded was d := rfl

theorem engineHanded_eq (was : Signals) (d : Device) :
    engineHanded was d =
      if (was.get .engineRunning).status ≠ (d.vbl.signals.get .engineRunning).status ∨
          (was.get .engineRunning).value ≠ (d.vbl.signals.get .engineRunning).value
        then { d with bgt := { d.bgt with passesDue := d.bgt.passesDue + 1 } } else d :=
  if_congr (signalMoved_iff _ _) rfl rfl

/-! ## A frame (R20, R21, R25, R30) -/

/-- R25, R30: the slot that takes a frame, and its signals. -/
theorem canFrame_fills {d : Device} (twelve : d.vbl.slots.length = 12) (on : d.vbl.listener ≠ .off) {format : FrameFormat}
    {ident n : Nat} (hn : n < 12) (takes : accepts d.vbl format ident n) (first : ∀ m, m < n → ¬accepts d.vbl format ident m)
    (data : List Byte) :
    let t := canFrame format ident data d
    slotOf t n = filledSlot n data d ∧ (∀ m, m < 12 → m ≠ n → slotOf t m = slotOf d m) ∧
      (∀ g b, (d.vbl.signals.get g).binding = some b → b.slot = n → onBus d.vbl g →
        evaluatedBy b data d.sns.uptime (d.vbl.signals.get g) (t.vbl.signals.get g)) ∧
      ∀ g, ¬bound (d.vbl.signals.get g) n ∨ ¬onBus d.vbl g → t.vbl.signals.get g = d.vbl.signals.get g := by
  rw [canFrame_taken on hn takes first, slotFrame_eq]
  refine ⟨slotOf_putSlot (twelve.symm ▸ hn : n < (listening d).vbl.slots.length) _,
    fun m _ other => slotOf_putSlot_ne other _ (listening d), fun g b binding slot free => ?_, fun g h => ?_⟩
  · have signal := mapBusSignals_on (f := SignalRec.afterFrame n data d.sns.uptime)
      (d := putSlot n (filledSlot n data (listening d)) (listening d)) free
    have evaluated := afterFrame_bound binding slot data d.sns.uptime
    exact (signal.trans evaluated).symm ▸ evaluated_by b data d.sns.uptime (d.vbl.signals.get g)
  · exact mapBusSignals_off (d := putSlot n (filledSlot n data (listening d)) (listening d))
      (h.symm.imp id fun free => afterFrame_unbound free data d.sns.uptime)

/-! ## The timers (R21, R26) -/

theorem freshnessExpiry_eq (n : Nat) (d : Device) :
    freshnessExpiry n d = mapBusSignals (fun r => if boundTo n r then r.goStale else r)
      (putSlot n { slotOf d n with status := .stale, timer := none } d) := rfl

theorem freshnessExpiry_bound {n : Nat} {d : Device} {g : Signal} (h : bound (d.vbl.signals.get g) n) (on : onBus d.vbl g) :
    (freshnessExpiry n d).vbl.signals.get g =
      { d.vbl.signals.get g with status := staleStatus (d.vbl.signals.get g).status } := by
  rw [freshnessExpiry_eq]
  exact (mapBound_in (d := putSlot n _ d) h on).trans (goStale_eq _)

theorem freshnessExpiry_unbound {n : Nat} {d : Device} {g : Signal} (h : ¬bound (d.vbl.signals.get g) n ∨ ¬onBus d.vbl g) :
    (freshnessExpiry n d).vbl.signals.get g = d.vbl.signals.get g :=
  mapBound_out (d := putSlot n _ d) h

theorem freshnessExpiry_status (n : Nat) (d : Device) (g : Signal) :
    (freshnessExpiry n d).vbl.signals.get g =
        { d.vbl.signals.get g with status := ((freshnessExpiry n d).vbl.signals.get g).status } ∧
      Fades (d.vbl.signals.get g) ((freshnessExpiry n d).vbl.signals.get g) := by
  by_cases h : bound (d.vbl.signals.get g) n ∧ onBus d.vbl g
  · rw [freshnessExpiry_bound h.1 h.2, ← goStale_eq]
    exact ⟨by rw [goStale_eq], Fades.of_stale _⟩
  · rw [freshnessExpiry_unbound (not_and_or.1 h)]
    exact ⟨rfl, Fades.refl _⟩

theorem silenceExpiry_eq {d : Device} (h : d.vbl.listener = .listening) :
    silenceExpiry d =
      { d with vbl := { d.vbl with listener := .silent, silence := none }, lnk := (post .busState d).lnk } := by
  rw [silenceExpiry, if_pos h, setListener_eq, listenerPosted, if_neg (h.symm ▸ nofun)]

end Sys2Proof.Machine

namespace Sys2Proof.Proofs

open Sys2Proof Sys2Proof.Machine Sys2Proof.Stated

/-- Settles O15: the frame's slot and signals, then the changes handed on in the model's order. -/
theorem frameUpdatesSlotAndSignals : Obligations.FrameUpdatesSlotAndSignals := by
  intro s format ident dlc data twelve id bytes
  have frame : handing (canFrame format (formatMask format ident.toNat) (data.take (dataLength dlc))) s.dev =
      handSignals s.dev.vbl.signals (canFrame format id bytes s.dev) := by rw [formatMask_eq]; rfl
  refine runs_of_eq (f := handing (canFrame format (formatMask format ident.toNat) (data.take (dataLength dlc)))) rfl frame
    ⟨fun off => ?_, fun on => ?_⟩
  · rw [canFrame_off off, handSignals_same]
  · have touched := canFrame_touches on format id bytes
    have fills (n hn) (takes : accepts s.dev.vbl format id n) (first) := canFrame_fills twelve on hn takes first bytes
    have passes (none' : ∀ n, n < 12 → ¬accepts s.dev.vbl format id n) := canFrame_passed on none' bytes
    generalize canFrame format id bytes s.dev = u at *
    obtain ⟨whole, kept⟩ := touched
    have vbl : (handSignals s.dev.vbl.signals u).vbl = u.vbl := by simp
    have untouched : (handSignals s.dev.vbl.signals u).sns = s.dev.sns ∧ (handSignals s.dev.vbl.signals u).pins = s.dev.pins ∧
        (handSignals s.dev.vbl.signals u).chg = s.dev.chg ∧ (handSignals s.dev.vbl.signals u).rtm = s.dev.rtm := by
      rw [whole]
      simp [listening]
    rw [vbl]
    refine ⟨congrArg (·.listener) kept, congrArg (·.silence) kept, fun n hn takes first => ?_, fun none' => ?_, ?_, kept,
      untouched⟩
    · obtain ⟨filled, others, evaluated, stay⟩ := fills n hn takes first
      exact ⟨(slotOf_of_vbl vbl n).trans filled, fun m hm other => (slotOf_of_vbl vbl m).trans (others m hm other), evaluated,
        stay⟩
    · have same : handSignals s.dev.vbl.signals (listening s.dev) = listening s.dev := handSignals_same (listening s.dev)
      rw [passes none', same]
      exact ⟨rfl, congrArg (fun x => { listening s.dev with lnk := x }) (listenerPosted_lnk .listening s.dev),
        fun listens => if_pos listens.symm⟩
    · intro was now moved comesOn d0 d1 d2 d3
      have posted : u = d1 := whole.trans (listening_posts on u.vbl)
      have engine : engineHanded was u = d2 := (engineHanded_eq was u).trans
        (if_congr Iff.rfl (congrArg (fun x : Device => { x with bgt := { x.bgt with passesDue := x.bgt.passesDue + 1 } }) posted)
          posted)
      have ignition : ignitionHanded was u = d3 := if_congr (turnedOn_iff _ _) (congrArg lightsIgnitionOn engine) engine
      refine ⟨fun still => (if_neg (mt (turnedOn_iff _ _).1 still)).trans ignition, fun low => ?_⟩
      exact (if_pos ((turnedOn_iff _ _).2 low)).trans (congrArg heaterFuelLow ignition)

/-- Settles O16: each timer's expiry, by the slot and signal rules. -/
theorem busTimersExpire : Obligations.BusTimersExpire := by
  refine fun s => ⟨fun at_ running listens => ?_, fun n at_ twelve running => ?_⟩
  · have expires : atTimer s.dev.vbl.silence silenceExpiry s.dev = silenceExpiry (reach at_ s.dev) := by rw [running]; rfl
    refine runs_of_eq (f := fun d => atTimer d.vbl.silence silenceExpiry d) rfl
      (expires.trans (silenceExpiry_eq (d := reach at_ s.dev) listens)) ⟨?_, ?_⟩
    · rw [post_lnk_notices]
      rfl
    · rw [post_lnk_congr (d := s.dev) (t := reach at_ s.dev) .busState rfl]
  · let d := reach at_ s.dev
    have expires : atTimer (slotOf s.dev n).timer (handing (freshnessExpiry n)) s.dev =
        handSignals d.vbl.signals (freshnessExpiry n d) := by rw [running]; rfl
    refine runs_of_eq (f := fun d => atTimer (slotOf d n).timer (handing (freshnessExpiry n)) d) rfl
      (expires.trans (handSignals_fades fun g _ => (freshnessExpiry_status n d g).2)) ?_
    have inside : n.val < d.vbl.slots.length := by simp [d, twelve]
    refine ⟨rfl, slotOf_putSlot inside _, fun m _ other => slotOf_putSlot_ne other _ d,
      fun g => (freshnessExpiry_status n d g).1, fun g h on => ?_, fun g h => freshnessExpiry_unbound h, rfl⟩
    exact congrArg (·.status) (freshnessExpiry_bound (d := d) h on)

end Sys2Proof.Proofs
end

section
/-! PROOFS. The requests that set the listener, its slots and its bindings (R21 to R23, R27, R28, R31 to R33). -/

namespace Sys2Proof.Machine

open Sys2Proof.Stated

/-! ## A slot emptied (R28) -/

/-- R28: a slot without data. -/
def emptied (v : Slot) : Slot := { v with data := [], arrival := 0, status := .empty, timer := none }

theorem emptySlot_eq (n : Nat) (d : Device) :
    emptySlot n d = mapBusSignals (fun r => if boundTo n r then { r with status := .never } else r)
      (putSlot n (emptied (slotOf d n)) d) := rfl

theorem emptySlot_bound {n : Nat} {d : Device} {g : Signal} (h : bound (d.vbl.signals.get g) n) (on : onBus d.vbl g) :
    (emptySlot n d).vbl.signals.get g = { d.vbl.signals.get g with status := .never } :=
  mapBound_in (f := fun r => { r with status := .never }) (d := putSlot n _ d) h on

theorem emptySlot_unbound {n : Nat} {d : Device} {g : Signal} (h : ¬bound (d.vbl.signals.get g) n ∨ ¬onBus d.vbl g) :
    (emptySlot n d).vbl.signals.get g = d.vbl.signals.get g :=
  mapBound_out (d := putSlot n _ d) h

theorem emptySlot_slotOf {n : Nat} {d : Device} (hn : n < d.vbl.slots.length) (m : Nat) :
    slotOf (emptySlot n d) m = if m = n then emptied (slotOf d m) else slotOf d m := by
  split
  · next same =>
    subst same
    exact slotOf_putSlot hn _
  · next other => exact slotOf_putSlot_ne other _ d

/-- R28: slots emptied one after the other. -/
def emptySlots (l : List Nat) (d : Device) : Device := l.foldl (fun acc n => emptySlot n acc) d

theorem emptySlots_only (l : List Nat) (d : Device) : ∃ slots signals, slots.length = d.vbl.slots.length ∧
    emptySlots l d = { d with vbl := { d.vbl with slots := slots, signals := signals } } := by
  induction l generalizing d with
  | nil => exact ⟨_, _, rfl, rfl⟩
  | cons n l ih =>
    obtain ⟨slots, signals, length, only⟩ := ih (emptySlot n d)
    exact ⟨slots, signals, length.trans (List.length_set ..), only⟩

theorem emptySlots_slotOf {l : List Nat} {d : Device} (inside : ∀ n ∈ l, n < d.vbl.slots.length) (m : Nat) :
    slotOf (emptySlots l d) m = if m ∈ l then emptied (slotOf d m) else slotOf d m := by
  induction l generalizing d with
  | nil => simp [emptySlots]
  | cons n l ih =>
    have length : (emptySlot n d).vbl.slots.length = d.vbl.slots.length := List.length_set ..
    refine (ih (d := emptySlot n d) fun k hk => length ▸ inside k (.tail _ hk)).trans ?_
    rw [emptySlot_slotOf (inside n (.head _))]
    by_cases head : m = n <;> by_cases tail : m ∈ l <;> simp [head, tail, emptied]

/-- The signal is bound to a slot of the list. -/
def boundIn (l : List Nat) (r : SignalRec) : Prop := ∃ b, r.binding = some b ∧ b.slot ∈ l

theorem boundIn_cons (n : Nat) (l : List Nat) (r : SignalRec) : boundIn (n :: l) r ↔ bound r n ∨ boundIn l r := by
  simp only [boundIn, bound, List.mem_cons, and_or_left, exists_or]

theorem emptySlots_unbound {l : List Nat} {d : Device} {g : Signal} (h : ¬boundIn l (d.vbl.signals.get g) ∨ ¬onBus d.vbl g) :
    (emptySlots l d).vbl.signals.get g = d.vbl.signals.get g := by
  induction l generalizing d with
  | nil => rfl
  | cons n l ih =>
    have head : (emptySlot n d).vbl.signals.get g = d.vbl.signals.get g :=
      emptySlot_unbound (h.imp_left fun free b => free ((boundIn_cons n l _).2 (.inl b)))
    refine (ih (d := emptySlot n d) ?_).trans head
    rw [head]
    exact h.imp_left fun free b => free ((boundIn_cons n l _).2 (.inr b))

theorem emptySlots_bound {l : List Nat} {d : Device} {g : Signal} (h : boundIn l (d.vbl.signals.get g)) (on : onBus d.vbl g) :
    (emptySlots l d).vbl.signals.get g = { d.vbl.signals.get g with status := .never } := by
  induction l generalizing d with
  | nil =>
    obtain ⟨b, -, listed⟩ := h
    cases listed
  | cons n l ih =>
    by_cases head : bound (d.vbl.signals.get g) n
    · have first := emptySlot_bound head on
      by_cases tail : boundIn l (d.vbl.signals.get g)
      · exact (ih (d := emptySlot n d) (first.symm ▸ tail) on).trans (by rw [first])
      · exact (emptySlots_unbound (d := emptySlot n d) (.inl (first.symm ▸ tail))).trans first
    · have first : (emptySlot n d).vbl.signals.get g = d.vbl.signals.get g := emptySlot_unbound (.inl head)
      have tail := ((boundIn_cons n l _).1 h).resolve_left head
      exact (ih (d := emptySlot n d) (first.symm ▸ tail) on).trans (by rw [first])

/-! ## The listener's settings (R21 to R23, R32) -/

/-- R21: the listener once the enable is set. -/
def enabledTo (on : Bool) (d : Device) : ListenerState :=
  if on = d.vbl.enable then d.vbl.listener else if on = true then .silent else .off

/-- R22: the enable is taken away. -/
def goesOff (on : Bool) (d : Device) : Prop := on = false ∧ d.vbl.enable = true

theorem listenerPosted_enable (st : ListenerState) (on : Bool) (d : Device) :
    listenerPosted st (putVbl { d.vbl with enable := on } d) = listenerPosted st d :=
  if_congr Iff.rfl rfl (post_lnk_congr .busState rfl)

theorem listenerOff_eq (d : Device) :
    listenerOff d = mapBusSignals SignalRec.goStale { d with
      vbl := { d.vbl with listener := .off, silence := none, slots := d.vbl.slots.map Slot.stopped }
      lnk := listenerPosted .off d } := by
  rw [listenerOff, setListener_eq]
  rfl

theorem setEnable_same {on : Bool} {d : Device} (h : on = d.vbl.enable) : setEnable on d = d := if_pos h

theorem setEnable_on {d : Device} (h : d.vbl.enable = false) :
    setEnable true d = { d with
      vbl := { d.vbl with enable := true, listener := .silent, silence := none }, lnk := listenerPosted .silent d } := by
  rw [setEnable, if_neg (by simp [h]), if_pos rfl, setListener_eq, listenerPosted_enable]
  rfl

theorem setEnable_off {d : Device} (h : d.vbl.enable = true) :
    setEnable false d = mapBusSignals SignalRec.goStale { d with
      vbl := { d.vbl with enable := false, listener := .off, silence := none, slots := d.vbl.slots.map Slot.stopped }
      lnk := listenerPosted .off d } := by
  rw [setEnable, if_neg (by simp [h]), if_neg nofun, listenerOff_eq, listenerPosted_enable]
  rfl

/-- R21 to R23: what setting the enable touches. -/
theorem setEnable_only (on : Bool) (d : Device) : ∃ slots signals, slots.length = d.vbl.slots.length ∧
    setEnable on d = { d with
      vbl := { d.vbl with
        enable := on, listener := enabledTo on d, silence := if on = d.vbl.enable then d.vbl.silence else none
        slots := slots, signals := signals }
      lnk := listenerPosted (enabledTo on d) d } := by
  by_cases same : on = d.vbl.enable
  · refine ⟨d.vbl.slots, d.vbl.signals, rfl, ?_⟩
    rw [setEnable_same same, enabledTo, if_pos same, if_pos same, listenerPosted, if_pos rfl, same]
  · rw [enabledTo, if_neg same, if_neg same]
    cases on with
    | true => exact ⟨d.vbl.slots, d.vbl.signals, rfl, setEnable_on (by simpa using Ne.symm same)⟩
    | false =>
      rw [setEnable_off (by simpa using Ne.symm same)]
      exact ⟨d.vbl.slots.map Slot.stopped, _, List.length_map .., rfl⟩

theorem goesOff_enable {on : Bool} {d : Device} (h : ¬goesOff on d) (other : on ≠ d.vbl.enable) :
    on = true ∧ d.vbl.enable = false := by
  cases on with
  | true => exact ⟨rfl, by simpa using other.symm⟩
  | false => exact absurd ⟨rfl, by simpa using other.symm⟩ h

theorem setEnable_stays {on : Bool} {d : Device} (h : ¬goesOff on d) :
    (setEnable on d).vbl.slots = d.vbl.slots ∧ (setEnable on d).vbl.signals = d.vbl.signals := by
  by_cases same : on = d.vbl.enable
  · rw [setEnable_same same]
    exact ⟨rfl, rfl⟩
  · obtain ⟨rfl, off⟩ := goesOff_enable h same
    rw [setEnable_on off]
    exact ⟨rfl, rfl⟩

theorem setEnable_goesOff {on : Bool} {d : Device} (h : goesOff on d) :
    (∀ n, n < d.vbl.slots.length → slotOf (setEnable on d) n = (slotOf d n).stopped) ∧
      (∀ g, onBus d.vbl g → (setEnable on d).vbl.signals.get g = (d.vbl.signals.get g).goStale) ∧
      ∀ g, ¬onBus d.vbl g → (setEnable on d).vbl.signals.get g = d.vbl.signals.get g := by
  obtain ⟨rfl, on⟩ := h
  rw [setEnable_off on]
  refine ⟨fun n hn => ?_, fun g free => mapBusSignals_on free, fun g wired => mapBusSignals_off (.inl wired)⟩
  change (d.vbl.slots.map Slot.stopped).getD n coldSlot = (d.vbl.slots.getD n coldSlot).stopped
  rw [List.getD_eq_getElem _ _ (by simpa using hn), List.getElem_map, List.getD_eq_getElem _ _ hn]

theorem setMask_same {mask : Nat} {d : Device} (h : mask = d.vbl.mask) : setMask mask d = d := if_pos h

theorem setMask_other {mask : Nat} {d : Device} (h : mask ≠ d.vbl.mask) :
    setMask mask d = emptySlots (List.range 10) { d with vbl := { d.vbl with mask := mask } } := if_neg h

/-- R23, R28: what setting the common mask touches. -/
theorem setMask_only (mask : Nat) (d : Device) : ∃ slots signals, slots.length = d.vbl.slots.length ∧
    setMask mask d = { d with vbl := { d.vbl with mask := mask, slots := slots, signals := signals } } := by
  by_cases same : mask = d.vbl.mask
  · refine ⟨d.vbl.slots, d.vbl.signals, rfl, ?_⟩
    rw [setMask_same same, same]
  · obtain ⟨slots, signals, length, only⟩ := emptySlots_only (List.range 10) { d with vbl := { d.vbl with mask := mask } }
    exact ⟨slots, signals, length, (setMask_other same).trans only⟩

theorem setMask_slotOf {mask : Nat} {d : Device} (twelve : d.vbl.slots.length = 12) (n : Nat) :
    (n < 10 ∧ mask ≠ d.vbl.mask → slotOf (setMask mask d) n = emptied (slotOf d n)) ∧
      (10 ≤ n ∨ ¬mask ≠ d.vbl.mask → slotOf (setMask mask d) n = slotOf d n) := by
  by_cases same : mask = d.vbl.mask
  · rw [setMask_same same]
    exact ⟨fun h => absurd same h.2, fun _ => rfl⟩
  · have slot := emptySlots_slotOf (l := List.range 10) (d := { d with vbl := { d.vbl with mask := mask } })
      (fun k hk => by rw [twelve]; exact (List.mem_range.1 hk).trans (by decide)) n
    rw [setMask_other same, slot]
    exact ⟨fun h => if_pos (List.mem_range.2 h.1),
      fun h => if_neg fun low => (Nat.not_le.2 (List.mem_range.1 low)) (h.resolve_right (not_not.2 same))⟩

/-- R23, R28: a changed mask makes the signals bound to slots 0 to 9 NEVER. -/
def maskEmpties (mask : Nat) (d : Device) (r : SignalRec) : Prop := mask ≠ d.vbl.mask ∧ ∃ b, r.binding = some b ∧ b.slot < 10

theorem setMask_get (mask : Nat) (d : Device) (g : Signal) :
    (maskEmpties mask d (d.vbl.signals.get g) → onBus d.vbl g →
      (setMask mask d).vbl.signals.get g = { d.vbl.signals.get g with status := .never }) ∧
    (¬maskEmpties mask d (d.vbl.signals.get g) ∨ ¬onBus d.vbl g → (setMask mask d).vbl.signals.get g = d.vbl.signals.get g) := by
  by_cases same : mask = d.vbl.mask
  · rw [setMask_same same]
    exact ⟨fun h => absurd same h.1, fun _ => rfl⟩
  · have listed : maskEmpties mask d (d.vbl.signals.get g) ↔ boundIn (List.range 10) (d.vbl.signals.get g) := by
      simp [maskEmpties, boundIn, same]
    rw [listed, setMask_other same]
    exact ⟨fun h free => emptySlots_bound (d := { d with vbl := { d.vbl with mask := mask } }) h free,
      fun h => emptySlots_unbound (d := { d with vbl := { d.vbl with mask := mask } }) h⟩

theorem setSource_same {source : BrakeSource} {d : Device} (h : source = d.vbl.source) : setSource source d = d := if_pos h

theorem setSource_wired {d : Device} (h : d.vbl.source = .bus) :
    setSource .wired d = { d with vbl := { d.vbl with
      source := .wired
      signals := { d.vbl.signals with parkingBrake := { d.vbl.signals.parkingBrake with
        value := if deliveredOf d 7 = true then 1 else 0, status := .fresh, lastUpdate := d.sns.uptime, updated := true } } } } := by
  rw [setSource, if_neg (h.symm ▸ nofun)]
  exact wiredBrake_wired (d := { d with vbl := { d.vbl with source := .wired } }) rfl

theorem setSource_bus {d : Device} (h : d.vbl.source = .wired) :
    setSource .bus d = { d with vbl := { d.vbl with
      source := .bus
      signals := { d.vbl.signals with parkingBrake := { d.vbl.signals.parkingBrake with status := .never } } } } := by
  rw [setSource, if_neg (h.symm ▸ nofun)]
  rfl

/-- R23, R32: what setting the brake source touches. -/
theorem setSource_only (source : BrakeSource) (d : Device) : ∃ brake,
    setSource source d = { d with vbl := { d.vbl with
      source := source, signals := { d.vbl.signals with parkingBrake := brake } } } := by
  by_cases same : source = d.vbl.source
  · refine ⟨d.vbl.signals.parkingBrake, ?_⟩
    rw [setSource_same same, same]
  · cases source with
    | wired => exact ⟨_, setSource_wired (by cases h : d.vbl.source <;> simp_all)⟩
    | bus => exact ⟨_, setSource_bus (by cases h : d.vbl.source <;> simp_all)⟩

theorem setSource_get (source : BrakeSource) (d : Device) {g : Signal} (other : g ≠ .parkingBrake) :
    (setSource source d).vbl.signals.get g = d.vbl.signals.get g := by
  obtain ⟨brake, only⟩ := setSource_only source d
  rw [only]
  cases g <;> first | rfl | exact absurd rfl other

end Sys2Proof.Machine
end

section
/-! PROOFS. BUS_CONFIG, BUS_SLOT_SET and BUS_BIND, from their bodies to their replies (R23, R27, R31, R33). -/

namespace Sys2Proof.Machine

open Sys2Proof.Stated

/-! ## Bytes read back (R188) -/

/-- R188: a number below 2^32 is what its four bytes say. -/
theorem le4_read {n : Nat} (h : n < 4294967296) :
    ((BitVec.ofNat 8 n).toNat + 256 * (BitVec.ofNat 8 (n / 256)).toNat) +
      65536 * ((BitVec.ofNat 8 (n / 65536)).toNat + 256 * (BitVec.ofNat 8 (n / 16777216)).toNat) = n := by
  simp only [BitVec.toNat_ofNat]
  omega

theorem byte_read {n : Nat} (h : n < 256) : (BitVec.ofNat 8 n).toNat = n := Nat.mod_eq_of_lt h

/-- R188: a number in two's complement is what its four bytes say. -/
theorem signed4_read {x : Int} (low : -2147483648 ≤ x) (high : x < 2147483648) {n : Nat} (read : n = (x % 4294967296).toNat) :
    (if n < 2147483648 then (n : Int) else (n : Int) - 4294967296) = x := by
  subst read
  split <;> omega

theorem mark_read (on : Bool) : (BitVec.ofNat 8 (if on then 1 else 0)).toNat = if on then 1 else 0 := by cases on <;> rfl

/-! ## BUS_CONFIG (R23) -/

/-- R21 to R23, R28: the enable set, then the common mask. -/
def listenerSet (on : Bool) (mask : Nat) (d : Device) : Device := setMask mask (setEnable on d)

theorem listenerSet_only (on : Bool) (mask : Nat) (d : Device) : ∃ slots signals, slots.length = d.vbl.slots.length ∧
    listenerSet on mask d = { d with
      vbl := { d.vbl with
        enable := on, mask := mask, listener := enabledTo on d
        silence := if on = d.vbl.enable then d.vbl.silence else none, slots := slots, signals := signals }
      lnk := listenerPosted (enabledTo on d) d } := by
  obtain ⟨slots, signals, length, enabled⟩ := setEnable_only on d
  obtain ⟨slots', signals', length', masked⟩ := setMask_only mask (setEnable on d)
  have kept : (setEnable on d).vbl.slots = slots := congrArg (·.vbl.slots) enabled
  refine ⟨slots', signals', length'.trans (kept ▸ length), masked.trans ?_⟩
  rw [enabled]

theorem setEnable_kept (on : Bool) (d : Device) :
    (setEnable on d).vbl.mask = d.vbl.mask ∧ (setEnable on d).vbl.source = d.vbl.source ∧
      (setEnable on d).vbl.slots.length = d.vbl.slots.length := by
  obtain ⟨slots, signals, length, enabled⟩ := setEnable_only on d
  rw [enabled]
  exact ⟨rfl, rfl, length⟩

theorem listenerSet_same {on : Bool} {mask : Nat} {d : Device} (enable : on = d.vbl.enable) (same : mask = d.vbl.mask) :
    listenerSet on mask d = d := by
  rw [listenerSet, setEnable_same enable, setMask_same same]

/-- R22, R28: a slot under a set enable and a set mask. -/
theorem listenerSet_slotOf {d : Device} (twelve : d.vbl.slots.length = 12) (on : Bool) (mask : Nat) {n : Nat} (hn : n < 12) :
    let t := listenerSet on mask d
    (n < 10 ∧ mask ≠ d.vbl.mask → slotOf t n = emptied (slotOf d n)) ∧
      (10 ≤ n ∨ ¬mask ≠ d.vbl.mask → goesOff on d → slotOf t n = (slotOf d n).stopped) ∧
      (10 ≤ n ∨ ¬mask ≠ d.vbl.mask → ¬goesOff on d → slotOf t n = slotOf d n) := by
  obtain ⟨mask', -, length⟩ := setEnable_kept on d
  have still (h : ¬goesOff on d) : slotOf (setEnable on d) n = slotOf d n :=
    congrArg (fun l : List Slot => l.getD n coldSlot) (setEnable_stays h).1
  have stops (h : goesOff on d) : slotOf (setEnable on d) n = (slotOf d n).stopped :=
    (setEnable_goesOff h).1 n (twelve.symm ▸ hn)
  obtain ⟨empties, stays⟩ := setMask_slotOf (mask := mask) (length.trans twelve) n
  rw [mask'] at empties stays
  refine ⟨fun h => (empties h).trans ?_, fun h off => (stays h).trans (stops off), fun h off => (stays h).trans (still off)⟩
  by_cases off : goesOff on d
  · rw [stops off]
    rfl
  · rw [still off]

/-- R22, R28: a signal under a set enable and a set mask. -/
theorem listenerSet_get (on : Bool) (mask : Nat) (d : Device) (g : Signal) :
    let t := listenerSet on mask d
    let r := d.vbl.signals.get g
    (¬onBus d.vbl g → t.vbl.signals.get g = r) ∧
      (onBus d.vbl g → maskEmpties mask d r → t.vbl.signals.get g = { r with status := .never }) ∧
      (onBus d.vbl g → ¬maskEmpties mask d r → goesOff on d → t.vbl.signals.get g = { r with status := staleStatus r.status }) ∧
      (onBus d.vbl g → ¬maskEmpties mask d r → ¬goesOff on d → t.vbl.signals.get g = r) := by
  intro t r
  obtain ⟨mask', source, -⟩ := setEnable_kept on d
  have free : onBus (setEnable on d).vbl g ↔ onBus d.vbl g := by rw [onBus, onBus, source]
  have still (h : ¬goesOff on d) : (setEnable on d).vbl.signals.get g = r := congrArg (·.get g) (setEnable_stays h).2
  have stops (h : goesOff on d) (hg : onBus d.vbl g) :
      (setEnable on d).vbl.signals.get g = { r with status := staleStatus r.status } :=
    ((setEnable_goesOff h).2.1 g hg).trans (goStale_eq r)
  have binding : ((setEnable on d).vbl.signals.get g).binding = r.binding := by
    by_cases off : goesOff on d
    · by_cases hg : onBus d.vbl g
      · rw [stops off hg]
      · rw [(setEnable_goesOff off).2.2 g hg]
    · rw [still off]
  have empties : maskEmpties mask (setEnable on d) ((setEnable on d).vbl.signals.get g) ↔ maskEmpties mask d r := by
    rw [maskEmpties, maskEmpties, mask', binding]
  obtain ⟨emptied', stays⟩ := setMask_get mask (setEnable on d) g
  rw [empties, free] at emptied' stays
  refine ⟨fun wired => (stays (.inr wired)).trans ?_, fun hg h => (emptied' h hg).trans ?_,
    fun hg h off => (stays (.inl h)).trans (stops off hg), fun hg h off => (stays (.inl h)).trans (still off)⟩
  · by_cases off : goesOff on d
    · exact (setEnable_goesOff off).2.2 g wired
    · exact still off
  · by_cases off : goesOff on d
    · rw [stops off hg]
    · rw [still off]

/-- Setting the enable and the mask turns no signal on, and keeps its binding. -/
theorem listenerSet_fades (on : Bool) (mask : Nat) (d : Device) (g : Signal) :
    Fades (d.vbl.signals.get g) ((listenerSet on mask d).vbl.signals.get g) ∧
      ((listenerSet on mask d).vbl.signals.get g).binding = (d.vbl.signals.get g).binding := by
  obtain ⟨wired, never, stale, stays⟩ := listenerSet_get on mask d g
  by_cases hg : onBus d.vbl g
  · by_cases empty : maskEmpties mask d (d.vbl.signals.get g)
    · rw [never hg empty]
      exact ⟨Fades.of_never _, rfl⟩
    · by_cases off : goesOff on d
      · rw [stale hg empty off, ← goStale_eq]
        exact ⟨Fades.of_stale _, by rw [goStale_eq]⟩
      · rw [stays hg empty off]
        exact ⟨Fades.refl _, rfl⟩
  · rw [wired hg]
    exact ⟨Fades.refl _, rfl⟩

/-- R23: what a good BUS_CONFIG does. -/
def busConfigured (on : Bool) (rate : Nat) (source : BrakeSource) (mask : Nat) (d : Device) : Device :=
  setSource source (listenerSet on mask (putVbl { d.vbl with bitRate := rate } d))

section
variable (on : Bool) (rate : Nat) (source : BrakeSource) (mask : Nat) (d : Device)

theorem busConfigured_only : ∃ slots signals, slots.length = d.vbl.slots.length ∧
    busConfigured on rate source mask d = { d with
      vbl := { d.vbl with
        enable := on, bitRate := rate, source := source, mask := mask, listener := enabledTo on d
        silence := if on = d.vbl.enable then d.vbl.silence else none, slots := slots, signals := signals }
      lnk := listenerPosted (enabledTo on d) d } := by
  let a := putVbl { d.vbl with bitRate := rate } d
  have posted : listenerPosted (enabledTo on a) a = listenerPosted (enabledTo on d) d :=
    if_congr Iff.rfl rfl (post_lnk_congr .busState rfl)
  obtain ⟨slots, signals, length, set_⟩ := listenerSet_only on mask a
  obtain ⟨brake, sourced⟩ := setSource_only source (listenerSet on mask a)
  refine ⟨slots, { signals with parkingBrake := brake }, length, sourced.trans ?_⟩
  rw [set_, posted]
  rfl

theorem busConfigured_slots :
    (busConfigured on rate source mask d).vbl.slots = (listenerSet on mask (putVbl { d.vbl with bitRate := rate } d)).vbl.slots := by
  obtain ⟨brake, sourced⟩ := setSource_only source (listenerSet on mask (putVbl { d.vbl with bitRate := rate } d))
  exact congrArg (·.vbl.slots) sourced

/-- R32: BUS_CONFIG leaves every signal but a PARKING_BRAKE whose source it changes to the listener. -/
theorem busConfigured_get {g : Signal} (h : g ≠ .parkingBrake ∨ source = d.vbl.source) :
    (busConfigured on rate source mask d).vbl.signals.get g =
      (listenerSet on mask (putVbl { d.vbl with bitRate := rate } d)).vbl.signals.get g := by
  rcases h with other | same
  · exact setSource_get source _ other
  · obtain ⟨slots, signals, -, set_⟩ := listenerSet_only on mask (putVbl { d.vbl with bitRate := rate } d)
    have kept : source = (listenerSet on mask (putVbl { d.vbl with bitRate := rate } d)).vbl.source := by rw [set_]; exact same
    rw [busConfigured, setSource_same kept]

/-- R32: the parking brake when its source becomes WIRED (its last update time: log 32). -/
theorem busConfigured_wired (bus : d.vbl.source = .bus) :
    let r' := (busConfigured on rate .wired mask d).vbl.signals.get .parkingBrake
    r'.binding = (d.vbl.signals.get .parkingBrake).binding ∧ r'.status = .fresh ∧
      r'.value = if deliveredOf d 7 = true then 1 else 0 := by
  obtain ⟨slots, signals, -, set_⟩ := listenerSet_only on mask (putVbl { d.vbl with bitRate := rate } d)
  have binding := (listenerSet_fades on mask (putVbl { d.vbl with bitRate := rate } d) .parkingBrake).2
  have kept : (listenerSet on mask (putVbl { d.vbl with bitRate := rate } d)).vbl.source = .bus := by rw [set_]; exact bus
  have lines : deliveredOf (listenerSet on mask (putVbl { d.vbl with bitRate := rate } d)) 7 = deliveredOf d 7 := by rw [set_]; rfl
  rw [busConfigured, setSource_wired kept, lines]
  exact ⟨binding, rfl, rfl⟩

/-- R32: the parking brake when its source becomes BUS. -/
theorem busConfigured_bus (wired : d.vbl.source = .wired) :
    (busConfigured on rate .bus mask d).vbl.signals.get .parkingBrake =
      { d.vbl.signals.get .parkingBrake with status := .never } := by
  let a := putVbl { d.vbl with bitRate := rate } d
  obtain ⟨slots, signals, -, set_⟩ := listenerSet_only on mask a
  have kept : (listenerSet on mask a).vbl.source = .wired := by rw [set_]; exact wired
  have left : (listenerSet on mask a).vbl.signals.get .parkingBrake = a.vbl.signals.get .parkingBrake :=
    (listenerSet_get on mask a .parkingBrake).1 (by simp [onBus, a, wired])
  rw [busConfigured, setSource_bus kept]
  exact congrArg (fun r : SignalRec => { r with status := .never }) left

end

end Sys2Proof.Machine
end

section
/-! PROOFS. BUS_CONFIG, BUS_SLOT_SET and BUS_BIND, from their bodies to their replies (R23, R27, R31, R33). -/

namespace Sys2Proof.Machine

open Sys2Proof.Stated

/-! ## The bodies (R23, R27, R31) -/

theorem busConfigRequest_taken (on : Bool) {rate : Nat} (source : BrakeSource) {mask : Nat} (hr : rate = 250 ∨ rate = 500)
    (hm : mask < 536870912) (d : Device) :
    busConfigRequest (mark8 on ++ u16 rate ++ u8 source.code ++ u32 mask) d =
      taken (handing (busConfigured on rate source mask) d) [] := by
  let body := mark8 on ++ u16 rate ++ u8 source.code ++ u32 mask
  have enable : byteAt body 0 = if on then 1 else 0 := mark_read on
  have rate' : wordAt body 1 = rate := le2_read (by omega)
  have source' : byteAt body 3 = source.code := byte_read (by cases source <;> decide)
  have mask' : longAt body 4 = mask := le4_read (by omega)
  have on' : decide (byteAt body 0 = 1) = on := by rw [enable]; cases on <;> rfl
  have from' : (if byteAt body 3 = 0 then BrakeSource.bus else .wired) = source := by rw [source']; cases source <;> rfl
  have good : ¬(1 < byteAt body 0 ∨ (wordAt body 1 ≠ 250 ∧ wordAt body 1 ≠ 500) ∨ 1 < byteAt body 3 ∨ 536870911 < longAt body 4) := by
    have : byteAt body 0 ≤ 1 := by rw [enable]; split <;> decide
    have : source.code ≤ 1 := by cases source <;> decide
    omega
  refine (if_neg (not_not.2 rfl)).trans ((if_neg good).trans ?_)
  rw [on', from', rate', mask']
  rfl

theorem busConfigRequest_refused {body : List Byte} (length : body.length = 8) (bad : badBusConfig body) (d : Device) :
    busConfigRequest body d = refuse .badValue d := by
  refine (if_neg (not_not.2 length)).trans (if_pos ?_)
  obtain enable | rate | source | mask := bad
  · exact .inl enable
  · exact .inr (.inl rate)
  · exact .inr (.inr (.inl source))
  · exact .inr (.inr (.inr mask))

/-- R27: what a good BUS_SLOT_SET does. -/
def slotSet (n : Nat) (on : Bool) (format : FrameFormat) (ident own limit : Nat) (d : Device) : Device :=
  emptySlot n (putSlot n { slotOf d n with
    enabled := on, format := format, ident := ident, ownMask := if 10 ≤ n then own else (slotOf d n).ownMask, limit := limit } d)

theorem slotSet_slotOf {n : Nat} {d : Device} (hn : n < d.vbl.slots.length) (on : Bool) (format : FrameFormat)
    (ident own limit : Nat) :
    slotOf (slotSet n on format ident own limit d) n =
        { enabled := on, format := format, ident := ident, ownMask := if 10 ≤ n then own else (slotOf d n).ownMask,
          limit := limit, data := [], arrival := 0, status := .empty, timer := none } ∧
      ∀ m, m ≠ n → slotOf (slotSet n on format ident own limit d) m = slotOf d m := by
  have inside (v : Slot) : n < (putSlot n v d).vbl.slots.length := by simpa using hn
  refine ⟨?_, fun m other => ?_⟩
  · rw [slotSet, emptySlot_slotOf (inside _), if_pos rfl, slotOf_putSlot hn]
    rfl
  · rw [slotSet, emptySlot_slotOf (inside _), if_neg other, slotOf_putSlot_ne other]

theorem formatTop_lt (f : FrameFormat) (x : Nat) : formatTop f < x ↔ 2 ^ identWidth f ≤ x := by cases f <;> exact Iff.rfl

theorem busSlotSetRequest_taken {n : Nat} (on : Bool) {format : FrameFormat} {ident own limit : Nat} (hn : n < 12)
    (hi : ident < 2 ^ identWidth format) (ho : 10 ≤ n → own < 2 ^ identWidth format) (ho' : own < 4294967296) (low : 50 ≤ limit)
    (high : limit ≤ 10000) (d : Device) :
    busSlotSetRequest (u8 n ++ mark8 on ++ u8 (FrameFormat.code format) ++ u32 ident ++ u32 own ++ u16 limit) d =
      taken (handing (slotSet n on format ident own limit) d) [] := by
  let body := u8 n ++ mark8 on ++ u8 (FrameFormat.code format) ++ u32 ident ++ u32 own ++ u16 limit
  have narrow : 2 ^ identWidth format ≤ 536870912 := by cases format <;> decide
  have slot : byteAt body 0 = n := byte_read (by omega)
  have flag : freeFlag (byteAt body 1) = on := by cases on <;> rfl
  have code : byteAt body 2 = FrameFormat.code format := byte_read (by cases format <;> decide)
  have format' : (if byteAt body 2 = 0 then FrameFormat.standard else .extended) = format := by rw [code]; cases format <;> rfl
  have ident' : longAt body 3 = ident := le4_read (by omega)
  have own' : longAt body 7 = own := le4_read ho'
  have limit' : wordAt body 11 = limit := le2_read (by omega)
  have small : FrameFormat.code format ≤ 1 := by cases format <;> decide
  have inside : ¬(11 < n ∨ 1 < FrameFormat.code format) := by omega
  have ranges : (!within 50 10000 limit) = false := by simp [within, low, high]
  have fits : ¬formatTop format < ident := by rw [formatTop_lt]; omega
  have owned : ¬(10 ≤ n ∧ formatTop format < own) := by rw [formatTop_lt]; omega
  refine (if_neg (not_not.2 rfl)).trans ?_
  dsimp only
  rw [slot, flag, format', code, ident', own', limit', if_neg inside, if_neg fits, ranges, if_neg nofun, if_neg owned]
  rfl

theorem busSlotSetRequest_refused {body : List Byte} (length : body.length = 13) (bad : badSlot body) (d : Device) :
    busSlotSetRequest body d = refuse .badValue d := by
  have top (x : Nat) : formatTop (if byteAt body 2 = 0 then .standard else .extended) < x ↔
      (if byteAt body 2 = 0 then 2 ^ 11 else 2 ^ 29) ≤ x := by
    rw [formatTop_lt]
    split <;> rfl
  have range : (!within 50 10000 (wordAt body 11)) = true ↔ ¬liesIn 50 10000 (wordAt body 11) := by
    rw [Bool.not_eq_true', ← Bool.not_eq_true, within, Bool.and_eq_true, decide_eq_true_eq, decide_eq_true_eq, liesIn]
  refine (if_neg (not_not.2 length)).trans ?_
  by_cases head : 11 < byteAt body 0 ∨ 1 < byteAt body 2
  · exact if_pos head
  refine (if_neg head).trans ?_
  obtain slot | format | ident | limit | own := bad
  · exact absurd (.inl slot) head
  · exact absurd (.inr format) head
  · exact if_pos ((top _).2 ident)
  · exact (ite_eq_left_iff.2 fun _ => if_pos (range.2 limit))
  · exact ite_eq_left_iff.2 fun _ => ite_eq_left_iff.2 fun _ => if_pos ⟨own.1, (top _).2 own.2⟩

/-- R31: the check of a binding in the words of the statements. -/
theorem binding_good_iff (body : List Byte) :
    (bindingInRange body = true ∧ bindingFits (bindingOf body) = true) ↔ byteAt body 5 ≤ 1 ∧ bindable (bindingOf body) := by
  have fits : bindingFits (bindingOf body) = true ↔
      ((bindingOf body).order = .firstLsb → (bindingOf body).start + (bindingOf body).length ≤ 64) ∧
      ((bindingOf body).order = .firstMsb →
        (7 - (bindingOf body).start / 8) * 8 + (bindingOf body).start % 8 + (bindingOf body).length ≤ 64) := by
    unfold bindingFits
    split <;> next order => simp [order]
  rw [fits]
  simp only [bindingInRange, bindable, within, withinInt, Bool.and_eq_true, decide_eq_true_eq]
  constructor
  · rintro ⟨⟨⟨⟨⟨⟨⟨⟨⟨⟨slot, start⟩, one, sixteen⟩, order⟩, num⟩, den⟩, offset⟩, vmin⟩, vmax⟩, between⟩, lsb, msb⟩
    exact ⟨order, slot, start, one, sixteen, num.1, num.2, den.1, den.2, offset.1, offset.2, vmin.1, between, vmax.2, lsb, msb⟩
  · rintro ⟨order, slot, start, one, sixteen, num, num', den, den', offset, offset', vmin, between, vmax, lsb, msb⟩
    exact ⟨⟨⟨⟨⟨⟨⟨⟨⟨⟨slot, start⟩, one, sixteen⟩, order⟩, num, num'⟩, den, den'⟩, offset, offset'⟩, vmin, between.trans vmax⟩,
      vmin.trans between, vmax⟩, between⟩, lsb, msb⟩

theorem sign_read {x : Int} (low : -1000000 ≤ x) (high : x ≤ 1000000) {body : List Byte} {i : Nat}
    (read : longAt body i = (x % 4294967296).toNat) : sLongAt body i = x :=
  signed4_read (by omega) (by omega) read

/-- R31: a binding that a body carries is read back. -/
theorem bindingOf_bytes {b : Binding} (good : bindable b) (code : Nat) :
    let body := u8 code ++ 0x01 :: bindingBytes b
    bindingOf body = b ∧ byteAt body 5 ≤ 1 := by
  obtain ⟨slot, start, one, sixteen, num, num', den, den', offset, offset', vmin, between, vmax, -⟩ := good
  intro body
  have slot' : byteAt body 2 = b.slot := byte_read (by omega)
  have start' : byteAt body 3 = b.start := byte_read (by omega)
  have length' : byteAt body 4 = b.length := byte_read (by omega)
  have order : byteAt body 5 = if b.order = .firstLsb then 0 else 1 := byte_read (by split <;> decide)
  have order' : (if byteAt body 5 = 0 then ByteOrder.firstLsb else .firstMsb) = b.order := by
    rw [order]
    cases b.order <;> rfl
  have num'' : wordAt body 6 = b.num := le2_read (by omega)
  have den'' : wordAt body 8 = b.den := le2_read (by omega)
  have offset'' : sLongAt body 10 = b.offset := sign_read offset offset' (le4_read (by omega))
  have vmin' : sLongAt body 14 = b.vmin := sign_read vmin (by omega) (le4_read (by omega))
  have vmax' : sLongAt body 18 = b.vmax := sign_read (by omega) vmax (le4_read (by omega))
  refine ⟨?_, by rw [order]; split <;> decide⟩
  rw [bindingOf, slot', start', length', order', num'', den'', offset'', vmin', vmax']

theorem signalOfCode (g : Signal) : allSignals[(BitVec.ofNat 8 g.code).toNat]? = some g := by cases g <;> rfl

theorem busBindRequest_set (g : Signal) {b : Binding} (good : bindable b) (d : Device) :
    busBindRequest (u8 g.code ++ 0x01 :: bindingBytes b) d = taken (handing (bindSignal g (some b)) d) [] := by
  obtain ⟨read, order⟩ := bindingOf_bytes good g.code
  obtain ⟨range, fits⟩ := (binding_good_iff _).2 ⟨order, read.symm ▸ good⟩
  have signal : allSignals[byteAt (u8 g.code ++ 0x01 :: bindingBytes b) 0]? = some g := signalOfCode g
  have length : (u8 g.code ++ 0x01 :: bindingBytes b).length = 22 := rfl
  unfold busBindRequest
  rw [if_neg (not_not.2 length), signal]
  refine (if_neg (by decide : ¬1 < (0x01 : Byte).toNat)).trans ((if_neg (by decide : ¬(0x01 : Byte).toNat = 0)).trans ?_)
  refine (if_neg (by rw [range]; decide)).trans ((if_neg (by rw [fits]; decide)).trans ?_)
  exact congrArg (fun x => taken (handing (bindSignal g (some x)) d) []) read

theorem busBindRequest_clear (g : Signal) {rest : List Byte} (length : rest.length = 20) (d : Device) :
    busBindRequest (u8 g.code ++ 0x00 :: rest) d = taken (handing (bindSignal g none) d) [] := by
  have signal : allSignals[byteAt (u8 g.code ++ 0x00 :: rest) 0]? = some g := signalOfCode g
  unfold busBindRequest
  rw [if_neg (by simp [u8, length]), signal]
  exact (if_neg (by decide : ¬1 < (0x00 : Byte).toNat)).trans (if_pos rfl)

theorem busBindRequest_refused {body : List Byte} (length : body.length = 22) (bad : badBinding body) (d : Device) :
    busBindRequest body d = refuse .badValue d := by
  unfold busBindRequest
  rw [if_neg (not_not.2 length)]
  cases signal : allSignals[byteAt body 0]? with
  | none => rfl
  | some g =>
    have known : byteAt body 0 ≤ 5 := Nat.le_of_lt_succ (List.getElem?_eq_some_iff.1 signal).1
    refine ite_eq_left_iff.2 fun small => ?_
    obtain unknown | code | ⟨set_, wrong⟩ := bad
    · exact absurd known (Nat.not_le.2 unknown)
    · exact absurd code small
    · have one : byteAt body 1 = 1 := set_
      refine (if_neg (by rw [one]; decide)).trans ?_
      by_cases range : bindingInRange body = true
      · refine (if_neg (by simpa using range)).trans (if_pos ?_)
        rw [Bool.not_eq_true', ← Bool.not_eq_true]
        intro fits
        obtain ⟨order, good⟩ := (binding_good_iff body).1 ⟨range, fits⟩
        exact wrong.elim (Nat.not_lt.2 order) (not_not.2 good)
      · exact if_pos (by simpa using range)

/-! ## Setting requests answered (R33, R186) -/

/-- R33, R186: a request by which the listener is set is answered OK, and a changed ENGINE_RUNNING triggers one pass. -/
theorem serve_sets {d u : Device} (free : noneInHand d) {kind tag : Byte} {body : List Byte}
    (heard_ : u = { d with lnk := heard d { kind := kind, tag := tag, body := body } })
    {owner : List Byte → Device → Answered} {f : Device → Device} (ha : owner body u = taken (handing f u) [])
    (only : f u = { u with vbl := (f u).vbl, lnk := { u.lnk with notices := (f u).lnk.notices } })
    (fades : ∀ g, g ≠ .parkingBrake → Fades (u.vbl.signals.get g) ((f u).vbl.signals.get g)) :
    let t := serve kind tag body owner d
    Replied d t kind tag body 0x00 [] ∧ t.lnk.notices = (f u).lnk.notices ∧ t.vbl = (f u).vbl ∧
      t = { d with
        vbl := t.vbl
        bgt := { d.bgt with passesDue := d.bgt.passesDue +
          (if (t.vbl.signals.get .engineRunning).status ≠ (d.vbl.signals.get .engineRunning).status then 1 else 0) }
        lnk := t.lnk } := by
  intro t
  subst heard_
  have handed : handing f { d with lnk := heard d { kind := kind, tag := tag, body := body } } = _ := handSignals_fades fades
  rw [handed] at ha
  generalize f { d with lnk := heard d { kind := kind, tag := tag, body := body } } = w at *
  rw [only] at ha
  obtain ⟨replied, same, posted⟩ := serve_taken free (kind := kind) (tag := tag) ha rfl rfl
  have vbl : t.vbl = w.vbl := congrArg (·.vbl) same
  refine ⟨replied, posted, vbl, ?_⟩
  rw [vbl]
  exact same

/-! ## Each request's own signals (R23, R28, R31, R32) -/

theorem busConfigured_fades (on : Bool) (rate : Nat) (source : BrakeSource) (mask : Nat) (d : Device) {g : Signal}
    (other : g ≠ .parkingBrake) : Fades (d.vbl.signals.get g) ((busConfigured on rate source mask d).vbl.signals.get g) := by
  rw [busConfigured_get on rate source mask d (.inl other)]
  exact (listenerSet_fades on mask (putVbl { d.vbl with bitRate := rate } d) g).1

theorem emptySlot_fades (n : Nat) (d : Device) (g : Signal) :
    Fades (d.vbl.signals.get g) ((emptySlot n d).vbl.signals.get g) := by
  by_cases h : bound (d.vbl.signals.get g) n ∧ onBus d.vbl g
  · rw [emptySlot_bound h.1 h.2]
    exact Fades.of_never _
  · rw [emptySlot_unbound (not_and_or.1 h)]
    exact Fades.refl _

theorem bindSignal_get (g : Signal) (binding : Option Binding) (d : Device) (k : Signal) :
    (bindSignal g binding d).vbl.signals.get k =
      if k = g then { d.vbl.signals.get g with
        binding := binding, status := if fromBus d g then .never else (d.vbl.signals.get g).status }
      else d.vbl.signals.get k :=
  signals_get_put ..

/-- R31: a bound signal becomes NEVER, but for a wired PARKING_BRAKE. -/
theorem bindStatus_eq (g : Signal) (d : Device) (st : SignalStatus) :
    (if fromBus d g then .never else st) = if g = .parkingBrake ∧ d.vbl.source = .wired then st else .never := by
  by_cases brake : g = .parkingBrake <;> by_cases wired : d.vbl.source = .wired <;> simp [fromBus, brake, wired]

theorem bindSignal_fades (g : Signal) (binding : Option Binding) (d : Device) (k : Signal) :
    Fades (d.vbl.signals.get k) ((bindSignal g binding d).vbl.signals.get k) := by
  rw [bindSignal_get]
  split
  · next same =>
    subst same
    refine ⟨rfl, ?_⟩
    by_cases free : fromBus d k = true
    · exact .inr (by simp [free])
    · exact .inl (by simp [free])
  · exact Fades.refl _

end Sys2Proof.Machine

namespace Sys2Proof.Proofs

open Sys2Proof Sys2Proof.Machine Sys2Proof.Stated

/-- Settles O17: each request by what its owner makes of the listener. -/
theorem busRequestsSetListener : Obligations.BusRequestsSetListener := by
  intro s tag free twelve
  refine ⟨fun on rate source mask hr hm => ?_, fun n on format ident own limit hn hi ho ho' low high => ?_,
    fun g binding rest good length => ?_, fun body => ⟨fun length bad => ?_, fun length bad => ?_, fun length bad => ?_⟩⟩
  · intro body
    let u : Device := { s.dev with lnk := heard s.dev { kind := 0x10, tag := tag, body := body } }
    obtain ⟨slots, signals, length, only⟩ := busConfigured_only on rate source mask u
    have link : (busConfigured on rate source mask u).lnk = { u.lnk with
        notices := (busConfigured on rate source mask u).lnk.notices } := by
      rw [only]
      exact listenerPosted_lnk (enabledTo on u) u
    obtain ⟨replied, notices, vbl, same⟩ := serve_sets (u := u) free rfl (busConfigRequest_taken on source hr hm u)
      (by rw [← link, only]) fun g other => busConfigured_fades on rate source mask u other
    refine runs_of_eq (f := serve 0x10 tag body busConfigRequest) rfl rfl ?_
    generalize serve 0x10 tag body busConfigRequest s.dev = t at *
    let a := putVbl { u.vbl with bitRate := rate } u
    have slots' : t.vbl.slots = (listenerSet on mask a).vbl.slots :=
      (congrArg (·.slots) vbl).trans (busConfigured_slots on rate source mask u)
    have signal {g : Signal} (h : g ≠ .parkingBrake ∨ source = u.vbl.source) :
        t.vbl.signals.get g = (listenerSet on mask a).vbl.signals.get g :=
      (congrArg (fun v : Vehicle => v.signals.get g) vbl).trans (busConfigured_get on rate source mask u h)
    have brake : t.vbl.signals.get .parkingBrake = (busConfigured on rate source mask u).vbl.signals.get .parkingBrake :=
      congrArg (fun v : Vehicle => v.signals.get .parkingBrake) vbl
    refine ⟨replied, ?_, ?_, ?_, fun enable same' => ?_, ⟨fun n hn => ?_, fun g free' => ?_⟩,
      ⟨fun wired bus => ?_, fun wired wired' => ?_, fun bus wired => ?_⟩, same⟩
    · rw [vbl, only]
      rfl
    · rw [notices, vbl, only]
      exact listenerPosted_notices (enabledTo on u) rfl rfl rfl
    · rw [vbl, only]
      exact length.trans twelve
    · rw [slots', listenerSet_same (d := a) enable same']
      rfl
    · rw [slotOf, slots']
      exact listenerSet_slotOf (d := a) twelve on mask hn
    · have onBus' : onBus a.vbl g := free'.imp_right (·.2)
      rw [signal (free'.imp_right fun ⟨bus, bus'⟩ => bus.trans bus'.symm)]
      obtain ⟨-, never, stale, stays⟩ := listenerSet_get on mask a g
      exact ⟨never onBus', stale onBus', stays onBus'⟩
    · rw [brake, wired]
      exact busConfigured_wired on rate mask u bus
    · rw [signal (.inr (wired.trans wired'.symm))]
      exact (listenerSet_get on mask a .parkingBrake).1 (by simp [onBus, a, u, wired'])
    · rw [brake, bus]
      exact busConfigured_bus on rate mask u wired
  · intro body
    let u : Device := { s.dev with lnk := heard s.dev { kind := 0x11, tag := tag, body := body } }
    obtain ⟨replied, notices, vbl, same⟩ := serve_sets (u := u) free rfl
      (busSlotSetRequest_taken on hn hi ho ho' low high u) rfl fun g _ => emptySlot_fades n (putSlot n _ u) g
    refine runs_of_eq (f := serve 0x11 tag body busSlotSetRequest) rfl rfl ?_
    generalize serve 0x11 tag body busSlotSetRequest s.dev = t at *
    have inside : n < u.vbl.slots.length := twelve.symm ▸ hn
    obtain ⟨set_, others⟩ := slotSet_slotOf inside on format ident own limit
    refine ⟨⟨replied, notices⟩, (slotOf_of_vbl vbl n).trans set_, fun m _ other => (slotOf_of_vbl vbl m).trans (others m other),
      fun g h on => ?_, fun g h => ?_, ?_⟩
    · rw [vbl]
      exact emptySlot_bound (d := putSlot n _ u) h on
    · rw [vbl]
      exact emptySlot_unbound (d := putSlot n _ u) h
    · have kept : t.vbl = { s.dev.vbl with slots := t.vbl.slots, signals := t.vbl.signals } := by rw [vbl]; rfl
      rw [← kept]
      exact same
  · intro body
    let u : Device := { s.dev with lnk := heard s.dev { kind := 0x12, tag := tag, body := body } }
    have asked : busBindRequest body u = taken (handing (bindSignal g binding) u) [] := by
      cases binding with
      | some b => exact busBindRequest_set g (good b rfl) u
      | none => exact busBindRequest_clear g length u
    obtain ⟨replied, notices, vbl, same⟩ := serve_sets (u := u) free rfl asked rfl fun k _ => bindSignal_fades g binding u k
    refine runs_of_eq (f := serve 0x12 tag body busBindRequest) rfl rfl ?_
    generalize serve 0x12 tag body busBindRequest s.dev = t at *
    have signal (k : Signal) := (congrArg (fun v : Vehicle => v.signals.get k) vbl).trans (bindSignal_get g binding u k)
    have kept : t.vbl = { s.dev.vbl with signals := t.vbl.signals } := by rw [vbl]; rfl
    have passes : (t.vbl.signals.get .engineRunning).status ≠ (s.dev.vbl.signals.get .engineRunning).status ↔
        g = .engineRunning ∧ (s.dev.vbl.signals.get g).status ≠ .never := by
      rw [signal .engineRunning]
      by_cases engine : g = .engineRunning
      · subst engine
        simp [fromBus, u, ne_comm]
      · simp [engine, u, Ne.symm engine]
    refine ⟨⟨replied, notices⟩, (signal g).trans ((if_pos rfl).trans ?_), fun k other => (signal k).trans (if_neg other), ?_⟩
    · rw [bindStatus_eq]
    · rw [← kept, ← if_congr passes rfl rfl]
      exact same
  · exact runs_of_eq (f := serve 0x10 tag body busConfigRequest) rfl rfl
      (serve_refused free (busConfigRequest_refused length bad _) rfl)
  · exact runs_of_eq (f := serve 0x11 tag body busSlotSetRequest) rfl rfl
      (serve_refused free (busSlotSetRequest_refused length bad _) rfl)
  · exact runs_of_eq (f := serve 0x12 tag body busBindRequest) rfl rfl
      (serve_refused free (busBindRequest_refused length bad _) rfl)

end Sys2Proof.Proofs
end

section
/-! PROOFS. Input events and IGNITION at the lights, the rest monitor and the parking brake (R32, R137 to R140, R149). -/

namespace Sys2Proof.Machine

open Sys2Proof.Stated

/-! ## Caps and requested steps (R131, R132) -/

theorem capOf_eq_capAt (step : Nat) (essential : Bool) : capOf step essential = capAt step essential := by
  cases essential with
  | true => cases step <;> rfl
  | false => match step with
    | 0 | 1 | 2 | _ + 3 => rfl

/-- R132: the steps whose cap admits a level are those from its requested step on. -/
theorem neededStep_le_iff (essential : Bool) {target : Nat} (bounded : target ≤ 1000) (m : Nat) :
    neededStep essential target ≤ m ↔ target ≤ capAt m essential := by
  rw [← capOf_eq_capAt, neededStep]
  cases essential with
  | true => match m with
    | 0 | _ + 1 => simp only [capOf]; split_ifs <;> omega
  | false => match m with
    | 0 | 1 | 2 | _ + 3 => simp only [capOf]; split_ifs <;> omega

theorem foldl_max_le_iff (l : List Nat) (start m : Nat) : l.foldl max start ≤ m ↔ start ≤ m ∧ ∀ x ∈ l, x ≤ m := by
  induction l generalizing start with
  | nil => simp
  | cons x l ih => rw [List.foldl_cons, ih, Nat.max_le, and_assoc, List.forall_mem_cons]

theorem lightsNeeded_le_iff {d : Device} (bounded : ∀ c ∈ d.lgt.channels, c.target ≤ 1000) (m : Nat) :
    lightsNeeded d ≤ m ↔ ∀ p ∈ d.lgt.channels.zip d.lgt.chSettings, p.1.target ≤ capAt m p.2.essential := by
  rw [lightsNeeded, foldl_max_le_iff, and_iff_right (Nat.zero_le m), ← List.map_uncurry_zip_eq_zipWith, List.forall_mem_map]
  exact forall₂_congr fun p hp => neededStep_le_iff p.2.essential (bounded p.1 (List.of_mem_zip hp).1) m

theorem neededStep_le (essential : Bool) (target : Nat) : neededStep essential target ≤ 3 := by
  unfold neededStep
  split_ifs <;> decide

/-- R132: the requested step worked out is the one the statements speak of. -/
theorem stepNeeded_lightsNeeded {d : Device} (bounded : ∀ c ∈ d.lgt.channels, c.target ≤ 1000) :
    stepNeeded d.lgt.channels d.lgt.chSettings (lightsNeeded d) := by
  have admits := lightsNeeded_le_iff bounded
  refine ⟨(admits 3).2 fun p hp => ?_, (admits _).1 le_rfl, fun m lower ok => absurd ((admits m).2 ok) (Nat.not_le.2 lower)⟩
  exact (neededStep_le_iff p.2.essential (bounded p.1 (List.of_mem_zip hp).1) 3).1 (neededStep_le ..)

/-! ## Channels under new caps (R131) -/

theorem recapped_eq_recappedTo (c : LightChannel) (old new ms : Nat) : c.recapped old new ms = recappedTo old new ms c := by
  unfold LightChannel.recapped recappedTo
  rw [present_eq_levelAt]
  split
  · by_cases same : old = c.target
    · by_cases dark : c.target = 0 <;> simp [same, dark, LightChannel.ended]
    · have other : ¬(c.target = 0 ∧ old = 0) := fun ⟨target, zero⟩ => same (zero.trans target.symm)
      simp [same, other, Ne.symm same]
  · rfl

theorem recappedTo_target (old new ms : Nat) (c : LightChannel) : (recappedTo old new ms c).target = c.target := by
  unfold recappedTo
  split <;> rfl

/-- Two lists of seven joined, channel by channel. -/
theorem zipWith_seven {α β γ : Type} (f : α → β → γ) {l : List α} {l' : List β} (seven : l.length = 7) (seven' : l'.length = 7)
    (a : α) (b : β) : List.zipWith f l l' = (List.range 7).map fun k => f (l.getD k a) (l'.getD k b) := by
  refine List.ext_getElem (by simp [seven, seven']) fun k hk _ => ?_
  obtain ⟨hl, hl'⟩ : k < l.length ∧ k < l'.length := by simpa using hk
  rw [List.getElem_zipWith, List.getElem_map, List.getElem_range, List.getD_eq_getElem _ _ hl, List.getD_eq_getElem _ _ hl']

theorem essential_getD (d : Device) (k : Nat) : (d.lgt.chSettings.map (·.essential)).getD k false = (settingOf d k).essential :=
  List.getD_map _ { group := .none, essential := false } ChannelSetting.essential

theorem group_getD (d : Device) (k : Nat) : (d.lgt.chSettings.map (·.group)).getD k .none = (settingOf d k).group :=
  List.getD_map _ { group := .none, essential := false } ChannelSetting.group

/-- R131: the seven channels as the cap step of `d` gives way to another. -/
def recappedAll (d : Device) (step : Nat) : List LightChannel :=
  let cap := fun (n k : Nat) => capAt n ((d.lgt.chSettings.map (·.essential)).getD k false)
  (List.range 7).map fun k => recappedTo (cap d.lgt.capStep k) (cap step k) d.sns.ms (d.lgt.channels.getD k darkChannel)

theorem recappedAll_targets {d : Device} (seven : d.lgt.channels.length = 7) (step : Nat) :
    (recappedAll d step).map (·.target) = d.lgt.channels.map (·.target) := by
  refine List.ext_getElem (by simp [recappedAll, seven]) fun k _ hk => ?_
  have inside : k < d.lgt.channels.length := by simpa using hk
  simp only [recappedAll, List.getElem_map, List.getElem_range, recappedTo_target, List.getD_eq_getElem _ _ inside]

/-- R131: the caps worked out afresh, the settings being as they were. -/
theorem recap_eq {d : Device} (seven : d.lgt.channels.length = 7) (settings : d.lgt.chSettings.length = 7) :
    let step := min d.bgt.table.lights.requested d.bgt.table.lights.granted
    recap d.lgt.chSettings d = { d with
      lgt := { d.lgt with channels := recappedAll d step, capStep := step }
      lnk := if step = d.lgt.capStep then d.lnk else (post .lightState d).lnk } := by
  intro step
  unfold recap
  extract_lets e step' caps channels _ d1
  have channels_eq : channels = recappedAll d step := by
    have caps_eq : caps = d.lgt.chSettings.map fun t => (capAt d.lgt.capStep t.essential, capAt step t.essential) := by
      simp only [caps, List.zipWith_self, capOf_eq_capAt]
      rfl
    unfold channels recappedAll
    rw [caps_eq, zipWith_seven _ seven (by simpa using settings) darkChannel
      (capAt d.lgt.capStep false, capAt step false)]
    refine List.map_congr_left fun k _ => ?_
    have pair : (d.lgt.chSettings.map fun t => (capAt d.lgt.capStep t.essential, capAt step t.essential)).getD k
        (capAt d.lgt.capStep false, capAt step false) =
          (capAt d.lgt.capStep (settingOf d k).essential, capAt step (settingOf d k).essential) :=
      List.getD_map _ { group := .none, essential := false }
        fun t : ChannelSetting => (capAt d.lgt.capStep t.essential, capAt step t.essential)
    dsimp only
    rw [pair, recapped_eq_recappedTo, essential_getD]
  have capped : d1 = { d with lgt := { d.lgt with channels := recappedAll d step, capStep := step } } := by
    unfold d1
    rw [channels_eq]
    rfl
  by_cases same : step = d.lgt.capStep
  · rw [if_pos same]
    exact (if_pos same).trans capped
  · rw [if_neg same]
    refine (if_neg same).trans ?_
    rw [capped]
    exact post_of_lnk .lightState rfl

/-! ## The entry and the caps follow the channels (R131, R132) -/

/-- R132: LIGHTS' entry as the lights' request `n` leaves it. -/
def lightsEntry (d : Device) (n : Nat) : Entry :=
  if n = d.lgt.written then d.bgt.table.lights else writtenEntry d.bgt.table.lights n 0 d.sns.uptime

/-- R132: the part with its lights' request `n` written, the caps still to follow. -/
def lightsRequested (d : Device) (n : Nat) : Device :=
  let e := d.bgt.table.lights
  { d with
    bgt := { d.bgt with
      table := { d.bgt.table with lights := lightsEntry d n }
      passesDue := d.bgt.passesDue +
        (if (lightsEntry d n).requested = e.requested ∧ (lightsEntry d n).floor = e.floor then 0 else 1) }
    lgt := { d.lgt with written := n } }

/-- R131, R132: the part with its lights' request `n` written and the caps changed, before a posting. -/
def lightsRecapped (d : Device) (n : Nat) : Device :=
  let step := min (lightsEntry d n).requested (lightsEntry d n).granted
  { lightsRequested d n with lgt := { d.lgt with channels := recappedAll d step, capStep := step, written := n } }

theorem refreshLights_written {d : Device} (budget : budgetSound d) (was : List ChannelSetting) :
    refreshLights was d = recap was (lightsRequested d (lightsNeeded d)) := by
  unfold refreshLights
  dsimp only
  by_cases same : lightsNeeded d = d.lgt.written
  · have entry : lightsEntry d (lightsNeeded d) = d.bgt.table.lights := if_pos same
    refine (if_pos same).trans (congrArg _ ?_)
    rw [lightsRequested, entry, same]
    simp
  · have entry : lightsEntry d (lightsNeeded d) = writtenEntry d.bgt.table.lights (lightsNeeded d) 0 d.sns.uptime := if_neg same
    refine (if_neg same).trans (congrArg _ ?_)
    rw [lightsRequested, entry]
    exact writeEntry_lights (d := { d with lgt := { d.lgt with written := lightsNeeded d } }) budget _

theorem refreshLights_eq {d : Device} (budget : budgetSound d) (seven : d.lgt.channels.length = 7)
    (settings : d.lgt.chSettings.length = 7) :
    let u := lightsRecapped d (lightsNeeded d)
    refreshLights d.lgt.chSettings d =
      { u with lnk := if u.lgt.capStep = d.lgt.capStep then d.lnk else (post .lightState d).lnk } := by
  rw [refreshLights_written budget]
  refine (recap_eq (d := lightsRequested d (lightsNeeded d)) seven settings).trans ?_
  dsimp only
  rw [post_lnk_congr (t := lightsRequested d (lightsNeeded d)) (d := d) .lightState rfl]
  rfl

/-! ## What follows a change of the channels (R131, R132, R146) -/

/-- R131, R132, R146: the lights follow the channel records `chs`, with the courtesy timer at `timer`; nothing else moves. -/
def relitAs (d t : Device) (chs : List LightChannel) (moved : Prop) (timer : Option Nat) : Prop :=
  lightsFollow d t chs moved d.sns.ms ∧ lightsFrame d t d.sns.ms ∧ t.lnk = { d.lnk with notices := t.lnk.notices } ∧
  t.lgt = { d.lgt with channels := t.lgt.channels, capStep := t.lgt.capStep, written := t.lgt.written, courtesyTimer := timer }

/-- The part with new channel records and another courtesy timer. -/
def withLights (chs : List LightChannel) (timer : Option Nat) (d : Device) : Device :=
  { d with lgt := { d.lgt with channels := chs, courtesyTimer := timer } }

theorem lightsFrame_of_notices {d t : Device} (frame : t = { d with
      bgt := { d.bgt with table := { d.bgt.table with lights := t.bgt.table.lights }, passesDue := t.bgt.passesDue }
      lgt := t.lgt, lnk := t.lnk })
    (link : t.lnk = { d.lnk with notices := t.lnk.notices }) : lightsFrame d t d.sns.ms := by
  have enables : t.lnk.enables = d.lnk.enables := congrArg (·.enables) link
  have idle : t.lnk.idleTime = d.lnk.idleTime := congrArg (·.idleTime) link
  unfold lightsFrame
  rw [← enables, ← idle]
  exact frame

/-- R146: a part whose lights changed with a posting for a changed cap step, and then one where `moved` holds. -/
theorem lightsPosted_of_lnk {d r t : Device} {moved : Prop}
    (capped : r.lnk = if t.lgt.capStep = d.lgt.capStep then d.lnk else (post .lightState d).lnk)
    (posted : moved → t.lnk = (post .lightState r).lnk) (quiet : ¬moved → t.lnk = r.lnk) : lightsPosted d t moved := by
  refine ⟨fun same still => ?_, fun same move => ?_, fun other still => ?_, fun other move => ?_⟩
  · rw [quiet still, capped, if_pos same]
  · rw [posted move, post_lnk_congr .lightState (capped.trans (if_pos same))]
  · rw [quiet still, capped, if_neg other]
  · rw [posted move, post_lnk_congr .lightState (capped.trans (if_neg other))]

theorem lnk_notices_of_posted {d r t : Device} {moved : Prop} (link : r.lnk = { d.lnk with notices := r.lnk.notices })
    (posted : moved → t.lnk = (post .lightState r).lnk) (quiet : ¬moved → t.lnk = r.lnk) :
    t.lnk = { d.lnk with notices := t.lnk.notices } := by
  by_cases move : moved
  · rw [posted move, post_lnk_notices, link]
  · rw [quiet move]
    exact link

/-- R131, R132, R146: new channel records, the entry and the caps that follow them, and a posting where `moved` holds. -/
theorem relitAs_refreshLights {d t : Device} (budget : budgetSound d) (settings : d.lgt.chSettings.length = 7)
    {chs : List LightChannel} (seven : chs.length = 7) (bounded : ∀ c ∈ chs, c.target ≤ 1000) (timer : Option Nat) {moved : Prop}
    (posted : moved → t = post .lightState (refreshLights d.lgt.chSettings (withLights chs timer d)))
    (quiet : ¬moved → t = refreshLights d.lgt.chSettings (withLights chs timer d)) : relitAs d t chs moved timer := by
  let v := withLights chs timer d
  let w := lightsRecapped v (lightsNeeded v)
  have refreshed : refreshLights d.lgt.chSettings v = _ := refreshLights_eq (d := v) budget seven settings
  rw [refreshed] at posted quiet
  generalize link : (if w.lgt.capStep = v.lgt.capStep then v.lnk else (post .lightState v).lnk) = y at posted quiet
  obtain ⟨x, rfl⟩ : ∃ x, t = { w with lnk := x } := by
    by_cases move : moved
    · exact ⟨_, (posted move).trans (post_eq .lightState _)⟩
    · exact ⟨_, quiet move⟩
  let r : Device := { w with lnk := y }
  have capped : r.lnk = if w.lgt.capStep = d.lgt.capStep then d.lnk else (post .lightState d).lnk :=
    link.symm.trans (if_congr Iff.rfl rfl (post_lnk_congr .lightState rfl))
  have posted' : moved → x = (post .lightState r).lnk := fun move => congrArg (·.lnk) (posted move)
  have quiet' : ¬moved → x = r.lnk := fun still => congrArg (·.lnk) (quiet still)
  have notices : r.lnk = { d.lnk with notices := r.lnk.notices } := by
    rw [capped]
    split
    · rfl
    · exact post_lnk_notices ..
  have notices' : x = { d.lnk with notices := x.notices } :=
    lnk_notices_of_posted (t := { w with lnk := x }) notices posted' quiet'
  exact ⟨⟨⟨lightsNeeded v, stepNeeded_lightsNeeded (d := v) bounded, ⟨rfl, rfl, rfl, rfl⟩, rfl⟩,
    lightsPosted_of_lnk (r := r) (t := { w with lnk := x }) capped posted' quiet'⟩, lightsFrame_of_notices rfl notices', notices', rfl⟩

/-- R139: a courtesy timer started after the lights have followed. -/
theorem relitAs_startCourtesy {d t : Device} {chs : List LightChannel} {moved : Prop} {timer : Option Nat}
    (h : relitAs d t chs moved timer) :
    relitAs d (startCourtesy t) chs moved (some (d.sns.ms + 1000 * d.lgt.settings.courtesyTime)) := by
  obtain ⟨⟨⟨n, needed, entry, channels⟩, posted⟩, frame, link, lights⟩ := h
  have ms : t.sns.ms = d.sns.ms := congrArg (·.sns.ms) frame
  have settings : t.lgt.settings = d.lgt.settings := congrArg (·.settings) lights
  have started : (startCourtesy t).lgt =
      { t.lgt with courtesyTimer := some (d.sns.ms + 1000 * d.lgt.settings.courtesyTime) } := by
    rw [← ms, ← settings]
    rfl
  refine ⟨⟨⟨n, needed, entry, channels⟩, posted⟩, ?_, link, ?_⟩
  · exact congrArg (fun u => { u with lgt := (startCourtesy t).lgt }) frame
  · rw [started]
    exact congrArg (fun l => { l with courtesyTimer := some (d.sns.ms + 1000 * d.lgt.settings.courtesyTime) }) lights

/-! ## New targets (R134, R140) -/

/-- R129, R134: a new fade, over at once where it has no length or no distance. -/
theorem fadeTo_eq (c : LightChannel) (target duration ms : Nat) :
    c.fadeTo target duration ms = { c with
      target := target, fadeFrom := levelAt c ms, fadeAt := ms, fadeMs := duration
      fading := decide (duration ≠ 0 ∧ levelAt c ms ≠ target)
      hold := if target = 0 ∧ (duration = 0 ∨ levelAt c ms = 0) then false else c.hold
      courtesy := if target = 0 ∧ (duration = 0 ∨ levelAt c ms = 0) then false else c.courtesy } := by
  unfold LightChannel.fadeTo LightChannel.ended
  rw [present_eq_levelAt]
  by_cases stands : duration = 0 ∨ levelAt c ms = target
  · have still : ¬(duration ≠ 0 ∧ levelAt c ms ≠ target) := fun ⟨long, far⟩ => stands.elim long far
    by_cases dark : target = 0
    · subst dark
      simp [stands, still]
    · simp [stands, still, dark]
  · have runs : duration ≠ 0 ∧ levelAt c ms ≠ target := not_or.1 stands
    have lit : ¬(target = 0 ∧ (duration = 0 ∨ levelAt c ms = 0)) := by
      rintro ⟨rfl, ends⟩
      exact stands ends
    rw [if_neg stands, if_neg lit, if_neg lit, decide_eq_true runs]

theorem setByHand_eq_handSet (c : LightChannel) (target duration ms : Nat) :
    c.setByHand target duration ms = handSet target duration ms c := by
  rw [LightChannel.setByHand, fadeTo_eq]
  unfold handSet
  have level : levelAt { c with hold := true, courtesy := false } ms = levelAt c ms := rfl
  rw [level]
  by_cases dark : target = 0 ∧ (duration = 0 ∨ levelAt c ms = 0) <;> simp [dark]

/-- R139: the courtesy channel, without manual hold, fading up with its mark. -/
theorem courtesyLit_eq {c : LightChannel} (free : c.hold = false) (level ms : Nat) :
    { c.fadeTo level 500 ms with courtesy := true } = { c with
      target := level, fadeFrom := levelAt c ms, fadeAt := ms, fadeMs := 500
      fading := decide (levelAt c ms ≠ level), courtesy := true } := by
  rw [fadeTo_eq]
  simp [free]

/-- R140: a courtesy-lit channel put out at once. -/
theorem putOut_zero (c : LightChannel) (ms : Nat) :
    c.putOut 0 ms = if c.courtesy = true ∧ c.hold = false then
      { c with target := 0, fadeFrom := levelAt c ms, fadeAt := ms, fadeMs := 0, fading := false, courtesy := false } else c := by
  unfold LightChannel.putOut
  by_cases lit : c.courtesy = true ∧ c.hold = false
  · rw [fadeTo_eq]
    simp [lit]
  · rw [if_neg lit, if_neg (by simpa using lit)]

/-! ## The channels at rest (R134) -/

/-- The channel records of `d` with every fade that has run out ended. -/
def restedLights (d : Device) : List LightChannel := d.lgt.channels.map (rested d.sns.ms)

theorem rested_target (ms : Nat) (c : LightChannel) : (rested ms c).target = c.target := by
  unfold rested
  split <;> rfl

theorem rested_saved (ms : Nat) (c : LightChannel) : (rested ms c).saved = c.saved := by
  unfold rested
  split <;> rfl

theorem restedLights_targets (d : Device) : (restedLights d).map (·.target) = targetsOf d := by
  rw [restedLights, targetsOf, List.map_map]
  exact List.map_congr_left fun c _ => rested_target d.sns.ms c

theorem settleLights_withLights (d : Device) : settleLights d = withLights (restedLights d) d.lgt.courtesyTimer d := settleLights_eq d

/-- Section 7.1: no target and no saved level at rest lies above 1,000. -/
theorem restedLights_bounded {d : Device} (sound : lightsSound d) :
    ∀ c ∈ restedLights d, c.target ≤ 1000 ∧ c.saved.getD 0 ≤ 1000 := by
  obtain ⟨⟨-, -, levels, -⟩, -⟩ := sound
  intro c hc
  obtain ⟨c, listed, rfl⟩ := List.mem_map.1 hc
  obtain ⟨target, -, -, saved⟩ := levels c listed
  rw [rested_target, rested_saved]
  exact ⟨target, saved⟩

/-! ## The dial group (R137, R138) -/

/-- R137, R138: the records at rest with `f` made of the dial group's members. -/
def dialChanged (f : LightChannel → LightChannel) (d : Device) : List LightChannel :=
  (List.range 7).map fun k =>
    if decide ((d.lgt.chSettings.map (·.group)).getD k .none = d.lgt.settings.dialGroup) = true
    then f ((restedLights d).getD k darkChannel) else (restedLights d).getD k darkChannel

theorem changeDialGroup_eq {d : Device} (sound : lightsSound d) (f : LightChannel → LightChannel) :
    changeDialGroup f d = refreshLights d.lgt.chSettings (withLights (dialChanged f d) d.lgt.courtesyTimer d) := by
  obtain ⟨⟨seven, settings, -⟩, -⟩ := sound
  have changed : List.zipWith (fun (c : LightChannel) (t : ChannelSetting) => if t.group = d.lgt.settings.dialGroup then f c else c)
      (restedLights d) d.lgt.chSettings = dialChanged f d := by
    rw [zipWith_seven _ (by simpa [restedLights] using seven) settings darkChannel { group := .none, essential := false }]
    refine List.map_congr_left fun k _ => ?_
    rw [group_getD]
    exact if_congr decide_eq_true_iff.symm rfl rfl
  unfold changeDialGroup
  rw [settleLights_withLights, ← changed]
  rfl

theorem dialChanged_bounded {d : Device} (sound : lightsSound d) {f : LightChannel → LightChannel}
    (bounded : ∀ c : LightChannel, c.target ≤ 1000 → c.saved.getD 0 ≤ 1000 → (f c).target ≤ 1000) :
    ∀ c ∈ dialChanged f d, c.target ≤ 1000 := by
  have rest := restedLights_bounded sound
  have seven : (restedLights d).length = 7 := by
    obtain ⟨⟨seven, -⟩, -⟩ := sound
    simpa [restedLights] using seven
  intro c hc
  obtain ⟨k, hk, rfl⟩ := List.mem_map.1 hc
  have inside : k < (restedLights d).length := seven ▸ List.mem_range.1 hk
  rw [List.getD_eq_getElem _ _ inside]
  obtain ⟨target, saved⟩ := rest _ (List.getElem_mem inside)
  split
  · exact bounded _ target saved
  · exact target

/-- R138: a member of the dial group has a target above 0. -/
theorem dialGroupLit_iff {d : Device} :
    dialGroupLit d = true ↔ ∃ k ∈ List.range 7,
      decide ((d.lgt.chSettings.map (·.group)).getD k .none = d.lgt.settings.dialGroup) = true ∧
        0 < ((restedLights d).getD k darkChannel).target := by
  have target (k : Nat) : ((restedLights d).getD k darkChannel).target = (channelOf d k).target := by
    have dark : rested d.sns.ms darkChannel = darkChannel := rfl
    have moved := List.getD_map (n := k) d.lgt.channels darkChannel (rested d.sns.ms)
    rw [dark] at moved
    rw [restedLights, moved, rested_target]
    rfl
  simp only [dialGroupLit, membersOf, List.any_eq_true, List.mem_filter, decide_eq_true_eq, group_getD, target, and_assoc]

/-! ## What the events do (R137 to R140) -/

theorem targets_refreshLights {d : Device} (budget : budgetSound d) (settings : d.lgt.chSettings.length = 7)
    {chs : List LightChannel} (seven : chs.length = 7) (timer : Option Nat) :
    targetsOf (refreshLights d.lgt.chSettings (withLights chs timer d)) = chs.map (·.target) := by
  have refreshed := refreshLights_eq (d := withLights chs timer d) budget seven settings
  exact (congrArg targetsOf refreshed).trans (recappedAll_targets (d := withLights chs timer d) seven _)

/-- R137, R140: LIGHT_STATE is posted where a target differs from those before. -/
theorem relitAs_postIfMoved {d : Device} (budget : budgetSound d) (settings : d.lgt.chSettings.length = 7)
    {chs : List LightChannel} (seven : chs.length = 7) (bounded : ∀ c ∈ chs, c.target ≤ 1000) (timer : Option Nat) :
    relitAs d (postIfMoved (targetsOf d) (refreshLights d.lgt.chSettings (withLights chs timer d))) chs
      (chs.map (·.target) ≠ (restedLights d).map (·.target)) timer := by
  have targets := targets_refreshLights budget settings seven timer
  refine relitAs_refreshLights budget settings seven bounded timer (fun moved => ?_) (fun still => ?_)
  · exact if_neg (targets ▸ restedLights_targets d ▸ moved)
  · exact if_pos (targets.trans ((not_not.1 still).trans (restedLights_targets d)))

theorem dialChanged_length (f : LightChannel → LightChannel) (d : Device) : (dialChanged f d).length = 7 := by
  rw [dialChanged, List.length_map, List.length_range]

/-- R137: a detent's new record of a member of the dial group. -/
def detentSet (dir : DialDir) (multiplier ms : Nat) (c : LightChannel) : LightChannel :=
  handSet (if dir = .plus then min 1000 (c.target + 25 * multiplier) else c.target - 25 * multiplier) 150 ms c

theorem lightsDetent_relit {d : Device} (budget : budgetSound d) (sound : lightsSound d) (dir : DialDir) (multiplier : Nat) :
    let chs := dialChanged (detentSet dir multiplier d.sns.ms) d
    relitAs d (lightsDetent dir multiplier d) chs (chs.map (·.target) ≠ (restedLights d).map (·.target))
      (some (d.sns.ms + 1000 * d.lgt.settings.courtesyTime)) := by
  have set_ : (fun c : LightChannel => c.setByHand (detentTarget dir multiplier c.target) 150 d.sns.ms) =
      detentSet dir multiplier d.sns.ms := by
    funext c
    rw [setByHand_eq_handSet]
    cases dir <;> rfl
  have bounded : ∀ c ∈ dialChanged (detentSet dir multiplier d.sns.ms) d, c.target ≤ 1000 :=
    dialChanged_bounded sound fun c target _ => by
      unfold detentSet handSet
      dsimp only
      split <;> omega
  have ⟨⟨_, settings, _⟩, _⟩ := sound
  intro chs
  unfold lightsDetent
  rw [set_, changeDialGroup_eq sound]
  exact relitAs_startCourtesy (relitAs_postIfMoved budget settings (dialChanged_length ..) bounded _)

/-- R138: a press of the dial's new record of a member of the dial group, `lit` saying that a member has a target above 0. -/
def pressSet (lit : Bool) (ms : Nat) (c : LightChannel) : LightChannel :=
  if lit = true then handSet 0 400 ms { c with saved := some c.target } else handSet (c.saved.getD 500) 400 ms c

theorem dialPress_relit {d : Device} (budget : budgetSound d) (sound : lightsSound d) :
    relitAs d (dialPress d) (dialChanged (pressSet (dialGroupLit d) d.sns.ms) d) True
      (some (d.sns.ms + 1000 * d.lgt.settings.courtesyTime)) := by
  have ⟨⟨_, settings, _⟩, _⟩ := sound
  have toggled : dialPress d = startCourtesy (post .lightState (changeDialGroup (pressSet (dialGroupLit d) d.sns.ms) d)) := by
    unfold dialPress
    dsimp only
    cases dialGroupLit d <;> simp [setByHand_eq_handSet] <;> rfl
  have bounded : ∀ c ∈ dialChanged (pressSet (dialGroupLit d) d.sns.ms) d, c.target ≤ 1000 :=
    dialChanged_bounded sound fun c _ saved => by
      unfold pressSet
      split
      · exact Nat.zero_le _
      · change c.saved.getD 500 ≤ 1000
        cases held : c.saved with
        | none => decide
        | some level =>
          rw [held] at saved
          exact saved
  rw [toggled, changeDialGroup_eq sound]
  exact relitAs_startCourtesy (relitAs_refreshLights budget settings (dialChanged_length ..) bounded d.lgt.courtesyTimer
    (fun _ => rfl) (fun still => absurd trivial still))

/-- R140: IGNITION on puts out every courtesy-lit channel without manual hold. -/
def ignitionOut (ms : Nat) (c : LightChannel) : LightChannel :=
  if c.courtesy = true ∧ c.hold = false then
    { c with target := 0, fadeFrom := levelAt c ms, fadeAt := ms, fadeMs := 0, fading := false, courtesy := false }
  else c

theorem lightsIgnitionOn_relit {d : Device} (budget : budgetSound d) (sound : lightsSound d) :
    let chs := (restedLights d).map (ignitionOut d.sns.ms)
    relitAs d (lightsIgnitionOn d) chs (chs.map (·.target) ≠ (restedLights d).map (·.target)) none := by
  have ⟨⟨seven, settings, _⟩, _⟩ := sound
  intro chs
  let u : Device := { d with lgt := { d.lgt with courtesyTimer := none } }
  have out : ((restedLights d).map fun c => c.putOut 0 d.sns.ms) = chs := List.map_congr_left fun c _ => putOut_zero c d.sns.ms
  have before : targetsOf (settleLights u) = targetsOf d := by
    rw [settleLights_withLights]
    exact restedLights_targets d
  have put : lightsIgnitionOn d =
      postIfMoved (targetsOf d) (refreshLights d.lgt.chSettings (withLights chs none d)) := by
    rw [← before, ← out]
    unfold lightsIgnitionOn putOutCourtesy
    dsimp only
    rw [settleLights_withLights]
    rfl
  have bounded : ∀ c ∈ chs, c.target ≤ 1000 := by
    intro c hc
    obtain ⟨c, listed, rfl⟩ := List.mem_map.1 hc
    unfold ignitionOut
    split
    · exact Nat.zero_le _
    · exact (restedLights_bounded sound c listed).1
  rw [put]
  exact relitAs_postIfMoved budget settings (by simpa [chs, restedLights] using seven) bounded none

/-- R139: the courtesy channel lit by the door. -/
def doorLit (level ms : Nat) (c : LightChannel) : LightChannel :=
  { c with
    target := level, fadeFrom := levelAt c ms, fadeAt := ms, fadeMs := 500
    fading := decide (levelAt c ms ≠ level), courtesy := true }

theorem doorOpen_held {d : Device} (held : ((restedLights d).getD (courtesyChannel d) darkChannel).hold = true) :
    doorOpen d = withLights (restedLights d) (some (d.sns.ms + 1000 * d.lgt.settings.courtesyTime)) d := by
  unfold doorOpen
  rw [settleLights_withLights]
  exact if_pos held

theorem doorOpen_relit {d : Device} (budget : budgetSound d) (sound : lightsSound d)
    (free : ((restedLights d).getD (courtesyChannel d) darkChannel).hold = false) :
    relitAs d (doorOpen d)
      ((restedLights d).set (courtesyChannel d) (doorLit
        (if d.npl.quiet = true then d.lgt.settings.nightLevel else d.lgt.settings.courtesyLevel) d.sns.ms
        ((restedLights d).getD (courtesyChannel d) darkChannel))) True
      (some (d.sns.ms + 1000 * d.lgt.settings.courtesyTime)) := by
  have ⟨⟨seven, settings, _, _, courtesy, night⟩, _⟩ := sound
  refine relitAs_refreshLights budget settings (by simpa [restedLights] using seven) (fun c hc => ?_) _
    (fun _ => ?_) (fun still => absurd trivial still)
  · obtain listed | rfl := List.mem_or_eq_of_mem_set hc
    · exact (restedLights_bounded sound c listed).1
    · change (if d.npl.quiet = true then _ else _) ≤ 1000
      split
      · exact night
      · exact courtesy
  · unfold doorOpen
    rw [settleLights_withLights]
    refine (if_neg (Bool.not_eq_true _ ▸ free)).trans ?_
    rw [doorLit, ← courtesyLit_eq free]
    rfl

end Sys2Proof.Machine

namespace Sys2Proof.Proofs

open Sys2Proof Sys2Proof.Machine Sys2Proof.Stated

/-- Settles O43: each event by what it makes of the channel records. -/
theorem eventsReachLightsAndRest : Obligations.EventsReachLightsAndRest := by
  intro d budget sound
  refine ⟨⟨doorOpen_held, doorOpen_relit budget sound⟩, rfl, fun _ => rfl, ?_, rfl, fun _ => ?_, fun dir multiplier => ?_, ?_⟩
  · intro lit
    have pressed : (fun c => if lit then handSet 0 400 d.sns.ms { c with saved := some c.target }
        else handSet (c.saved.getD 500) 400 d.sns.ms c) = pressSet (dialGroupLit d) d.sns.ms :=
      funext fun c => if_congr dialGroupLit_iff.symm rfl rfl
    have relit := dialPress_relit budget sound
    rw [← pressed] at relit
    exact relit
  · cases source : d.vbl.source with
    | bus => exact wiredBrake_bus source
    | wired => exact wiredBrake_wired source
  · exact lightsDetent_relit budget sound dir multiplier
  · exact lightsIgnitionOn_relit budget sound

end Sys2Proof.Proofs
end

section
/-! PROOFS. The Charge Counter's operations: counting, full-charge detection, supply grading and what they hand on (R36 to R45, R49,
R50, R67). -/

namespace Sys2Proof.Machine

open Sys2Proof.Stated

/-! ## Counting (R37) and what is derived (R40, R41) -/

theorem derateOf_fits (temp : Int) :
    (derateOf temp : Int) = if 200 ≤ temp then 1000 else max 550 (1000 - ((200 - temp) * 8 + 9) / 10) := by
  unfold derateOf ceilDiv
  split <;> omega

theorem derivedFits_derived (c : Charge) : derivedFits c.derived := by
  refine ⟨derateOf_fits c.temp, rfl, rfl, ?_⟩
  change (c.q - c.derived.qmin) * c.derived.derate / 1000 = if c.derived.qmin < c.q then _ else 0
  split
  · rfl
  · next enough => rw [Nat.sub_eq_zero_of_le (Nat.le_of_not_lt enough), Nat.zero_mul, Nat.zero_div]

/-- R37: counting moves Q and A alone. -/
theorem Charge.counted_only (c : Charge) : c.counted = { c with q := c.counted.q, acc := c.counted.acc } := by
  unfold Charge.counted
  dsimp only
  split_ifs <;> rfl

theorem Charge.counted_unknown {c : Charge} (h : c.known = false) : c.counted = c := by
  unfold Charge.counted
  rw [h]
  rfl

theorem carried_of_nonneg {a : Int} (h : 0 ≤ a) : 0 ≤ a.tdiv 3600 ∧ 0 ≤ a.tmod 3600 ∧ a.tmod 3600 < 3600 :=
  ⟨Int.tdiv_nonneg h (by decide), Int.tmod_nonneg 3600 h, Int.tmod_lt_of_pos a (by decide)⟩

/-- R37: the whole mAh carried are the accumulator's quotient by 3,600, truncated toward zero. -/
theorem Charge.counted_countedTo {c : Charge} (h : c.known = true) :
    countedTo c.battery.capacity c.q c.acc c.current c.counted.q c.counted.acc := by
  let a := c.acc + c.current * 10
  have split : a = 3600 * a.tdiv 3600 + a.tmod 3600 := (Int.mul_tdiv_add_tmod a 3600).symm
  have rest : a - 3600 * a.tdiv 3600 = a.tmod 3600 := by omega
  refine ⟨a.tdiv 3600, a.tmod 3600, split, carried_of_nonneg, fun discharged => ?_, ?_⟩
  · have mirrored := carried_of_nonneg (a := -a) (Int.neg_nonneg_of_nonpos discharged)
    rw [Int.neg_tdiv, Int.neg_tmod] at mirrored
    omega
  · have counted : c.counted =
        if (c.battery.capacity : Int) < c.q + a.tdiv 3600 then { c with q := c.battery.capacity, acc := min (a.tmod 3600) 0 }
        else if (c.q : Int) + a.tdiv 3600 < 0 then { c with q := 0, acc := max (a.tmod 3600) 0 }
        else { c with q := ((c.q : Int) + a.tdiv 3600).toNat, acc := a.tmod 3600 } := by
      rw [← rest]
      exact if_pos h
    rw [counted]
    split_ifs with above below
    · exact ⟨rfl, rfl⟩
    · exact ⟨rfl, rfl⟩
    · exact ⟨Int.toNat_of_nonneg (by omega), rfl⟩

/-! ## The full-charge run (R45) and the grading runs (R43, R44) -/

/-- R42, R45: the record at the tick's means. -/
def Charge.averaged (c : Charge) (uptime : Nat) : Charge :=
  { c with current := meanCurrent c, voltage := meanVoltage c, lastFullTick := some uptime }

theorem Charge.ticked_eq (c : Charge) (uptime : Nat) : c.ticked uptime = { c.averaged uptime with
    q := (c.averaged uptime).counted.q
    acc := (c.averaged uptime).counted.acc
    fullRun := if looksCharged c then c.fullRun + 1 else 0 } := by
  change (c.averaged uptime).counted.fullRunStep = _
  rw [Charge.counted_only]
  have looks (q : Nat) (acc : Int) : { c.averaged uptime with q := q, acc := acc }.looksFull = decide (looksCharged c) := by
    unfold Charge.looksFull looksCharged
    rw [Bool.decide_and, Bool.decide_and, Bool.and_assoc]
    rfl
  unfold Charge.fullRunStep
  rw [looks]
  simp only [decide_eq_true_eq]
  rfl

theorem Charge.graded_eq (c : Charge) :
    c.graded = { c with
      vcomp := c.voltage - (c.current * 10 * c.battery.resistance).tdiv 1000
      runs := runsAfter c.uv c.runs c.graded.vcomp (warnOf c.battery) (cutOf c.battery) } := by
  unfold Charge.graded GradingRuns.step runsAfter runStep
  simp only [Bool.and_eq_true, decide_eq_true_eq]
  rfl

/-- R45: the record after the test for a full charge, but for the notice causes. -/
def Charge.detected (c : Charge) (uptime : Nat) : Charge :=
  if 600 ≤ c.fullRun then
    { c with q := c.battery.capacity, acc := 0, known := true, lastFull := some uptime, fullRun := 0 }
  else c

/-- R44: the record after the test of the grading runs, but for the notice causes. -/
def Charge.regraded (c : Charge) : Charge :=
  { c with uv := gradedState c.uv c.runs, runs := runsGraded c.uv (gradedState c.uv c.runs) c.runs }

theorem Charge.regraded_same {c : Charge} (h : c.regraded.uv = c.uv) : c.regraded = c := by
  have state : gradedState c.uv c.runs = c.uv := h
  unfold Charge.regraded
  rw [state, runsGraded, if_pos rfl]

theorem gradeChange_eq (uv : Undervoltage) (r : GradingRuns) : gradeChange uv r =
    if gradedState uv r = uv then none else some (gradedState uv r, runsGraded uv (gradedState uv r) r) := by
  unfold gradeChange gradedState
  cases uv <;> dsimp only <;> split_ifs <;> simp_all [runsGraded, noRuns]

/-! ## Postings of CHARGE_STATE (R49) -/

/-- R49: the causes once one more is posted; while the kind is disabled they stay. -/
def causesWith (d : Device) (cause : ChargeCause) (causes : List ChargeCause) : List ChargeCause :=
  if noticeEnabled d .chargeState then addCause cause causes else causes

theorem mem_causesWith {d : Device} {cause x : ChargeCause} {causes : List ChargeCause} :
    x ∈ causesWith d cause causes ↔ x ∈ causes ∨ noticeEnabled d .chargeState = true ∧ x = cause := by
  have joined : x ∈ addCause cause causes ↔ x ∈ causes ∨ x = cause := by
    unfold addCause
    split_ifs with listed
    · exact ⟨.inl, fun h => h.elim id fun same => same ▸ listed⟩
    · simp
  unfold causesWith
  split_ifs with enabled
  · simp [joined, enabled]
  · simp [enabled]

/-- From `d`: the charge record is `c`, the schedule `sched`, and CHARGE_STATE has been posted `n` times. -/
def charging (d : Device) (c : Charge) (sched : Schedule) (n : Nat) : Device :=
  { d with chg := c, sched := sched, lnk := (Nat.repeat (post .chargeState) n d).lnk }

theorem charging_enabled (d : Device) (c : Charge) (sched : Schedule) (n : Nat) (k : NoticeKind) :
    noticeEnabled (charging d c sched n) k = noticeEnabled d k := by
  unfold noticeEnabled charging
  rw [repeat_post_lnk]

theorem postCharge_charging (cause : ChargeCause) (d : Device) (c : Charge) (sched : Schedule) (n : Nat) :
    postCharge cause (charging d c sched n) = charging d { c with causes := causesWith d cause c.causes } sched (n + 1) := by
  have posted (u : Device) (h : u.lnk = (Nat.repeat (post .chargeState) n d).lnk) :
      post .chargeState u = { u with lnk := (Nat.repeat (post .chargeState) (n + 1) d).lnk } := post_of_lnk .chargeState h
  unfold postCharge causesWith
  rw [charging_enabled]
  split_ifs with enabled
  · exact posted _ rfl
  · have unposted : post .chargeState (charging d c sched n) = charging d c sched n := by
      unfold post
      rw [charging_enabled, if_neg enabled]
    exact unposted.symm.trans (posted _ rfl)

theorem fullDetection_charging (d : Device) (c : Charge) (sched : Schedule) (n : Nat) :
    fullDetection (charging d c sched n) = charging d
      { c.detected d.sns.uptime with causes := if 600 ≤ c.fullRun then causesWith d .full c.causes else c.causes } sched
      (n + if 600 ≤ c.fullRun then 1 else 0) := by
  unfold fullDetection Charge.detected
  by_cases full : 600 ≤ c.fullRun
  · simp only [full, if_true]
    exact (if_pos full).trans (postCharge_charging ..)
  · simp only [full, if_false]
    exact if_neg full

/-- R50: the lights with CHG's indication in the state `uv`, after the state `was`. -/
def chargeShown (was uv : Undervoltage) (d : Device) : Lights :=
  (postIndication .chg (chargeSeverity uv) (decide (chargeSeverity was < chargeSeverity uv)) d).lgt

theorem gradeTest_charging (d : Device) (c : Charge) (sched : Schedule) (n : Nat) :
    gradeTest (charging d c sched n) = { charging d
        { c.regraded with causes := if c.regraded.uv ≠ c.uv then causesWith d .grade c.causes else c.causes } sched
        (n + if c.regraded.uv ≠ c.uv then 1 else 0) with
      lgt := if c.regraded.uv ≠ c.uv then chargeShown c.uv c.regraded.uv d else d.lgt } := by
  unfold gradeTest
  have change : gradeChange (charging d c sched n).chg.uv (charging d c sched n).chg.runs =
      if c.regraded.uv = c.uv then none else some (c.regraded.uv, c.regraded.runs) := gradeChange_eq c.uv c.runs
  rw [change]
  by_cases same : c.regraded.uv = c.uv
  · simp only [Charge.regraded_same same, if_true, ne_eq, not_true_eq_false, if_false]
    rfl
  · simp only [same, if_false, ne_eq, not_false_eq_true, if_true]
    have posted : postCharge .grade (putChg c.regraded (charging d c sched n)) = _ :=
      postCharge_charging .grade d c.regraded sched n
    have shows : ShowsSame d (charging d { c.regraded with causes := causesWith d .grade c.causes } sched (n + 1)) :=
      ⟨rfl, rfl, rfl⟩
    have shown := (shows.postIndication .chg (chargeSeverity c.regraded.uv)
      (decide (chargeSeverity c.uv < chargeSeverity c.regraded.uv))).1
    refine (congrArg (postIndication .chg _ _) posted).trans ((postIndication_only ..).trans ?_)
    exact congrArg (fun l => { charging d { c.regraded with causes := causesWith d .grade c.causes } sched (n + 1) with lgt := l })
      shown

end Sys2Proof.Machine
end

section
/-! PROOFS. The accounting tick, GRADING_RUN_COMPLETE and FULL_CHARGE_DETECTION (R36, R37, R40 to R45, R49, R50, R67). -/

namespace Sys2Proof.Machine

open Sys2Proof.Stated

/-! ## A flush of the allowance leaves the sensors (R67) -/

/-- R9: only a compressor that leaves RUN drops the partial revolution. -/
theorem enterComp_sns {st : CompState} {d : Device} (h : d.cmp.state ≠ .run) : (enterComp st d).sns = d.sns := by
  unfold enterComp
  extract_lets c exits idles timers c1 d1 _ d2 d3
  have left : d2 = d1 := if_neg fun running => h running.1
  have written : d3.sns = d.sns := by
    unfold d3
    rw [left]
    simp [d1]
  split_ifs
  · exact written
  · simpa using written

theorem toStopping_sns {d : Device} (h : d.cmp.state ≠ .run) : (toStopping d).sns = d.sns := enterComp_sns (st := .stopping) h

theorem compFails_sns (k : FailKind) {d : Device} (h : d.cmp.state ≠ .run) : (compFails k d).sns = d.sns := by
  unfold compFails
  extract_lets d1 failures c d2 d3 _ d4
  have free : d2.cmp.state ≠ .run := by simpa [d2, c, d1] using h
  have before : d2.sns = d.sns := by simp [d2, d1]
  split_ifs
  · rfl
  · exact (enterComp_sns free).trans before
  · simpa [d4] using (enterComp_sns free).trans before

theorem compDenied_sns (d : Device) : (compDenied d).sns = d.sns := by
  unfold compDenied
  split_ifs with waits
  · exact enterComp_sns (d := startOffTimer d) (waits ▸ nofun)
  · rfl

theorem compRevoked_sns (d : Device) : (compRevoked d).sns = d.sns := by
  unfold compRevoked
  split_ifs with starting late
  · exact compFails_sns .startFail (by simp [starting])
  · exact toStopping_sns (by simp [starting])
  · rfl

theorem answerDenied_sns (l : Load) (d : Device) : (answerDenied l d).sns = d.sns := by
  cases l with
  | compressor => exact compDenied_sns d
  | heater | outlet => simp [answerDenied]
  | base | lights | warning => rfl

theorem answerRevoked_sns (l : Load) (d : Device) : (answerRevoked l d).sns = d.sns := by
  cases l with
  | compressor => exact compRevoked_sns d
  | heater | outlet => simp [answerRevoked]
  | base | lights | warning => rfl

theorem flushAllowance_sns (d : Device) : (flushAllowance d).sns = d.sns := by
  have denied (l : List Load) (u : Device) : (l.foldl (fun acc l => answerDenied l acc) u).sns = u.sns := by
    induction l generalizing u with
    | nil => rfl
    | cons x l ih => exact (ih _).trans (answerDenied_sns x u)
  unfold flushAllowance revokeHolder
  extract_lets waiting d1
  split
  · exact (answerRevoked_sns ..).trans (denied ..)
  · exact denied ..
  · exact denied ..

/-! ## What the counter hands on (R41, R49, R50, R67) -/

/-- R41, R67: one pass for a changed status and one for a changed undervoltage state; a change into CRITICAL flushes. -/
theorem handOnCharge_eq (wasKnown : Bool) (wasUv : Undervoltage) (d : Device) : handOnCharge wasKnown wasUv d =
    let d1 := { d with bgt := { d.bgt with
      passesDue := d.bgt.passesDue + (if d.chg.known = wasKnown then 0 else 1) + (if d.chg.uv ≠ wasUv then 1 else 0) } }
    if d.chg.uv ≠ wasUv ∧ d.chg.uv = .critical then flushAllowance d1 else d1 := by
  unfold handOnCharge
  by_cases known : d.chg.known = wasKnown <;> by_cases uv : d.chg.uv = wasUv <;> simp [known, uv, triggerPass]

theorem handOnCharge_sns (wasKnown : Bool) (wasUv : Undervoltage) (d : Device) : (handOnCharge wasKnown wasUv d).sns = d.sns := by
  rw [handOnCharge_eq]
  extract_lets _ d1
  split_ifs
  · exact flushAllowance_sns d1
  · rfl

theorem publishCharge_chg (wasKnown : Bool) (wasUv : Undervoltage) (d : Device) :
    (publishCharge wasKnown wasUv d).chg = d.chg.derived := by simp [publishCharge]

theorem publishCharge_sched (wasKnown : Bool) (wasUv : Undervoltage) (d : Device) :
    (publishCharge wasKnown wasUv d).sched = d.sched := by simp

theorem publishCharge_sns (wasKnown : Bool) (wasUv : Undervoltage) (d : Device) :
    (publishCharge wasKnown wasUv d).sns = d.sns := handOnCharge_sns ..

/-- R41: with the undervoltage state as it was, a changed status hands on one pass. -/
theorem publishCharge_graded {wasKnown : Bool} {wasUv : Undervoltage} {d : Device} (h : d.chg.uv = wasUv) :
    publishCharge wasKnown wasUv d = { d with
      chg := d.chg.derived
      bgt := { d.bgt with passesDue := d.bgt.passesDue + (if d.chg.known = wasKnown then 0 else 1) } } := by
  have state : (putChg d.chg.derived d).chg.uv = wasUv := h
  unfold publishCharge
  rw [handOnCharge_eq]
  simp only [state, ne_eq, not_true_eq_false, false_and, if_false]
  rfl

/-- R49, R50: the part whose charge record has become `c`, with a full-charge detection where `full` holds, once that is posted and
shown and before it is published. -/
def chargeStaged (d : Device) (c : Charge) (sched : Schedule) (full : Prop) [Decidable full] : Device :=
  { charging d c sched ((if full then 1 else 0) + if c.uv ≠ d.chg.uv then 1 else 0) with
    lgt := if c.uv ≠ d.chg.uv then chargeShown d.chg.uv c.uv d else d.lgt }

/-- R41, R49, R50, R67: what a publication makes of it. -/
theorem publishCharge_staged {d : Device} {c : Charge} (sched : Schedule) {full : Prop} [Decidable full]
    (causes : ∀ x, x ∈ c.causes ↔
      x ∈ d.chg.causes ∨ noticeEnabled d .chargeState = true ∧ (full ∧ x = .full ∨ c.uv ≠ d.chg.uv ∧ x = .grade)) :
    let t := publishCharge d.chg.known d.chg.uv (chargeStaged d c sched full)
    t.chg = c.derived ∧ t.sched = sched ∧ handsOn d t full := by
  intro t
  have record : t.chg = c.derived := publishCharge_chg ..
  have schedule : t.sched = sched := publishCharge_sched ..
  refine ⟨record, schedule, ?_⟩
  unfold handsOn
  rw [record, schedule]
  refine ⟨causes, (handOnCharge_eq ..).trans ?_⟩
  unfold chargeStaged charging
  rw [repeat_post_lnk]
  rfl

theorem handsOn_congr {d t : Device} {p q : Prop} [Decidable p] [Decidable q] (iff : p ↔ q) (h : handsOn d t p) :
    handsOn d t q := by
  obtain rfl := propext iff
  convert h

/-! ## The accounting tick (R36) -/

/-- R36: the charge record with T_b as the tick finds it. -/
def tempered (d : Device) : Charge :=
  { d.chg with
    temp := if d.sns.analog.tBatt.status = .ok then d.sns.analog.tBatt.value else 0
    tempFallback := decide (d.sns.analog.tBatt.status ≠ .ok) }

theorem withTemp_eq (d : Device) : d.chg.withTemp d.sns.analog.tBatt = tempered d := by
  unfold Charge.withTemp tempered
  by_cases ok : d.sns.analog.tBatt.status = .ok <;> simp [ok]

/-- R45: a tick detects a full charge when it is the 600th in a row that meets the condition. -/
theorem Charge.ticked_full (c : Charge) (uptime : Nat) :
    600 ≤ (c.ticked uptime).fullRun ↔ looksCharged c ∧ 600 ≤ c.fullRun + 1 := by
  rw [Charge.ticked_eq]
  dsimp only
  split_ifs with looks
  · exact ⟨fun full => ⟨looks, full⟩, And.right⟩
  · exact ⟨nofun, fun h => absurd h.1 looks⟩

/-- R36: the record of a tick with a full history, before the grading runs are tested. -/
def Charge.tallied (c : Charge) (uptime : Nat) : Charge := ((c.ticked uptime).detected uptime).graded

theorem Charge.detected_only (c : Charge) (uptime : Nat) : c.detected uptime = { c with
    q := (c.detected uptime).q
    acc := (c.detected uptime).acc
    known := (c.detected uptime).known
    lastFull := (c.detected uptime).lastFull
    fullRun := (c.detected uptime).fullRun } := by
  unfold Charge.detected
  split_ifs <;> rfl

/-- R37, R42, R43: what of the record a tick with a full history leaves and what it sets to the tick's means. -/
theorem Charge.tallied_only (c : Charge) (uptime : Nat) : c.tallied uptime = { c.averaged uptime with
    q := (c.tallied uptime).q
    acc := (c.tallied uptime).acc
    known := (c.tallied uptime).known
    lastFull := (c.tallied uptime).lastFull
    fullRun := (c.tallied uptime).fullRun
    vcomp := meanVoltage c - (meanCurrent c * 10 * c.battery.resistance).tdiv 1000
    runs := runsAfter c.uv c.runs (c.tallied uptime).vcomp (warnOf c.battery) (cutOf c.battery) } := by
  unfold Charge.tallied
  rw [Charge.graded_eq, Charge.detected_only, Charge.ticked_eq]
  rfl

/-- R45: the count of a tick at which a full charge is detected. -/
theorem Charge.tallied_full {c : Charge} (uptime : Nat) (h : looksCharged c ∧ 600 ≤ c.fullRun + 1) :
    let t := c.tallied uptime
    t.q = c.battery.capacity ∧ t.acc = 0 ∧ t.known = true ∧ t.fullRun = 0 ∧ t.lastFull = some uptime := by
  have detected : (c.ticked uptime).detected uptime = _ := if_pos ((Charge.ticked_full c uptime).2 h)
  unfold Charge.tallied
  rw [Charge.graded_eq, detected, Charge.ticked_eq]
  exact ⟨rfl, rfl, rfl, rfl, rfl⟩

/-- R37, R45: the count of a tick at which none is detected. -/
theorem Charge.tallied_counts {c : Charge} (uptime : Nat) (h : ¬(looksCharged c ∧ 600 ≤ c.fullRun + 1)) :
    let t := c.tallied uptime
    t.known = c.known ∧ t.lastFull = c.lastFull ∧ (looksCharged c → t.fullRun = c.fullRun + 1) ∧
      (¬looksCharged c → t.fullRun = 0) ∧
      (c.known = true → countedTo c.battery.capacity c.q c.acc (meanCurrent c) t.q t.acc) ∧
      (c.known = false → t.q = c.q ∧ t.acc = c.acc) := by
  have detected : (c.ticked uptime).detected uptime = c.ticked uptime := if_neg fun full => h ((Charge.ticked_full c uptime).1 full)
  unfold Charge.tallied
  rw [Charge.graded_eq, detected, Charge.ticked_eq]
  refine ⟨rfl, rfl, fun meets => if_pos meets, fun misses => if_neg misses, fun known => ?_, fun unknown => ?_⟩
  · exact Charge.counted_countedTo (c := c.averaged uptime) known
  · have same : (c.averaged uptime).counted = c.averaged uptime := Charge.counted_unknown unknown
    exact ⟨congrArg (·.q) same, congrArg (·.acc) same⟩

/-- R44, R49: the causes after a tick with a full history, or after a test of the runs alone. -/
def gradedCauses (d : Device) (full moved : Prop) [Decidable full] [Decidable moved] : List ChargeCause :=
  let counted := if full then causesWith d .full d.chg.causes else d.chg.causes
  if moved then causesWith d .grade counted else counted

theorem mem_gradedCauses (d : Device) (full moved : Prop) [Decidable full] [Decidable moved] (x : ChargeCause) :
    x ∈ gradedCauses d full moved ↔
      x ∈ d.chg.causes ∨ noticeEnabled d .chargeState = true ∧ (full ∧ x = .full ∨ moved ∧ x = .grade) := by
  unfold gradedCauses
  by_cases detects : full <;> by_cases grades : moved <;> simp [detects, grades, mem_causesWith, or_assoc, and_or_left]

/-- R44, R49: the record after the test of the grading runs of `c`, with `full` as the full-charge detection before it. -/
def gradedRecord (d : Device) (c : Charge) (full : Prop) [Decidable full] : Charge :=
  { c.regraded with causes := gradedCauses d full (c.regraded.uv ≠ c.uv) }

theorem Charge.tallied_uv (c : Charge) (uptime : Nat) : (c.tallied uptime).uv = c.uv := by
  rw [Charge.tallied_only]
  rfl

/-- R36: a tick with a full history, from a record that has the part's undervoltage state and causes. -/
theorem countingTick_charging {d : Device} {c : Charge} (sched : Schedule) (uv : c.uv = d.chg.uv)
    (causes : c.causes = d.chg.causes) :
    let full := 600 ≤ (c.ticked d.sns.uptime).fullRun
    countingTick (charging d c sched 0) = chargeStaged d (gradedRecord d (c.tallied d.sns.uptime) full) sched full := by
  intro full
  let listed := if full then causesWith d .full c.causes else c.causes
  have detected : fullDetection (charging d (c.ticked d.sns.uptime) sched 0) = charging d
      { (c.ticked d.sns.uptime).detected d.sns.uptime with causes := listed } sched (0 + if full then 1 else 0) := by
    have kept : (c.ticked d.sns.uptime).causes = c.causes := by
      rw [Charge.ticked_eq]
      rfl
    rw [fullDetection_charging, kept]
  change gradeTest (putChg (fullDetection (charging d (c.ticked d.sns.uptime) sched 0)).chg.graded
    (fullDetection (charging d (c.ticked d.sns.uptime) sched 0))) = _
  unfold chargeStaged
  rw [detected, ← uv, ← Charge.tallied_uv c d.sns.uptime, Nat.zero_add]
  refine (gradeTest_charging d { c.tallied d.sns.uptime with causes := listed } sched (if full then 1 else 0)).trans ?_
  unfold gradedRecord gradedCauses
  rw [← causes]
  rfl

/-- R41: a tick with a short history publishes what it derives, and hands nothing on. -/
theorem accountingTick_short {d : Device} (h : d.chg.history.length ≠ 10) :
    accountingTick d = { d with chg := (tempered d).derived, sched := { d.sched with chgTick := false } } := by
  unfold accountingTick
  rw [withTemp_eq]
  refine (congrArg (publishCharge _ _) (if_neg h)).trans ((publishCharge_graded rfl).trans ?_)
  exact congrArg (fun n => { d with
    chg := (tempered d).derived
    sched := { d.sched with chgTick := false }
    bgt := { d.bgt with passesDue := n } }) (congrArg (d.bgt.passesDue + ·) (if_pos rfl))

/-- R36: the record that a tick with a full history publishes. -/
def ticksTo (d : Device) : Charge :=
  gradedRecord d ((tempered d).tallied d.sns.uptime) (600 ≤ ((tempered d).ticked d.sns.uptime).fullRun)

/-- R36: a tick with a full history, published. -/
theorem accountingTick_full {d : Device} (h : d.chg.history.length = 10) :
    accountingTick d = publishCharge d.chg.known d.chg.uv (chargeStaged d (ticksTo d) { d.sched with chgTick := false }
      (600 ≤ ((tempered d).ticked d.sns.uptime).fullRun)) := by
  unfold accountingTick
  rw [withTemp_eq]
  refine congrArg (publishCharge _ _) ((if_pos h).trans ?_)
  exact countingTick_charging (c := tempered d) { d.sched with chgTick := false } rfl rfl

theorem accountingTick_publishes {d : Device} (h : d.chg.history.length = 10) :
    (accountingTick d).chg = (ticksTo d).derived ∧ (accountingTick d).sched = { d.sched with chgTick := false } ∧
      handsOn d (accountingTick d) (looksCharged d.chg ∧ 600 ≤ d.chg.fullRun + 1) := by
  obtain ⟨record, sched, handed⟩ := publishCharge_staged (d := d) (c := ticksTo d) { d.sched with chgTick := false }
    (full := 600 ≤ ((tempered d).ticked d.sns.uptime).fullRun) fun x => by
      have same : d.chg.uv = ((tempered d).tallied d.sns.uptime).uv := (Charge.tallied_uv (tempered d) _).symm
      rw [same]
      exact mem_gradedCauses d _ _ x
  rw [accountingTick_full h]
  exact ⟨record, sched, handsOn_congr (Charge.ticked_full (tempered d) d.sns.uptime) handed⟩

/-- R43, R44: the state and the runs that a tick with a full history leaves. -/
theorem ticksTo_graded (d : Device) :
    let r := runsAfter d.chg.uv d.chg.runs (ticksTo d).vcomp (warnOf d.chg.battery) (cutOf d.chg.battery)
    (ticksTo d).uv = gradedState d.chg.uv r ∧ (ticksTo d).runs = runsGraded d.chg.uv (ticksTo d).uv r := by
  have kept := Charge.tallied_only (tempered d) d.sns.uptime
  unfold ticksTo
  generalize (tempered d).tallied d.sns.uptime = tally at *
  have uv : tally.uv = d.chg.uv := congrArg (·.uv) kept
  have runs : tally.runs = runsAfter d.chg.uv d.chg.runs tally.vcomp (warnOf d.chg.battery) (cutOf d.chg.battery) :=
    congrArg (·.runs) kept
  have graded : gradedState tally.uv tally.runs = gradedState d.chg.uv _ := congrArg₂ gradedState uv runs
  refine ⟨graded, ?_⟩
  change runsGraded tally.uv (gradedState tally.uv tally.runs) tally.runs = runsGraded d.chg.uv (gradedState _ _) _
  rw [uv, runs]
  rfl

theorem accountingTick_sns (d : Device) : (accountingTick d).sns = d.sns := by
  by_cases whole : d.chg.history.length = 10
  · rw [accountingTick_full whole, publishCharge_sns]
    rfl
  · rw [accountingTick_short whole]

/-! ## The stages that GRADING_RUN_COMPLETE and FULL_CHARGE_DETECTION test again (R44, R45, log 1) -/

theorem gradingComplete_still {d : Device} (h : gradedState d.chg.uv d.chg.runs = d.chg.uv) : gradingComplete d = d := by
  unfold gradingComplete
  rw [gradeChange_eq, if_pos h]

theorem gradingComplete_publishes {d : Device} (h : gradedState d.chg.uv d.chg.runs ≠ d.chg.uv) :
    (gradingComplete d).chg = (gradedRecord d d.chg False).derived ∧ (gradingComplete d).sched = d.sched ∧
      handsOn d (gradingComplete d) False := by
  have staged : gradingComplete d =
      publishCharge d.chg.known d.chg.uv (chargeStaged d (gradedRecord d d.chg False) d.sched False) := by
    unfold gradingComplete
    rw [gradeChange_eq, if_neg h]
    exact congrArg (publishCharge _ _) (gradeTest_charging d d.chg d.sched 0)
  rw [staged]
  exact publishCharge_staged d.sched (mem_gradedCauses d False _)

/-- R45, R49: the record of a full charge detected. -/
def detectedRecord (d : Device) : Charge :=
  { d.chg with
    q := d.chg.battery.capacity
    acc := 0
    known := true
    lastFull := some d.sns.uptime
    fullRun := 0
    causes := causesWith d .full d.chg.causes }

theorem fullChargeReached_publishes {d : Device} (h : 600 ≤ d.chg.fullRun) :
    (fullChargeReached d).chg = (detectedRecord d).derived ∧ (fullChargeReached d).sched = d.sched ∧
      handsOn d (fullChargeReached d) True := by
  have same : (detectedRecord d).uv = d.chg.uv := rfl
  have detected : fullDetection d = chargeStaged d (detectedRecord d) d.sched True := by
    have tested := fullDetection_charging d d.chg d.sched 0
    rw [Charge.detected, if_pos h, if_pos h, if_pos h] at tested
    unfold chargeStaged
    rw [if_neg (not_not.2 same), if_neg (not_not.2 same)]
    exact tested
  have staged : fullChargeReached d = publishCharge d.chg.known d.chg.uv (chargeStaged d (detectedRecord d) d.sched True) :=
    (if_pos h).trans (congrArg (publishCharge _ _) detected)
  rw [staged]
  refine publishCharge_staged d.sched fun x => ?_
  simpa [detectedRecord] using mem_causesWith

end Sys2Proof.Machine

namespace Sys2Proof.Proofs

open Sys2Proof Sys2Proof.Machine Sys2Proof.Stated

/-- Settles O18: the tick by whether its history is full, the count by whether it detects a full charge. -/
theorem accountingTickCountsCharge : Obligations.AccountingTickCountsCharge := by
  intro s
  refine runs_of_eq (f := accountingTick) rfl rfl ?_
  obtain ⟨vbl, rtm, pins⟩ : (accountingTick s.dev).vbl = s.dev.vbl ∧ (accountingTick s.dev).rtm = s.dev.rtm ∧
      (accountingTick s.dev).pins = s.dev.pins := by simp
  have sns := accountingTick_sns s.dev
  by_cases whole : s.dev.chg.history.length = 10
  · obtain ⟨record, -⟩ := accountingTick_publishes whole
    have kept := Charge.tallied_only (tempered s.dev) s.dev.sns.uptime
    have fills := Charge.tallied_full (c := tempered s.dev) s.dev.sns.uptime
    have counts := Charge.tallied_counts (c := tempered s.dev) s.dev.sns.uptime
    unfold ticksTo at record
    generalize (tempered s.dev).tallied s.dev.sns.uptime = tally at *
    dsimp only
    rw [record]
    exact ⟨congrArg (·.temp) kept, congrArg (·.tempFallback) kept, congrArg (·.battery) kept, congrArg (·.history) kept,
      derivedFits_derived _, fun _ => ⟨congrArg (·.current) kept, congrArg (·.voltage) kept, congrArg (·.vcomp) kept,
        congrArg (·.lastFullTick) kept, fills, counts⟩, fun short => absurd whole short, sns, vbl, rtm, pins⟩
  · have record : (accountingTick s.dev).chg = (tempered s.dev).derived := by rw [accountingTick_short whole]
    dsimp only
    rw [record]
    exact ⟨rfl, rfl, rfl, rfl, derivedFits_derived _, fun full => absurd full whole, fun _ => rfl, sns, vbl, rtm, pins⟩

/-- Settles O19: the tick and the two stages tested again, each by the record it publishes. -/
theorem gradingFollowsRuns : Obligations.GradingFollowsRuns := by
  intro s
  refine ⟨runs_of_eq (f := accountingTick) rfl rfl ⟨?_, fun whole => ?_, fun short => ?_⟩,
    runs_of_eq (f := gradingComplete) rfl rfl ?_, runs_of_eq (f := fullChargeReached) rfl rfl ⟨fun low => ?_, fun high => ?_⟩⟩
  · by_cases whole : s.dev.chg.history.length = 10
    · exact (accountingTick_publishes whole).2.1
    · rw [accountingTick_short whole]
  · obtain ⟨record, -, handed⟩ := accountingTick_publishes whole
    obtain ⟨uv, runs⟩ := ticksTo_graded s.dev
    refine ⟨?_, ?_, handed⟩
    · rw [record]
      exact uv
    · rw [record]
      exact runs
  · rw [accountingTick_short short]
  · by_cases still : gradedState s.dev.chg.uv s.dev.chg.runs = s.dev.chg.uv
    · rw [gradingComplete_still still]
      exact ⟨still.symm, fun _ => rfl, fun moved => absurd rfl moved⟩
    · obtain ⟨record, sched, handed⟩ := gradingComplete_publishes still
      rw [record]
      exact ⟨rfl, fun same => absurd same still, fun _ => ⟨rfl, derivedFits_derived _, sched, handed⟩⟩
  · exact if_neg (Nat.not_le.2 low)
  · obtain ⟨record, sched, handed⟩ := fullChargeReached_publishes high
    rw [record]
    exact ⟨rfl, derivedFits_derived _, sched, handed⟩

end Sys2Proof.Proofs
end

section
/-! PROOFS. SET_CHARGE and BATTERY_CONFIG (R38, R39, R46, R47, R49). -/

namespace Sys2Proof.Machine

open Sys2Proof.Stated

/-! ## The bodies (R39, R46) -/

/-- R39: the record of a SET_CHARGE taken. -/
def chargeSet (soc : Nat) (c : Charge) : Charge := { c with q := c.battery.capacity * soc / 1000, acc := 0, known := true }

theorem setChargeRequest_taken {soc : Nat} (h : soc ≤ 1000) (d : Device) : setChargeRequest (u16 soc) d =
    taken (publishCharge d.chg.known d.chg.uv
      (charging d { chargeSet soc d.chg with causes := causesWith d .set d.chg.causes } d.sched 1)) [] := by
  have read : wordAt (u16 soc) 0 = soc := le2_read (by omega)
  have posted := postCharge_charging .set d (chargeSet soc d.chg) d.sched 0
  refine (if_neg (not_not.2 rfl)).trans ?_
  rw [read, if_neg (Nat.not_lt.2 h)]
  exact congrArg (fun t => taken (publishCharge d.chg.known d.chg.uv t) []) posted

theorem setChargeRequest_refused {body : List Byte} (length : body.length = 2) (high : 1000 < num2 body 0) (d : Device) :
    setChargeRequest body d = refuse .badValue d := (if_neg (not_not.2 length)).trans (if_pos high)

/-- The body of BATTERY_CONFIG that carries a description (R46). -/
def batteryBytes (b : Battery) : List Byte :=
  u8 b.system ++ u32 b.capacity ++ u16 b.reserve ++ u8 b.resistance ++ u16 b.vWarn ++ u16 b.vCut ++ u16 b.vFull ++ u16 b.tail

/-- R46: the two checks of a description in the words of the statements. -/
theorem battery_good_iff (b : Battery) :
    (batteryInRange b = true ∧ (decide (b.cut < b.warn) && decide (b.warn < b.full)) = true) ↔ describable b := by
  have threshold (system : b.system = 12 ∨ b.system = 24) (v : Nat) : goodThreshold b.system v = true ↔
      v = 0 ∨ (b.system = 12 ∧ liesIn 9000 16000 v) ∨ (b.system = 24 ∧ liesIn 18000 32000 v) := by
    obtain twelve | twentyFour := system
    · simp [goodThreshold, within, liesIn, twelve]
    · simp [goodThreshold, within, liesIn, twentyFour]
  have rising : (decide (b.cut < b.warn) && decide (b.warn < b.full)) = true ↔ cutOf b < warnOf b ∧ warnOf b < fullOf b := by
    rw [Bool.and_eq_true, decide_eq_true_eq, decide_eq_true_eq]
    rfl
  rw [rising]
  simp only [batteryInRange, describable, within, Bool.and_eq_true, Bool.or_eq_true, decide_eq_true_eq, List.forall_mem_cons,
    List.not_mem_nil, false_imp_iff, implies_true, and_true]
  constructor
  · rintro ⟨⟨⟨⟨⟨⟨⟨⟨system, capacity⟩, reserve⟩, resistance⟩, tail⟩, vWarn⟩, vCut⟩, vFull⟩, rises⟩
    exact ⟨system, capacity, reserve, resistance, tail, ⟨(threshold system _).1 vWarn, (threshold system _).1 vCut,
      (threshold system _).1 vFull⟩, rises⟩
  · rintro ⟨system, capacity, reserve, resistance, tail, ⟨vWarn, vCut, vFull⟩, rises⟩
    exact ⟨⟨⟨⟨⟨⟨⟨⟨system, capacity⟩, reserve⟩, resistance⟩, tail⟩, (threshold system _).2 vWarn⟩,
      (threshold system _).2 vCut⟩, (threshold system _).2 vFull⟩, rises⟩

/-- R46: a description that a body carries is read back. -/
theorem batteryOf_bytes {b : Battery} (good : describable b) : batteryOf (batteryBytes b) = b := by
  obtain ⟨system, capacity, reserve, resistance, tail, thresholds, -⟩ := good
  have small {v : Nat} (h : v ∈ [b.vWarn, b.vCut, b.vFull]) : v < 65536 := by
    have := thresholds v h
    unfold liesIn at this
    omega
  have system' : byteAt (batteryBytes b) 0 = b.system := byte_read (by omega)
  have capacity' : longAt (batteryBytes b) 1 = b.capacity := le4_read (by have := capacity.2; omega)
  have reserve' : wordAt (batteryBytes b) 5 = b.reserve := le2_read (by have := reserve.2; omega)
  have resistance' : byteAt (batteryBytes b) 7 = b.resistance := byte_read (by omega)
  have vWarn : wordAt (batteryBytes b) 8 = b.vWarn := le2_read (small (by simp))
  have vCut : wordAt (batteryBytes b) 10 = b.vCut := le2_read (small (by simp))
  have vFull : wordAt (batteryBytes b) 12 = b.vFull := le2_read (small (by simp))
  have tail' : wordAt (batteryBytes b) 14 = b.tail := le2_read (by omega)
  rw [batteryOf, system', capacity', reserve', resistance', vWarn, vCut, vFull, tail']

/-- R47: the record under a new description. -/
def described (b : Battery) (c : Charge) : Charge :=
  { c with
    battery := b
    known := if b.capacity = c.battery.capacity then c.known else false
    q := if b.capacity = c.battery.capacity then c.q else 0
    acc := if b.capacity = c.battery.capacity then c.acc else 0
    runs := if warnOf b = warnOf c.battery ∧ cutOf b = cutOf c.battery then c.runs else noRuns
    fullRun := if fullOf b = fullOf c.battery ∧ tailOf b = tailOf c.battery then c.fullRun else 0 }

theorem described_eq (c : Charge) (b : Battery) : c.described b = described b c := by
  have known : (c.known && decide (b.capacity = c.battery.capacity)) =
      if b.capacity = c.battery.capacity then c.known else false := by
    split_ifs with same <;> simp [same]
  unfold Charge.described described
  simp only [known, Bool.and_eq_true, decide_eq_true_eq]
  rfl

theorem batteryConfigRequest_taken {b : Battery} (good : describable b) (d : Device) :
    let c := described b d.chg
    batteryConfigRequest (batteryBytes b) d = taken (publishCharge d.chg.known d.chg.uv
      (charging d { c with causes := if c.known = d.chg.known then d.chg.causes else causesWith d .capacity d.chg.causes } d.sched
        (if c.known = d.chg.known then 0 else 1))) [] := by
  intro c
  obtain ⟨range, rises⟩ := (battery_good_iff b).2 good
  have posted : (if c.known = d.chg.known then putChg c d else postCharge .capacity (putChg c d)) =
      charging d { c with causes := if c.known = d.chg.known then d.chg.causes else causesWith d .capacity d.chg.causes } d.sched
        (if c.known = d.chg.known then 0 else 1) := by
    by_cases same : c.known = d.chg.known
    · rw [if_pos same, if_pos same, if_pos same]
      rfl
    · rw [if_neg same, if_neg same, if_neg same]
      exact postCharge_charging .capacity d c d.sched 0
  refine (if_neg (not_not.2 rfl)).trans ?_
  rw [batteryOf_bytes good]
  dsimp only
  rw [range, rises, described_eq]
  exact congrArg (fun t => taken (publishCharge d.chg.known d.chg.uv t) []) posted

theorem batteryConfigRequest_refused {body : List Byte} (length : body.length = 16) (bad : ¬describable (batteryIn body))
    (d : Device) : batteryConfigRequest body d = refuse .badValue d := by
  refine (if_neg (not_not.2 length)).trans ?_
  by_cases range : batteryInRange (batteryOf body) = true
  · refine (if_neg (by simp [range])).trans (if_pos ?_)
    rw [Bool.not_eq_true', ← Bool.not_eq_true]
    exact fun rises => bad ((battery_good_iff _).1 ⟨range, rises⟩)
  · exact if_pos (by simpa using range)

/-! ## A count or a description taken (R38, R41, R49) -/

/-- R191: postings read the notices that stand and the kinds enabled. -/
theorem repeat_post_notices_congr {d t : Device} (k : NoticeKind) (n : Nat) (enables : t.lnk.enables = d.lnk.enables)
    (notices : t.lnk.notices = d.lnk.notices) :
    (Nat.repeat (post k) n t).lnk.notices = (Nat.repeat (post k) n d).lnk.notices := by
  induction n with
  | zero => exact notices
  | succ n ih =>
    refine post_notices_congr k ?_ ih
    rw [repeat_post_lnk k n t, repeat_post_lnk k n d]
    exact enables

/-- R41, R49: the part once a record with the same undervoltage state is published, CHARGE_STATE posted `n` times before. -/
theorem publishCharge_charging {d : Device} {c : Charge} (uv : c.uv = d.chg.uv) (n : Nat) :
    publishCharge d.chg.known d.chg.uv (charging d c d.sched n) = { d with
      chg := c.derived
      bgt := { d.bgt with passesDue := d.bgt.passesDue + (if c.known = d.chg.known then 0 else 1) }
      lnk := { d.lnk with notices := (Nat.repeat (post .chargeState) n d).lnk.notices } } := by
  rw [publishCharge_graded (d := charging d c d.sched n) uv, ← repeat_post_lnk]
  rfl

/-- R38, R39, R47, R186: a request whose record, with the undervoltage state as it was, is published after `n` postings of
CHARGE_STATE. -/
theorem serve_charges {d u : Device} (free : noneInHand d) {kind tag : Byte} {body : List Byte}
    (heard_ : u = { d with lnk := heard d { kind := kind, tag := tag, body := body } }) {owner : List Byte → Device → Answered}
    {c : Charge} {n : Nat} (ha : owner body u = taken (publishCharge u.chg.known u.chg.uv (charging u c u.sched n)) [])
    (uv : c.uv = u.chg.uv) :
    let t := serve kind tag body owner d
    Replied d t kind tag body 0x00 [] ∧ t.chg = c.derived ∧
      t.lnk.notices = (Nat.repeat (post .chargeState) n d).lnk.notices ∧
      t = { d with
        chg := t.chg
        bgt := { d.bgt with passesDue := d.bgt.passesDue + (if c.known = d.chg.known then 0 else 1) }
        lnk := t.lnk } := by
  intro t
  rw [publishCharge_charging uv] at ha
  subst heard_
  obtain ⟨replied, same, posted⟩ := serve_taken free (kind := kind) (tag := tag) ha rfl rfl
  have record : t.chg = c.derived := congrArg (·.chg) same
  refine ⟨replied, record, posted.trans (repeat_post_notices_congr _ _ rfl rfl), ?_⟩
  rw [record]
  exact same

end Sys2Proof.Machine

namespace Sys2Proof.Proofs

open Sys2Proof Sys2Proof.Machine Sys2Proof.Stated

/-- Settles O20: each request by the record it publishes. -/
theorem chargeRequestsSetCount : Obligations.ChargeRequestsSetCount := by
  intro s tag free
  refine ⟨fun soc inRange => ?_, fun b good => ?_, fun body => ⟨fun length high => ?_, fun length bad => ?_⟩⟩
  · let u : Device := { s.dev with lnk := heard s.dev { kind := 0x15, tag := tag, body := u16 soc } }
    obtain ⟨replied, record, posted, same⟩ := serve_charges (u := u) free rfl (setChargeRequest_taken inRange u) rfl
    refine runs_of_eq (f := serve 0x15 tag (u16 soc) setChargeRequest) rfl rfl ?_
    generalize serve 0x15 tag (u16 soc) setChargeRequest s.dev = t at *
    refine ⟨replied, ?_, ?_, ⟨posted, fun x => ?_⟩, ?_⟩
    · rw [record]
      rfl
    · rw [record]
      exact derivedFits_derived _
    · rw [record]
      exact mem_causesWith (d := u)
    · rw [if_congr (eq_comm (a := s.dev.chg.known)) rfl rfl]
      exact same
  · intro body
    let u : Device := { s.dev with lnk := heard s.dev { kind := 0x14, tag := tag, body := body } }
    obtain ⟨replied, record, posted, same⟩ := serve_charges (u := u) free rfl (batteryConfigRequest_taken good u) rfl
    refine runs_of_eq (f := serve 0x14 tag body batteryConfigRequest) rfl rfl ?_
    generalize serve 0x14 tag body batteryConfigRequest s.dev = t at *
    have status : t.chg.known = (described b s.dev.chg).known := by
      rw [record]
      rfl
    refine ⟨replied, ?_, ?_, fun moved => ⟨?_, fun x => ?_⟩, fun stays => ⟨?_, ?_⟩, ?_⟩
    · rw [record]
      rfl
    · rw [record]
      exact derivedFits_derived _
    · rw [posted, if_neg (status ▸ moved)]
      rfl
    · have causes : t.chg.causes = causesWith u .capacity u.chg.causes := by
        rw [record]
        exact if_neg (status ▸ moved)
      rw [causes]
      exact mem_causesWith (d := u)
    · rw [record]
      exact if_pos (status ▸ stays)
    · rw [posted, if_pos (status ▸ stays)]
      rfl
    · rw [status]
      exact same
  · exact runs_of_eq (f := serve 0x15 tag body setChargeRequest) rfl rfl
      (serve_refused free (setChargeRequest_refused length high _) rfl)
  · exact runs_of_eq (f := serve 0x14 tag body batteryConfigRequest) rfl rfl
      (serve_refused free (batteryConfigRequest_refused length bad _) rfl)

end Sys2Proof.Proofs
end

section
/-! PROOFS. The Load Table and the allowance stay sound: the reasoning rules of the operations on them (R53, R54, R63 to R67). -/

namespace Sys2Proof.Machine

/-! ## The Load Table's shape (R53, R71) -/

/-- Section 4.1: the number of steps of a load's list. -/
def loadSteps : Load → Nat
  | .base => 1
  | .heater => 7
  | .compressor => 5
  | .lights => 4
  | .outlet => 2
  | .warning => 1

/-- R53: the ranks of a table: none for the protected entries, 1 to 4 for the sheddable ones. -/
def LoadTable.ranked (t : LoadTable) : Prop :=
  t.base.rank = none ∧ t.warning.rank = none ∧ ∀ r ∈ [1, 2, 3, 4], ∃ l ∈ sheddable, (t.get l).rank = some r

theorem LoadTable.sound_iff (t : LoadTable) : t.sound ↔ (∀ l, (t.get l).sound (loadSteps l)) ∧ t.ranked := by
  constructor
  · intro ⟨base, heater, compressor, lights, outlet, warning, ranks⟩
    refine ⟨fun l => ?_, ranks⟩
    cases l <;> assumption
  · intro ⟨entries, ranks⟩
    exact ⟨entries .base, entries .heater, entries .compressor, entries .lights, entries .outlet, entries .warning, ranks⟩

theorem LoadTable.sound.entry {t : LoadTable} (h : t.sound) (l : Load) : (t.get l).sound (loadSteps l) :=
  (t.sound_iff.1 h).1 l

/-- A table of the same ranks is as well ranked. -/
theorem LoadTable.ranked.congr {t u : LoadTable} (same : ∀ l, (u.get l).rank = (t.get l).rank) (h : t.ranked) : u.ranked := by
  obtain ⟨base, warning, ranks⟩ := h
  refine ⟨(same .base).trans base, (same .warning).trans warning, fun r hr => ?_⟩
  obtain ⟨l, hl, rank⟩ := ranks r hr
  exact ⟨l, hl, (same l).trans rank⟩

/-- A sound table whose entries are replaced by sound ones of the same ranks is sound. -/
theorem LoadTable.sound.congr {t u : LoadTable} (h : t.sound) (entries : ∀ l, (u.get l).sound (loadSteps l))
    (same : ∀ l, (u.get l).rank = (t.get l).rank) : u.sound :=
  u.sound_iff.2 ⟨entries, (t.sound_iff.1 h).2.congr same⟩

theorem LoadTable.sound.put {t : LoadTable} (h : t.sound) {l : Load} {e : Entry} (he : e.sound (loadSteps l))
    (rank : e.rank = (t.get l).rank) : (t.put l e).sound := by
  refine h.congr (fun m => ?_) (fun m => ?_) <;> rw [loadTable_get_put] <;> split
  · next same => exact same ▸ he
  · exact h.entry m
  · next same => exact same ▸ rank
  · rfl

/-- R54: a write leaves a sound entry sound. -/
theorem Entry.sound.written {e : Entry} {n : Nat} (h : e.sound n) (requested floor uptime : Nat) :
    (e.written requested floor uptime).sound n := by
  obtain ⟨length, -, -, last⟩ := h
  obtain ⟨low, high, within, steps, -⟩ := written_sound e requested floor uptime
  exact ⟨steps ▸ length, low, high, by omega⟩

/-! ## The allowance (R63 to R67) -/

/-- An allowance whose waiting loads keep their grants is as sound. -/
theorem Allowance.sound.congr {a : Allowance} {t u : LoadTable} (h : a.sound t)
    (granted : ∀ l ∈ a.waiting, 0 < (t.get l).granted → 0 < (u.get l).granted) : a.sound u := by
  obtain ⟨nodup, waiting, rest⟩ := h
  exact ⟨nodup, fun l hl => ⟨(waiting l hl).1, (waiting l hl).2.1, granted l hl (waiting l hl).2.2⟩, rest⟩

/-- R67: an allowance that some loads no longer wait for is as sound, if those that still do have grants. -/
theorem Allowance.sound.filter {a : Allowance} {t u : LoadTable} (h : a.sound t) (p : Load → Bool)
    (granted : ∀ l ∈ a.waiting, p l = true → 0 < (t.get l).granted → 0 < (u.get l).granted) :
    Allowance.sound { a with waiting := a.waiting.filter p } u := by
  obtain ⟨nodup, waiting, free, rest⟩ := h
  refine ⟨nodup.filter p, fun l hl => ?_, fun hf => ?_, rest⟩
  · obtain ⟨mem, kept⟩ := List.mem_filter.1 hl
    obtain ⟨other, inrush, pos⟩ := waiting l mem
    exact ⟨other, inrush, granted l mem kept pos⟩
  · change a.waiting.filter p = []
    rw [free hf, List.filter_nil]

/-- R64: the allowance given to a load that does not wait for it. -/
theorem Allowance.sound.give {a : Allowance} {t : LoadTable} (h : a.sound t) {l : Load} (inrush : l ∈ inrushLoads)
    (apart : l ∉ a.waiting) (ms : Nat) : (a.give l ms).sound t := by
  obtain ⟨nodup, waiting, -⟩ := h
  refine ⟨nodup, fun m hm => ⟨?_, (waiting m hm).2⟩, nofun, fun m hm => ?_, ?_, ?_⟩
  · rintro ⟨⟩
    exact apart hm
  · cases hm
    exact inrush
  · simp [AllowanceState.holder]
  · simp

/-- R65, R66: the holder's release. -/
theorem Allowance.sound.release {a : Allowance} {t : LoadTable} (h : a.sound t) (ms : Nat) : (a.release ms).sound t := by
  obtain ⟨nodup, waiting, -⟩ := h
  refine ⟨nodup, fun m hm => ⟨nofun, (waiting m hm).2⟩, nofun, nofun, ?_, ?_⟩ <;> simp [AllowanceState.holder]

/-- R64: a load that asks for an allowance that is not FREE is appended to the list. -/
theorem Allowance.sound.append {a : Allowance} {t : LoadTable} (h : a.sound t) {l : Load} (inrush : l ∈ inrushLoads)
    (apart : l ∉ a.waiting) (other : a.state ≠ .held l) (taken : a.state ≠ .free) (granted : 0 < (t.get l).granted) :
    Allowance.sound { a with waiting := a.waiting ++ [l] } t := by
  obtain ⟨nodup, waiting, -, rest⟩ := h
  refine ⟨?_, fun m hm => ?_, fun hf => absurd hf taken, rest⟩
  · exact nodup.append (List.nodup_singleton l) (by simpa using apart)
  · rcases List.mem_append.1 hm with hm | hm
    · exact waiting m hm
    · rw [List.mem_singleton.1 hm]
      exact ⟨other, inrush, granted⟩

/-! ## The operations on them -/

/-- Soundness reads the table and the allowance alone. -/
theorem budgetSound_of_same {d t : Device} (table : t.bgt.table = d.bgt.table) (allowance : t.bgt.allowance = d.bgt.allowance)
    (h : budgetSound d) : budgetSound t := by
  rwa [budgetSound, table, allowance]

theorem leaveWaiting_sound {d : Device} (l : Load) (h : budgetSound d) : budgetSound (leaveWaiting l d) :=
  ⟨h.1, h.2.filter _ fun _ _ _ pos => pos⟩

theorem withdrawAllowance_sound {d : Device} (l : Load) (h : budgetSound d) : budgetSound (withdrawAllowance l d) := by
  obtain ⟨-, eq⟩ | ⟨-, eq⟩ := withdrawAllowance_cases l d <;> rw [eq]
  · exact ⟨h.1, h.2.release _⟩
  · exact leaveWaiting_sound l h

theorem requestAllowance_sound {d : Device} {l : Load} (inrush : l ∈ inrushLoads) (h : budgetSound d) :
    budgetSound (requestAllowance l d).1 := by
  obtain ⟨table, allowance⟩ := h
  obtain ⟨-, eq⟩ | ⟨-, -, -, eq⟩ | ⟨-, apart, -, granted, -, eq⟩ | ⟨other, apart, -, granted, taken, eq⟩ :=
    requestAllowance_cases l d <;> rw [eq]
  · exact ⟨table, allowance⟩
  · exact ⟨table, allowance⟩
  · exact ⟨table, allowance.give inrush (of_decide_eq_false apart) _⟩
  · exact ⟨table, allowance.append inrush (of_decide_eq_false apart) (of_decide_eq_false other) taken (Nat.pos_of_ne_zero granted)⟩

/-- R54, R67: a load's write keeps the table sound, and a waiting load whose grant it takes away leaves the list. -/
theorem writeEntry_sound {d : Device} (l : Load) (requested floor : Nat) (h : budgetSound d) :
    budgetSound (writeEntry l requested floor d) := by
  have waits := waitsGranted_of_sound h l
  obtain ⟨table, allowance⟩ := h
  rw [writeEntry_eq waits]
  refine ⟨table.put (written_eq .. ▸ (table.entry l).written ..) rfl, ?_⟩
  unfold entryWrites
  dsimp only
  split
  · refine allowance.filter _ fun m _ other pos => ?_
    rw [loadTable_get_put, if_neg (of_decide_eq_true other)]
    exact pos
  · next kept =>
    refine allowance.congr fun m _ pos => ?_
    rw [loadTable_get_put]
    split
    · exact Nat.pos_of_ne_zero kept
    · exact pos

/-- R76: a table of six levels gives HEATER a list of seven steps. -/
theorem putHeatTable_sound {d : Device} {table : List HeatLevel} (six : table.length = 6) (h : budgetSound d) :
    budgetSound (putHeatTable table d) := by
  obtain ⟨sound, allowance⟩ := h
  obtain ⟨-, low, high, last⟩ := sound.entry .heater
  have steps : (heaterSteps table).length = 7 := by rw [heaterSteps, List.length_cons, List.length_map, six]
  refine ⟨LoadTable.sound.put (l := .heater) sound ⟨steps, low, high, last⟩ rfl, allowance.congr fun m _ pos => ?_⟩
  cases m <;> exact pos

end Sys2Proof.Machine
end

section
/-! PROOFS. What each load commands stays within its grant, and HEATER's entry asks what its state gives (R55, R79, R91): the relation
that every operation keeps, and the operations of the heater. -/

namespace Sys2Proof.Machine

/-! ## What a load obeys -/

/-- R55, R79, R91: a load commands no more than its granted step, and HEATER's entry asks what the heater's state gives. -/
def obeys (l : Load) (d : Device) : Prop :=
  match l with
  | .heater => levelHeld d ∧ entryAsked d
  | .compressor => d.cmp.commanded ≤ d.bgt.table.compressor.granted
  | .lights => d.lgt.capStep ≤ d.bgt.table.lights.granted
  | .outlet => relayClosed d = true → d.bgt.table.outlet.granted ≠ 0
  | .base | .warning => True

theorem grantsObeyed_iff (d : Device) : grantsObeyed d ↔ ∀ l, obeys l d := by
  constructor
  · intro ⟨level, asked, comp, lights, outlet⟩ l
    cases l
    case heater => exact ⟨level, asked⟩
    all_goals trivial
  · intro h
    exact ⟨(h .heater).1, (h .heater).2, h .compressor, h .lights, h .outlet⟩

/-- R77: every level limit is at least 1. -/
def limitsHeld (d : Device) : Prop := 1 ≤ d.htr.limits.hostMax ∧ 1 ≤ d.htr.limits.quietMax ∧ 1 ≤ d.htr.limits.fallback

/-- How much of what HEATER obeys holds: the limits alone; the entry as well; the level as well. -/
inductive HeaterStage where
  | limited | asked | obeyed

/-- What a stage says of the part. -/
def HeaterStage.holds : HeaterStage → Device → Prop
  | .limited, d => limitsHeld d
  | .asked, d => limitsHeld d ∧ entryAsked d
  | .obeyed, d => obeys .heater d

theorem obeyed_asked {d : Device} (h : HeaterStage.obeyed.holds d) : HeaterStage.asked.holds d := by
  obtain ⟨⟨host, quiet, fallback, -⟩, asked⟩ := h
  exact ⟨⟨host, quiet, fallback⟩, asked⟩

theorem HeaterStage.limited_of {v : HeaterStage} {d : Device} (h : v.holds d) : HeaterStage.limited.holds d := by
  cases v with
  | limited => exact h
  | asked => exact h.1
  | obeyed => exact (obeyed_asked h).1

/-- With no level in force the entry is all that HEATER obeys. -/
theorem obeyed_of_asked {d : Device} (none' : levelInForce d = false) (h : HeaterStage.asked.holds d) :
    HeaterStage.obeyed.holds d := by
  obtain ⟨⟨host, quiet, fallback⟩, asked⟩ := h
  refine ⟨⟨host, quiet, fallback, fun force => ?_⟩, asked⟩
  simp [levelInForce] at none'
  exact (force.elim none'.1 none'.2).elim

/-! ## The relation that operations keep -/

/-- Going from `d` to `t` leaves a sound Load Budget sound, brings HEATER from one stage to another, and leaves every other load within
its grant. -/
structure KeepsBudget (v w : HeaterStage) (d t : Device) : Prop where
  sound : budgetSound d → budgetSound t
  heater : budgetSound d → v.holds d → w.holds t
  others : budgetSound d → ∀ l, l ≠ .heater → obeys l d → obeys l t

section relation
variable {u v w : HeaterStage} {d t x : Device}

theorem KeepsBudget.refl (d : Device) : KeepsBudget v v d d := ⟨id, fun _ => id, fun _ _ _ => id⟩

theorem KeepsBudget.trans (h : KeepsBudget u v d t) (k : KeepsBudget v w t x) : KeepsBudget u w d x where
  sound s := k.sound (h.sound s)
  heater s p := k.heater (h.sound s) (h.heater s p)
  others s l other p := k.others (h.sound s) l other (h.others s l other p)

/-- `trans` with the last operation first. -/
theorem KeepsBudget.after (k : KeepsBudget v w t x) (h : KeepsBudget u v d t) : KeepsBudget u w d x := h.trans k

/-- What needs the limits alone can start from every stage. -/
theorem KeepsBudget.of_limited (h : KeepsBudget .limited w d t) : KeepsBudget v w d t :=
  ⟨h.sound, fun s p => h.heater s (HeaterStage.limited_of p), h.others⟩

theorem KeepsBudget.of_asked (h : KeepsBudget .asked w d t) : KeepsBudget .obeyed w d t :=
  ⟨h.sound, fun s p => h.heater s (obeyed_asked p), h.others⟩

end relation

/-! ## What touches no load -/

/-- What HEATER's stages read is the same. -/
def sameHeater (d t : Device) : Prop :=
  t.htr.state = d.htr.state ∧ t.htr.wished = d.htr.wished ∧ t.htr.level = d.htr.level ∧ t.htr.limits = d.htr.limits ∧
  t.npl.quiet = d.npl.quiet ∧ t.bgt.table.heater = d.bgt.table.heater

/-- What the other loads' commands read is the same. -/
def sameOthers (d t : Device) : Prop :=
  t.cmp.commanded = d.cmp.commanded ∧ t.lgt.capStep = d.lgt.capStep ∧ t.bgt.outlet.state = d.bgt.outlet.state ∧
  t.bgt.table.compressor = d.bgt.table.compressor ∧ t.bgt.table.lights = d.bgt.table.lights ∧
  t.bgt.table.outlet = d.bgt.table.outlet

theorem sameHeater.holds {d t : Device} (same : sameHeater d t) (v : HeaterStage) (h : v.holds d) : v.holds t := by
  obtain ⟨state, wished, level, limits, quiet, entry⟩ := same
  cases v <;>
    simpa only [HeaterStage.holds, obeys, limitsHeld, levelHeld, entryAsked, maxAllowed, state, wished, level, limits, quiet,
      entry] using h

theorem sameOthers.obeys {d t : Device} (same : sameOthers d t) (l : Load) (other : l ≠ .heater) (h : obeys l d) : obeys l t := by
  obtain ⟨commanded, cap, outlet, compressor, lights, relay⟩ := same
  cases l
  case heater => exact absurd rfl other
  case base | warning => trivial
  all_goals simpa only [Machine.obeys, relayClosed, commanded, cap, outlet, compressor, lights, relay] using h

/-- What leaves HEATER's stages and the other loads alone keeps them, if it keeps the Load Budget sound. -/
theorem KeepsBudget.of_same {v : HeaterStage} {d t : Device} (sound : budgetSound d → budgetSound t) (heater : sameHeater d t)
    (others : sameOthers d t) : KeepsBudget v v d t :=
  ⟨sound, fun _ => heater.holds v, fun _ => others.obeys⟩

/-- What leaves the Load Budget's table and allowance, and what the loads command, keeps them. -/
theorem KeepsBudget.of_frame {v : HeaterStage} {d t : Device}
    (h : t.bgt.table = d.bgt.table ∧ t.bgt.allowance = d.bgt.allowance ∧ t.bgt.outlet.state = d.bgt.outlet.state ∧
      t.cmp.commanded = d.cmp.commanded ∧ t.lgt.capStep = d.lgt.capStep ∧
      t.htr.state = d.htr.state ∧ t.htr.wished = d.htr.wished ∧ t.htr.level = d.htr.level ∧ t.htr.limits = d.htr.limits ∧
      t.npl.quiet = d.npl.quiet) : KeepsBudget v v d t := by
  obtain ⟨table, allowance, outlet, commanded, cap, state, wished, level, limits, quiet⟩ := h
  exact .of_same (budgetSound_of_same table allowance) ⟨state, wished, level, limits, quiet, table ▸ rfl⟩
    ⟨commanded, cap, outlet, table ▸ rfl, table ▸ rfl, table ▸ rfl⟩

section primitives
variable {v : HeaterStage}

theorem post_budget (k : NoticeKind) (d : Device) : KeepsBudget v v d (post k d) := .of_frame (by simp)

theorem postIndication_budget (g : Source) (n : Nat) (new : Bool) (d : Device) : KeepsBudget v v d (postIndication g n new d) :=
  .of_frame (by simp)

theorem reach_budget (t : Nat) (d : Device) : KeepsBudget v v d (reach t d) := .of_frame (by simp)

/-- The allowance may change, if it stays sound. -/
theorem putAllowance_budget {a : Allowance} {d : Device} (h : budgetSound d → a.sound d.bgt.table) :
    KeepsBudget v v d (putAllowance a d) :=
  .of_same (fun s => ⟨s.1, h s⟩) ⟨rfl, rfl, rfl, rfl, rfl, rfl⟩ ⟨rfl, rfl, rfl, rfl, rfl, rfl⟩

theorem releaseAllowance_budget (l : Load) (d : Device) : KeepsBudget v v d (releaseAllowance l d) := by
  obtain ⟨-, eq⟩ | ⟨-, eq⟩ := releaseAllowance_cases l d <;> rw [eq]
  · exact putAllowance_budget fun s => s.2.release _
  · exact .refl d

theorem withdrawAllowance_budget (l : Load) (d : Device) : KeepsBudget v v d (withdrawAllowance l d) := by
  refine .of_same (withdrawAllowance_sound l) ?_ ?_ <;>
    obtain ⟨-, eq⟩ | ⟨-, eq⟩ := withdrawAllowance_cases l d <;> rw [eq] <;> exact ⟨rfl, rfl, rfl, rfl, rfl, rfl⟩

theorem requestAllowance_budget {l : Load} (inrush : l ∈ inrushLoads) (d : Device) :
    KeepsBudget v v d (requestAllowance l d).1 := by
  refine .of_same (requestAllowance_sound inrush) ?_ ?_ <;>
    obtain ⟨-, eq⟩ | ⟨-, -, -, eq⟩ | ⟨-, -, -, -, -, eq⟩ | ⟨-, -, -, -, -, eq⟩ := requestAllowance_cases l d <;> rw [eq] <;>
    exact ⟨rfl, rfl, rfl, rfl, rfl, rfl⟩

/-- The heater's record may change but for what HEATER's stages read. -/
theorem putHtr_budget {h : Heater} {d : Device}
    (same : h.state = d.htr.state ∧ h.wished = d.htr.wished ∧ h.level = d.htr.level ∧ h.limits = d.htr.limits) :
    KeepsBudget v v d (putHtr h d) := by
  obtain ⟨state, wished, level, limits⟩ := same
  exact .of_frame ⟨rfl, rfl, rfl, rfl, rfl, state, wished, level, limits, rfl⟩

theorem putHtrTimers_budget (t : HeaterTimers) (d : Device) : KeepsBudget v v d (putHtrTimers t d) :=
  putHtr_budget ⟨rfl, rfl, rfl, rfl⟩

theorem recordFault_budget (k : FaultKind) (d : Device) : KeepsBudget v v d (recordFault k d) :=
  .of_frame (by simp [recordFault])

/-- R76: a table of six levels leaves the entry's steps but for their currents. -/
theorem putHeatTable_budget {table : List HeatLevel} (six : table.length = 6) (d : Device) :
    KeepsBudget v v d (putHeatTable table d) where
  sound := putHeatTable_sound six
  heater _ h := by cases v <;> exact h
  others _ := sameOthers.obeys ⟨rfl, rfl, rfl, rfl, rfl, rfl⟩

theorem applyTableDefault_budget (d : Device) : KeepsBudget v v d (applyTableDefault d) := by
  unfold applyTableDefault
  split
  · exact putHeatTable_budget rfl d
  · exact .refl d

end primitives

/-! ## HEATER's entry (R54, R79) -/

/-- A heater's write leaves the other loads. -/
theorem writeHeater_others (d : Device) : sameOthers d (writeHeater d) := by
  have kept (m : Load) (other : m ≠ .heater) := writeEntry_get_other other (heaterAsk d.htr.state d.htr.wished).1
    (heaterAsk d.htr.state d.htr.wished).2 d
  exact ⟨by simp, by simp, by simp, kept .compressor (by decide), kept .lights (by decide), kept .outlet (by decide)⟩

/-- R54, R79: HEATER's entry after the heater's write asks what the heater's state gives. -/
theorem writeHeater_asked {d : Device} (sound : budgetSound d) : entryAsked (writeHeater d) := by
  obtain ⟨steps, -⟩ := sound.1.entry .heater
  have entry : (writeHeater d).bgt.table.heater =
      (d.bgt.table.get .heater).written (heaterAsk d.htr.state d.htr.wished).1 (heaterAsk d.htr.state d.htr.wished).2 d.sns.uptime :=
    writeEntry_get_self .heater ..
  unfold entryAsked
  rw [entry, show (writeHeater d).htr = d.htr by simp]
  dsimp only [Entry.written]
  rw [steps]
  cases d.htr.state <;> simp only [heaterAsk, loadSteps] <;> omega

theorem writeHeater_budget (d : Device) : KeepsBudget .limited .asked d (writeHeater d) where
  sound := writeEntry_sound .heater _ _
  heater s h := ⟨by simpa [HeaterStage.holds, limitsHeld] using h, writeHeater_asked s⟩
  others _ := (writeHeater_others d).obeys

end Sys2Proof.Machine
end

section
/-! PROOFS. The heater's operations keep the Load Budget sound and what the loads obey (R78 to R101). -/

namespace Sys2Proof.Machine

variable {v : HeaterStage}

/-! ## A state entered (R78, R79) -/

/-- The heater's record may change but for its limits, where only these are needed. -/
theorem putHtr_limited {h : Heater} (d : Device) (limits : h.limits = d.htr.limits) :
    KeepsBudget .limited .limited d (putHtr h d) where
  sound := id
  heater _ held := by
    change 1 ≤ h.limits.hostMax ∧ 1 ≤ h.limits.quietMax ∧ 1 ≤ h.limits.fallback
    rw [limits]
    exact held
  others _ := sameOthers.obeys ⟨rfl, rfl, rfl, rfl, rfl, rfl⟩

/-- A state entered, whose entry then asks what it gives. -/
theorem enterHeater_asked (st : HeaterState) (cause : HeaterCause) (d : Device) :
    KeepsBudget v .asked d (enterHeater st cause d) := by
  have written := (writeHeater_budget _).after (putHtr_limited (h := heaterMoved st cause d) d rfl)
  rw [enterHeater_eq]
  split
  · exact written.of_limited
  · exact (written.trans (post_budget ..)).of_limited

theorem enterHeater_state (st : HeaterState) (cause : HeaterCause) (d : Device) : (enterHeater st cause d).htr.state = st :=
  (enterHeater_outputs st cause d).1

/-- R78, R88, R91: a state entered other than RUN has no level in force, or level 1. -/
theorem enterHeater_budget (st : HeaterState) (other : st ≠ .run ∧ st ≠ .ramp) (cause : HeaterCause) (d : Device) :
    KeepsBudget v .obeyed d (enterHeater st cause d) := by
  obtain ⟨sound, heater, others⟩ := enterHeater_asked (v := v) st cause d
  exact ⟨sound, fun s h => obeyed_of_asked (by simp [levelInForce, enterHeater_state, other]) (heater s h), others⟩

theorem toOff_budget (cause : HeaterCause) (d : Device) : KeepsBudget v .obeyed d (toOff cause d) :=
  (applyTableDefault_budget _).after (enterHeater_budget .off (by decide) cause d)

theorem toLockout_budget (cause : HeaterCause) (d : Device) : KeepsBudget v .obeyed d (toLockout cause d) := by
  have entered : KeepsBudget v .obeyed d (enterHeater .lockout cause (withdrawAllowance .heater d)) :=
    (enterHeater_budget .lockout (by decide) cause _).after (withdrawAllowance_budget .heater d)
  exact (applyTableDefault_budget _).after (entered.trans (putHtr_budget ⟨rfl, rfl, rfl, rfl⟩))

theorem toPaused_budget (cause : HeaterCause) (d : Device) : KeepsBudget v .obeyed d (toPaused cause d) :=
  (enterHeater_budget .paused (by decide) cause d).trans (putHtr_budget ⟨rfl, rfl, rfl, rfl⟩)

theorem toPurge_budget (cause : HeaterCause) (d : Device) : KeepsBudget v .obeyed d (toPurge cause d) :=
  (enterHeater_budget .purge (by decide) cause d).trans (putHtrTimers_budget ..)

theorem toCooldown_budget (cause : CooldownCause) (d : Device) : KeepsBudget v .obeyed d (toCooldown cause d) := by
  unfold toCooldown
  extract_lets q _ d1 d2
  have recorded : KeepsBudget v v d d1 := putHtr_budget ⟨rfl, rfl, rfl, rfl⟩
  have entered : KeepsBudget v .obeyed d d2 :=
    (enterHeater_budget .cooldown (by decide) _ _).after (recorded.trans (releaseAllowance_budget .heater d1))
  exact entered.trans (putHtrTimers_budget ..)

theorem toGlow_budget (d : Device) : KeepsBudget v .obeyed d (toGlow d) :=
  (enterHeater_budget .glow (by decide) .none d).trans (putHtrTimers_budget ..)

theorem toIgnite_budget (d : Device) : KeepsBudget v .obeyed d (toIgnite d) :=
  (putHtrTimers_budget ..).after ((enterHeater_budget .ignite (by decide) .none d).trans (putHtr_budget ⟨rfl, rfl, rfl, rfl⟩))

/-- R82, R83: the answers to the heater's request. -/
theorem requestHeater_budget (d : Device) : KeepsBudget .obeyed .obeyed d (requestHeater d) := by
  have asked : KeepsBudget .obeyed .obeyed d (requestAllowance .heater d).1 := requestAllowance_budget (by decide) d
  unfold requestHeater
  split
  · next d1 h => rwa [h] at asked
  · next d1 h => rw [h] at asked; exact asked.trans (toGlow_budget d1)
  · next d1 h => rw [h] at asked; exact asked.trans (toOff_budget _ d1)

theorem toWait_budget (d : Device) : KeepsBudget v .obeyed d (toWait d) :=
  (requestHeater_budget _).after ((enterHeater_budget .waitInrush (by decide) .none d).trans (putHtrTimers_budget ..))

/-! ## The level in force (R88, R90, R91) -/

theorem levelInForce_iff (d : Device) : levelInForce d = true ↔ d.htr.state = .ramp ∨ d.htr.state = .run := by
  simp [levelInForce]

/-- R82: the maximum allowed level is at least 1. -/
theorem one_le_maxAllowed {d : Device} (h : limitsHeld d) : 1 ≤ maxAllowed d := by
  obtain ⟨host, quiet, -⟩ := h
  unfold maxAllowed
  split
  · exact Nat.le_min.2 ⟨host, quiet⟩
  · exact host

/-- R54, R79: with a level in force HEATER's grant is at least 1. -/
theorem one_le_granted {d : Device} (sound : budgetSound d) (asked : entryAsked d) (force : levelInForce d = true) :
    1 ≤ grantOf d .heater := by
  obtain ⟨-, low, -⟩ := sound.1.entry .heater
  change d.bgt.table.heater.floor ≤ d.bgt.table.heater.granted at low
  have floor : d.bgt.table.heater.floor = 1 := by
    unfold entryAsked at asked
    rcases (levelInForce_iff d).1 force with st | st <;> rw [st] at asked <;> exact asked.2
  exact floor ▸ low

/-- R91: the level within its bounds, the entry asking for the wished level, is what HEATER obeys. -/
theorem obeyed_of_level {d : Device} (asked : HeaterStage.asked.holds d)
    (level : levelInForce d = true → d.htr.level ≤ grantOf d .heater ∧ d.htr.level ≤ maxAllowed d) :
    HeaterStage.obeyed.holds d := by
  obtain ⟨⟨host, quiet, fallback⟩, entry⟩ := asked
  exact ⟨⟨host, quiet, fallback, fun force => ⟨entry, level ((levelInForce_iff d).2 force)⟩⟩, entry⟩

theorem level_of_obeyed {d : Device} (h : HeaterStage.obeyed.holds d) (force : levelInForce d = true) :
    d.htr.level ≤ grantOf d .heater ∧ d.htr.level ≤ maxAllowed d :=
  (h.1.2.2.2 ((levelInForce_iff d).1 force)).2

/-- A change of the level leaves the entry and the limits. -/
theorem changeLevel_asked (n : Nat) (d : Device) : KeepsBudget .asked .asked d (changeLevel n d) :=
  ⟨id, fun _ h => h, fun _ => sameOthers.obeys ⟨rfl, rfl, rfl, rfl, rfl, rfl⟩⟩

/-- A change of the level to one within its bounds. -/
theorem changeLevel_budget {n : Nat} {d : Device}
    (within : HeaterStage.obeyed.holds d → budgetSound d → n ≤ grantOf d .heater ∧ n ≤ maxAllowed d) :
    KeepsBudget .obeyed .obeyed d (changeLevel n d) :=
  ⟨id, fun s h => obeyed_of_level ((changeLevel_asked n d).heater s (obeyed_asked h)) fun _ => within h s,
    (changeLevel_asked n d).others⟩

theorem lowerTo_asked (bound : Nat) (d : Device) : KeepsBudget .asked .asked d (lowerTo bound d) := by
  obtain ⟨-, -, eq⟩ | ⟨-, eq⟩ := lowerTo_cases bound d <;> rw [eq]
  · exact changeLevel_asked ..
  · exact .refl d

theorem lowerTo_same (bound : Nat) (d : Device) :
    (lowerTo bound d).htr.state = d.htr.state ∧ maxAllowed (lowerTo bound d) = maxAllowed d ∧
      (lowerTo bound d).bgt = d.bgt := by
  obtain ⟨-, -, eq⟩ | ⟨-, eq⟩ := lowerTo_cases bound d <;> rw [eq] <;> exact ⟨rfl, rfl, rfl⟩

/-- R91: the level lowered to the grant and the maximum allowed level. -/
theorem lowerTo_budget (d : Device) :
    KeepsBudget .asked .obeyed d (lowerTo (min (grantOf d .heater) (maxAllowed d)) d) := by
  obtain ⟨sound, heater, others⟩ := lowerTo_asked (min (grantOf d .heater) (maxAllowed d)) d
  refine ⟨sound, fun s h => obeyed_of_level (heater s h) fun force => ?_, others⟩
  obtain ⟨state, most, bgt⟩ := lowerTo_same (min (grantOf d .heater) (maxAllowed d)) d
  have force' : levelInForce d = true := by simpa only [levelInForce, state] using force
  have granted := one_le_granted s h.2 force'
  have allowed := one_le_maxAllowed h.1
  have low := lowerTo_level_le (min (grantOf d .heater) (maxAllowed d)) d force'
  rw [most, show grantOf (lowerTo (min (grantOf d .heater) (maxAllowed d)) d) .heater = grantOf d .heater by
    rw [grantOf, entryOf, bgt]; rfl]
  omega

/-- R79, R88: RUN entered from RAMP writes the same entry, and so keeps the level within its grant. -/
theorem toRun_budget {d : Device} (ramp : d.htr.state = .ramp) : KeepsBudget .obeyed .obeyed d (toRun d) := by
  have entered : KeepsBudget .obeyed .obeyed d (enterHeater .run .none d) := by
    obtain ⟨sound, heater, others⟩ := enterHeater_asked (v := .obeyed) .run .none d
    refine ⟨sound, fun s h => obeyed_of_level (heater s h) fun _ => ?_, others⟩
    obtain ⟨steps, low, high, -⟩ := s.1.entry .heater
    obtain ⟨granted, allowed⟩ := level_of_obeyed h ((levelInForce_iff d).2 (.inl ramp))
    obtain ⟨wished, floor⟩ : d.bgt.table.heater.requested = max 1 (min d.htr.wished 6) ∧ d.bgt.table.heater.floor = 1 := by
      have := h.2
      rwa [entryAsked, ramp] at this
    have written : enterHeater .run .none d = post .heaterState (writeHeater (putHtr (heaterMoved .run .none d) d)) :=
      (enterHeater_eq ..).trans (if_neg (by simp [ramp]))
    have entry : (writeHeater (putHtr (heaterMoved .run .none d) d)).bgt.table.heater =
        d.bgt.table.heater.written d.htr.wished 1 d.sns.uptime := writeEntry_get_self .heater ..
    change d.bgt.table.heater.steps.length = 7 at steps
    change d.bgt.table.heater.floor ≤ d.bgt.table.heater.granted at low
    change d.bgt.table.heater.granted ≤ d.bgt.table.heater.requested at high
    change d.htr.level ≤ d.bgt.table.heater.granted at granted
    have level : (enterHeater .run .none d).htr.level = d.htr.level := by rw [written]; simp [heaterMoved, levelIn]
    refine ⟨?_, ?_⟩
    · rw [level, written]
      simp only [grantOf, entryOf, post_frame, LoadTable.get, entry, Entry.written]
      omega
    · rw [level, written]
      simpa [maxAllowed, heaterMoved] using allowed
  exact entered.trans (putHtr_budget ⟨rfl, rfl, rfl, rfl⟩)

/-- R55, R91: a grant handed to the heater brings the level within it. -/
theorem heaterGrant_budget (d : Device) : KeepsBudget .asked .obeyed d (heaterGrant d) := by
  obtain h | ⟨ramp, h⟩ := heaterGrant_cases d <;> rw [h]
  · exact lowerTo_budget d
  · exact (lowerTo_budget d).trans (toRun_budget ((lowerTo_same ..).1.trans ramp))

/-- R79, R91: a wished level set, the entry and the level following it. -/
theorem setWished_budget (w : Nat) (d : Device) : KeepsBudget v .obeyed d (setWished w d) := by
  have written := (writeHeater_budget _).after (putHtr_limited (h := { d.htr with wished := w }) d rfl)
  exact (written.trans (heaterGrant_budget _)).of_limited

theorem rewish_budget (d : Device) : KeepsBudget .asked .obeyed d (rewish d) := by
  unfold rewish
  split
  · exact setWished_budget ..
  · exact setWished_budget ..
  · next ramp run =>
    exact ⟨id, fun _ => obeyed_of_asked (by simpa [levelInForce] using ⟨ramp, run⟩), fun _ _ _ => id⟩

/-- R91: the limits or the quiet hours may have changed. -/
theorem heaterCaps_budget (d : Device) : KeepsBudget .asked .obeyed d (heaterCaps d) :=
  (rewish_budget _).after (lowerTo_asked ..)

theorem tryMove_budget (d : Device) : KeepsBudget .obeyed .obeyed d (tryMove d) := by
  unfold tryMove
  split
  · next run =>
    obtain ⟨-, granted, allowed, h⟩ | ⟨-, h⟩ | h := moveLevel_cases d <;> rw [h]
    · exact changeLevel_budget fun _ _ => ⟨granted, allowed⟩
    · refine changeLevel_budget fun held _ => ?_
      obtain ⟨granted, allowed⟩ := level_of_obeyed held ((levelInForce_iff d).2 (.inr run))
      omega
    · exact .refl d
  · exact .refl d

theorem toRamp_budget (d : Device) : KeepsBudget v .obeyed d (toRamp d) := by
  unfold toRamp
  extract_lets d1 h
  have entered : KeepsBudget v .asked d d1 := (enterHeater_asked .ramp .none _).after (releaseAllowance_budget .heater d)
  exact (heaterGrant_budget _).after (entered.trans (putHtr_budget ⟨rfl, rfl, rfl, rfl⟩))

/-! ## Starting and stopping (R80 to R82, R98) -/

theorem newStart_budget (src : StartSource) (setpoint : Int) (d : Device) : KeepsBudget v .obeyed d (newStart src setpoint d) := by
  unfold newStart
  extract_lets _ _ d1
  have taken : KeepsBudget .limited .limited d d1 := putHtr_limited d rfl
  exact ((toWait_budget _).after (taken.trans (putHtr_limited (h := { d1.htr with wished := startWish d1 }) d1 rfl))).of_limited

theorem startHeater_budget (src : StartSource) (setpoint : Int) (d : Device) :
    KeepsBudget .obeyed .obeyed d (startHeater src setpoint d).1 := by
  unfold startHeater
  dsimp only
  split
  · split
    · exact .refl d
    · exact newStart_budget ..
  · split
    · exact .refl d
    · exact newStart_budget ..
  · exact .refl d
  · split
    · exact .refl d
    · exact putHtr_budget ⟨rfl, rfl, rfl, rfl⟩
  · split
    · exact .refl d
    · exact putHtr_budget ⟨rfl, rfl, rfl, rfl⟩
  all_goals exact putHtr_budget ⟨rfl, rfl, rfl, rfl⟩

theorem postRefusal_budget (r : Reason) (d : Device) : KeepsBudget v v d (postRefusal r d) :=
  (post_budget ..).after (putHtr_budget ⟨rfl, rfl, rfl, rfl⟩)

theorem clearRunUntil_budget (d : Device) : KeepsBudget v v d (clearRunUntil d) := putHtr_budget ⟨rfl, rfl, rfl, rfl⟩

theorem leaveWait_budget (cause : HeaterCause) (d : Device) : KeepsBudget v .obeyed d (leaveWait cause d) :=
  (toOff_budget ..).after (withdrawAllowance_budget ..)

theorem stopHeater_budget (d : Device) : KeepsBudget .obeyed .obeyed d (stopHeater d) := by
  unfold stopHeater
  refine (clearRunUntil_budget d).trans ?_
  dsimp only
  split
  case h_5 =>
    split
    · exact .refl _
    · exact toCooldown_budget ..
  case h_6 => exact putHtr_budget ⟨rfl, rfl, rfl, rfl⟩
  case h_7 => exact leaveWait_budget ..
  case h_8 => exact toOff_budget ..
  case h_9 | h_10 => exact .refl _
  all_goals exact toCooldown_budget ..

theorem heaterFuelLow_budget (d : Device) : KeepsBudget .obeyed .obeyed d (heaterFuelLow d) := by
  have cooled : KeepsBudget .obeyed .obeyed d (toCooldown .fuelLow (clearRunUntil d)) :=
    (toCooldown_budget ..).after (clearRunUntil_budget d)
  unfold heaterFuelLow
  split
  case h_5 =>
    split
    · exact clearRunUntil_budget d
    · exact cooled
  case h_6 => exact leaveWait_budget ..
  case h_7 | h_8 | h_9 | h_10 => exact .refl d
  all_goals exact cooled

theorem panelPress_budget (d : Device) : KeepsBudget .obeyed .obeyed d (panelPress d) := by
  unfold panelPress
  split
  · have started := startHeater_budget .panel d.htr.lastSetpoint d
    split
    · next d1 h => rwa [h] at started
    · next d1 r h => rw [h] at started; exact started.trans (postRefusal_budget r d1)
  · exact .refl d
  · exact stopHeater_budget d

theorem runUntilTest_budget (d : Device) : KeepsBudget .obeyed .obeyed d (runUntilTest d) := by
  unfold runUntilTest
  split
  · exact .refl d
  · split
    · exact stopHeater_budget d
    · exact .refl d

/-! ## The answers and the timers of the attempt (R83 to R86) -/

theorem heaterGranted_budget (d : Device) : KeepsBudget .obeyed .obeyed d (heaterGranted d) := by
  unfold heaterGranted
  split
  · exact toGlow_budget d
  · exact .refl d

theorem heaterDenied_budget (d : Device) : KeepsBudget .obeyed .obeyed d (heaterDenied d) := by
  unfold heaterDenied
  split
  · exact toOff_budget _ d
  · exact .refl d

theorem attemptFails_budget (d : Device) : KeepsBudget .obeyed .obeyed d (attemptFails d) := by
  unfold attemptFails
  split
  · exact (toPurge_budget (v := .obeyed) ..).after (putHtr_budget ⟨rfl, rfl, rfl, rfl⟩)
  · exact .refl d

theorem waitExpiry_budget (d : Device) : KeepsBudget .obeyed .obeyed d (waitExpiry d) := by
  unfold waitExpiry
  split
  · exact leaveWait_budget _ d
  · exact .refl d

theorem glowExpiry_budget (d : Device) : KeepsBudget .obeyed .obeyed d (glowExpiry d) := by
  unfold glowExpiry
  split
  · exact toIgnite_budget d
  · exact .refl d

theorem windowExpiry_budget (d : Device) : KeepsBudget .obeyed .obeyed d (windowExpiry d) := by
  unfold windowExpiry
  split
  · exact (attemptFails_budget _).after (releaseAllowance_budget ..)
  · exact .refl d

theorem purgeExpiry_budget (d : Device) : KeepsBudget .obeyed .obeyed d (purgeExpiry d) := by
  unfold purgeExpiry
  split_ifs
  · exact .refl d
  · exact toLockout_budget _ d
  · exact toWait_budget d
  · exact (toLockout_budget (v := .obeyed) ..).after (recordFault_budget ..)

/-- R87: a fuel pulse changes the fuel train alone. -/
theorem pulseStart_budget (d : Device) : KeepsBudget .obeyed .obeyed d (pulseStart d) := by
  unfold pulseStart
  split
  · exact .of_frame ⟨rfl, rfl, rfl, rfl, rfl, rfl, rfl, rfl, rfl, rfl⟩
  · exact .refl d

theorem pulseEnd_budget (d : Device) : KeepsBudget .obeyed .obeyed d (pulseEnd d) := by
  unfold pulseEnd
  split
  · exact .of_frame ⟨rfl, rfl, rfl, rfl, rfl, rfl, rfl, rfl, rfl, rfl⟩
  · exact .refl d

/-- R88: a step of the ramp goes past the grant only until the level is held again. -/
theorem rampStep_budget (d : Device) : KeepsBudget .obeyed .obeyed d (rampStep d) := by
  unfold rampStep
  split
  · exact ((heaterGrant_budget _).after ((putHtrTimers_budget ..).after (changeLevel_asked ..))).of_asked
  · exact .refl d

theorem dwellExpiry_budget (d : Device) : KeepsBudget .obeyed .obeyed d (dwellExpiry d) :=
  (tryMove_budget _).after (putHtrTimers_budget ..)

theorem pauseExpiry_budget (d : Device) : KeepsBudget .obeyed .obeyed d (pauseExpiry d) := by
  unfold pauseExpiry
  split
  · exact toCooldown_budget _ d
  · exact .refl d

/-! ## Overheat, sensors, the blower and cooldown (R94 to R101) -/

theorem markLockout_budget (d : Device) : KeepsBudget v v d (markLockout d) := putHtr_budget ⟨rfl, rfl, rfl, rfl⟩

theorem softOverheat_budget (d : Device) : KeepsBudget .obeyed .obeyed d (softOverheat d) := by
  have marked : KeepsBudget .obeyed .obeyed d (markLockout (recordFault .overheatSoft d)) :=
    (markLockout_budget _).after (recordFault_budget .overheatSoft d)
  unfold softOverheat
  dsimp only
  split_ifs
  · exact marked.trans (toCooldown_budget ..)
  · exact marked
  · exact .refl d

theorem exchangerFails_budget (d : Device) : KeepsBudget .obeyed .obeyed d (exchangerFails d) := by
  unfold exchangerFails
  split_ifs
  · exact (toCooldown_budget (v := .obeyed) ..).after ((markLockout_budget _).after (recordFault_budget ..))
  · exact leaveWait_budget _ d
  · exact .refl d

theorem overheatTrip_budget (d : Device) : KeepsBudget .obeyed .obeyed d (overheatTrip d) := by
  unfold overheatTrip
  extract_lets _ d1
  have tripped : KeepsBudget .obeyed .obeyed d d1 := (recordFault_budget ..).after (putHtr_budget ⟨rfl, rfl, rfl, rfl⟩)
  have cooled : KeepsBudget .obeyed .obeyed d1 (toCooldown .overheat (markLockout d1)) := toCooldown_budget .. |>.after (markLockout_budget d1)
  refine tripped.trans ?_
  split
  case h_5 =>
    split
    · exact .refl d1
    · exact cooled
  case h_6 => exact markLockout_budget d1
  case h_7 | h_8 | h_9 => exact toLockout_budget ..
  case h_10 => exact .refl d1
  all_goals exact cooled

theorem blowerFault_budget (d : Device) : KeepsBudget .obeyed .obeyed d (blowerFault d) := by
  unfold blowerFault
  split
  · extract_lets d1
    have recorded : KeepsBudget .obeyed .obeyed d d1 := (releaseAllowance_budget .heater _).after (recordFault_budget .blower d)
    exact (toPurge_budget ..).after (recorded.trans (putHtr_budget ⟨rfl, rfl, rfl, rfl⟩))
  · exact .refl d

theorem speedWatch_budget (d : Device) : KeepsBudget .obeyed .obeyed d (speedWatch d) := by
  unfold speedWatch
  split
  · exact putHtrTimers_budget ..
  · exact .refl d

theorem completeCooldown_budget (d : Device) : KeepsBudget .obeyed .obeyed d (completeCooldown d) := by
  unfold completeCooldown
  dsimp only
  split_ifs
  · exact toLockout_budget _ d
  · refine (applyTableDefault_budget d).trans ?_
    split
    · exact newStart_budget ..
    · exact toOff_budget ..
  · exact toPaused_budget _ d
  · exact toOff_budget _ d

theorem cooldownTest_budget (d : Device) : KeepsBudget .obeyed .obeyed d (cooldownTest d) := by
  unfold cooldownTest
  extract_lets endTemp exch
  split
  · exact completeCooldown_budget d
  · exact .refl d

theorem cooldownTooLong_budget (d : Device) : KeepsBudget .obeyed .obeyed d (cooldownTooLong d) := by
  unfold cooldownTooLong
  split
  · exact (toLockout_budget (v := .obeyed) ..).after (recordFault_budget ..)
  · exact .refl d

/-! ## The published sweep (R85, R88 to R93) -/

theorem flameLost_budget (d : Device) : KeepsBudget .obeyed .obeyed d (flameLost d) := by
  unfold flameLost
  dsimp only
  split_ifs
  · exact (toPurge_budget (v := .obeyed) ..).after ((markLockout_budget _).after (recordFault_budget ..))
  · exact (toPurge_budget (v := .obeyed) ..).after (putHtr_budget ⟨rfl, rfl, rfl, rfl⟩)

theorem pauseWatch_budget (d : Device) : KeepsBudget .obeyed .obeyed d (pauseWatch d) := by
  unfold pauseWatch
  split
  · exact .refl d
  · dsimp only
    split
    · exact putHtrTimers_budget ..
    · exact .refl d

theorem runSweep_budget (d : Device) : KeepsBudget .obeyed .obeyed d (runSweep d) := by
  unfold runSweep
  extract_lets exch _ d1
  have referred : KeepsBudget .obeyed .obeyed d d1 := by
    unfold d1
    split
    · exact putHtr_budget ⟨rfl, rfl, rfl, rfl⟩
    · exact .refl d
  split
  · exact flameLost_budget d
  · exact (pauseWatch_budget _).after ((tryMove_budget _).after (referred.trans (setWished_budget ..)))

theorem pausedSweep_budget (d : Device) : KeepsBudget .obeyed .obeyed d (pausedSweep d) := by
  have started := startHeater_budget .again d.htr.setpoint d
  unfold pausedSweep
  dsimp only
  split_ifs
  · split
    · next d1 h => rwa [h] at started
    · next d1 r h =>
      rw [h] at started
      split
      · exact started
      · exact (postRefusal_budget ..).after (started.trans (putHtr_budget ⟨rfl, rfl, rfl, rfl⟩))
  · exact .refl d

theorem heaterStateSweep_budget (d : Device) : KeepsBudget .obeyed .obeyed d (heaterStateSweep d) := by
  unfold heaterStateSweep
  split
  · unfold flameTest
    dsimp only
    split
    · exact toRamp_budget d
    · exact .refl d
  · exact setWished_budget ..
  · exact runSweep_budget d
  · exact cooldownTest_budget d
  · exact pausedSweep_budget d
  all_goals exact .refl d

theorem heaterSweep_budget (exchWasOk : Bool) (d : Device) : KeepsBudget .obeyed .obeyed d (heaterSweep exchWasOk d) := by
  unfold heaterSweep
  extract_lets st d1
  have tested : KeepsBudget .obeyed .obeyed d d1 := by
    unfold d1
    split
    · exact exchangerFails_budget d
    · exact .refl d
  exact (speedWatch_budget _).after ((heaterStateSweep_budget _).after (tested.trans (softOverheat_budget _)))

end Sys2Proof.Machine
end

section
/-! PROOFS. The operations of the compressor, the lights and the outlet, and the budget pass, keep the Load Budget sound and what the
loads obey (R55 to R69, R106 to R128, R131, R132). -/

namespace Sys2Proof.Machine

variable {v : HeaterStage}

/-! ## The compressor's entry (R108) -/

/-- The compressor's record may change but for its commanded step. -/
theorem putCmp_budget {c : Compressor} {d : Device} (h : c.commanded = d.cmp.commanded) : KeepsBudget v v d (putCmp c d) :=
  .of_frame ⟨rfl, rfl, rfl, h, rfl, rfl, rfl, rfl, rfl, rfl⟩

theorem putCmpTimers_budget (t : CompTimers) (d : Device) : KeepsBudget v v d (putCmpTimers t d) := putCmp_budget rfl

/-- A change of the compressor alone keeps what the others obey, if the commanded step stands within the grant. -/
theorem KeepsBudget.of_comp {d t : Device} (sound : budgetSound d → budgetSound t) (heater : sameHeater d t)
    (comp : obeys .compressor d → obeys .compressor t)
    (others : t.lgt.capStep = d.lgt.capStep ∧ t.bgt.outlet.state = d.bgt.outlet.state ∧
      t.bgt.table.lights = d.bgt.table.lights ∧ t.bgt.table.outlet = d.bgt.table.outlet) : KeepsBudget v v d t := by
  obtain ⟨cap, outlet, lights, relay⟩ := others
  refine ⟨sound, fun _ => heater.holds v, fun _ l other h => ?_⟩
  cases l with
  | heater => exact absurd rfl other
  | compressor => exact comp h
  | lights => simpa only [obeys, cap, lights] using h
  | outlet => simpa only [obeys, relayClosed, outlet, relay] using h
  | base | warning => trivial

/-- R108: the commanded step worked out afresh stands within the grant. -/
theorem commandStep_obeys (d : Device) : obeys .compressor (commandStep d) := Nat.min_le_right ..

theorem commandStep_budget (d : Device) : KeepsBudget v v d (commandStep d) :=
  .of_comp id ⟨rfl, rfl, rfl, rfl, rfl, rfl⟩ (fun _ => commandStep_obeys d) ⟨rfl, rfl, rfl, rfl⟩

theorem writeComp_budget (d : Device) : KeepsBudget v v d (writeComp d) := by
  have kept (m : Load) (other : m ≠ .compressor) :=
    writeEntry_get_other other (compAsk d.cmp.state d.cmp.wished) 0 d
  refine .of_comp (writeEntry_sound .compressor _ _) ?_ (fun _ => commandStep_obeys _) ?_
  · exact ⟨by simp, by simp, by simp, by simp, by simp, kept .heater (by decide)⟩
  · exact ⟨by simp, by simp, kept .lights (by decide), kept .outlet (by decide)⟩

theorem setCompWish_budget (w : Nat) (d : Device) : KeepsBudget v v d (setCompWish w d) := by
  unfold setCompWish
  split
  · exact commandStep_budget d
  · exact (writeComp_budget _).after (putCmp_budget rfl)

theorem compCaps_budget (d : Device) : KeepsBudget v v d (compCaps d) := setCompWish_budget _ d

/-! ## The compressor's states (R110 to R114, R123) -/

theorem enterComp_budget (st : CompState) (d : Device) : KeepsBudget v v d (enterComp st d) := by
  unfold enterComp
  extract_lets c exits idles t c1 d1 _ d2 d3
  have moved : KeepsBudget v v d d1 := putCmp_budget rfl
  have emptied : KeepsBudget v v d d2 := by
    unfold d2
    split
    · exact moved.trans (.of_frame ⟨rfl, rfl, rfl, rfl, rfl, rfl, rfl, rfl, rfl, rfl⟩)
    · exact moved
  have written : KeepsBudget v v d d3 := emptied.trans (writeComp_budget d2)
  split
  · exact written
  · exact written.trans (post_budget ..)

theorem toStopping_budget (d : Device) : KeepsBudget v v d (toStopping d) :=
  (enterComp_budget .stopping d).trans (putCmpTimers_budget ..)

theorem toDisabled_budget (d : Device) : KeepsBudget v v d (toDisabled d) :=
  (enterComp_budget .disabled _).after (putCmp_budget rfl)

theorem compFails_budget (k : FailKind) (d : Device) : KeepsBudget v v d (compFails k d) := by
  unfold compFails
  split
  · exact .refl d
  · have counted : KeepsBudget v v d (releaseAllowance .compressor d) := releaseAllowance_budget .compressor d
    extract_lets d1 failures src d2
    have posted : KeepsBudget v v d d2 := (post_budget ..).after (counted.trans (putCmp_budget rfl))
    split
    · exact posted.trans ((enterComp_budget .stallBackoff d2).trans (putCmpTimers_budget ..))
    · exact posted.trans ((enterComp_budget .blocked d2).trans ((putCmpTimers_budget ..).trans (postIndication_budget ..)))

theorem applyPattern_budget (d : Device) : KeepsBudget v v d (applyPattern d) := by
  unfold applyPattern
  split
  · exact .refl d
  · exact putCmp_budget rfl

theorem toStart_budget (d : Device) : KeepsBudget v v d (toStart d) := by
  unfold toStart
  extract_lets d1 ms blocked _ _ c d2
  have readied : KeepsBudget v v d d2 := (enterComp_budget .start d).trans (putCmp_budget rfl)
  split
  · exact readied.trans (compFails_budget ..)
  · split
    · exact readied.trans (applyPattern_budget d2)
    · exact readied.trans (compFails_budget ..)

theorem backToHold_budget (d : Device) : KeepsBudget v v d (backToHold d) :=
  (putCmpTimers_budget _ d).trans (enterComp_budget .offHold _)

theorem toCompWait_budget (d : Device) : KeepsBudget v v d (toCompWait d) := by
  have asked : KeepsBudget v v d (requestAllowance .compressor (enterComp .waitInrush d)).1 :=
    (enterComp_budget .waitInrush d).trans (requestAllowance_budget (by decide) _)
  unfold toCompWait
  split
  · next d1 h => rwa [h] at asked
  · next d1 h => rw [h] at asked; exact asked.trans (toStart_budget d1)
  · next d1 h => rw [h] at asked; exact asked.trans (backToHold_budget d1)

theorem holdTest_budget (d : Device) : KeepsBudget v v d (holdTest d) := by
  unfold holdTest
  split_ifs
  · exact toCompWait_budget d
  · exact .refl d
  · exact enterComp_budget .idle d
  · exact .refl d

theorem toOffHold_budget (d : Device) : KeepsBudget v v d (toOffHold d) := (enterComp_budget .offHold d).trans (holdTest_budget _)

theorem cutOut_budget (d : Device) : KeepsBudget v v d (cutOut d) := by
  have learned : KeepsBudget v v d (learnCutOut d) := by
    unfold learnCutOut
    dsimp only
    split_ifs
    · exact putCmp_budget rfl
    · exact .refl d
  exact learned.trans (toStopping_budget _)

theorem toCompRun_budget (d : Device) : KeepsBudget v v d (toCompRun d) := by
  have readied : KeepsBudget v v d (releaseAllowance .compressor d) := releaseAllowance_budget .compressor d
  unfold toCompRun
  extract_lets ms thermostat d1 w _ c d2 _ d3
  have entered : KeepsBudget v v d d2 := (enterComp_budget .run _).after (readied.trans (putCmp_budget rfl))
  exact entered.trans ((putCmpTimers_budget ..).trans (.of_frame ⟨rfl, rfl, rfl, rfl, rfl, rfl, rfl, rfl, rfl, rfl⟩))

/-! ## Demand (R106, R107) -/

theorem demandComes_budget (d : Device) : KeepsBudget v v d (demandComes d) := by
  unfold demandComes
  extract_lets running _ d1 _ d2 w
  have marked : KeepsBudget v v d d2 := .of_frame ⟨rfl, rfl, rfl, rfl, rfl, rfl, rfl, rfl, rfl, rfl⟩
  split
  · exact (toOffHold_budget _).after (marked.trans (putCmp_budget rfl))
  · exact (holdTest_budget _).after (marked.trans (setCompWish_budget ..))
  · exact marked.trans (setCompWish_budget ..)

theorem demandGoes_budget (d : Device) : KeepsBudget v v d (demandGoes d) := by
  unfold demandGoes
  extract_lets _ d1
  have gone : KeepsBudget v v d d1 := putCmp_budget rfl
  split
  · exact (holdTest_budget _).after (gone.trans (setCompWish_budget ..))
  · exact (enterComp_budget .idle _).after ((gone.trans (withdrawAllowance_budget ..)).trans (putCmp_budget rfl))
  · exact gone
  · split
    · exact gone.trans (cutOut_budget _)
    · exact gone.trans (putCmp_budget rfl)
  all_goals exact gone.trans (setCompWish_budget ..)

theorem setDemand_budget (on : Bool) (d : Device) : KeepsBudget v v d (setDemand on d) := by
  unfold setDemand
  split_ifs
  · exact .refl d
  · exact demandComes_budget d
  · exact demandGoes_budget d

theorem thermostat_budget (d : Device) : KeepsBudget v v d (thermostat d) := by
  unfold thermostat
  dsimp only
  split_ifs
  · exact setDemand_budget true d
  · exact setDemand_budget false d
  · exact .refl d

theorem enterTimed_budget (d : Device) : KeepsBudget v v d (enterTimed d) := by
  unfold enterTimed
  extract_lets changed _ _ d1 d2
  have timed : KeepsBudget v v d d1 := putCmp_budget rfl
  have posted : KeepsBudget v v d d2 := by
    unfold d2
    split
    · exact timed.trans (post_budget ..)
    · exact timed
  split
  · exact posted.trans (setCompWish_budget ..)
  · exact posted.trans (setDemand_budget ..)

theorem leaveTimed_budget (d : Device) : KeepsBudget v v d (leaveTimed d) := by
  unfold leaveTimed
  extract_lets _ _ d1
  have left : KeepsBudget v v d d1 := (post_budget ..).after (putCmp_budget rfl)
  split
  · exact left.trans (setCompWish_budget ..)
  · exact left

theorem compSweep_budget (d : Device) : KeepsBudget v v d (compSweep d) := by
  unfold compSweep
  split_ifs
  · exact .refl d
  · exact (leaveTimed_budget d).trans (thermostat_budget _)
  · exact thermostat_budget d
  · exact .refl d
  · exact enterTimed_budget d

theorem phaseExpiry_budget (d : Device) : KeepsBudget v v d (phaseExpiry d) := by
  unfold phaseExpiry
  dsimp only
  split <;> exact (setDemand_budget ..).after (putCmp_budget rfl)

/-! ## Grants and answers (R55, R65 to R67) -/

/-- R55: what follows the commanded step when a grant is handed to the compressor. -/
theorem compGrant_commanded (d : Device) : KeepsBudget v v (commandStep d) (compGrant d) := by
  unfold compGrant
  extract_lets d1 none'
  split
  · exact holdTest_budget _
  · split
    · exact backToHold_budget _
    · exact .refl d1
  · split
    · exact (toStopping_budget _).after (releaseAllowance_budget ..)
    · exact .refl d1
  · split_ifs
    · exact cutOut_budget _
    · exact toStopping_budget _
    · exact .refl d1
  all_goals exact .refl d1

theorem compGrant_budget (d : Device) : KeepsBudget v v d (compGrant d) := (compGrant_commanded d).after (commandStep_budget d)

theorem compGranted_budget (d : Device) : KeepsBudget v v d (compGranted d) := by
  unfold compGranted
  split
  · exact toStart_budget d
  · exact .refl d

theorem compDenied_budget (d : Device) : KeepsBudget v v d (compDenied d) := by
  unfold compDenied
  split
  · exact backToHold_budget d
  · exact .refl d

theorem compRevoked_budget (d : Device) : KeepsBudget v v d (compRevoked d) := by
  unfold compRevoked
  split_ifs
  · exact compFails_budget .startFail d
  · exact toStopping_budget d
  · exact .refl d

/-! ## Speed, the Hall edges and the compressor's timers -/

theorem windowDone_budget (d : Device) : KeepsBudget v v d (windowDone d) := by
  unfold windowDone
  extract_lets _ _ d1 mean _ d2
  have shown : KeepsBudget v v d d1 := putCmp_budget rfl
  have emptied : KeepsBudget v v d d2 := shown.trans (.of_frame ⟨rfl, rfl, rfl, rfl, rfl, rfl, rfl, rfl, rfl, rfl⟩)
  split
  · split
    · exact shown.trans (toCompRun_budget _)
    · exact shown
  · rw [regulate_eq]
    exact emptied.trans (.of_frame ⟨rfl, rfl, rfl, rfl, rfl, rfl, rfl, rfl, rfl, rfl⟩)
  · exact shown

theorem putHall_budget (code : HallCode) (d : Device) : KeepsBudget v v d { d with pins := { d.pins with hall := code } } :=
  .of_frame ⟨rfl, rfl, rfl, rfl, rfl, rfl, rfl, rfl, rfl, rfl⟩

theorem hallEdge_budget (code : HallCode) (intervalUs : Nat) (d : Device) : KeepsBudget v v d (hallEdge code intervalUs d) := by
  unfold hallEdge
  extract_lets _ d1 d2 w _ _ d3
  have seen : KeepsBudget v v d d1 := putHall_budget code d
  have counted : KeepsBudget v v d d3 := (seen.trans (applyPattern_budget d1)).trans (putCmp_budget rfl)
  split_ifs
  · exact counted.trans (windowDone_budget _)
  · exact counted
  · exact seen
  · exact .refl d

theorem hallInvalid_budget (code : HallCode) (d : Device) : KeepsBudget v v d (hallInvalid code d) := by
  unfold hallInvalid
  split
  · exact .refl d
  · exact (compFails_budget .hall _).after ((putHall_budget code d).trans (putCmp_budget rfl))

theorem dutyStep_budget (d : Device) : KeepsBudget v v d (dutyStep d) := by
  unfold dutyStep
  split
  · exact .of_frame ⟨rfl, rfl, rfl, rfl, rfl, rfl, rfl, rfl, rfl, rfl⟩
  · exact .refl d

theorem minRunExpiry_budget (d : Device) : KeepsBudget v v d (minRunExpiry d) := by
  unfold minRunExpiry
  dsimp only
  split
  · exact (cutOut_budget _).after (putCmpTimers_budget ..)
  · exact putCmpTimers_budget ..

theorem failureReset_budget (d : Device) : KeepsBudget v v d (failureReset d) := by
  unfold failureReset
  dsimp only
  split
  · exact .of_frame ⟨rfl, rfl, rfl, rfl, rfl, rfl, rfl, rfl, rfl, rfl⟩
  · exact putCmpTimers_budget ..

theorem raiseExpiry_budget (d : Device) : KeepsBudget v v d (raiseExpiry d) := by
  unfold raiseExpiry
  split
  · exact (setCompWish_budget ..).after (putCmp_budget rfl)
  · exact .refl d

theorem minOffExpiry_budget (d : Device) : KeepsBudget v v d (minOffExpiry d) := (holdTest_budget _).after (putCmpTimers_budget ..)

theorem afterRest_budget (d : Device) : KeepsBudget v v d (afterRest d) := by
  unfold afterRest
  split
  · exact toOffHold_budget d
  · exact toDisabled_budget d

theorem coastEnd_budget (d : Device) : KeepsBudget v v d (coastEnd d) := by
  unfold coastEnd
  split_ifs
  · exact .refl d
  · exact toDisabled_budget d
  · exact toOffHold_budget d
  · exact enterComp_budget .idle d

theorem backoffExpiry_budget (d : Device) : KeepsBudget v v d (backoffExpiry d) := by
  unfold backoffExpiry
  split
  · exact afterRest_budget d
  · exact .refl d

theorem leaveBlocked_budget (failures : Nat) (d : Device) : KeepsBudget v v d (leaveBlocked failures d) := by
  unfold leaveBlocked
  extract_lets _ d1
  have counted : KeepsBudget v v d d1 := putCmp_budget rfl
  split
  · exact counted.trans ((afterRest_budget _).after (postIndication_budget ..))
  · exact counted

/-! ## The compressor's enable and RESTART (R125, R128) -/

theorem enableComp_budget (d : Device) : KeepsBudget v v d (enableComp d) := by
  unfold enableComp
  extract_lets _ d1
  have enabled : KeepsBudget v v d d1 := putCmp_budget rfl
  split
  · exact enabled.trans (enterComp_budget .idle _)
  · exact enabled

theorem disableComp_budget (d : Device) : KeepsBudget v v d (disableComp d) := by
  unfold disableComp
  extract_lets _ _ d1
  have cleared : KeepsBudget v v d d1 := putCmp_budget rfl
  refine cleared.trans ?_
  split
  · exact toDisabled_budget _
  · exact toDisabled_budget _
  · exact (toDisabled_budget _).after (withdrawAllowance_budget ..)
  · exact (toStopping_budget _).after (releaseAllowance_budget ..)
  · exact toStopping_budget _
  · exact setCompWish_budget ..
  · exact setCompWish_budget ..
  · exact setCompWish_budget ..
  · exact .refl _

theorem restartComp_budget (d : Device) : KeepsBudget v v d (restartComp d) := by
  unfold restartComp
  extract_lets _ _ d1 d2
  have cleared : KeepsBudget v v d d1 := putCmp_budget rfl
  have posted : KeepsBudget v v d d2 := by
    unfold d2
    split
    · exact cleared
    · exact cleared.trans (post_budget ..)
  refine posted.trans ?_
  split
  · exact (toStopping_budget _).after (releaseAllowance_budget ..)
  · exact toStopping_budget _
  · exact setCompWish_budget ..
  · exact (toDisabled_budget _).after (withdrawAllowance_budget ..)
  · exact (toDisabled_budget _).after (postIndication_budget ..)
  · exact toDisabled_budget _
  · exact toDisabled_budget _
  · exact toDisabled_budget _
  · exact .refl _

/-! ## The lights' cap step (R131, R132) -/

/-- R131: the cap step worked out afresh stands within the grant. -/
theorem recap_obeys (was : List ChannelSetting) (d : Device) : obeys .lights (recap was d) := by
  have within : min (entryOf d .lights).requested (entryOf d .lights).granted ≤ d.bgt.table.lights.granted := Nat.min_le_right ..
  unfold recap
  dsimp only
  split
  · exact within
  · simpa [obeys] using within

/-- A change of the lights alone keeps what the others obey, if the cap step stands within the grant. -/
theorem KeepsBudget.of_lights {d t : Device} (sound : budgetSound d → budgetSound t) (heater : sameHeater d t)
    (lights : obeys .lights t)
    (others : t.cmp.commanded = d.cmp.commanded ∧ t.bgt.outlet.state = d.bgt.outlet.state ∧
      t.bgt.table.compressor = d.bgt.table.compressor ∧ t.bgt.table.outlet = d.bgt.table.outlet) : KeepsBudget v v d t := by
  obtain ⟨commanded, outlet, compressor, relay⟩ := others
  refine ⟨sound, fun _ => heater.holds v, fun _ l other h => ?_⟩
  cases l with
  | heater => exact absurd rfl other
  | compressor => simpa only [obeys, commanded, compressor] using h
  | lights => exact lights
  | outlet => simpa only [obeys, relayClosed, outlet, relay] using h
  | base | warning => trivial

theorem recap_budget (was : List ChannelSetting) (d : Device) : KeepsBudget v v d (recap was d) :=
  .of_lights (budgetSound_of_same (by simp) (by simp)) (by simp [sameHeater]) (recap_obeys was d) (by simp)

theorem lightsGrant_budget (d : Device) : KeepsBudget v v d (lightsGrant d) := by
  refine .of_lights (budgetSound_of_same (by simp) (by simp)) (by simp [sameHeater]) ?_ (by simp)
  exact recap_obeys ..

/-- R132: the lights' write and the caps that follow it. -/
theorem refreshLights_budget (was : List ChannelSetting) (d : Device) : KeepsBudget v v d (refreshLights was d) := by
  unfold refreshLights
  extract_lets need
  split
  · exact recap_budget was d
  · set u : Device := { d with lgt := { d.lgt with written := need } }
    have same : (recap was (writeEntry .lights need 0 u)).bgt = (writeEntry .lights need 0 u).bgt := by simp
    have kept (m : Load) (other : m ≠ .lights) :
        (recap was (writeEntry .lights need 0 u)).bgt.table.get m = d.bgt.table.get m :=
      same ▸ writeEntry_get_other other need 0 u
    refine .of_lights (fun s => ?_) ?_ (recap_obeys ..) ?_
    · exact budgetSound_of_same (by simp) (by simp) (writeEntry_sound .lights need 0 (d := u) s)
    · exact ⟨by simp [u], by simp [u], by simp [u], by simp [u], by simp [u], kept .heater (by decide)⟩
    · exact ⟨by simp [u], by simp [u], kept .compressor (by decide), kept .outlet (by decide)⟩

end Sys2Proof.Machine
end

section
/-! PROOFS. What the loads command stays within their grants: the outlet, the allowance's answers, the lights' commands, and the
budget pass. -/

namespace Sys2Proof.Machine

variable {v : HeaterStage}

/-! ## The outlet (R68, R69) -/

/-- A change of the outlet alone keeps what the others obey. -/
theorem KeepsBudget.of_outlet {d t : Device} (sound : budgetSound d → budgetSound t) (heater : sameHeater d t)
    (outlet : budgetSound d → obeys .outlet d → obeys .outlet t)
    (others : t.cmp.commanded = d.cmp.commanded ∧ t.lgt.capStep = d.lgt.capStep ∧
      t.bgt.table.compressor = d.bgt.table.compressor ∧ t.bgt.table.lights = d.bgt.table.lights) : KeepsBudget v v d t := by
  obtain ⟨commanded, cap, compressor, lights⟩ := others
  refine ⟨sound, fun _ => heater.holds v, fun s l other h => ?_⟩
  cases l with
  | heater => exact absurd rfl other
  | compressor => simpa only [obeys, commanded, compressor] using h
  | lights => simpa only [obeys, cap, lights] using h
  | outlet => exact outlet s h
  | base | warning => trivial

theorem setOutlet_state (st : OutletState) (closing : Option Nat) (d : Device) :
    (setOutlet st closing d).bgt.outlet.state = st := by
  unfold setOutlet
  dsimp only
  split <;> simp

/-- An open relay obeys every grant. -/
theorem outlet_obeys_of_open {d : Device} (h : relayClosed d = false) : obeys .outlet d := by
  intro closed
  rw [h] at closed
  cases closed

theorem outlet_obeys_of_granted {d : Device} (h : d.bgt.table.outlet.granted ≠ 0) : obeys .outlet d := fun _ => h

theorem setOutlet_budget {st : OutletState} {closing : Option Nat} {d : Device}
    (h : budgetSound d → obeys .outlet d → obeys .outlet (setOutlet st closing d)) : KeepsBudget v v d (setOutlet st closing d) :=
  .of_outlet (budgetSound_of_same (by simp) (by simp)) (by simp [sameHeater]) h (by simp)

/-- R68: a state with an open relay. -/
theorem openOutlet_budget {st : OutletState} (closing : Option Nat) (d : Device)
    (h : st ≠ .closing ∧ st ≠ .on) : KeepsBudget v v d (setOutlet st closing d) :=
  setOutlet_budget fun _ _ => outlet_obeys_of_open (by simp [relayClosed, setOutlet_state, h])

/-- R69: the relay closes with a grant. -/
theorem toClosing_budget {d : Device} (granted : budgetSound d → d.bgt.table.outlet.granted ≠ 0) : KeepsBudget v v d (toClosing d) :=
  setOutlet_budget fun s _ => outlet_obeys_of_granted (by simpa using granted s)

/-- R69: the relay that is closed stays so. -/
theorem closedOn_budget {d : Device} (closing : d.bgt.outlet.state = .closing) : KeepsBudget v v d (setOutlet .on none d) :=
  setOutlet_budget fun _ h => outlet_obeys_of_granted (by simpa using h (by simp [relayClosed, closing]))

/-- R54: the outlet's write, with its relay open. -/
theorem writeOutlet_budget {n : Nat} {d : Device} (open' : relayClosed d = false) : KeepsBudget v v d (writeEntry .outlet n 0 d) := by
  have kept (m : Load) (other : m ≠ .outlet) := writeEntry_get_other other n 0 d
  refine .of_outlet (fun s => writeEntry_sound _ _ _ s) ?_ (fun _ _ => outlet_obeys_of_open (by simpa [relayClosed] using open')) ?_
  · exact ⟨by simp, by simp, by simp, by simp, by simp, kept .heater (by decide)⟩
  · exact ⟨by simp, by simp, kept .compressor (by decide), kept .lights (by decide)⟩

theorem outletRequest_budget (d : Device) : KeepsBudget v v d (outletRequest d) := by
  have asked : KeepsBudget v v d (requestAllowance .outlet d).1 := requestAllowance_budget (by decide) d
  unfold outletRequest
  obtain ⟨-, eq⟩ | ⟨-, -, -, eq⟩ | ⟨-, -, -, granted, -, eq⟩ | ⟨-, -, -, -, -, eq⟩ := requestAllowance_cases .outlet d <;>
    rw [eq] at asked ⊢
  · exact openOutlet_budget none d (by decide)
  · exact openOutlet_budget none d (by decide)
  · exact asked.trans (toClosing_budget fun _ => granted)
  · exact asked.trans (openOutlet_budget none _ (by decide))

theorem outletGrant_budget (d : Device) : KeepsBudget v v d (outletGrant d) := by
  have back (t : Device) : KeepsBudget v v t (setOutlet .waitGrant none t) := openOutlet_budget none t (by decide)
  unfold outletGrant
  dsimp only
  split
  case h_1 => exact .refl d
  case h_2 => split_ifs; exacts [.refl d, outletRequest_budget d]
  case h_4 => split_ifs; exacts [(releaseAllowance_budget .outlet d).trans (back _), .refl d]
  all_goals split_ifs; exacts [back d, .refl d]

/-- R55: the outlet that takes its grant obeys it. -/
theorem outletGrant_obeys {d : Device} (sound : budgetSound d) : obeys .outlet (outletGrant d) := by
  by_cases none' : grantOf d .outlet = 0
  · refine outlet_obeys_of_open ?_
    unfold outletGrant
    cases at' : d.bgt.outlet.state <;> simp [none', relayClosed, setOutlet_state, at']
  · exact (outletGrant_budget (v := .limited) d).others sound .outlet (by decide) (outlet_obeys_of_granted none')

theorem outletGranted_budget {d : Device} (granted : budgetSound d → d.bgt.table.outlet.granted ≠ 0) :
    KeepsBudget v v d (outletGranted d) := by
  unfold outletGranted
  split
  · exact toClosing_budget granted
  · exact .refl d

theorem outletDenied_budget (d : Device) : KeepsBudget v v d (outletDenied d) := by
  unfold outletDenied
  split
  · exact openOutlet_budget none d (by decide)
  · exact .refl d

theorem outletRevoked_budget (d : Device) : KeepsBudget v v d (outletRevoked d) := by
  unfold outletRevoked
  split
  · next closing => exact closedOn_budget closing
  · exact .refl d

theorem closingExpiry_budget (d : Device) : KeepsBudget v v d (closingExpiry d) := by
  unfold closingExpiry
  split
  · next closing => exact (releaseAllowance_budget .outlet d).trans (closedOn_budget (by simpa using closing))
  · exact .refl d

theorem outletOn_budget (d : Device) : KeepsBudget v v d (outletOn d) := by
  unfold outletOn
  split
  · exact (openOutlet_budget none d (by decide)).trans (writeOutlet_budget (by simp [relayClosed, setOutlet_state]))
  · exact outletRequest_budget d
  all_goals exact .refl d

theorem outletOff_budget (d : Device) : KeepsBudget v v d (outletOff d) := by
  have off (t : Device) : KeepsBudget v v t (writeEntry .outlet 0 0 (setOutlet .off none t)) :=
    (openOutlet_budget none t (by decide)).trans (writeOutlet_budget (by simp [relayClosed, setOutlet_state]))
  unfold outletOff
  split
  · exact .refl d
  · exact (withdrawAllowance_budget .outlet d).trans (off _)
  · exact (releaseAllowance_budget .outlet d).trans (off _)
  all_goals exact off d

theorem outletToggle_budget (d : Device) : KeepsBudget v v d (outletToggle d) := by
  unfold outletToggle
  split
  · exact outletOff_budget d
  · exact outletOn_budget d

/-- A request that one more check may refuse keeps the Load Budget, if it does past the check. -/
theorem refuse_or_budget {c : Prop} [Decidable c] {r : Result} {d : Device} {a : Answered} (h : KeepsBudget v v d a.dev) :
    KeepsBudget v v d (if c then refuse r d else a).dev := by
  split
  · exact .refl d
  · exact h

theorem taken_budget {d t : Device} (h : KeepsBudget v v d t) (c : List Byte) : KeepsBudget v v d (taken t c).dev := h

theorem outletSetRequest_budget (b : List Byte) (d : Device) : KeepsBudget v v d (outletSetRequest b d).dev := by
  unfold outletSetRequest
  refine refuse_or_budget (refuse_or_budget (taken_budget ?_ _))
  split
  · exact outletOn_budget d
  · exact outletOff_budget d

/-! ## The lights' commands (R133 to R140, R145, R148) -/

/-- New targets keep the Load Budget, their need being written and the caps worked out afresh. -/
theorem refreshFrom_budget {d t : Device} (h : KeepsBudget v v d t) (was : List ChannelSetting) :
    KeepsBudget v v d (refreshLights was t) := h.trans (refreshLights_budget was t)

theorem settleLights_budget (d : Device) : KeepsBudget v v d (settleLights d) := .of_frame (by simp)

theorem putChannels_budget (l : List LightChannel) (d : Device) : KeepsBudget v v d (putChannels l d) := .of_frame (by simp)

theorem startCourtesy_budget (d : Device) : KeepsBudget v v d (startCourtesy d) := .of_frame (by simp)

theorem postIfMoved_budget (before : List Nat) (d : Device) : KeepsBudget v v d (postIfMoved before d) := .of_frame (by simp)

theorem setByHand_budget (which : List Nat) (target fade : Nat) (d : Device) : KeepsBudget v v d (setByHand which target fade d) := by
  have set (l : List Nat) (t : Device) : KeepsBudget v v t (l.foldl
      (fun (a : Device) n => putChannels (a.lgt.channels.set n ((channelOf a n).setByHand target fade a.sns.ms)) a) t) := by
    induction l generalizing t with
    | nil => exact .refl t
    | cons n l ih => exact (putChannels_budget _ t).trans (ih _)
  exact refreshFrom_budget ((settleLights_budget d).trans (set ..)) _

theorem lightSetRequest_budget (b : List Byte) (d : Device) : KeepsBudget v v d (lightSetRequest b d).dev := by
  unfold lightSetRequest
  exact refuse_or_budget (refuse_or_budget (refuse_or_budget (taken_budget (setByHand_budget ..) _)))

theorem lightGroupRequest_budget (b : List Byte) (d : Device) : KeepsBudget v v d (lightGroupRequest b d).dev := by
  unfold lightGroupRequest
  refine refuse_or_budget (refuse_or_budget ?_)
  extract_lets members d1
  by_cases none' : members = []
  · rw [if_pos none']
    exact .refl d
  · rw [if_neg none']
    exact taken_budget (setByHand_budget ..) _

theorem recallScene_budget (n : Nat) (d : Device) : KeepsBudget v v d (recallScene n d) :=
  refreshFrom_budget ((settleLights_budget d).trans (putChannels_budget ..)) _

theorem sceneRecallRequest_budget (b : List Byte) (d : Device) : KeepsBudget v v d (sceneRecallRequest b d).dev := by
  unfold sceneRecallRequest
  exact refuse_or_budget (refuse_or_budget (taken_budget (recallScene_budget ..) _))

theorem recallWakeScene_budget (d : Device) : KeepsBudget v v d (recallWakeScene d) :=
  (recallScene_budget 5 d).trans (post_budget ..)

theorem changeDialGroup_budget (f : LightChannel → LightChannel) (d : Device) : KeepsBudget v v d (changeDialGroup f d) :=
  refreshFrom_budget ((settleLights_budget d).trans (putChannels_budget ..)) _

theorem lightsDetent_budget (dir : DialDir) (multiplier : Nat) (d : Device) : KeepsBudget v v d (lightsDetent dir multiplier d) :=
  (startCourtesy_budget _).after ((postIfMoved_budget ..).after (changeDialGroup_budget _ d))

theorem dialPress_budget (d : Device) : KeepsBudget v v d (dialPress d) := by
  unfold dialPress
  refine (startCourtesy_budget _).after ((post_budget ..).after ?_)
  split <;> exact changeDialGroup_budget _ d

theorem dialPushEvent_budget (rising : Bool) (d : Device) : KeepsBudget v v d (dialPushEvent rising d) := by
  unfold dialPushEvent
  split
  · exact dialPress_budget d
  · exact startCourtesy_budget d

theorem doorOpen_budget (d : Device) : KeepsBudget v v d (doorOpen d) := by
  have started : KeepsBudget v v d (startCourtesy (settleLights d)) := (settleLights_budget d).trans (startCourtesy_budget _)
  unfold doorOpen
  dsimp only
  split
  · exact started
  · exact (post_budget ..).after (refreshFrom_budget (started.trans (putChannels_budget ..)) _)

theorem doorEvent_budget (rising : Bool) (d : Device) : KeepsBudget v v d (doorEvent rising d) := by
  unfold doorEvent
  split
  · exact doorOpen_budget d
  · exact .refl d

theorem putOutCourtesy_budget (fade : Nat) (d : Device) : KeepsBudget v v d (putOutCourtesy fade d) :=
  (postIfMoved_budget ..).after (refreshFrom_budget ((settleLights_budget d).trans (putChannels_budget ..)) _)

theorem courtesyExpiry_budget (d : Device) : KeepsBudget v v d (courtesyExpiry d) :=
  (putOutCourtesy_budget ..).after (.of_frame (by simp))

theorem lightsIgnitionOn_budget (d : Device) : KeepsBudget v v d (lightsIgnitionOn d) :=
  (putOutCourtesy_budget ..).after (.of_frame (by simp))

theorem lightConfigRequest_budget (b : List Byte) (d : Device) : KeepsBudget v v d (lightConfigRequest b d).dev := by
  unfold lightConfigRequest
  refine refuse_or_budget (refuse_or_budget (taken_budget (refreshFrom_budget ?_ _) _))
  exact (settleLights_budget d).trans (.of_frame ⟨rfl, rfl, rfl, rfl, rfl, rfl, rfl, rfl, rfl, rfl⟩)

theorem restartLights_budget (d : Device) : KeepsBudget v v d (restartLights d) := by
  unfold restartLights
  extract_lets d0 was before dark _ d1 d2
  have put : KeepsBudget v v d d1 :=
    (settleLights_budget d).trans (.of_frame ⟨rfl, rfl, rfl, rfl, rfl, rfl, rfl, rfl, rfl, rfl⟩)
  have refreshed : KeepsBudget v v d d2 := refreshFrom_budget put was
  split
  · exact refreshed.trans (postIfMoved_budget ..)
  · exact refreshed

end Sys2Proof.Machine
end

section
/-! PROOFS. The grants that a budget pass decides: only the grants of sheddable loads move, and each stays between its floor and its
request (R58 to R62). -/

namespace Sys2Proof.Machine

/-- `u` is `t` with other grants alone, each still between its entry's floor and its request. -/
def Regranted (t u : LoadTable) : Prop :=
  ∀ l, u.get l = { t.get l with granted := (u.get l).granted } ∧ (t.get l).floor ≤ (u.get l).granted ∧
    (u.get l).granted ≤ (t.get l).requested

theorem Regranted.refl {t : LoadTable} (sound : t.sound) : Regranted t t := fun l =>
  ⟨rfl, (sound.entry l).2.1, (sound.entry l).2.2.1⟩

/-- What a regranted table keeps of an entry. -/
theorem Regranted.entry {t u : LoadTable} (h : Regranted t u) (l : Load) :
    (u.get l).requested = (t.get l).requested ∧ (u.get l).floor = (t.get l).floor ∧ (u.get l).rank = (t.get l).rank ∧
    (u.get l).steps = (t.get l).steps := by
  rw [(h l).1]
  exact ⟨rfl, rfl, rfl, rfl⟩

@[simp] theorem loadTable_get_grant (t : LoadTable) (l m : Load) (n : Nat) :
    (t.grant l n).get m = if m = l then { t.get l with granted := n } else t.get m := loadTable_get_put ..

/-- One more grant, between the entry's floor and its request. -/
theorem Regranted.grant {t u : LoadTable} (h : Regranted t u) {l : Load} {n : Nat} (low : (t.get l).floor ≤ n)
    (high : n ≤ (t.get l).requested) : Regranted t (u.grant l n) := by
  intro m
  rw [loadTable_get_grant]
  split
  · next same =>
    subst same
    refine ⟨?_, low, high⟩
    rw [(h m).1]
  · exact h m

/-- R58: every sheddable grant worked out from its entry. -/
theorem grantAll_regranted {t : LoadTable} (sound : t.sound) {f : Entry → Nat}
    (within : ∀ e, e.floor ≤ e.requested → e.floor ≤ f e ∧ f e ≤ e.requested) : Regranted t (t.grantAll f) := by
  have walk (loads : List Load) (u : LoadTable) (h : Regranted t u) :
      Regranted t (loads.foldl (fun acc l => acc.grant l (f (t.get l))) u) := by
    induction loads generalizing u with
    | nil => exact h
    | cons l loads ih =>
      obtain ⟨-, low, high, -⟩ := sound.entry l
      obtain ⟨above, below⟩ := within (t.get l) (low.trans high)
      exact ih _ (h.grant above below)
  exact walk sheddable t (.refl sound)

theorem unknownLowGrant_within (e : Entry) (h : e.floor ≤ e.requested) :
    e.floor ≤ unknownLowGrant e ∧ unknownLowGrant e ≤ e.requested := by
  unfold unknownLowGrant
  split
  · exact ⟨h, le_rfl⟩
  · exact ⟨h, le_rfl⟩
  · exact ⟨le_rfl, h⟩

/-- R59: a load lowered step by step to its floor at most. -/
theorem lowerLoad_regranted {t : LoadTable} (l : Load) (h usable fuel : Nat) {u : LoadTable} (reg : Regranted t u) :
    Regranted t (lowerLoad l h usable fuel u).1 := by
  induction fuel generalizing u with
  | zero => exact reg
  | succ fuel ih =>
    have lowered (above : ¬(u.get l).granted ≤ (u.get l).floor) : Regranted t (u.grant l ((u.get l).granted - 1)) := by
      obtain ⟨-, floor, -, -⟩ := reg.entry l
      obtain ⟨-, -, high⟩ := reg l
      exact reg.grant (by omega) (by omega)
    unfold lowerLoad
    split
    · exact reg
    · next above =>
      dsimp only
      split
      · exact lowered above
      · exact ih (lowered above)

theorem walkLoads_regranted {t : LoadTable} (h usable : Nat) (loads : List Load) {u : LoadTable} (reg : Regranted t u) :
    Regranted t (walkLoads h usable loads u).1 := by
  induction loads generalizing u with
  | nil => exact reg
  | cons l loads ih =>
    have lowered := lowerLoad_regranted l h usable ((u.get l).granted - (u.get l).floor) reg
    unfold walkLoads
    split
    · next eq => rwa [eq] at lowered
    · next eq => rw [eq] at lowered; exact ih lowered

theorem bestLimited_below {t : LoadTable} {l : Load} (h : bestLimited t = some l) : (t.get l).granted < (t.get l).requested := by
  simpa using List.find?_some h

theorem raiseOne_regranted {t : LoadTable} (sound : t.sound) (h usable : Nat) : Regranted t (raiseOne h usable t) := by
  unfold raiseOne
  split
  · exact .refl sound
  · next l best =>
    have below := bestLimited_below best
    obtain ⟨-, low, -, -⟩ := sound.entry l
    dsimp only
    split
    · exact (Regranted.refl sound).grant (by omega) (by omega)
    · exact .refl sound

theorem weighedGrants_regranted {t : LoadTable} (sound : t.sound) (h usable : Nat) : Regranted t (weighedGrants h usable t).1 := by
  unfold weighedGrants
  split
  · exact raiseOne_regranted sound h usable
  · exact walkLoads_regranted h usable _ (.refl sound)

/-- R58 to R60: whatever the policy, a pass moves grants alone, each within its entry's range. -/
theorem decideGrants_regranted {t : LoadTable} (sound : t.sound) (p : Policy) (h usable : Nat) :
    Regranted t (decideGrants p h usable t).1 := by
  cases p with
  | exempt | unknownNormal => exact grantAll_regranted sound fun e within => ⟨within, le_rfl⟩
  | critical => exact grantAll_regranted sound fun e within => ⟨le_rfl, within⟩
  | unknownLow => exact grantAll_regranted sound unknownLowGrant_within
  | knownNormal | knownLow => exact weighedGrants_regranted sound h usable

/-- R62: an entry after the since times of the changed grants are set. -/
theorem stampSince_get (t u : LoadTable) (uptime : Nat) (l : Load) :
    (stampSince t u uptime).get l =
      if l ∈ sheddable ∧ (u.get l).granted ≠ (t.get l).granted then { u.get l with since := uptime } else u.get l := by
  have walk (loads : List Load) (acc : LoadTable) :
      (loads.foldl (fun (acc : LoadTable) m =>
        if (u.get m).granted = (t.get m).granted then acc else acc.put m { u.get m with since := uptime }) acc).get l =
      if l ∈ loads ∧ (u.get l).granted ≠ (t.get l).granted then { u.get l with since := uptime } else acc.get l := by
    induction loads generalizing acc with
    | nil => simp
    | cons m loads ih =>
      rw [List.foldl_cons, ih]
      by_cases here : l = m
      · subst here
        by_cases same : (u.get l).granted = (t.get l).granted <;> by_cases later : l ∈ loads <;> simp [same, later]
      · by_cases same : (u.get m).granted = (t.get m).granted <;> simp [here, same]
  exact walk sheddable u

theorem stampSince_entry (t u : LoadTable) (uptime : Nat) (l : Load) :
    ∃ since, (stampSince t u uptime).get l = { u.get l with since := since } := by
  rw [stampSince_get]
  split
  · exact ⟨uptime, rfl⟩
  · exact ⟨(u.get l).since, rfl⟩

end Sys2Proof.Machine
end

section
/-! PROOFS. The allowance's answers and the budget pass keep every load within its grant (R55, R65 to R67). -/

namespace Sys2Proof.Machine

/-! ## The allowance's answers (R65 to R67) -/

theorem foldl_budget {v : HeaterStage} {α : Type} {f : Device → α → Device} (hf : ∀ d a, KeepsBudget v v d (f d a)) (l : List α) (d : Device) :
    KeepsBudget v v d (l.foldl f d) := by
  induction l generalizing d with
  | nil => exact .refl d
  | cons a l ih => exact (hf d a).trans (ih _)

theorem answerGranted_budget {l : Load} {d : Device} (granted : budgetSound d → 0 < (d.bgt.table.get l).granted) :
    KeepsBudget .obeyed .obeyed d (answerGranted l d) := by
  cases l with
  | heater => exact heaterGranted_budget d
  | compressor => exact compGranted_budget d
  | outlet => exact outletGranted_budget fun s => Nat.ne_of_gt (granted s)
  | base | lights | warning => exact .refl d

theorem answerDenied_budget (l : Load) (d : Device) : KeepsBudget .obeyed .obeyed d (answerDenied l d) := by
  cases l with
  | heater => exact heaterDenied_budget d
  | compressor => exact compDenied_budget d
  | outlet => exact outletDenied_budget d
  | base | lights | warning => exact .refl d

theorem answerRevoked_budget (l : Load) (d : Device) : KeepsBudget .obeyed .obeyed d (answerRevoked l d) := by
  cases l with
  | heater => exact attemptFails_budget d
  | compressor => exact compRevoked_budget d
  | outlet => exact outletRevoked_budget d
  | base | lights | warning => exact .refl d

theorem revokeHolder_budget (d : Device) : KeepsBudget .obeyed .obeyed d (revokeHolder d) := by
  unfold revokeHolder
  split
  · exact (answerRevoked_budget ..).after (putAllowance_budget fun s => s.2.release _)
  all_goals exact .refl d

/-- R65: the first of the waiting loads leaves the list. -/
theorem Allowance.sound.tail {a : Allowance} {t : LoadTable} (h : a.sound t) {l : Load} {rest : List Load}
    (waiting : a.waiting = l :: rest) : Allowance.sound { a with waiting := rest } t ∧ l ∈ inrushLoads ∧ l ∉ rest ∧
      0 < (t.get l).granted := by
  obtain ⟨nodup, each, free, timers⟩ := h
  rw [waiting] at nodup each free
  obtain ⟨apart, nodup⟩ := List.nodup_cons.1 nodup
  obtain ⟨-, inrush, granted⟩ := each l List.mem_cons_self
  refine ⟨⟨nodup, fun m hm => each m (List.mem_cons_of_mem _ hm), fun hf => ?_, timers⟩, inrush, apart, granted⟩
  exact absurd (free hf) (List.cons_ne_nil _ _)

/-- R65: an allowance that nobody waits for becomes FREE. -/
theorem Allowance.sound.freed {a : Allowance} {t : LoadTable} (h : a.sound t) (settles : a.settle.isSome = true)
    (waiting : a.waiting = []) : Allowance.sound { a with state := .free, settle := none } t := by
  obtain ⟨-, -, -, -, hold, settle⟩ := h
  have unheld : a.hold.isSome = false := by
    rw [settle.1 settles] at hold
    simpa [AllowanceState.holder] using hold
  refine ⟨?_, ?_, fun _ => waiting, nofun, ?_, ?_⟩ <;> simp [waiting, unheld, AllowanceState.holder]

theorem settlingExpiry_budget {d : Device} (settles : d.bgt.allowance.settle.isSome = true) :
    KeepsBudget .obeyed .obeyed d (settlingExpiry d) := by
  unfold settlingExpiry
  split
  · next waiting => exact putAllowance_budget fun s => s.2.freed settles waiting
  · next l rest waiting =>
    have given : KeepsBudget .obeyed .obeyed d (putAllowance ({ d.bgt.allowance with waiting := rest }.give l d.sns.ms) d) := by
      refine putAllowance_budget fun s => ?_
      obtain ⟨sound, inrush, apart, -⟩ := s.2.tail waiting
      exact sound.give inrush apart _
    refine ⟨fun s => ?_, fun s => ?_, fun s => ?_⟩ <;>
      have answered := answerGranted_budget (l := l)
        (d := putAllowance ({ d.bgt.allowance with waiting := rest }.give l d.sns.ms) d) fun _ => (s.2.tail waiting).2.2.2
    · exact (given.trans answered).sound s
    · exact (given.trans answered).heater s
    · exact (given.trans answered).others s

/-- R67: an emptied waiting list. -/
theorem Allowance.sound.emptied {a : Allowance} {t : LoadTable} (h : a.sound t) : Allowance.sound { a with waiting := [] } t := by
  obtain ⟨-, -, -, rest⟩ := h
  exact ⟨List.nodup_nil, nofun, fun _ => rfl, rest⟩

theorem flushAllowance_budget (d : Device) : KeepsBudget .obeyed .obeyed d (flushAllowance d) :=
  (revokeHolder_budget _).after
    ((foldl_budget (fun d l => answerDenied_budget l d) _ _).after (putAllowance_budget fun s => s.2.emptied))

/-! ## The grants handed over (R55) -/

/-- A load that takes its grant keeps what the others obey. -/
theorem handGrant_budget {l : Load} (other : l ≠ .heater) (d : Device) : KeepsBudget .obeyed .obeyed d (handGrant l d) := by
  cases l with
  | heater => exact absurd rfl other
  | compressor => exact compGrant_budget d
  | lights => exact lightsGrant_budget d
  | outlet => exact outletGrant_budget d
  | base | warning => exact .refl d

/-- R55: a load that takes its grant obeys it. -/
theorem handGrant_obeys {l : Load} (other : l ≠ .heater) {d : Device} (sound : budgetSound d) : obeys l (handGrant l d) := by
  cases l with
  | heater => exact absurd rfl other
  | compressor =>
    have stepped : KeepsBudget .limited .limited d (commandStep d) := commandStep_budget d
    exact (compGrant_commanded (v := .limited) d).others (stepped.sound sound) .compressor (by decide) (commandStep_obeys d)
  | lights => exact recap_obeys ..
  | outlet => exact outletGrant_obeys sound
  | base | warning => trivial

/-- Loads other than HEATER take their grants one after the other: each of them, and each load that obeyed before, obeys. -/
theorem handAll_obeys {loads : List Load} (others : .heater ∉ loads) {d : Device} (sound : budgetSound d) {l : Load}
    (other : l ≠ .heater) (h : l ∈ loads ∨ obeys l d) : obeys l (loads.foldl (fun acc m => handGrant m acc) d) := by
  induction loads generalizing d with
  | nil => exact h.resolve_left List.not_mem_nil
  | cons m loads ih =>
    have apart : m ≠ .heater := fun same => others (same ▸ List.mem_cons_self)
    have handed := handGrant_budget apart d
    refine ih (fun mem => others (List.mem_cons_of_mem _ mem)) (handed.sound sound) ?_
    by_cases here : l = m
    · exact .inr (here ▸ handGrant_obeys apart sound)
    · rcases h with mem | held
      · exact .inl ((List.mem_cons.1 mem).resolve_left here)
      · exact .inr (handed.others sound l other held)

theorem handAll_budget {loads : List Load} (others : .heater ∉ loads) (d : Device) :
    KeepsBudget .obeyed .obeyed d (loads.foldl (fun acc m => handGrant m acc) d) := by
  induction loads generalizing d with
  | nil => exact .refl d
  | cons m loads ih =>
    exact (handGrant_budget (fun same => others (same ▸ List.mem_cons_self)) d).trans
      (ih (fun mem => others (List.mem_cons_of_mem _ mem)) _)

/-! ## The pass (R57 to R62) -/

/-- A table with other grants in their ranges, and other since times, is as sound. -/
theorem Regranted.sound {t u : LoadTable} (reg : Regranted t u) (sound : t.sound) (uptime : Nat) : (stampSince t u uptime).sound := by
  refine sound.congr (fun l => ?_) (fun l => ?_) <;> obtain ⟨since, eq⟩ := stampSince_entry t u uptime l <;> rw [eq, (reg l).1]
  obtain ⟨steps, -, -, last⟩ := sound.entry l
  exact ⟨steps, (reg l).2.1, (reg l).2.2, last⟩

/-- The part with the table and the allowance of a pass. -/
theorem passed_sound {d t : Device} {new : LoadTable} (sound : budgetSound d) (table : t.bgt.table = new) (ok : new.sound)
    (allowance : t.bgt.allowance = { d.bgt.allowance with
      waiting := d.bgt.allowance.waiting.filter fun l => decide (0 < (new.get l).granted) }) : budgetSound t := by
  rw [budgetSound, table, allowance]
  exact ⟨ok, sound.2.filter _ fun _ _ kept _ => of_decide_eq_true kept⟩

/-- What a load whose grant is the same obeys depends on nothing else that a pass publishes. -/
theorem obeys_of_published {d t : Device} (heater : t.htr = d.htr) (quiet : t.npl.quiet = d.npl.quiet)
    (commanded : t.cmp.commanded = d.cmp.commanded) (cap : t.lgt.capStep = d.lgt.capStep)
    (outlet : t.bgt.outlet.state = d.bgt.outlet.state) (l : Load)
    (entry : (t.bgt.table.get l).granted = (d.bgt.table.get l).granted ∧
      (t.bgt.table.get l).requested = (d.bgt.table.get l).requested ∧ (t.bgt.table.get l).floor = (d.bgt.table.get l).floor)
    (h : obeys l d) : obeys l t := by
  obtain ⟨granted, requested, floor⟩ := entry
  cases l
  case base | warning => trivial
  all_goals
    simp only [LoadTable.get] at granted requested floor
    simpa only [obeys, levelHeld, entryAsked, maxAllowed, relayClosed, heater, quiet, commanded, cap, outlet, granted, requested,
      floor] using h

theorem asked_of_published {d t : Device} (heater : t.htr = d.htr) (requested : t.bgt.table.heater.requested = d.bgt.table.heater.requested)
    (floor : t.bgt.table.heater.floor = d.bgt.table.heater.floor) (h : HeaterStage.asked.holds d) : HeaterStage.asked.holds t := by
  simpa only [HeaterStage.holds, limitsHeld, entryAsked, heater, requested, floor] using h

/-- R55: the grants that changed are handed over, HEATER's first; the loads whose grants stay obey them already. -/
theorem handChanged_budget {d t : Device} (moved : Load → Bool) (sound : budgetSound d → budgetSound t)
    (asked : budgetSound d → HeaterStage.obeyed.holds d → HeaterStage.asked.holds t)
    (stays : budgetSound d → ∀ l, l ∉ sheddable.filter moved → obeys l d → obeys l t) :
    KeepsBudget .obeyed .obeyed d ((sheddable.filter moved).foldl (fun acc l => handGrant l acc) t) := by
  set rest := [Load.compressor, .lights, .outlet].filter moved with hrest
  have others : .heater ∉ rest := by simp [hrest]
  have tail (l : Load) (other : l ≠ .heater) (mem : l ∈ sheddable.filter moved) : l ∈ rest := by
    have mem := List.mem_filter.1 mem
    exact List.mem_filter.2 ⟨(List.mem_cons.1 mem.1).resolve_left other, mem.2⟩
  obtain ⟨x, first, xsound, xheld, xkept⟩ : ∃ x, (sheddable.filter moved).foldl (fun acc l => handGrant l acc) t =
      rest.foldl (fun acc l => handGrant l acc) x ∧ (budgetSound d → budgetSound x) ∧
      (budgetSound d → HeaterStage.obeyed.holds d → HeaterStage.obeyed.holds x) ∧
      (budgetSound d → ∀ l, l ≠ .heater → obeys l t → obeys l x) := by
    have split : sheddable.filter moved = if moved .heater then .heater :: rest else rest := List.filter_cons
    split_ifs at split with heater
    · have handed := heaterGrant_budget t
      refine ⟨heaterGrant t, by rw [split]; rfl, fun s => handed.sound (sound s), ?_, fun s => handed.others (sound s)⟩
      exact fun s h => handed.heater (sound s) (asked s h)
    · exact ⟨t, by rw [split], sound, fun s h => stays s .heater (split ▸ others) h, fun _ _ _ h => h⟩
  rw [first]
  have handed := handAll_budget others x
  refine ⟨fun s => handed.sound (xsound s), fun s h => handed.heater (xsound s) (xheld s h), fun s l other h => ?_⟩
  refine handAll_obeys others (xsound s) other ?_
  by_cases mem : l ∈ sheddable.filter moved
  · exact .inl (tail l other mem)
  · exact .inr (xkept s l other (stays s l mem h))

theorem runPass_budget (d : Device) : KeepsBudget .obeyed .obeyed d (runPass d) := by
  unfold runPass
  extract_lets p h usable old
  have decided (sound : budgetSound d) := decideGrants_regranted sound.1 p h usable
  change budgetSound d → Regranted old (decideGrants p h usable old).1 at decided
  generalize decideGrants p h usable old = decision at decided ⊢
  obtain ⟨table, stage, short⟩ := decision
  dsimp -zeta only at decided ⊢
  extract_lets new waiting last d1 d2 changed
  generalize shows : showShort d.bgt.last.short short d2 = d3
  have published : d3.bgt = d1.bgt ∧ d3.htr = d.htr ∧ d3.npl.quiet = d.npl.quiet ∧ d3.cmp.commanded = d.cmp.commanded ∧
      d3.lgt.capStep = d.lgt.capStep := by
    rw [← shows]
    unfold d2
    split <;> simp [d1]
  obtain ⟨bgt, heater, quiet, commanded, cap⟩ := published
  have entries (s : budgetSound d) (l : Load) : (d3.bgt.table.get l).requested = (d.bgt.table.get l).requested ∧
      (d3.bgt.table.get l).floor = (d.bgt.table.get l).floor := by
    obtain ⟨since, eq⟩ := stampSince_entry old table d.sns.uptime l
    obtain ⟨requested, floor, -⟩ := (decided s).entry l
    rw [show d3.bgt.table = new from congrArg (·.table) bgt, eq]
    exact ⟨requested, floor⟩
  refine handChanged_budget _ (fun s => ?_) (fun s h => ?_) (fun s l mem h => ?_)
  · exact passed_sound (new := new) s (congrArg (·.table) bgt) ((decided s).sound s.1 _) (congrArg (·.allowance) bgt)
  · exact asked_of_published heater (entries s .heater).1 (entries s .heater).2 (obeyed_asked h)
  · by_cases sheds : l ∈ sheddable
    · have same : (new.get l).granted = (old.get l).granted := by simpa [sheds] using mem
      refine obeys_of_published heater quiet commanded cap (congrArg (·.outlet.state) bgt) l ⟨?_, entries s l⟩ h
      exact (show d3.bgt.table = new from congrArg (·.table) bgt) ▸ same
    · cases l
      case base | warning => trivial
      all_goals exact absurd (by decide) sheds

theorem budgetPass_budget (d : Device) : KeepsBudget .obeyed .obeyed d (budgetPass d) :=
  (runPass_budget _).after (.of_frame ⟨rfl, rfl, rfl, rfl, rfl, rfl, rfl, rfl, rfl, rfl⟩)

end Sys2Proof.Machine
end

section
/-! PROOFS. The Load Budget stays sound and the grants obeyed whatever the step runs (R53 to R71, R79, R91). -/

namespace Sys2Proof.Machine

/-- Going from `d` to `t` keeps a sound Load Budget sound and what every load obeys. -/
abbrev BudgetKept (d t : Device) : Prop := KeepsBudget .obeyed .obeyed d t

/-! ## The Load Table configured (R71, R75) -/

/-- R71: ranks 1 to 4 in some order and step lists of the loads' lengths keep the table sound. -/
theorem LoadTable.sound.configured {t : LoadTable} (h : t.sound) {base comp lights outlet warning : List Nat} {r0 r1 r2 r3 : Nat}
    (lengths : base.length = 1 ∧ comp.length = 5 ∧ lights.length = 4 ∧ outlet.length = 2 ∧ warning.length = 1)
    (ranks : ∀ r ∈ [1, 2, 3, 4], r ∈ [r0, r1, r2, r3]) :
    LoadTable.sound
      { base := t.base.configured none base
        heater := t.heater.configured (some r0) t.heater.steps
        compressor := t.compressor.configured (some r1) comp
        lights := t.lights.configured (some r2) lights
        outlet := t.outlet.configured (some r3) outlet
        warning := t.warning.configured none warning } := by
  obtain ⟨hbase, hcomp, hlights, houtlet, hwarning⟩ := lengths
  refine (LoadTable.sound_iff _).2 ⟨fun l => ?_, rfl, rfl, fun r hr => ?_⟩
  · have entry := h.entry l
    obtain ⟨steps, range⟩ := entry
    cases l
    case heater => exact ⟨steps, range⟩
    all_goals exact ⟨by assumption, range⟩
  · have mem := ranks r hr
    simp only [List.mem_cons, List.not_mem_nil, or_false] at mem
    rcases mem with rfl | rfl | rfl | rfl
    · exact ⟨.heater, by decide, rfl⟩
    · exact ⟨.compressor, by decide, rfl⟩
    · exact ⟨.lights, by decide, rfl⟩
    · exact ⟨.outlet, by decide, rfl⟩

/-- A table whose entries keep their requests, floors and grants keeps what the loads obey. -/
theorem configured_budget {d : Device} {table : LoadTable} {horizon : Nat} (sound : budgetSound d → table.sound)
    (same : ∀ l, (table.get l).requested = (d.bgt.table.get l).requested ∧ (table.get l).floor = (d.bgt.table.get l).floor ∧
      (table.get l).granted = (d.bgt.table.get l).granted) :
    BudgetKept d { d with bgt := { d.bgt with table := table, defaultHorizon := horizon } } where
  sound s := ⟨sound s, s.2.congr fun l _ pos => by rw [(same l).2.2]; exact pos⟩
  heater _ h := by
    obtain ⟨requested, floor, granted⟩ := same .heater
    refine obeys_of_published (d := d) ?_ ?_ ?_ ?_ ?_ .heater ⟨granted, requested, floor⟩ h <;> rfl
  others _ l _ h := by
    obtain ⟨requested, floor, granted⟩ := same l
    refine obeys_of_published (d := d) ?_ ?_ ?_ ?_ ?_ l ⟨granted, requested, floor⟩ h <;> rfl

theorem defaultBudget_budget (d : Device) : BudgetKept d (defaultBudget d) := by
  refine configured_budget (fun s => ?_) (fun l => by cases l <;> exact ⟨rfl, rfl, rfl⟩)
  exact s.1.configured ⟨rfl, rfl, rfl, rfl, rfl⟩ (by decide)

theorem triggerPass_budget (d : Device) : BudgetKept d (triggerPass d) :=
  .of_frame ⟨rfl, rfl, rfl, rfl, rfl, rfl, rfl, rfl, rfl, rfl⟩

theorem wordsAt_length (b : List Byte) (offset n : Nat) : (wordsAt b offset n).length = n := by simp [wordsAt]

theorem budgetConfigRequest_budget (b : List Byte) (d : Device) : BudgetKept d (budgetConfigRequest b d).dev := by
  unfold budgetConfigRequest
  refine refuse_or_budget ?_
  extract_lets base comp lights outlet warning horizon t table
  split_ifs with ranks
  · exact .refl d
  · exact .refl d
  · exact .refl d
  · refine taken_budget ((triggerPass_budget _).after (configured_budget (fun s => ?_) (fun l => by cases l <;> exact ⟨rfl, rfl, rfl⟩))) _
    refine s.1.configured ⟨wordsAt_length .., wordsAt_length .., wordsAt_length .., wordsAt_length .., wordsAt_length ..⟩ ?_
    have good : goodRanks [byteAt b 0, byteAt b 1, byteAt b 2, byteAt b 3] = true := by simpa using ranks
    exact fun r hr => of_decide_eq_true (List.all_eq_true.1 good r hr)

theorem restartBudget_budget (d : Device) : BudgetKept d (restartBudget d) := by
  have emptied : BudgetKept d (flushAllowance (defaultBudget d)) := (flushAllowance_budget _).after (defaultBudget_budget d)
  exact (runPass_budget _).after (emptied.trans (outletOff_budget _))

/-! ## The Charge Counter's hand-offs -/

theorem putChg_budget (c : Charge) (d : Device) : BudgetKept d (putChg c d) := .of_frame (by simp)

theorem publishCharge_budget (wasKnown : Bool) (wasUv : Undervoltage) (d : Device) :
    BudgetKept d (publishCharge wasKnown wasUv d) := by
  unfold publishCharge handOnCharge
  refine (putChg_budget d.chg.derived d).trans ?_
  extract_lets d1 d2
  have triggered : BudgetKept (putChg d.chg.derived d) d1 := by
    unfold d1
    split
    · exact .refl _
    · exact triggerPass_budget _
  have twice : BudgetKept (putChg d.chg.derived d) d2 := triggered.trans (triggerPass_budget d1)
  split_ifs
  · exact triggered
  · exact twice.trans (flushAllowance_budget _)
  · exact twice

theorem accountingTick_budget (d : Device) : BudgetKept d (accountingTick d) := by
  unfold accountingTick
  extract_lets _ d1
  refine (publishCharge_budget ..).after (.of_frame ?_)
  split <;> simp [d1]

theorem gradingComplete_budget (d : Device) : BudgetKept d (gradingComplete d) := by
  unfold gradingComplete
  split
  · exact .refl d
  · exact (publishCharge_budget ..).after (.of_frame (by simp))

theorem fullChargeReached_budget (d : Device) : BudgetKept d (fullChargeReached d) := by
  unfold fullChargeReached
  split
  · exact (publishCharge_budget ..).after (.of_frame (by simp))
  · exact .refl d

theorem setChargeRequest_budget (b : List Byte) (d : Device) : BudgetKept d (setChargeRequest b d).dev := by
  unfold setChargeRequest
  extract_lets _ d1
  split_ifs
  · exact .refl d
  · exact .refl d
  · exact (publishCharge_budget ..).after (.of_frame (by simp [d1]))

theorem batteryConfigRequest_budget (b : List Byte) (d : Device) : BudgetKept d (batteryConfigRequest b d).dev := by
  unfold batteryConfigRequest
  extract_lets q d1 d2
  refine refuse_or_budget (refuse_or_budget (refuse_or_budget (taken_budget ?_ _)))
  refine (publishCharge_budget ..).after (.of_frame ?_)
  unfold d2
  split <;> simp [d1]

/-! ## The Night Plan's hand-offs -/

/-- R91, R177: the quiet hours may change, before the caps follow them. -/
theorem putPlan_asked (p : Plan) (d : Device) : KeepsBudget .obeyed .asked d (putPlan p d) where
  sound := id
  heater _ := obeyed_asked
  others _ := sameOthers.obeys ⟨rfl, rfl, rfl, rfl, rfl, rfl⟩

theorem refreshQuiet_budget (d : Device) : BudgetKept d (refreshQuiet d) := by
  unfold refreshQuiet
  extract_lets q _ d1
  split
  · exact .refl d
  · have handed : BudgetKept d d1 := (heaterCaps_budget _).after ((compCaps_budget _).after (putPlan_asked ..))
    refine handed.trans (.of_frame ?_)
    split <;> simp

theorem putPlan_budget {p : Plan} {d : Device} (quiet : p.quiet = d.npl.quiet) : BudgetKept d (putPlan p d) :=
  .of_frame ⟨rfl, rfl, rfl, rfl, rfl, rfl, rfl, rfl, rfl, quiet⟩

theorem postPlan_budget (c : PlanCause) (d : Device) : BudgetKept d (postPlan c d) := .of_frame (by simp)

theorem givePrewarm_budget (d : Device) : BudgetKept d (givePrewarm d) := by
  have started := (startHeater_budget .prewarm d.npl.setpoint _).after (putPlan_budget (p := { d.npl with state := .prewarm }) (d := d) rfl)
  unfold givePrewarm
  split
  · next d1 h =>
    rw [h] at started
    exact started.trans (.of_frame (by simp))
  · next d1 r h =>
    rw [h] at started
    exact started.trans (.of_frame (by simp))

theorem prewarmTest_budget (d : Device) : BudgetKept d (prewarmTest d) := by
  unfold prewarmTest
  split
  · split
    · exact givePrewarm_budget d
    · exact .refl d
  · exact .refl d

theorem leadRecompute_budget (d : Device) : BudgetKept d (leadRecompute d) := by
  unfold leadRecompute
  split
  · exact (prewarmTest_budget _).after (putPlan_budget rfl)
  · exact .refl d

theorem moveWake_budget (wake : Option Nat) (d : Device) : BudgetKept d (moveWake wake d) := by
  unfold moveWake
  split
  · exact .refl d
  · exact (prewarmTest_budget _).after (.of_frame (by simp))

theorem carryOutWake_budget (d : Device) : BudgetKept d (carryOutWake d) := by
  unfold carryOutWake
  extract_lets _ d1 d2 plan d3
  have quieted : BudgetKept d d1 := (refreshQuiet_budget _).after (putPlan_budget rfl)
  have recalled : BudgetKept d1 d2 := by
    unfold d2
    refine (postPlan_budget ..).after ?_
    split
    · exact recallWakeScene_budget d1
    · exact .refl d1
  have resolved : BudgetKept d2 d3 := .of_frame (by simp [d3, plan])
  exact (putPlan_budget (by rfl)).after ((quieted.trans recalled).trans resolved)

theorem wakeTest_budget (d : Device) : BudgetKept d (wakeTest d) := by
  unfold wakeTest
  split
  · exact .refl d
  · split
    · exact carryOutWake_budget d
    · exact .refl d

theorem retarget_budget (projection : Option Nat) (d : Device) : BudgetKept d (retarget projection d) := by
  unfold retarget
  split
  · split
    · exact moveWake_budget ..
    · split
      · exact carryOutWake_budget d
      · exact moveWake_budget ..
  · exact .refl d

theorem planHandoff_budget (cls : ActClass) (projection : Option Nat) (d : Device) :
    BudgetKept d (planHandoff cls projection d) := by
  unfold planHandoff
  extract_lets moved _ d1
  have quieted : BudgetKept d d1 := (refreshQuiet_budget _).after (putPlan_budget rfl)
  split
  · exact quieted.trans (retarget_budget ..)
  · exact quieted

theorem setPlan_budget (source : WakeSource) (wall setpoint : Nat) (lights : Bool) (d : Device) :
    BudgetKept d (setPlan source wall setpoint lights d) := by
  unfold setPlan
  extract_lets d1 plan p
  have set : BudgetKept d (wakeChange (putPlan p d1)) := .of_frame (by simp [d1, plan, p])
  exact (prewarmTest_budget _).after ((postPlan_budget ..).after ((refreshQuiet_budget _).after set))

theorem planSetRequest_budget (b : List Byte) (d : Device) : BudgetKept d (planSetRequest b d).dev := by
  unfold planSetRequest
  extract_lets wall setpoint host d1
  exact refuse_or_budget (refuse_or_budget (refuse_or_budget (refuse_or_budget (taken_budget (setPlan_budget ..) _))))

theorem cancelPlan_budget (d : Device) : BudgetKept d (cancelPlan d) := by
  unfold cancelPlan
  extract_lets live _ d1 d2
  have quieted : BudgetKept d d1 := (refreshQuiet_budget _).after (putPlan_budget rfl)
  refine quieted.trans (.of_frame ?_)
  split <;> simp [d2]

theorem planCancelRequest_budget (b : List Byte) (d : Device) : BudgetKept d (planCancelRequest b d).dev := by
  unfold planCancelRequest
  exact refuse_or_budget (cancelPlan_budget d)

theorem quietSetRequest_budget (b : List Byte) (d : Device) : BudgetKept d (quietSetRequest b d).dev := by
  unfold quietSetRequest
  extract_lets _ d1
  split_ifs
  · exact .refl d
  · exact .refl d
  · exact (refreshQuiet_budget _).after (putPlan_budget rfl)

theorem restartPlan_budget (d : Device) : BudgetKept d (restartPlan d) := by
  unfold restartPlan
  extract_lets _ d1
  have quieted : BudgetKept d d1 := (refreshQuiet_budget _).after (putPlan_budget rfl)
  exact quieted.trans (.of_frame (by simp))

/-! ## The Rest-Time Monitor's hand-offs -/

theorem handToPlan_budget (took : Bool) (d : Device) : BudgetKept d (handToPlan took d) := by
  unfold handToPlan
  split
  · exact (planHandoff_budget ..).after (.of_frame (by simp))
  · exact .refl d

theorem tickTail_budget (took : Bool) (d : Device) : BudgetKept d (tickTail took d) :=
  (handToPlan_budget ..).after (.of_frame (by simp))

theorem restTick_budget (d : Device) : BudgetKept d (restTick d) := by
  have headed : BudgetKept d (takeIfSettled (tickHead { d with sched := { d.sched with restTick := false } })).1 :=
    .of_frame (by simp)
  exact headed.trans (tickTail_budget ..)

theorem classTake_budget (d : Device) : BudgetKept d (classTake d) := by
  have taken : BudgetKept d (takeIfSettled d).1 := .of_frame (by simp)
  unfold classTake
  split
  · next d1 h =>
    rw [h] at taken
    exact taken.trans (tickTail_budget true d1)
  · exact .refl d

theorem restCrossing_budget (d : Device) : BudgetKept d (restCrossing d) := by
  unfold restCrossing
  dsimp only
  split
  · exact .refl d
  · exact (handToPlan_budget ..).after (.of_frame (by simp))

/-! ## The listener's hand-offs -/

theorem handSignals_budget (was : Signals) (d : Device) : BudgetKept d (handSignals was d) := by
  unfold handSignals
  extract_lets now d1 d2
  have triggered : BudgetKept d d1 := by
    unfold d1
    split
    · exact triggerPass_budget d
    · exact .refl d
  have lit : BudgetKept d1 d2 := by
    unfold d2
    split
    · exact lightsIgnitionOn_budget d1
    · exact .refl d1
  split
  · exact (triggered.trans lit).trans (heaterFuelLow_budget _)
  · exact triggered.trans lit

theorem handing_budget {f : Device → Device} {d : Device} (hf : BudgetKept d (f d)) : BudgetKept d (handing f d) :=
  hf.trans (handSignals_budget ..)

theorem busConfigRequest_budget (b : List Byte) (d : Device) : BudgetKept d (busConfigRequest b d).dev := by
  unfold busConfigRequest
  exact refuse_or_budget (refuse_or_budget (taken_budget (handing_budget (.of_frame (by simp))) _))

theorem busSlotSetRequest_budget (b : List Byte) (d : Device) : BudgetKept d (busSlotSetRequest b d).dev := by
  unfold busSlotSetRequest
  refine refuse_or_budget (refuse_or_budget (refuse_or_budget (refuse_or_budget (refuse_or_budget (taken_budget (handing_budget ?_) _)))))
  exact .of_frame (by simp)

theorem busBindRequest_budget (b : List Byte) (d : Device) : BudgetKept d (busBindRequest b d).dev := by
  have bound (g : Signal) (o : Option Binding) : BudgetKept d (handing (bindSignal g o) d) := handing_budget (.of_frame (by simp))
  unfold busBindRequest
  refine refuse_or_budget ?_
  split
  · exact .refl d
  · refine refuse_or_budget ?_
    split
    · exact bound ..
    · exact refuse_or_budget (refuse_or_budget (bound ..))

/-! ## The input lines and the dial -/

/-- R11: an input event reaches the line's owner. -/
theorem deliverEvent_budget (line : Nat) (rising : Bool) (d : Device) : BudgetKept d (deliverEvent line rising d) := by
  unfold deliverEvent
  split
  · exact doorEvent_budget rising d
  · exact (startCourtesy_budget _).after (.of_frame (by simp))
  · split
    · exact outletToggle_budget d
    · exact .refl d
  · split
    · exact panelPress_budget d
    · exact .refl d
  · exact dialPushEvent_budget rising d
  · split
    · exact overheatTrip_budget d
    · exact .refl d
  · split
    · exact compFails_budget .overcurrent d
    · exact .refl d
  · exact .of_frame (by simp)
  · exact .refl d

theorem deliveredChange_budget (line : Nat) (level forcing : Bool) (d : Device) :
    BudgetKept d (deliveredChange line level forcing d) := by
  unfold deliveredChange
  extract_lets l d1
  have posted : BudgetKept d d1 := by
    unfold d1
    split
    · exact .of_frame (by simp)
    · exact .refl d
  split
  · exact posted.trans (deliverEvent_budget ..)
  · exact posted

theorem holdFuel_budget (d : Device) : BudgetKept d (holdFuel d) := by
  unfold holdFuel
  split
  · exact putHtr_budget ⟨rfl, rfl, rfl, rfl⟩
  · exact .refl d

theorem holdBridge_budget (d : Device) : BudgetKept d (holdBridge d) := by
  unfold holdBridge
  split
  · exact putCmp_budget rfl
  · exact .refl d

theorem protect_budget (d : Device) : BudgetKept d (protect d) := (holdFuel_budget d).trans (holdBridge_budget _)

theorem putLine_budget (n : Nat) (l : InputLine) (d : Device) : BudgetKept d (putLine n l d) := .of_frame (by simp)

theorem acceptLevel_budget (line : Nat) (level : Bool) (d : Device) : BudgetKept d (acceptLevel line level d) := by
  unfold acceptLevel
  extract_lets l d1
  split
  · exact putLine_budget ..
  · exact (putLine_budget ..).trans (deliveredChange_budget ..)

theorem sampleLine_budget (line : Nat) (d : Device) : BudgetKept d (sampleLine line d) := by
  unfold sampleLine
  dsimp only
  split_ifs
  · exact putLine_budget ..
  · exact putLine_budget ..
  · exact acceptLevel_budget ..
  · exact putLine_budget ..

theorem sampleLines_budget (pins : BitVec 8) (d : Device) : BudgetKept d (sampleLines pins d) := by
  unfold sampleLines
  extract_lets d0 _ _ d1
  have sampled : BudgetKept d d1 := (reach_budget d.sched.nextSample d).trans (.of_frame ⟨rfl, rfl, rfl, rfl, rfl, rfl, rfl, rfl, rfl, rfl⟩)
  exact (foldl_budget (fun d n => sampleLine_budget n d) _ _).after (sampled.trans (protect_budget d1))

theorem putRaw_budget (line : Nat) (level : Bool) (d : Device) : BudgetKept d (putRaw line level d) :=
  .of_frame ⟨rfl, rfl, rfl, rfl, rfl, rfl, rfl, rfl, rfl, rfl⟩

theorem acceptedChange_budget (line : Nat) (level : Bool) (d : Device) : BudgetKept d (acceptedChange line level d) :=
  (acceptLevel_budget ..).after ((protect_budget _).after (putRaw_budget ..))

theorem putForcing_budget (line : Nat) (forced : Option Bool) (d : Device) : BudgetKept d (putForcing line forced d) := by
  unfold putForcing
  extract_lets l l1 d1
  have put : BudgetKept d d1 := putLine_budget ..
  split
  · exact put
  · exact put.trans (deliveredChange_budget ..)

theorem inputConfigRequest_budget (b : List Byte) (d : Device) : BudgetKept d (inputConfigRequest b d).dev := by
  unfold inputConfigRequest
  exact refuse_or_budget (refuse_or_budget (refuse_or_budget (taken_budget ((protect_budget _).after (putLine_budget ..)) _)))

theorem inputForceRequest_budget (b : List Byte) (d : Device) : BudgetKept d (inputForceRequest b d).dev := by
  unfold inputForceRequest
  exact refuse_or_budget (refuse_or_budget (refuse_or_budget (putForcing_budget ..)))

theorem inputReleaseRequest_budget (b : List Byte) (d : Device) : BudgetKept d (inputReleaseRequest b d).dev := by
  unfold inputReleaseRequest
  exact refuse_or_budget (refuse_or_budget (putForcing_budget ..))

theorem restartSensing_budget (d : Device) : BudgetKept d (restartSensing d) :=
  (protect_budget _).after (.of_frame ⟨rfl, rfl, rfl, rfl, rfl, rfl, rfl, rfl, rfl, rfl⟩)

theorem detent_budget (dir : DialDir) (d : Device) : BudgetKept d (detent dir d) :=
  (lightsDetent_budget ..).after (.of_frame ⟨rfl, rfl, rfl, rfl, rfl, rfl, rfl, rfl, rfl, rfl⟩)

theorem turnDial_budget (a b : Bool) (d : Device) : BudgetKept d (turnDial a b d) := by
  have stood (x : Sensing) : BudgetKept d (putSns x d) := .of_frame ⟨rfl, rfl, rfl, rfl, rfl, rfl, rfl, rfl, rfl, rfl⟩
  have counted (n : Int) (x : Sensing) : BudgetKept d (putCount n (putSns x d)) :=
    .of_frame ⟨rfl, rfl, rfl, rfl, rfl, rfl, rfl, rfl, rfl, rfl⟩
  unfold turnDial
  extract_lets moved _ d1 n
  split_ifs
  · exact stood _
  · exact counted ..
  · exact (stood _).trans (detent_budget .plus _)
  · exact (stood _).trans (detent_budget .minus _)
  · exact counted ..

theorem dialCount_budget (a b : Bool) (d : Device) : BudgetKept d (dialCount a b d) :=
  (turnDial_budget ..).after (.of_frame ⟨rfl, rfl, rfl, rfl, rfl, rfl, rfl, rfl, rfl, rfl⟩)

theorem tickMs_budget (d : Device) : BudgetKept d (tickMs d) :=
  (turnDial_budget ..).after ((reach_budget (d.sns.ms + 1) d).trans (.of_frame ⟨rfl, rfl, rfl, rfl, rfl, rfl, rfl, rfl, rfl, rfl⟩))

/-- R18: an uptime second. -/
theorem uptimeSecond_budget (d : Device) : BudgetKept d (uptimeSecond d) := by
  unfold uptimeSecond
  extract_lets d0 up _ _ d1
  have counted : BudgetKept d d1 := (reach_budget d.sched.nextSecond d).trans (.of_frame ⟨rfl, rfl, rfl, rfl, rfl, rfl, rfl, rfl, rfl, rfl⟩)
  have read (t : Device) : BudgetKept t (wiredBrake t) := .of_frame (by simp)
  refine counted.trans ((read _).after ?_)
  split
  · exact triggerPass_budget d1
  · exact .refl d1

/-- R1: a measurement sweep reaches the heater and the compressor. -/
theorem sweep_budget (codes : SweepCodes) (d : Device) : BudgetKept d (sweep codes d) := by
  unfold sweep
  extract_lets d1 was _ _ _ d2
  have published : BudgetKept d d2 := .of_frame ⟨rfl, rfl, rfl, rfl, rfl, rfl, rfl, rfl, rfl, rfl⟩
  exact (compSweep_budget _).after ((heaterSweep_budget ..).after (published.trans (.of_frame (by simp))))

/-! ## RESTART and the transmitter -/

theorem defaultLimits_held : 1 ≤ defaultLimits.hostMax ∧ 1 ≤ defaultLimits.quietMax ∧ 1 ≤ defaultLimits.fallback := by decide

/-- R105: the default limits are at least 1. -/
theorem restartHeaterSettings_budget (d : Device) : KeepsBudget .obeyed .asked d (restartHeaterSettings d) where
  sound := id
  heater _ h := ⟨defaultLimits_held, (obeyed_asked h).2⟩
  others _ := sameOthers.obeys ⟨rfl, rfl, rfl, rfl, rfl, rfl⟩

/-- A heater that stays in a state without a level in force. -/
theorem KeepsBudget.of_idle {d t : Device} {st : HeaterState} (state : t.htr.state = st) (idle : st ≠ .ramp ∧ st ≠ .run)
    (h : KeepsBudget .asked .asked d t) : KeepsBudget .asked .obeyed d t :=
  ⟨h.sound, fun s held => obeyed_of_asked (by simp [levelInForce, state, idle]) (h.heater s held), h.others⟩

theorem restartHeater_budget (d : Device) : BudgetKept d (restartHeater d) := by
  unfold restartHeater
  extract_lets d1 _ d2
  have left : KeepsBudget .asked .obeyed d1 d2 := by
    unfold d2
    split
    case h_5 state =>
      split
      · exact .of_idle state (by decide) (.refl _)
      · exact toCooldown_budget ..
    case h_6 state => exact .of_idle state (by decide) (putHtr_budget ⟨rfl, rfl, rfl, rfl⟩)
    case h_7 => exact leaveWait_budget ..
    case h_8 => exact toOff_budget ..
    case h_9 state | h_10 state => exact .of_idle state (by decide) (.refl _)
    all_goals exact toCooldown_budget ..
  refine ((restartHeaterSettings_budget d).trans left).trans ?_
  split
  · exact putHeatTable_budget rfl _
  · exact putHtr_budget ⟨rfl, rfl, rfl, rfl⟩

theorem restartBlocks_budget (d : Device) : BudgetKept d (restartBlocks d) := by
  have sensed : BudgetKept d (restartCharge (restartSensing d)) := (restartSensing_budget d).trans (.of_frame (by simp))
  have planned := (restartHeater_budget _).after ((restartPlan_budget _).after sensed)
  have lit := (restartLights_budget _).after ((restartComp_budget _).after planned)
  exact (restartBudget_budget _).after (lit.trans (.of_frame (by simp)))

theorem restartPart_budget (d : Device) : BudgetKept d (restartPart d) :=
  (restartBlocks_budget _).after (.of_frame (by simp))

theorem replyEnded_budget (d : Device) : BudgetKept d (replyEnded d) := by
  unfold replyEnded
  split
  · exact .refl d
  · split
    · extract_lets _ d1
      have taken : BudgetKept d d1 := .of_frame ⟨rfl, rfl, rfl, rfl, rfl, rfl, rfl, rfl, rfl, rfl⟩
      split
      · exact taken.trans (restartPart_budget d1)
      · exact taken
    · exact .refl d

theorem chooseFrame_budget (d : Device) : BudgetKept d (chooseFrame d) := .of_frame (by simp)

theorem endFrame_budget (d : Device) : BudgetKept d (endFrame d) := .of_frame (by simp)

theorem transmitterFree_budget (d : Device) : BudgetKept d (transmitterFree d) := by
  unfold transmitterFree
  split
  · exact chooseFrame_budget d
  · exact (chooseFrame_budget _).after ((replyEnded_budget _).after (endFrame_budget d))
  · exact (chooseFrame_budget _).after (endFrame_budget d)

/-- R74: the Load Budget of a cold reset is sound. -/
theorem coldBudget_sound : coldBudget.table.sound ∧ coldBudget.allowance.sound coldBudget.table := by
  refine ⟨(LoadTable.sound_iff _).2 ⟨fun l => ?_, rfl, rfl, by decide⟩, ?_⟩
  · cases l <;> exact ⟨rfl, by decide, by decide, by decide⟩
  · exact ⟨List.nodup_nil, nofun, fun _ => rfl, nofun, by decide, by decide⟩

/-- R74, R104, R127, R147: nothing runs after a cold reset. -/
theorem coldDevice_obeys (pins : Pins) (factory : Factory) (l : Load) : obeys l (coldDevice pins factory) := by
  obtain ⟨host, quiet, fallback⟩ := defaultLimits_held
  cases l with
  | heater => exact ⟨⟨host, quiet, fallback, nofun⟩, rfl, rfl⟩
  | compressor => exact Nat.zero_le _
  | lights => exact Nat.zero_le _
  | outlet => exact nofun
  | base | warning => trivial

theorem coldReset_budget (d : Device) : BudgetKept d (coldReset d) where
  sound _ := coldBudget_sound
  heater _ _ := coldDevice_obeys _ _ .heater
  others _ l _ _ := coldDevice_obeys _ _ l

end Sys2Proof.Machine
end

section
/-! PROOFS. Every command and every step keeps the Load Budget sound and its grants obeyed; the part after reset meets the invariants. -/

namespace Sys2Proof.Machine

/-! ## Requests -/

theorem deliver_budget {owner : List Byte → Device → Answered} (h : ∀ b d, BudgetKept d (owner b d).dev) (f : Frame)
    (replyKind : Byte) (restart : Bool) (d : Device) : BudgetKept d (deliver f replyKind restart owner d) := by
  have replied (kind tag : Byte) (a : Answered) : BudgetKept a.dev (putReply kind tag restart a) :=
    .of_frame (by simp [putReply])
  have heard : BudgetKept d (acceptFrame f d) := .of_frame (by simp)
  unfold deliver
  dsimp only
  split_ifs
  · exact (h f.body d).trans (replied ..)
  · exact (heard.trans (h f.body _)).trans (replied ..)
  · exact heard

theorem serve_budget {owner : List Byte → Device → Answered} (h : ∀ b d, BudgetKept d (owner b d).dev) (kind tag : Byte)
    (body : List Byte) (d : Device) : BudgetKept d (serve kind tag body owner d) := deliver_budget h ..

theorem atTimer_budget {f : Device → Device} (h : ∀ d, BudgetKept d (f d)) (timer : Option Nat) (d : Device) :
    BudgetKept d (atTimer timer f d) := by
  cases timer with
  | none => exact .refl d
  | some t => exact (reach_budget t d).trans (h _)

theorem settlingTimer_budget (d : Device) : BudgetKept d (atTimer d.bgt.allowance.settle settlingExpiry d) := by
  cases settles : d.bgt.allowance.settle with
  | none => exact .refl d
  | some t => exact (reach_budget t d).trans (settlingExpiry_budget (by simp [settles]))

theorem heaterStartRequest_budget (b : List Byte) (d : Device) : BudgetKept d (heaterStartRequest b d).dev := by
  unfold heaterStartRequest
  refine refuse_or_budget (refuse_or_budget (refuse_or_budget (refuse_or_budget ?_)))
  split
  · next d1 h =>
    have started := congrArg Prod.fst h ▸ startHeater_budget _ _ d
    exact taken_budget started _
  · exact .refl d

theorem heaterStopRequest_budget (b : List Byte) (d : Device) : BudgetKept d (heaterStopRequest b d).dev := by
  unfold heaterStopRequest
  exact refuse_or_budget (stopHeater_budget d)

theorem releaseLatch_budget (d : Device) : BudgetKept d (releaseLatch d) := .of_frame (by simp [releaseLatch])

theorem unlockRequest_budget (service : Bool) (b : List Byte) (d : Device) : BudgetKept d (unlockRequest service b d).dev := by
  unfold unlockRequest
  extract_lets _ cleared
  have counted : BudgetKept d cleared := by
    unfold cleared
    split
    · exact putHtr_budget ⟨rfl, rfl, rfl, rfl⟩
    · exact .refl d
  have left : BudgetKept d (leaveLockout cleared) :=
    (releaseLatch_budget _).after ((toOff_budget ..).after (counted.trans (putHtr_budget ⟨rfl, rfl, rfl, rfl⟩)))
  refine refuse_or_budget (refuse_or_budget ?_)
  split
  · exact refuse_or_budget (taken_budget left _)
  · split
    · exact refuse_or_budget (taken_budget (counted.trans (releaseLatch_budget _)) _)
    · exact taken_budget counted _
  · exact refuse_or_budget (taken_budget counted _)
  · exact refuse_or_budget (taken_budget counted _)
  · exact taken_budget counted _

/-- R77: limits of at least 1, before the caps follow them. -/
theorem putLimits_asked {l : LevelLimits} (held : 1 ≤ l.hostMax ∧ 1 ≤ l.quietMax ∧ 1 ≤ l.fallback) (d : Device) :
    KeepsBudget .obeyed .asked d (putHtr { d.htr with limits := l } d) where
  sound := id
  heater _ h := ⟨held, (obeyed_asked h).2⟩
  others _ := sameOthers.obeys ⟨rfl, rfl, rfl, rfl, rfl, rfl⟩

theorem configLimits_budget (b : List Byte) (d : Device) : BudgetKept d (configLimits b d).dev := by
  unfold configLimits
  refine refuse_or_budget ?_
  split_ifs with out
  · exact .refl d
  · refine taken_budget ((heaterCaps_budget _).after (putLimits_asked ?_ d)) _
    simp only [within, Bool.not_eq_true', Bool.not_eq_false, Bool.and_eq_true, decide_eq_true_eq] at out
    obtain ⟨⟨⟨host, -⟩, quiet, -⟩, fallback, -⟩ := out
    exact ⟨host, quiet, fallback⟩

theorem heaterConfigRequest_budget (b : List Byte) (d : Device) : BudgetKept d (heaterConfigRequest b d).dev := by
  have six : (levelEntries b).length = 6 := by simp [levelEntries]
  have sequenced : BudgetKept d (putHtr { d.htr with seq := seqOf b } d) := putHtr_budget ⟨rfl, rfl, rfl, rfl⟩
  unfold heaterConfigRequest
  refine refuse_or_budget ?_
  split
  · exact refuse_or_budget (refuse_or_budget (refuse_or_budget (taken_budget (putHeatTable_budget six d) _)))
  · exact refuse_or_budget (refuse_or_budget (refuse_or_budget (taken_budget sequenced _)))
  · exact configLimits_budget b d
  · exact .refl d

theorem fridgeConfigRequest_budget (b : List Byte) (d : Device) : BudgetKept d (fridgeConfigRequest b d).dev := by
  unfold fridgeConfigRequest
  extract_lets q _ d1
  have set : BudgetKept d d1 := putCmp_budget rfl
  refine refuse_or_budget (refuse_or_budget (refuse_or_budget (taken_budget ?_ _)))
  split
  · exact set.trans (compCaps_budget _)
  · exact set

theorem fridgeEnableRequest_budget (b : List Byte) (d : Device) : BudgetKept d (fridgeEnableRequest b d).dev := by
  unfold fridgeEnableRequest
  exact refuse_or_budget (enableComp_budget d)

theorem fridgeDisableRequest_budget (b : List Byte) (d : Device) : BudgetKept d (fridgeDisableRequest b d).dev := by
  unfold fridgeDisableRequest
  exact refuse_or_budget (disableComp_budget d)

theorem fridgeClearRequest_budget (b : List Byte) (d : Device) : BudgetKept d (fridgeClearRequest b d).dev := by
  unfold fridgeClearRequest
  exact refuse_or_budget (leaveBlocked_budget 0 d)

/-- R186: a request of no known kind is refused. -/
theorem unknownRequest_budget (kind tag : Byte) (body : List Byte) (d : Device) :
    BudgetKept d (unknownRequest kind tag body d) := by
  have refused : ∀ b d, BudgetKept d ((fun (_ : List Byte) d1 => refuse .unknownKind d1) b d).dev := fun _ d => .refl d
  unfold unknownRequest
  split
  · exact .refl d
  · exact deliver_budget refused ..

/-- R125: a BLOCKED compressor that its timer frees. -/
theorem blockedExpiry_budget (d : Device) : BudgetKept d (if d.cmp.state = .blocked then leaveBlocked 2 d else d) := by
  split
  · exact leaveBlocked_budget 2 d
  · exact .refl d

theorem deadTimeOver_budget (l : Leg) (d : Device) : BudgetKept d (deadTimeOver l d) := by
  unfold deadTimeOver
  split
  · exact .refl d
  · exact putCmp_budget rfl

theorem currentSample_budget (raw : RawCode) (d : Device) :
    BudgetKept d (if d.cmp.state = .run then
      putSns { d.sns with current := { sum := d.sns.current.sum + 5 * raw.toNat, count := d.sns.current.count + 1 } } d
      else d) := by
  split
  · exact .of_frame ⟨rfl, rfl, rfl, rfl, rfl, rfl, rfl, rfl, rfl, rfl⟩
  · exact .refl d

/-- A request whose owner leaves the Load Budget and what the loads command. -/
theorem serve_frame_budget {owner : List Byte → Device → Answered}
    (h : ∀ b d, (owner b d).dev.bgt.table = d.bgt.table ∧ (owner b d).dev.bgt.allowance = d.bgt.allowance ∧
      (owner b d).dev.bgt.outlet.state = d.bgt.outlet.state ∧ (owner b d).dev.cmp.commanded = d.cmp.commanded ∧
      (owner b d).dev.lgt.capStep = d.lgt.capStep ∧ (owner b d).dev.htr.state = d.htr.state ∧
      (owner b d).dev.htr.wished = d.htr.wished ∧ (owner b d).dev.htr.level = d.htr.level ∧
      (owner b d).dev.htr.limits = d.htr.limits ∧ (owner b d).dev.npl.quiet = d.npl.quiet) (kind tag : Byte) (body : List Byte)
    (d : Device) : BudgetKept d (serve kind tag body owner d) := serve_budget (fun b d => .of_frame (h b d)) ..

/-! ## The commands -/

theorem running_budget {s t : State} {f : Device → Device} (h : running s f = .next t) (k : ∀ d, BudgetKept d (f d)) :
    BudgetKept s.dev t.dev := by
  cases h; exact k _

theorem next_budget {s t u : State} (h : (Host.Outcome.next u : Host.Outcome State Fault Refusal) = .next t)
    (k : BudgetKept s.dev u.dev) : BudgetKept s.dev t.dev := by
  cases h; exact k

/-- Every command keeps a sound Load Budget sound and the grants obeyed. -/
theorem exec_budget {c : Instr} {s t : State} (h : exec c s = .next t) : BudgetKept s.dev t.dev := by
  cases c with
  -- the part and the Host Link
  | coldReset => exact running_budget h coldReset_budget
  | transmitterFree => exact running_budget h transmitterFree_budget
  | idleTimerExpiry => exact running_budget h fun _ => atTimer_budget (fun _ => .of_frame (by simp)) ..
  | unknownKind => exact running_budget h fun _ => unknownRequest_budget ..
  | restart tag body => exact running_budget h fun _ => deliver_budget (fun _ _ => .of_frame (by simp)) ..
  -- the requests that leave the Load Budget and the loads
  | identify | getStatus | linkConfig | setClock | setSensorTable | readSensors | readVehicle | readCharge
  | readBudget | readPlan | readHeater | readFridge | sceneSet | readLights | restRules | declareActivity | ackWarning | readRest
  | readTimeline =>
    exact running_budget h fun _ => serve_frame_budget (by simp) ..
  -- the events that leave them
  | frameReceived | frameDiscarded | byteReceived | fadeEnd | ch7PatternPhase | buzzerBeatPhase | lampPwmBoundary
  | repeatRaise =>
    exact running_budget h fun _ => .of_frame (by simp)
  | silenceTimerExpiry => exact running_budget h fun _ => atTimer_budget (fun _ => .of_frame (by simp)) ..
  -- the Sensing Unit
  | uptimeSecond => exact running_budget h uptimeSecond_budget
  | inputConfig => exact running_budget h fun _ => serve_budget inputConfigRequest_budget ..
  | inputForce => exact running_budget h fun _ => serve_budget inputForceRequest_budget ..
  | inputRelease => exact running_budget h fun _ => serve_budget inputReleaseRequest_budget ..
  | measurementSweep => exact running_budget h fun _ => sweep_budget ..
  | acceptedChange => exact running_budget h fun _ => acceptedChange_budget ..
  | inputSample pins => exact running_budget h (sampleLines_budget pins)
  | din5RawActive => exact next_budget h ((putRaw_budget 5 true _).trans (holdFuel_budget _))
  | din5RawInactive => exact running_budget h fun _ => putRaw_budget ..
  | din6RawActive => exact next_budget h ((putRaw_budget 6 true _).trans (holdBridge_budget _))
  | din6RawInactive => exact running_budget h fun _ => putRaw_budget ..
  | dialCount => exact running_budget h fun _ => dialCount_budget ..
  | detent dir => exact running_budget h (detent_budget dir)
  | compressorCurrentSample raw => exact next_budget h (currentSample_budget raw _)
  -- the Vehicle Bus Listener
  | busConfig => exact running_budget h fun _ => serve_budget busConfigRequest_budget ..
  | busSlotSet => exact running_budget h fun _ => serve_budget busSlotSetRequest_budget ..
  | busBind => exact running_budget h fun _ => serve_budget busBindRequest_budget ..
  | canFrame => exact running_budget h fun _ => handing_budget (.of_frame (by simp))
  | freshnessTimerExpiry => exact running_budget h fun _ => atTimer_budget (fun _ => handing_budget (.of_frame (by simp))) ..
  -- the Charge Counter and the Load Budget
  | batteryConfig => exact running_budget h fun _ => serve_budget batteryConfigRequest_budget ..
  | setCharge => exact running_budget h fun _ => serve_budget setChargeRequest_budget ..
  | chgAccountingTick => exact running_budget h accountingTick_budget
  | gradingRunComplete => exact running_budget h gradingComplete_budget
  | fullChargeDetection => exact running_budget h fullChargeReached_budget
  | budgetConfig => exact running_budget h fun _ => serve_budget budgetConfigRequest_budget ..
  | outletSet => exact running_budget h fun _ => serve_budget outletSetRequest_budget ..
  | budgetPass => exact running_budget h budgetPass_budget
  | holdTimerExpiry => exact running_budget h fun _ => atTimer_budget revokeHolder_budget ..
  | settlingTimerExpiry => exact next_budget h (settlingTimer_budget _)
  | closingTimerExpiry => exact running_budget h fun _ => atTimer_budget closingExpiry_budget ..
  -- the Heater Sequencer
  | heaterConfigLevelTable | heaterConfigSequence | heaterConfigLimits =>
    exact running_budget h fun _ => serve_budget heaterConfigRequest_budget ..
  | heaterStart => exact running_budget h fun _ => serve_budget heaterStartRequest_budget ..
  | heaterStop => exact running_budget h fun _ => serve_budget heaterStopRequest_budget ..
  | heaterUnlock => exact running_budget h fun _ => serve_budget (unlockRequest_budget false) ..
  | heaterServiceClear => exact running_budget h fun _ => serve_budget (unlockRequest_budget true) ..
  | waitTimerExpiry => exact running_budget h fun _ => atTimer_budget waitExpiry_budget ..
  | glowTimeExpiry => exact running_budget h fun _ => atTimer_budget glowExpiry_budget ..
  | glowOneShotExpiry => exact running_budget h fun _ => atTimer_budget attemptFails_budget ..
  | flameWindowExpiry => exact running_budget h fun _ => atTimer_budget windowExpiry_budget ..
  | purgeTimeExpiry => exact running_budget h fun _ => atTimer_budget purgeExpiry_budget ..
  | fuelPulseStart => exact running_budget h pulseStart_budget
  | fuelPulseEnd => exact running_budget h pulseEnd_budget
  | rampStep => exact running_budget h fun _ => atTimer_budget rampStep_budget ..
  | levelDwellExpiry => exact running_budget h fun _ => atTimer_budget dwellExpiry_budget ..
  | pauseTimerExpiry => exact running_budget h fun _ => atTimer_budget pauseExpiry_budget ..
  | tachPulse => exact running_budget h fun _ => putHtr_budget ⟨rfl, rfl, rfl, rfl⟩
  | tachTimeout => exact running_budget h fun _ => atTimer_budget blowerFault_budget ..
  | blowerSpeedTimeout => exact running_budget h fun _ => atTimer_budget blowerFault_budget ..
  | runUntilReached => exact next_budget h ((runUntilTest_budget _).after (.of_frame ⟨rfl, rfl, rfl, rfl, rfl, rfl, rfl, rfl, rfl, rfl⟩))
  | minimumCooldownExpiry =>
    exact running_budget h fun _ => atTimer_budget (fun d => putHtrTimers_budget { d.htr.timers with coolMin := none } d) ..
  | maximumCooldownExpiry => exact running_budget h fun _ => atTimer_budget cooldownTooLong_budget ..
  -- the Compressor Drive
  | fridgeConfig => exact running_budget h fun _ => serve_budget fridgeConfigRequest_budget ..
  | fridgeEnable => exact running_budget h fun _ => serve_budget fridgeEnableRequest_budget ..
  | fridgeDisable => exact running_budget h fun _ => serve_budget fridgeDisableRequest_budget ..
  | fridgeClear => exact running_budget h fun _ => serve_budget fridgeClearRequest_budget ..
  | timedPhaseExpiry => exact running_budget h fun _ => atTimer_budget phaseExpiry_budget ..
  | minimumOffPassed => exact running_budget h fun _ => atTimer_budget minOffExpiry_budget ..
  | dutyRampStep => exact running_budget h fun _ => atTimer_budget dutyStep_budget ..
  | startTimerExpiry => exact running_budget h fun _ => atTimer_budget (compFails_budget .startFail) ..
  | hallEdge => exact running_budget h fun _ => hallEdge_budget ..
  | hallCodeInvalid => exact running_budget h fun _ => hallInvalid_budget ..
  | minimumRunExpiry => exact running_budget h fun _ => atTimer_budget minRunExpiry_budget ..
  | failureCounterResetTimer => exact running_budget h fun _ => atTimer_budget failureReset_budget ..
  | raiseTimerExpiry => exact running_budget h fun _ => atTimer_budget raiseExpiry_budget ..
  | stoppingCoastEnd => exact running_budget h fun _ => atTimer_budget coastEnd_budget ..
  | stallTimerExpiry => exact running_budget h fun _ => atTimer_budget (compFails_budget .stall) ..
  | backoffExpiry => exact running_budget h fun _ => atTimer_budget backoffExpiry_budget ..
  | blockedTimerExpiry => exact running_budget h fun _ => atTimer_budget blockedExpiry_budget ..
  | carrierValley => exact next_budget h (putCmp_budget rfl)
  | deadTimeExpiry leg => exact running_budget h (deadTimeOver_budget leg)
  -- the Light Controller
  | lightSet => exact running_budget h fun _ => serve_budget lightSetRequest_budget ..
  | lightGroup => exact running_budget h fun _ => serve_budget lightGroupRequest_budget ..
  | sceneRecall => exact running_budget h fun _ => serve_budget sceneRecallRequest_budget ..
  | lightConfig => exact running_budget h fun _ => serve_budget lightConfigRequest_budget ..
  | courtesyTimerExpiry => exact running_budget h fun _ => atTimer_budget courtesyExpiry_budget ..
  -- the Rest-Time Monitor and the Night Plan
  | restTick => exact running_budget h restTick_budget
  | classTake => exact running_budget h classTake_budget
  | restCrossing => exact running_budget h restCrossing_budget
  | planSet => exact running_budget h fun _ => serve_budget planSetRequest_budget ..
  | planCancel => exact running_budget h fun _ => serve_budget planCancelRequest_budget ..
  | quietSet => exact running_budget h fun _ => serve_budget quietSetRequest_budget ..
  | leadRecompute => exact next_budget h ((leadRecompute_budget _).after (.of_frame ⟨rfl, rfl, rfl, rfl, rfl, rfl, rfl, rfl, rfl, rfl⟩))
  | prewarmTimeReached =>
    exact next_budget h ((prewarmTest_budget _).after (.of_frame ⟨rfl, rfl, rfl, rfl, rfl, rfl, rfl, rfl, rfl, rfl⟩))
  | wake => exact next_budget h ((wakeTest_budget _).after (.of_frame ⟨rfl, rfl, rfl, rfl, rfl, rfl, rfl, rfl, rfl, rfl⟩))

/-- Every step keeps a sound Load Budget sound and the grants obeyed. -/
theorem step_budget {s t : State} (h : step s = .next t) : BudgetKept s.dev t.dev := by
  obtain ⟨c, u, hu, hc⟩ | rfl := step_cases h
  · exact hu ▸ exec_budget hc
  · exact tickMs_budget s.dev

theorem BudgetKept.grants {d t : Device} (h : BudgetKept d t) (sound : budgetSound d) (obeyed : grantsObeyed d) :
    grantsObeyed t := by
  rw [grantsObeyed_iff] at obeyed ⊢
  intro l
  by_cases heater : l = .heater
  · exact heater ▸ h.heater sound (obeyed .heater)
  · exact h.others sound l heater (obeyed l)

end Sys2Proof.Machine

namespace Sys2Proof.Proofs

open Sys2Proof Sys2Proof.Machine

/-- Settles O56: the Load Budget stays sound and the grants obeyed, command by command. -/
theorem budgetStaysSound : Obligations.BudgetStaysSound := fun _ _ sound h =>
  ⟨(step_budget h).sound sound, (step_budget h).grants sound⟩

end Sys2Proof.Proofs
end

section
/-! PROOFS. The part after reset meets the invariants of the link, the Load Budget, the bridge, the fuel train and the tables. -/

namespace Sys2Proof.Machine

/-- R197: a cold reset leaves CLOCK_NEEDED and RESTARTED in the notice table, both enabled, and nothing queued or sent. -/
theorem coldLink_sound : queueSound coldLink.queue coldLink.out coldLink.tx ∧ noticesSound coldLink.notices coldLink.enables := by
  refine ⟨⟨Nat.zero_le _, (absurd rfl ·), nofun⟩, by decide, ?_⟩
  decide

theorem coldDevice_bridgeSafe (pins : Pins) (factory : Factory) : bridgeSafe (coldDevice pins factory) :=
  bridgeSafe_of_off (by simp [coldDevice, coldCompressor, idleBridge, idleLeg, LegState.sound])
    (by simp [coldDevice, coldCompressor, idleBridge, idleLeg, Bridge.isOff, LegState.isOff])

theorem coldDevice_fuelSafe (pins : Pins) (factory : Factory) : fuelSafe (coldDevice pins factory) :=
  ⟨nofun, nofun, fun _ => rfl, (absurd rfl ·)⟩

theorem darkChannel_sound : darkChannel.sound := by
  unfold LightChannel.sound
  decide

/-- R135: the default scenes have seven entries, each within 1,000. -/
theorem defaultScenes_sound : (∀ r ∈ defaultScenes, ∀ l ∈ r.levels, l.getD 0 ≤ 1000) ∧ ∀ r ∈ defaultScenes, r.levels.length = 7 := by
  decide

theorem defaultLightSettings_sound : defaultLightSettings.courtesyLevel ≤ 1000 ∧ defaultLightSettings.nightLevel ≤ 1000 := by
  decide

/-- R147: the channels are dark, and scenes and levels stand at their defaults. -/
theorem coldDevice_lightsSound (pins : Pins) (factory : Factory) : lightsSound (coldDevice pins factory) := by
  obtain ⟨levels, entries⟩ := defaultScenes_sound
  refine ⟨⟨rfl, rfl, fun c hc => ?_, levels, defaultLightSettings_sound⟩, rfl, entries⟩
  rw [List.eq_of_mem_replicate hc]
  exact darkChannel_sound

end Sys2Proof.Machine

namespace Sys2Proof.Proofs

open Sys2Proof Sys2Proof.Machine

/-- Settles O60: the reset state, block by block. -/
theorem resetIsSound : Obligations.ResetIsSound :=
  ⟨coldLink_sound, coldBudget_sound, (grantsObeyed_iff _).2 (coldDevice_obeys _ _), coldDevice_bridgeSafe ..,
    coldDevice_fuelSafe .., ⟨rfl, rfl⟩, coldDevice_lightsSound ..⟩

end Sys2Proof.Proofs
end

section
/-! PROOFS. What a load's write and its requests for the allowance do, in the words of the statements (R54, R64, R65, R67). -/

namespace Sys2Proof.Machine

open Sys2Proof.Stated

/-! ## A load's write (R54, R67) -/

/-- R54: a changed request or floor makes one pass due. -/
theorem writeEntry_due (l : Load) (requested floor : Nat) (d : Device) :
    let e := d.bgt.table.get l
    let e' := writtenEntry e requested floor d.sns.uptime
    (writeEntry l requested floor d).bgt.passesDue =
      d.bgt.passesDue + (if e'.requested = e.requested ∧ e'.floor = e.floor then 0 else 1) := by
  unfold writeEntry entryOf
  simp only [written_eq]
  split_ifs <;> simp [triggerPass]

/-- R67: a load whose grant its write takes away leaves the waiting list. -/
theorem writeEntry_waiting (l : Load) (requested floor : Nat) (d : Device) :
    let e := d.bgt.table.get l
    let e' := writtenEntry e requested floor d.sns.uptime
    (writeEntry l requested floor d).bgt.allowance.waiting =
      if e'.granted = 0 ∧ e.granted ≠ 0 then d.bgt.allowance.waiting.filter (fun m => decide (m ≠ l)) else d.bgt.allowance.waiting := by
  unfold writeEntry entryOf
  simp only [written_eq]
  split_ifs <;> simp [triggerPass]

/-- A write touches the table, the passes due and the waiting list alone. -/
theorem writeEntry_touches (l : Load) (requested floor : Nat) (d : Device) :
    let t := writeEntry l requested floor d
    t = { d with bgt := { d.bgt with
      table := t.bgt.table, passesDue := t.bgt.passesDue
      allowance := { d.bgt.allowance with waiting := t.bgt.allowance.waiting } } } := by
  have only := writeEntry_only l requested floor d
  have table := congrArg (·.bgt.table) only
  dsimp only at only table ⊢
  rw [table]
  exact only

/-! ## The allowance, asked for, released and withdrawn from (R64, R65) -/

/-- Section 4.4: the hold limits of the loads that draw on the allowance. -/
theorem holdLimit_eq (l : Load) : l ∈ inrushLoads → holdLimit l = match l with
    | .heater => 90000
    | .compressor => 5000
    | _ => 2000 := by
  intro inrush
  cases l
  case heater | compressor | outlet => rfl
  all_goals simp [inrushLoads] at inrush

theorem holds_iff (d : Device) (l : Load) : holds d l = true ↔ d.bgt.allowance.state = .held l := decide_eq_true_iff

theorem waits_iff (d : Device) (l : Load) : waits d l = true ↔ l ∈ d.bgt.allowance.waiting := decide_eq_true_iff

/-- R64: the holder's request and a waiting load's are ignored. -/
theorem requestAllowance_ignored {l : Load} {d : Device} (h : d.bgt.allowance.state = .held l ∨ l ∈ d.bgt.allowance.waiting) :
    requestAllowance l d = (d, none) := by
  rw [requestAllowance, if_pos (by simpa only [Bool.or_eq_true, holds_iff, waits_iff] using h)]

/-- R64: a request of a load apart from the allowance is answered by the rest of the rule. -/
theorem requestAllowance_apart {l : Load} {d : Device} (other : d.bgt.allowance.state ≠ .held l)
    (apart : l ∉ d.bgt.allowance.waiting) : requestAllowance l d =
      if d.chg.uv = .critical ∨ (d.bgt.table.get l).granted = 0 then (d, some .denied)
      else if d.bgt.allowance.state = .free then (putAllowance (d.bgt.allowance.give l d.sns.ms) d, some .granted)
      else (putAllowance { d.bgt.allowance with waiting := d.bgt.allowance.waiting ++ [l] } d, none) := by
  rw [requestAllowance, if_neg (by simp only [Bool.or_eq_true, holds_iff, waits_iff, other, apart, or_self, not_false_eq_true])]
  rfl

theorem releaseAllowance_held {l : Load} {d : Device} (h : d.bgt.allowance.state = .held l) :
    releaseAllowance l d = putAllowance (d.bgt.allowance.release d.sns.ms) d := if_pos ((holds_iff d l).2 h)

theorem releaseAllowance_other {l : Load} {d : Device} (h : d.bgt.allowance.state ≠ .held l) : releaseAllowance l d = d :=
  if_neg (mt (holds_iff d l).1 h)

theorem withdrawAllowance_held {l : Load} {d : Device} (h : d.bgt.allowance.state = .held l) :
    withdrawAllowance l d = releaseAllowance l d := if_pos ((holds_iff d l).2 h)

theorem withdrawAllowance_other {l : Load} {d : Device} (h : d.bgt.allowance.state ≠ .held l) :
    withdrawAllowance l d = leaveWaiting l d := if_neg (mt (holds_iff d l).1 h)

end Sys2Proof.Machine

namespace Sys2Proof.Proofs

open Sys2Proof Sys2Proof.Machine Sys2Proof.Stated

/-- Settles O22: the write by its rules, and the allowance by the branches of a request and of a release. -/
theorem loadsWriteEntriesAndAskAllowance : Obligations.LoadsWriteEntriesAndAskAllowance := by
  refine ⟨fun l requested floor d => ?_, fun l d inrush => ?_⟩
  · obtain ⟨low, high, -⟩ := written_sound (d.bgt.table.get l) requested floor d.sns.uptime
    rw [written_eq] at low high
    exact ⟨(writeEntry_get_self ..).trans (written_eq ..), fun m other => writeEntry_get_other other .., low, high,
      writeEntry_due .., writeEntry_waiting .., writeEntry_touches ..⟩
  · refine ⟨requestAllowance_ignored, fun other apart denied => ?_, fun free apart charged granted => ?_,
      fun taken other apart charged granted => ?_, fun held => ⟨releaseAllowance_held held, withdrawAllowance_held held⟩,
      fun other => ⟨releaseAllowance_other other, withdrawAllowance_other other⟩⟩
    · rw [requestAllowance_apart other apart, if_pos denied]
    · have other : d.bgt.allowance.state ≠ .held l := by rw [free]; nofun
      rw [requestAllowance_apart other apart, if_neg (not_or.2 ⟨charged, granted⟩), if_pos free, Allowance.give, holdLimit_eq l inrush]
      rfl
    · rw [requestAllowance_apart other apart, if_neg (not_or.2 ⟨charged, granted⟩), if_neg taken]
      rfl

end Sys2Proof.Proofs
end

section
/-! PROOFS. The allowance's timers and the closing timer (R65, R66, R69), and what leaves the allowance alone. -/

namespace Sys2Proof.Machine

open Sys2Proof.Stated

/-! ## The outlet's state and release (R65, R68) -/

/-- R68, R73: the part after its Load Budget becomes `b`: a change of the outlet's state posts BUDGET_STATE. -/
def outletChanged (b : Budget) (d : Device) : Device :=
  { d with
    bgt := b
    lnk := { d.lnk with notices :=
      if b.outlet.state = d.bgt.outlet.state then d.lnk.notices else (post .budgetState d).lnk.notices } }

/-- R68: the outlet moved to a state, the allowance having become `a`. -/
theorem setOutlet_changed (st : OutletState) (closing : Option Nat) (a : Allowance) (d : Device) :
    setOutlet st closing (putAllowance a d) =
      outletChanged { d.bgt with outlet := { state := st, closing := closing }, allowance := a } d := by
  unfold outletChanged
  dsimp only
  by_cases same : st = d.bgt.outlet.state
  · rw [if_pos same]
    exact if_pos same
  · rw [if_neg same, ← post_lnk_notices]
    exact (if_neg same).trans (post_of_lnk (d := d) .budgetState rfl)

/-- R65: the outlet's release. -/
theorem releaseAllowance_outlet (d : Device) :
    releaseAllowance .outlet d = putAllowance (outletReleased d.bgt.allowance d.sns.ms) d := by
  unfold outletReleased
  by_cases held : d.bgt.allowance.state = .held .outlet
  · rw [releaseAllowance_held held, if_pos held]
    rfl
  · rw [releaseAllowance_other held, if_neg held]
    rfl

/-! ## What leaves the allowance alone -/

/-- R54, R67: a write of a load that does not wait leaves the allowance. -/
theorem writeEntry_allowance {l : Load} {d : Device} (apart : l ∉ d.bgt.allowance.waiting) (requested floor : Nat) :
    (writeEntry l requested floor d).bgt.allowance = d.bgt.allowance := by
  have filtered : d.bgt.allowance.waiting.filter (fun m => decide (m ≠ l)) = d.bgt.allowance.waiting :=
    List.filter_eq_self.2 fun m mem => decide_eq_true fun same => apart (same ▸ mem)
  rw [writeEntry_touches]
  change ({ d.bgt.allowance with waiting := _ } : Allowance) = d.bgt.allowance
  rw [writeEntry_waiting, filtered, ite_self]

theorem enterHeater_allowance {d : Device} (apart : .heater ∉ d.bgt.allowance.waiting) (st : HeaterState) (cause : HeaterCause) :
    (enterHeater st cause d).bgt.allowance = d.bgt.allowance := by
  have written : (writeHeater (putHtr (heaterMoved st cause d) d)).bgt.allowance = d.bgt.allowance :=
    writeEntry_allowance (d := putHtr (heaterMoved st cause d) d) apart ..
  rw [enterHeater_eq]
  split
  · exact written
  · simpa using written

theorem attemptFails_allowance {d : Device} (apart : .heater ∉ d.bgt.allowance.waiting) :
    (attemptFails d).bgt.allowance = d.bgt.allowance := by
  unfold attemptFails
  split
  · exact enterHeater_allowance (d := putHtr { d.htr with attempts := d.htr.attempts + 1 } d) apart ..
  · rfl

theorem enterComp_allowance {d : Device} (apart : .compressor ∉ d.bgt.allowance.waiting) (st : CompState) :
    (enterComp st d).bgt.allowance = d.bgt.allowance := by
  unfold enterComp writeComp
  extract_lets c exits idles t c1 d1 _ d2 d3
  have left : d2.bgt = d.bgt := by
    unfold d2
    split <;> rfl
  have written : d3.bgt.allowance = d.bgt.allowance := by
    change (writeEntry .compressor _ 0 d2).bgt.allowance = _
    rw [writeEntry_allowance (left ▸ apart), left]
  split
  · exact written
  · simpa using written

/-- R123: a failure of a compressor that neither holds the allowance nor waits for it. -/
theorem compFails_allowance {d : Device} (other : d.bgt.allowance.state ≠ .held .compressor)
    (apart : .compressor ∉ d.bgt.allowance.waiting) (k : FailKind) : (compFails k d).bgt.allowance = d.bgt.allowance := by
  unfold compFails
  rw [releaseAllowance_other other]
  extract_lets d0 failures _ d1 d2 d3
  have failed : d1.bgt = d.bgt := by simp [d1, d0]
  have entered (st : CompState) : (enterComp st d1).bgt.allowance = d.bgt.allowance := by
    rw [enterComp_allowance (failed ▸ apart), failed]
  split_ifs
  · rfl
  · exact entered .stallBackoff
  · simpa using entered .blocked

theorem compRevoked_allowance {d : Device} (other : d.bgt.allowance.state ≠ .held .compressor)
    (apart : .compressor ∉ d.bgt.allowance.waiting) : (compRevoked d).bgt.allowance = d.bgt.allowance := by
  unfold compRevoked
  split_ifs
  · exact compFails_allowance other apart .startFail
  · exact enterComp_allowance apart .stopping
  · rfl

theorem outletRevoked_allowance (d : Device) : (outletRevoked d).bgt.allowance = d.bgt.allowance := by
  unfold outletRevoked
  split <;> simp

/-- R66: a load revoked that neither holds the allowance any more nor waits for it leaves it alone. -/
theorem answerRevoked_allowance {l : Load} {d : Device} (other : d.bgt.allowance.state ≠ .held l)
    (apart : l ∉ d.bgt.allowance.waiting) : (answerRevoked l d).bgt.allowance = d.bgt.allowance := by
  cases l with
  | heater => exact attemptFails_allowance apart
  | compressor => exact compRevoked_allowance other apart
  | outlet => exact outletRevoked_allowance d
  | base | lights | warning => rfl

/-! ## The timers -/

/-- R66: the holder is revoked. -/
theorem revokeHolder_held {l : Load} {d : Device} (held : d.bgt.allowance.state = .held l) :
    revokeHolder d = answerRevoked l (putAllowance (d.bgt.allowance.release d.sns.ms) d) := by
  rw [revokeHolder, held]

/-- R65: nobody waits. -/
theorem settlingExpiry_nil {d : Device} (waiting : d.bgt.allowance.waiting = []) :
    settlingExpiry d = putAllowance { d.bgt.allowance with state := .free, settle := none } d := by
  rw [settlingExpiry, waiting]

/-- R65: the first of the list is given the allowance. -/
theorem settlingExpiry_cons {l : Load} {rest : List Load} {d : Device} (waiting : d.bgt.allowance.waiting = l :: rest) :
    settlingExpiry d = answerGranted l (putAllowance ({ d.bgt.allowance with waiting := rest }.give l d.sns.ms) d) := by
  rw [settlingExpiry, waiting]

/-- R69: the outlet is ON. -/
theorem closingExpiry_closing {d : Device} (closing : d.bgt.outlet.state = .closing) :
    closingExpiry d = outletChanged
      { d.bgt with outlet := { state := .on, closing := none }, allowance := outletReleased d.bgt.allowance d.sns.ms } d := by
  rw [closingExpiry, if_pos closing, releaseAllowance_outlet, setOutlet_changed]

theorem atTimer_running {timer : Option Nat} {at_ : Nat} (h : timer = some at_) (f : Device → Device) (d : Device) :
    atTimer timer f d = f (reach at_ d) := by rw [h, atTimer]

end Sys2Proof.Machine

namespace Sys2Proof.Proofs

open Sys2Proof Sys2Proof.Machine Sys2Proof.Stated

/-- Settles O23: each timer's event at its own time. -/
theorem allowanceTimersExpire : Obligations.AllowanceTimersExpire := by
  intro s
  refine ⟨fun l at_ held hold => ?_, fun at_ settle waiting => ?_, fun l at_ rest settle waiting inrush => ?_,
    fun at_ closing state => ?_⟩
  · refine runs_of_eq (f := fun d => atTimer s.dev.bgt.allowance.hold revokeHolder d) rfl
      ((atTimer_running hold ..).trans (revokeHolder_held (d := reach at_ s.dev) held)) ⟨rfl, fun sound => ?_⟩
    obtain ⟨-, apart, -⟩ := sound
    exact answerRevoked_allowance (d := putAllowance (s.dev.bgt.allowance.release _) (reach at_ s.dev)) nofun
      fun mem => (apart l mem).1 held
  · exact runs_of_eq (f := fun d => atTimer s.dev.bgt.allowance.settle settlingExpiry d) rfl
      ((atTimer_running settle ..).trans (settlingExpiry_nil (d := reach at_ s.dev) waiting)) rfl
  · refine runs_of_eq (f := fun d => atTimer s.dev.bgt.allowance.settle settlingExpiry d) rfl
      ((atTimer_running settle ..).trans (settlingExpiry_cons (d := reach at_ s.dev) waiting)) ?_
    rw [Allowance.give, holdLimit_eq l inrush]
    rfl
  · refine runs_of_eq (f := fun d => atTimer s.dev.bgt.outlet.closing closingExpiry d) rfl
      ((atTimer_running closing ..).trans (closingExpiry_closing (d := reach at_ s.dev) state)) ?_
    have moved : OutletState.on ≠ s.dev.bgt.outlet.state := by rw [state]; nofun
    have posted : (post .budgetState (reach at_ s.dev)).lnk = (post .budgetState s.dev).lnk := post_lnk_congr .budgetState rfl
    refine (Device.eq_of_blocks ⟨rfl, rfl, rfl, rfl, rfl, rfl, rfl, rfl, rfl, rfl, rfl, ?_, rfl⟩)
    exact congrArg (fun n => ({ s.dev.lnk with notices := n } : Link)) ((if_neg moved).trans (congrArg (·.notices) posted))

end Sys2Proof.Proofs
end

section
/-! PROOFS. The outlet's requests and switches, and BUDGET_CONFIG (R68 to R71). -/

namespace Sys2Proof.Machine

open Sys2Proof.Stated

/-! ## The outlet asks for the allowance (R64, R69) -/

theorem setOutlet_eq (st : OutletState) (closing : Option Nat) (d : Device) :
    setOutlet st closing d = outletChanged { d.bgt with outlet := { state := st, closing := closing } } d :=
  setOutlet_changed st closing d.bgt.allowance d

theorem outletRequest_ignored {d : Device} (h : d.bgt.allowance.state = .held .outlet ∨ .outlet ∈ d.bgt.allowance.waiting) :
    outletRequest d = outletChanged { d.bgt with outlet := { state := .waitToken, closing := none } } d := by
  rw [outletRequest, requestAllowance_ignored h]
  exact setOutlet_eq ..

section
variable {d : Device} (other : d.bgt.allowance.state ≠ .held .outlet) (apart : .outlet ∉ d.bgt.allowance.waiting)
include other apart

theorem outletRequest_denied (denied : d.chg.uv = .critical ∨ (d.bgt.table.get .outlet).granted = 0) :
    outletRequest d = outletChanged { d.bgt with outlet := { state := .denied, closing := none } } d := by
  rw [outletRequest, requestAllowance_apart other apart, if_pos denied]
  exact setOutlet_eq ..

theorem outletRequest_free (granted : ¬(d.chg.uv = .critical ∨ (d.bgt.table.get .outlet).granted = 0))
    (free : d.bgt.allowance.state = .free) : outletRequest d = outletChanged
      { d.bgt with
        outlet := { state := .closing, closing := some (d.sns.ms + 2000) }
        allowance := { d.bgt.allowance with state := .held .outlet, hold := some (d.sns.ms + 2000), settle := none } } d := by
  rw [outletRequest, requestAllowance_apart other apart, if_neg granted, if_pos free]
  exact setOutlet_changed ..

theorem outletRequest_waits (granted : ¬(d.chg.uv = .critical ∨ (d.bgt.table.get .outlet).granted = 0))
    (taken : d.bgt.allowance.state ≠ .free) : outletRequest d = outletChanged
      { d.bgt with
        outlet := { state := .waitToken, closing := none }
        allowance := { d.bgt.allowance with waiting := d.bgt.allowance.waiting ++ [.outlet] } } d := by
  rw [outletRequest, requestAllowance_apart other apart, if_neg granted, if_neg taken]
  exact setOutlet_changed ..

end

/-- R69: whatever the answer, the request changes the outlet and the allowance alone. -/
theorem outletRequest_changed (d : Device) :
    ∃ o a, outletRequest d = outletChanged { d.bgt with outlet := o, allowance := a } d := by
  by_cases near : d.bgt.allowance.state = .held .outlet ∨ .outlet ∈ d.bgt.allowance.waiting
  · exact ⟨_, _, outletRequest_ignored near⟩
  · obtain ⟨other, apart⟩ := not_or.1 near
    by_cases denied : d.chg.uv = .critical ∨ (d.bgt.table.get .outlet).granted = 0
    · exact ⟨_, _, outletRequest_denied other apart denied⟩
    · by_cases free : d.bgt.allowance.state = .free
      · exact ⟨_, _, outletRequest_free other apart denied free⟩
      · exact ⟨_, _, outletRequest_waits other apart denied free⟩

/-! ## The switch (R68) -/

/-- R68: the outlet that is wanted asks for step 1, whose grant a sound entry has already. -/
theorem outletWanted_eq {d : Device} (sound : budgetSound d) :
    entryWrites { d with bgt := { d.bgt with outlet := { state := .waitGrant, closing := none } } } .outlet 1 0 = outletWanted d := by
  have waits := waitsGranted_of_sound sound .outlet
  obtain ⟨length, low, high, last⟩ := sound.1.entry .outlet
  simp only [LoadTable.get, loadSteps] at length low high last
  have granted : (writtenEntry d.bgt.table.outlet 1 0 d.sns.uptime).granted = d.bgt.table.outlet.granted := by
    simp only [writtenEntry, length]
    split_ifs <;> omega
  have kept : d.bgt.table.outlet.granted = 0 →
      d.bgt.allowance.waiting.filter (fun l => decide (l ≠ .outlet)) = d.bgt.allowance.waiting := fun none' =>
    List.filter_eq_self.2 fun l mem => decide_eq_true fun same => waits none' (same ▸ mem)
  have waiting : (if (writtenEntry d.bgt.table.outlet 1 0 d.sns.uptime).granted = 0 then
      d.bgt.allowance.waiting.filter fun l => decide (l ≠ .outlet) else d.bgt.allowance.waiting) = d.bgt.allowance.waiting := by
    rw [granted]
    split
    · next none' => exact kept none'
    · rfl
  exact congrArg (fun w => ({ outletWanted d with allowance := { d.bgt.allowance with waiting := w } } : Budget)) waiting

/-- R68: switched on from OFF. -/
theorem outletOn_off {d : Device} (sound : budgetSound d) (off : d.bgt.outlet.state = .off) :
    outletOn d = outletChanged (outletWanted d) d := by
  have waits : waitsGranted (outletChanged { d.bgt with outlet := { state := .waitGrant, closing := none } } d) .outlet :=
    waitsGranted_of_sound sound .outlet
  rw [outletOn, off]
  dsimp only
  rw [setOutlet_eq, writeEntry_eq waits, ← outletWanted_eq sound]
  rfl

/-- R68: the outlet that is dropped asks for nothing, whatever its release has made of the allowance. -/
theorem outletDropped_eq {d : Device} {a : Allowance}
    (gone : { a with waiting := a.waiting.filter fun l => decide (l ≠ Load.outlet) } = outletGone d) :
    entryWrites { d with bgt := { d.bgt with outlet := { state := .off, closing := none }, allowance := a } } .outlet 0 0 =
      outletDropped d := by
  have waiting : (if (writtenEntry d.bgt.table.outlet 0 0 d.sns.uptime).granted = 0 then
      a.waiting.filter fun l => decide (l ≠ Load.outlet) else a.waiting) = a.waiting.filter fun l => decide (l ≠ Load.outlet) :=
    if_pos (writtenEntry_zero ..)
  exact congrArg (fun a' => ({ outletDropped d with allowance := a' } : Budget))
    ((congrArg (fun w => ({ a with waiting := w } : Allowance)) waiting).trans gone)

/-- R65, R68: the outlet released or withdrawn, and switched off. -/
theorem outletOff_of_gone {d : Device} (sound : budgetSound d) {a : Allowance} (kept : ∀ l ∈ a.waiting, l ∈ d.bgt.allowance.waiting)
    (gone : { a with waiting := a.waiting.filter fun l => decide (l ≠ Load.outlet) } = outletGone d) :
    writeEntry .outlet 0 0 (setOutlet .off none (putAllowance a d)) = outletChanged (outletDropped d) d := by
  have waits : waitsGranted (outletChanged { d.bgt with outlet := { state := .off, closing := none }, allowance := a } d) .outlet :=
    fun none' mem => waitsGranted_of_sound sound .outlet none' (kept _ mem)
  rw [setOutlet_changed, writeEntry_eq waits, ← outletDropped_eq gone]
  rfl

theorem outletReleased_waiting (a : Allowance) (ms : Nat) : (outletReleased a ms).waiting = a.waiting := by
  unfold outletReleased
  split <;> rfl

/-- R68: switched off from every state but OFF. -/
theorem outletOff_on {d : Device} (sound : budgetSound d) (on : d.bgt.outlet.state ≠ .off) :
    outletOff d = outletChanged (outletDropped d) d := by
  have drop := fun a => outletOff_of_gone (d := d) sound (a := a)
  have released := outletReleased_waiting d.bgt.allowance d.sns.ms
  unfold outletOff
  cases state : d.bgt.outlet.state with
  | off => exact absurd state on
  | waitToken =>
    dsimp only
    by_cases held : d.bgt.allowance.state = .held .outlet
    · rw [withdrawAllowance_held held, releaseAllowance_outlet]
      exact drop _ (fun l mem => released ▸ mem) (by rw [outletGone, released, if_pos (.inl state)])
    · rw [withdrawAllowance_other held]
      refine drop { d.bgt.allowance with waiting := d.bgt.allowance.waiting.filter fun l => decide (l ≠ Load.outlet) }
        (fun l mem => (List.mem_filter.1 mem).1) ?_
      rw [outletGone, if_pos (.inl state), outletReleased, if_neg held, List.filter_filter]
      simp only [Bool.and_self]
  | closing =>
    dsimp only
    rw [releaseAllowance_outlet]
    exact drop _ (fun l mem => released ▸ mem) (by rw [outletGone, released, if_pos (.inr state)])
  | waitGrant | on | denied => exact drop d.bgt.allowance (fun l mem => mem) (by rw [outletGone, if_neg (by simp [state])])

theorem outletOn_denied {d : Device} (denied : d.bgt.outlet.state = .denied) : outletOn d = outletRequest d := by
  rw [outletOn, denied]

/-- R68: switching on an outlet that is on otherwise changes nothing. -/
theorem outletOn_stays {d : Device} (on : d.bgt.outlet.state ≠ .off) (other : d.bgt.outlet.state ≠ .denied) : outletOn d = d := by
  unfold outletOn
  split
  · next off => exact absurd off on
  · next denied => exact absurd denied other
  all_goals rfl

theorem outletOff_off {d : Device} (off : d.bgt.outlet.state = .off) : outletOff d = d := by rw [outletOff, off]

/-- R68: a switch changes the outlet's entry, the outlet, the allowance and the passes due alone. -/
theorem outletSwitch_changed {d : Device} (sound : budgetSound d) (on : Bool) :
    ∃ b : Budget, (if on then outletOn d else outletOff d) = outletChanged b d ∧
      ∀ l, l ≠ .outlet → b.table.get l = d.bgt.table.get l := by
  have same : d = outletChanged d.bgt d := by
    unfold outletChanged
    rw [if_pos rfl]
  have entries (b : Budget) (e : Entry) (table : b.table = { d.bgt.table with outlet := e }) (l : Load) (other : l ≠ .outlet) :
      b.table.get l = d.bgt.table.get l := by
    rw [table]
    cases l with
    | outlet => exact absurd rfl other
    | _ => rfl
  cases on with
  | false =>
    by_cases off : d.bgt.outlet.state = .off
    · exact ⟨d.bgt, (outletOff_off off).trans same, fun _ _ => rfl⟩
    · exact ⟨outletDropped d, outletOff_on sound off, entries _ _ rfl⟩
  | true =>
    by_cases off : d.bgt.outlet.state = .off
    · exact ⟨outletWanted d, outletOn_off sound off, entries _ _ rfl⟩
    · by_cases denied : d.bgt.outlet.state = .denied
      · obtain ⟨o, a, eq⟩ := outletRequest_changed d
        exact ⟨{ d.bgt with outlet := o, allowance := a }, (outletOn_denied denied).trans eq, fun _ _ => rfl⟩
      · exact ⟨d.bgt, (outletOn_stays off denied).trans same, fun _ _ => rfl⟩

/-! ## OUTLET_SET (R70) -/

/-- R70: OUTLET_SET with ON or OFF. -/
theorem outletSetRequest_taken (on : Bool) (d : Device) :
    outletSetRequest [if on = true then 0x01 else 0x00] d =
      let t := if on then outletOn d else outletOff d
      taken t (u8 t.bgt.outlet.state.code ++ mark8 (relayClosed t) ++ u8 (grantOf t .outlet)) := by
  cases on <;> rfl

theorem outletSetRequest_refused {n : Byte} (high : 1 < n.toNat) (d : Device) : outletSetRequest [n] d = refuse .badValue d :=
  (if_neg (not_not.2 rfl)).trans (if_pos high)

/-- R70: what the reply to OUTLET_SET carries. -/
theorem outletReply_eq (t : Device) :
    u8 t.bgt.outlet.state.code ++ mark8 (relayClosed t) ++ u8 (grantOf t .outlet) =
      [BitVec.ofNat 8 t.bgt.outlet.state.code,
        (if t.bgt.outlet.state = .closing ∨ t.bgt.outlet.state = .on then 0x01 else 0x00),
        BitVec.ofNat 8 (t.bgt.table.get .outlet).granted] := by
  have mark : mark8 (relayClosed t) = [if t.bgt.outlet.state = .closing ∨ t.bgt.outlet.state = .on then 0x01 else 0x00] := by
    rw [relayClosed]
    cases t.bgt.outlet.state <;> rfl
  rw [mark]
  rfl

/-- The part with a request heard. -/
abbrev hearing (f : Frame) (d : Device) : Device := { d with lnk := heard d f }

/-- R70: OUTLET_SET changes the Load Budget as the switch does, and replies. -/
theorem serve_outletSet {d : Device} (free : noneInHand d) (sound : budgetSound d) (tag : Byte) (on : Bool) :
    let body : List Byte := [if on = true then 0x01 else 0x00]
    let t := serve 0x1A tag body outletSetRequest d
    let u := hearing { kind := 0x1A, tag := tag, body := body } d
    Replied d t 0x1A tag body 0x00
      [BitVec.ofNat 8 t.bgt.outlet.state.code,
        (if t.bgt.outlet.state = .closing ∨ t.bgt.outlet.state = .on then 0x01 else 0x00),
        BitVec.ofNat 8 (t.bgt.table.get .outlet).granted] ∧
    t.bgt = (if on then outletOn u else outletOff u).bgt ∧
    t.lnk.notices = (if t.bgt.outlet.state = d.bgt.outlet.state then d.lnk.notices else (post .budgetState d).lnk.notices) ∧
    (∀ l, l ≠ .outlet → t.bgt.table.get l = d.bgt.table.get l) ∧ t = { d with bgt := t.bgt, lnk := t.lnk } := by
  intro body t u
  obtain ⟨b, changed, others⟩ := outletSwitch_changed (d := u) sound on
  obtain ⟨replied, same, posted⟩ := serve_taken free (kind := 0x1A) (tag := tag) (outletSetRequest_taken on u)
    (by rw [changed]; rfl) (by rw [changed]; rfl)
  change t = _ at same
  rw [changed] at same posted ⊢
  have bgt : t.bgt = b := congrArg (·.bgt) same
  rw [changed, outletReply_eq] at replied
  refine ⟨?_, bgt, ?_, fun l other => ?_, ?_⟩
  · rw [bgt]
    exact replied
  · rw [bgt]
    have notices : (post .budgetState u).lnk.notices = (post .budgetState d).lnk.notices := post_notices_congr .budgetState rfl rfl
    rw [← notices]
    exact posted
  · rw [bgt]
    exact others l other
  · rw [bgt]
    exact same

/-! ## BUDGET_CONFIG (R71) -/

theorem wordAt_here (front : List Byte) {n : Nat} (small : n < 65536) (back : List Byte) :
    wordAt (front ++ (u16 n ++ back)) front.length = n := by
  have first : (front ++ (u16 n ++ back)).getD front.length 0 = BitVec.ofNat 8 n := by
    simp [u16]
  have second : (front ++ (u16 n ++ back)).getD (front.length + 1) 0 = BitVec.ofNat 8 (n / 256) := by
    simp [u16]
  rw [wordAt, byteAt, byteAt, first, second]
  exact le2_read small

theorem wordsAt_succ (b : List Byte) (offset n : Nat) : wordsAt b offset (n + 1) = wordAt b offset :: wordsAt b (offset + 2) n := by
  simp only [wordsAt, List.range_succ_eq_map, List.map_cons, List.map_map]
  refine congrArg₂ _ rfl (List.map_congr_left fun k _ => ?_)
  exact congrArg (wordAt b) (by simp only [Nat.succ_eq_add_one]; omega)

/-- R188: a field of two-byte numbers is read back. -/
theorem wordsAt_field (front : List Byte) (l : List Nat) (back : List Byte) (small : ∀ x ∈ l, x < 65536) :
    wordsAt (front ++ (l.flatMap u16 ++ back)) front.length l.length = l := by
  induction l generalizing front with
  | nil => rfl
  | cons x l ih =>
    obtain ⟨here, later⟩ := List.forall_mem_cons.1 small
    have rest := ih (front ++ u16 x) later
    rw [List.length_append, List.append_assoc] at rest
    rw [List.length_cons, wordsAt_succ, List.flatMap_cons, List.append_assoc, wordAt_here front here]
    exact congrArg _ rest

theorem goodSteps_iff (l : List Nat) : goodSteps l = true ↔ l.Pairwise (· ≤ ·) ∧ ∀ x ∈ l, x ≤ 20000 := by
  rw [← List.isChain_iff_pairwise]
  induction l with
  | nil => simp [goodSteps]
  | cons a l ih =>
    cases l with
    | nil => simp [goodSteps]
    | cons b l =>
      simp only [goodSteps, Bool.and_eq_true, decide_eq_true_eq, ih, List.isChain_cons_cons, List.forall_mem_cons]
      tauto

/-- R71: four ranks that hold 1, 2, 3 and 4 are these in some order. -/
theorem goodRanks_iff {ranks : List Nat} (four : ranks.length = 4) : goodRanks ranks = true ↔ ranks.Perm [1, 2, 3, 4] := by
  constructor
  · intro good
    have held : [1, 2, 3, 4] ⊆ ranks := fun r hr => of_decide_eq_true (List.all_eq_true.1 good r hr)
    exact ((List.subperm_of_subset (by decide) held).perm_of_length_le (by simp [four])).symm
  · exact fun perm => List.all_eq_true.2 fun r hr => decide_eq_true (perm.symm.subset hr)

/-- R71: the checks of BUDGET_CONFIG in the words of the statements. -/
theorem budgetable_iff {ranks base comp lights outlet warning : List Nat} (four : ranks.length = 4) (h : Nat) :
    (goodRanks ranks = true ∧
      (goodSteps base && goodSteps comp && goodSteps lights && goodSteps outlet && goodSteps warning) = true ∧
      within 3600 57600 h = true) ↔ budgetable ranks [base, comp, lights, outlet, warning] h := by
  simp only [budgetable, goodRanks_iff four, Bool.and_eq_true, goodSteps_iff, within, decide_eq_true_eq, liesIn, List.forall_mem_cons,
    List.not_mem_nil, false_imp_iff, implies_true, and_true, and_assoc]

/-- R71: a configuration that may be taken. -/
theorem budgetConfigRequest_good {b : List Byte} (length : b.length = 32)
    (good : budgetable [byteAt b 0, byteAt b 1, byteAt b 2, byteAt b 3]
      [wordsAt b 4 1, wordsAt b 6 5, wordsAt b 16 4, wordsAt b 24 2, wordsAt b 28 1] (wordAt b 30)) (d : Device) :
    let t := d.bgt.table
    budgetConfigRequest b d = taken (triggerPass { d with bgt := { d.bgt with
      table :=
        { base := t.base.configured none (wordsAt b 4 1)
          heater := t.heater.configured (some (byteAt b 0)) t.heater.steps
          compressor := t.compressor.configured (some (byteAt b 1)) (wordsAt b 6 5)
          lights := t.lights.configured (some (byteAt b 2)) (wordsAt b 16 4)
          outlet := t.outlet.configured (some (byteAt b 3)) (wordsAt b 24 2)
          warning := t.warning.configured none (wordsAt b 28 1) }
      defaultHorizon := wordAt b 30 } }) [] := by
  obtain ⟨ranks, steps, horizon⟩ := (budgetable_iff rfl _).2 good
  unfold budgetConfigRequest
  rw [if_neg (not_not.2 length)]
  dsimp only
  rw [ranks, steps, horizon]
  rfl

/-- R71: a configuration out of its ranges or its order. -/
theorem budgetConfigRequest_bad {b : List Byte} (length : b.length = 32)
    (bad : ¬budgetable [byteAt b 0, byteAt b 1, byteAt b 2, byteAt b 3]
      [wordsAt b 4 1, wordsAt b 6 5, wordsAt b 16 4, wordsAt b 24 2, wordsAt b 28 1] (wordAt b 30)) (d : Device) :
    budgetConfigRequest b d = refuse .badValue d := by
  unfold budgetConfigRequest
  rw [if_neg (not_not.2 length)]
  dsimp only
  split_ifs with ranks steps horizon
  · rfl
  · rfl
  · rfl
  · simp only [Bool.not_eq_true', Bool.not_eq_false] at ranks steps horizon
    exact absurd ((budgetable_iff rfl _).1 ⟨ranks, steps, horizon⟩) bad

/-- R71: the body of BUDGET_CONFIG that carries a configuration. -/
def budgetBytes (ranks base comp lights outlet warning : List Nat) (h : Nat) : List Byte :=
  ranks.flatMap u8 ++ base.flatMap u16 ++ comp.flatMap u16 ++ lights.flatMap u16 ++ outlet.flatMap u16 ++
    warning.flatMap u16 ++ u16 h

theorem wordsAt_of_field {b front : List Byte} {l : List Nat} {back : List Byte} {offset n : Nat}
    (field : b = front ++ (l.flatMap u16 ++ back)) (front_length : front.length = offset) (length : l.length = n)
    (small : ∀ x ∈ l, x < 65536) : wordsAt b offset n = l := by
  subst field front_length length
  exact wordsAt_field front l back small

theorem u16s_length (l : List Nat) : (l.flatMap u16).length = 2 * l.length := by
  induction l with
  | nil => rfl
  | cons x l ih =>
    rw [List.flatMap_cons, List.length_append, ih, List.length_cons]
    change 2 + _ = _
    omega

section
variable {r0 r1 r2 r3 : Nat} {base comp lights outlet warning : List Nat} {h : Nat}
  (lengths : base.length = 1 ∧ comp.length = 5 ∧ lights.length = 4 ∧ outlet.length = 2 ∧ warning.length = 1)
include lengths

theorem budgetBytes_length : (budgetBytes [r0, r1, r2, r3] base comp lights outlet warning h).length = 32 := by
  obtain ⟨hbase, hcomp, hlights, houtlet, hwarning⟩ := lengths
  simp only [budgetBytes, List.length_append, u16s_length, hbase, hcomp, hlights, houtlet, hwarning]
  rfl

/-- R71, R188: what the body of BUDGET_CONFIG carries is read back. -/
theorem budgetBytes_read (small : ∀ l ∈ [base, comp, lights, outlet, warning], ∀ x ∈ l, x < 65536) (horizon : h < 65536) :
    let b := budgetBytes [r0, r1, r2, r3] base comp lights outlet warning h
    wordsAt b 4 1 = base ∧ wordsAt b 6 5 = comp ∧ wordsAt b 16 4 = lights ∧ wordsAt b 24 2 = outlet ∧ wordsAt b 28 1 = warning ∧
      wordAt b 30 = h := by
  obtain ⟨hbase, hcomp, hlights, houtlet, hwarning⟩ := lengths
  simp only [List.forall_mem_cons, List.not_mem_nil, false_imp_iff, implies_true, and_true] at small
  obtain ⟨sbase, scomp, slights, soutlet, swarning⟩ := small
  let B := base.flatMap u16
  let C := comp.flatMap u16
  let L := lights.flatMap u16
  let O := outlet.flatMap u16
  let W := warning.flatMap u16
  let R : List Byte := [r0, r1, r2, r3].flatMap u8
  have joined : budgetBytes [r0, r1, r2, r3] base comp lights outlet warning h = R ++ (B ++ (C ++ (L ++ (O ++ (W ++ u16 h))))) := by
    simp only [budgetBytes, List.append_assoc, R, B, C, L, O, W]
  have lB : B.length = 2 := by rw [u16s_length, hbase]
  have lC : C.length = 10 := by rw [u16s_length, hcomp]
  have lL : L.length = 8 := by rw [u16s_length, hlights]
  have lO : O.length = 4 := by rw [u16s_length, houtlet]
  have lW : W.length = 2 := by rw [u16s_length, hwarning]
  have lR : R.length = 4 := rfl
  have last := wordAt_here (R ++ (B ++ (C ++ (L ++ (O ++ W))))) horizon []
  simp only [List.append_assoc, List.append_nil, List.length_append, lR, lB, lC, lL, lO, lW] at last
  rw [joined]
  refine ⟨wordsAt_of_field (front := R) rfl rfl hbase sbase,
    wordsAt_of_field (front := R ++ B) (back := L ++ (O ++ (W ++ u16 h))) ?_ ?_ hcomp scomp,
    wordsAt_of_field (front := R ++ (B ++ C)) (back := O ++ (W ++ u16 h)) ?_ ?_ hlights slights,
    wordsAt_of_field (front := R ++ (B ++ (C ++ L))) (back := W ++ u16 h) ?_ ?_ houtlet soutlet,
    wordsAt_of_field (front := R ++ (B ++ (C ++ (L ++ O)))) (back := u16 h) ?_ ?_ hwarning swarning, last⟩
  all_goals simp only [List.append_assoc, List.length_append, lR, lB, lC, lL, lO, B, C, L, O, W]

end

theorem configured_of_rank {e : Entry} {rank : Option Nat} (h : e.rank = rank) (steps : List Nat) :
    e.configured rank steps = { e with steps := steps } := by
  subst h
  rfl

theorem budgetConfigRequest_taken {r0 r1 r2 r3 : Nat} {base comp lights outlet warning : List Nat} {h : Nat}
    (lengths : base.length = 1 ∧ comp.length = 5 ∧ lights.length = 4 ∧ outlet.length = 2 ∧ warning.length = 1)
    (good : budgetable [r0, r1, r2, r3] [base, comp, lights, outlet, warning] h) {d : Device}
    (unranked : d.bgt.table.base.rank = none ∧ d.bgt.table.warning.rank = none) :
    let old := d.bgt.table
    budgetConfigRequest (budgetBytes [r0, r1, r2, r3] base comp lights outlet warning h) d =
      taken (triggerPass { d with bgt := { d.bgt with
        table :=
          { base := { old.base with steps := base }
            heater := { old.heater with rank := some r0 }
            compressor := { old.compressor with rank := some r1, steps := comp }
            lights := { old.lights with rank := some r2, steps := lights }
            outlet := { old.outlet with rank := some r3, steps := outlet }
            warning := { old.warning with steps := warning } }
        defaultHorizon := h } }) [] := by
  obtain ⟨perm, steps, horizon⟩ := good
  have rank (r : Nat) (mem : r ∈ [r0, r1, r2, r3]) : (BitVec.ofNat 8 r).toNat = r := by
    have mem := perm.subset mem
    simp only [List.mem_cons, List.not_mem_nil, or_false] at mem
    exact byte_read (by omega)
  have first : byteAt (budgetBytes [r0, r1, r2, r3] base comp lights outlet warning h) 0 = r0 := rank r0 (by simp)
  have second : byteAt (budgetBytes [r0, r1, r2, r3] base comp lights outlet warning h) 1 = r1 := rank r1 (by simp)
  have third : byteAt (budgetBytes [r0, r1, r2, r3] base comp lights outlet warning h) 2 = r2 := rank r2 (by simp)
  have fourth : byteAt (budgetBytes [r0, r1, r2, r3] base comp lights outlet warning h) 3 = r3 := rank r3 (by simp)
  obtain ⟨rbase, rcomp, rlights, routlet, rwarning, rhorizon⟩ := budgetBytes_read (r0 := r0) (r1 := r1) (r2 := r2) (r3 := r3)
    (h := h) lengths (fun l hl x hx => ((steps l hl).2 x hx).trans_lt (by decide)) (horizon.2.trans_lt (by decide))
  have taken' := budgetConfigRequest_good (budgetBytes_length (r0 := r0) (r1 := r1) (r2 := r2) (r3 := r3) (h := h) lengths)
  rw [first, second, third, fourth, rbase, rcomp, rlights, routlet, rwarning, rhorizon] at taken'
  intro old
  rw [taken' ⟨perm, steps, horizon⟩ d, configured_of_rank unranked.1, configured_of_rank unranked.2]
  rfl

end Sys2Proof.Machine

namespace Sys2Proof.Proofs

open Sys2Proof Sys2Proof.Machine Sys2Proof.Stated

/-- Settles O24: the switch by its state, the configuration by its checks. -/
theorem budgetRequestsAreTaken : Obligations.BudgetRequestsAreTaken := by
  intro s tag free table allowance
  refine ⟨fun on => ?_, fun ranks base comp lights outlet warning h => ?_, fun n high => ?_, fun body length bad => ?_⟩
  · obtain ⟨replied, bgt, notices, others, frame⟩ := serve_outletSet free ⟨table, allowance⟩ tag on
    refine runs_of_eq (f := serve 0x1A tag [if on = true then 0x01 else 0x00] outletSetRequest) rfl rfl ?_
    generalize serve 0x1A tag [if on = true then 0x01 else 0x00] outletSetRequest s.dev = t at *
    let u := hearing { kind := 0x1A, tag := tag, body := [if on = true then 0x01 else 0x00] } s.dev
    refine ⟨replied, ?_, ?_, ?_, ?_, ?_, notices, others, frame⟩
    · rintro rfl off
      exact bgt.trans (congrArg (·.bgt) (outletOn_off (d := u) ⟨table, allowance⟩ off))
    · rintro rfl denied
      have asked : t.bgt = (outletRequest u).bgt := bgt.trans (congrArg (·.bgt) (outletOn_denied (d := u) denied))
      refine ⟨fun near => ?_, fun apart refused => ?_, fun apart granted free => ?_, fun apart granted taken => ?_⟩
      · exact asked.trans (congrArg (·.bgt) (outletRequest_ignored (d := u) (by tauto)))
      · exact asked.trans (congrArg (·.bgt) (outletRequest_denied (d := u) apart.1 apart.2 refused))
      · exact asked.trans (congrArg (·.bgt) (outletRequest_free (d := u) apart.1 apart.2 granted free))
      · exact asked.trans (congrArg (·.bgt) (outletRequest_waits (d := u) apart.1 apart.2 granted taken))
    · rintro rfl off denied
      exact bgt.trans (congrArg (·.bgt) (outletOn_stays (d := u) off denied))
    · rintro rfl off
      exact bgt.trans (congrArg (·.bgt) (outletOff_off (d := u) off))
    · rintro rfl on
      exact bgt.trans (congrArg (·.bgt) (outletOff_on (d := u) ⟨table, allowance⟩ on))
  · intro hbase hcomp hlights houtlet hwarning good
    match ranks, (good.1.length_eq : ranks.length = 4) with
    | [r0, r1, r2, r3], _ =>
      obtain ⟨-, -, -, -, -, -, unbase, unwarning, -⟩ := table
      obtain ⟨replied, same, notices⟩ := serve_taken free (kind := 0x18) (tag := tag)
        (budgetConfigRequest_taken (d := hearing { kind := 0x18, tag := tag, body := _ } s.dev)
          ⟨hbase, hcomp, hlights, houtlet, hwarning⟩ good ⟨unbase, unwarning⟩) rfl rfl
      exact runs_of_eq (f := serve 0x18 tag (budgetBytes [r0, r1, r2, r3] base comp lights outlet warning h) budgetConfigRequest)
        rfl rfl ⟨⟨replied, notices⟩, same⟩
  · exact runs_of_eq (f := serve 0x1A tag [n] outletSetRequest) rfl rfl (serve_refused free (outletSetRequest_refused high _) rfl)
  · exact runs_of_eq (f := serve 0x18 tag body budgetConfigRequest) rfl rfl
      (serve_refused free (budgetConfigRequest_bad length bad _) rfl)

end Sys2Proof.Proofs
end

section
/-! PROOFS. What a budget pass decides, in the words of the statements (R56 to R61). -/

namespace Sys2Proof.Machine

open Sys2Proof.Stated

/-! ## Tables, grants and demand (R53, R56) -/

/-- R56: the demand in the words of the statements. -/
theorem tableDemand_eq (t : LoadTable) (f : Load → Nat) (h : Nat) : tableDemand t f h = demand t f h := by
  simp only [tableDemand, demand, stepDemand, ceilDiv, allLoads, List.map_cons, List.map_nil, List.sum_cons, List.sum_nil]
  omega

theorem demandAtGrants_eq (t : LoadTable) (h : Nat) : demandAtGrants t h = demand t (grants t) h := tableDemand_eq ..

/-- R56: the demand reads the step lists of a table alone. -/
theorem demand_congr {t u : LoadTable} (steps : ∀ l, (u.get l).steps = (t.get l).steps) {f g : Load → Nat} (same : ∀ l, g l = f l)
    (h : Nat) : demand u g h = demand t f h := by simp only [demand, steps, same]

theorem grants_grant (t : LoadTable) (l : Load) (n : Nat) : grants (t.grant l n) = withGrant t l n := by
  funext m
  unfold grants withGrant
  rw [loadTable_get_grant]
  split
  · rfl
  · rfl

theorem demandAtGrants_grant (t : LoadTable) (l : Load) (n h : Nat) :
    demandAtGrants (t.grant l n) h = demand t (withGrant t l n) h := by
  rw [demandAtGrants_eq, grants_grant]
  refine demand_congr (fun m => ?_) (fun _ => rfl) h
  rw [loadTable_get_grant]
  split
  · next same => rw [same]
  · rfl

theorem withGrant_self (t : LoadTable) (l : Load) : withGrant t l (grants t l) = grants t := by
  funext m
  unfold withGrant
  split
  · next same => rw [same]
  · rfl

/-! ## The reduction walk (R59) -/

theorem grant_grant (t : LoadTable) (l : Load) (m n : Nat) : (t.grant l m).grant l n = t.grant l n := by
  refine loadTable_ext fun k => ?_
  by_cases same : k = l
  · subst same
    simp
  · simp [same]

theorem grant_self (t : LoadTable) (l : Load) : t.grant l (grants t l) = t := loadTable_put_get t l

/-- R59: one step of a load that stands above its floor. -/
theorem lowerLoad_succ {l : Load} {t : LoadTable} (below : ¬(t.get l).granted ≤ (t.get l).floor) (h usable fuel : Nat) :
    lowerLoad l h usable (fuel + 1) t =
      if demand t (withGrant t l ((t.get l).granted - 1)) h ≤ usable then (t.grant l ((t.get l).granted - 1), true)
      else lowerLoad l h usable fuel (t.grant l ((t.get l).granted - 1)) := by
  rw [← demandAtGrants_grant]
  exact if_neg below

/-- R59: a load is lowered to the first step at which the demand is `usable` or less, and to its floor at most. -/
theorem lowerLoad_spec (l : Load) (h usable : Nat) {t : LoadTable} (above : usable < demandAtGrants t h)
    (floor : (t.get l).floor ≤ grants t l) :
    ∃ n ≤ grants t l, (t.get l).floor ≤ n ∧
      (lowerLoad l h usable (grants t l - (t.get l).floor) t).1 = t.grant l n ∧
      (∀ k ≤ grants t l, n < k → usable < demand t (withGrant t l k) h) ∧
      if (lowerLoad l h usable (grants t l - (t.get l).floor) t).2 = true then demand t (withGrant t l n) h ≤ usable
      else n = (t.get l).floor ∧ usable < demand t (withGrant t l n) h := by
  generalize fuel_eq : grants t l - (t.get l).floor = fuel
  induction fuel generalizing t with
  | zero =>
    have last : grants t l = (t.get l).floor := by omega
    refine ⟨grants t l, le_rfl, floor, (grant_self t l).symm, fun k hk low => absurd hk (by omega), ?_⟩
    rw [withGrant_self, ← demandAtGrants_eq]
    exact ⟨last, above⟩
  | succ fuel ih =>
    have below : ¬(t.get l).granted ≤ (t.get l).floor := by unfold grants at fuel_eq; omega
    rw [lowerLoad_succ below]
    have one : grants (t.grant l ((t.get l).granted - 1)) l = grants t l - 1 := by rw [grants_grant, withGrant, if_pos rfl]; rfl
    have entry : ((t.grant l ((t.get l).granted - 1)).get l).floor = (t.get l).floor := by rw [loadTable_get_grant, if_pos rfl]
    have here (k : Nat) (hk : k ≤ grants t l) (low : grants t l - 1 < k) : usable < demand t (withGrant t l k) h := by
      rw [show k = grants t l by omega, withGrant_self, ← demandAtGrants_eq]
      exact above
    split
    · next reached =>
      refine ⟨grants t l - 1, by omega, by omega, rfl, here, ?_⟩
      rw [if_pos rfl]
      exact reached
    · next high =>
      have moved (k : Nat) : demand (t.grant l ((t.get l).granted - 1)) (withGrant (t.grant l ((t.get l).granted - 1)) l k) h =
          demand t (withGrant t l k) h := by
        rw [← demandAtGrants_grant, grant_grant, demandAtGrants_grant]
      obtain ⟨n, bound, low, result, points, ends⟩ := ih (t := t.grant l ((t.get l).granted - 1))
        (by rw [demandAtGrants_grant]; omega) (by rw [one, entry]; unfold grants at *; omega) (by rw [one, entry]; omega)
      rw [one] at bound points
      rw [entry] at low ends
      simp only [moved] at points ends
      refine ⟨n, by omega, low, ?_, fun k hk above' => ?_, ends⟩
      · rw [result, grant_grant]
      · by_cases last : grants t l - 1 < k
        · exact here k hk last
        · exact points k (by omega) above'

/-- R59: the grants at a point of the walk over a list of loads: those before `m` stand at their floors, `m` at step `n`. -/
def walkStep (t : LoadTable) (before : List Load) (m : Load) (n : Nat) : Load → Nat := fun k =>
  if k = m then n else if k ∈ before then (t.get k).floor else grants t k

/-- R59: the walk over loads in a given order. -/
theorem walkLoads_spec (h usable : Nat) {loads : List Load} (nodup : loads.Nodup) {t : LoadTable}
    (above : usable < demandAtGrants t h) (floors : ∀ l ∈ loads, (t.get l).floor ≤ grants t l) :
    let g := grants (walkLoads h usable loads t).1
    (∀ l, l ∉ loads → g l = grants t l) ∧ (∀ l ∈ loads, (t.get l).floor ≤ g l ∧ g l ≤ grants t l) ∧
    loads.Pairwise (fun l m => g m < grants t m → g l = (t.get l).floor) ∧
    (∀ before m after, loads = before ++ m :: after → ∀ n ≤ grants t m, g m < n →
      usable < demand t (walkStep t before m n) h) ∧
    (if (walkLoads h usable loads t).2 = true then demand t g h ≤ usable
      else usable < demand t g h ∧ ∀ l ∈ loads, g l = (t.get l).floor) := by
  induction loads generalizing t with
  | nil =>
    refine ⟨fun _ _ => rfl, nofun, .nil, fun before m after split => ?_, ?_⟩
    · cases before <;> cases split
    · exact ⟨demandAtGrants_eq t h ▸ above, nofun⟩
  | cons l loads ih =>
    obtain ⟨apart, nodup⟩ := List.nodup_cons.1 nodup
    obtain ⟨floor, floors⟩ := List.forall_mem_cons.1 floors
    obtain ⟨n, bound, low, result, points, ends⟩ := lowerLoad_spec l h usable above floor
    have first (k : Nat) (hk : k ≤ grants t l) (high : n < k) : usable < demand t (walkStep t [] l k) h := points k hk high
    have lowered (m : Load) : grants (t.grant l n) m = if m = l then n else grants t m := by rw [grants_grant]; rfl
    have others {m : Load} (mem : m ∈ loads) : grants (t.grant l n) m = grants t m := by
      rw [lowered, if_neg (by rintro rfl; exact apart mem)]
    change (lowerLoad l h usable ((t.get l).granted - (t.get l).floor) t).1 = t.grant l n at result
    change if (lowerLoad l h usable ((t.get l).granted - (t.get l).floor) t).2 = true then _ else _ at ends
    unfold walkLoads
    generalize lowerLoad l h usable ((t.get l).granted - (t.get l).floor) t = r at result ends ⊢
    obtain ⟨u, done⟩ := r
    dsimp only at result ends
    subst result
    cases done with
    | true =>
      dsimp only
      rw [if_pos rfl] at ends
      refine ⟨fun m away => ?_, fun m mem => ?_, ?_, fun before m after split k hk high => ?_, ?_⟩
      · rw [lowered, if_neg (List.ne_of_not_mem_cons away)]
      · rcases List.mem_cons.1 mem with rfl | mem
        · rw [lowered, if_pos rfl]
          exact ⟨low, bound⟩
        · rw [others mem]
          exact ⟨floors m mem, le_rfl⟩
      · have still {m : Load} (mem : m ∈ loads) : ¬grants (t.grant l n) m < grants t m := by rw [others mem]; exact lt_irrefl _
        exact .cons (fun m mem high => absurd high (still mem))
          (List.pairwise_of_forall_mem_list fun _ _ m mem high => absurd high (still mem))
      · cases before with
        | nil =>
          cases split
          rw [lowered, if_pos rfl] at high
          exact first k hk high
        | cons _ before =>
          cases split
          rw [others (by simp)] at high
          omega
      · rw [if_pos rfl, grants_grant]
        exact ends
    | false =>
      rw [if_neg (by decide)] at ends
      obtain ⟨rfl, high⟩ := ends
      have entry (m : Load) : ((t.grant l (t.get l).floor).get m).floor = (t.get m).floor := by
        rw [loadTable_get_grant]
        split
        · next same => rw [same]
        · rfl
      have steps (m : Load) : ((t.grant l (t.get l).floor).get m).steps = (t.get m).steps := by
        rw [loadTable_get_grant]
        split
        · next same => rw [same]
        · rfl
      obtain ⟨outside, inside, ordered, walk, final⟩ := ih nodup (t := t.grant l (t.get l).floor)
        (by rw [demandAtGrants_grant]; exact high) fun m mem => by rw [entry, others mem]; exact floors m mem
      have bottom : grants (walkLoads h usable loads (t.grant l (t.get l).floor)).1 l = (t.get l).floor := by
        rw [outside l apart, lowered, if_pos rfl]
      refine ⟨fun m away => ?_, fun m mem => ?_, ?_, fun before m after split k hk high => ?_, ?_⟩
      · rw [outside m (List.not_mem_of_not_mem_cons away), lowered, if_neg (List.ne_of_not_mem_cons away)]
      · rcases List.mem_cons.1 mem with rfl | mem
        · rw [bottom]
          exact ⟨le_rfl, floor⟩
        · have within := inside m mem
          rwa [entry, others mem] at within
      · refine .cons (fun m mem _ => bottom) (ordered.imp_of_mem fun {x m} hx mem higher high => ?_)
        rw [entry, others mem] at higher
        exact higher high
      · cases before with
        | nil =>
          cases split
          rw [bottom] at high
          exact first k hk high
        | cons _ before =>
          cases split
          have point := walk before m after rfl k (by rwa [others (by simp)]) high
          rwa [demand_congr steps (f := walkStep t (l :: before) m k) (fun x => ?_)] at point
          unfold walkStep
          rw [entry, lowered]
          by_cases here : x = l
          · simp [here]
          · simp [here]
      · rw [demand_congr steps (fun _ => rfl)] at final
        split_ifs at final ⊢
        · exact final
        · refine ⟨final.1, fun m mem => ?_⟩
          rcases List.mem_cons.1 mem with rfl | mem
          · exact bottom
          · exact (final.2 m mem).trans (entry m)

end Sys2Proof.Machine
end

section
/-! PROOFS. The loads in the order of their ranks, and what a pass decides by each policy (R57 to R61). -/

namespace Sys2Proof.Machine

open Sys2Proof.Stated

/-! ## The loads by rank (R53) -/

/-- The rank of a load, 0 for a protected one. -/
def rankOf (t : LoadTable) (l : Load) : Nat := (t.get l).rank.getD 0

theorem loadOfRank_spec {t : LoadTable} (sound : t.sound) {r : Nat} (hr : r ∈ [1, 2, 3, 4]) :
    ∃ l ∈ sheddable, loadOfRank t r = some l ∧ (t.get l).rank = some r := by
  obtain ⟨m, mem, rank⟩ := (t.sound_iff.1 sound).2.2.2 r hr
  have found : (loadOfRank t r).isSome = true := List.find?_isSome.2 ⟨m, mem, decide_eq_true rank⟩
  obtain ⟨l, eq⟩ := Option.isSome_iff_exists.1 found
  have here : decide ((t.get l).rank = some r) = true :=
    List.find?_some (p := fun l => decide ((t.get l).rank = some r)) eq
  exact ⟨l, List.mem_of_find?_eq_some eq, eq, of_decide_eq_true here⟩

/-- R53: the sheddable loads of ranks 1, 2, 3 and 4 are all of them. -/
theorem loads_byRank {t : LoadTable} (sound : t.sound) : ∃ a b c d,
    (loadOfRank t 1 = some a ∧ loadOfRank t 2 = some b ∧ loadOfRank t 3 = some c ∧ loadOfRank t 4 = some d) ∧
    ((t.get a).rank = some 1 ∧ (t.get b).rank = some 2 ∧ (t.get c).rank = some 3 ∧ (t.get d).rank = some 4) ∧
    [a, b, c, d].Perm sheddable := by
  obtain ⟨a, ha, fa, ra⟩ := loadOfRank_spec sound (r := 1) (by decide)
  obtain ⟨b, hb, fb, rb⟩ := loadOfRank_spec sound (r := 2) (by decide)
  obtain ⟨c, hc, fc, rc⟩ := loadOfRank_spec sound (r := 3) (by decide)
  obtain ⟨d, hd, fd, rd⟩ := loadOfRank_spec sound (r := 4) (by decide)
  have ranks : ([a, b, c, d].map fun l => (t.get l).rank).Nodup := by
    simp only [List.map_cons, List.map_nil, ra, rb, rc, rd]
    decide
  refine ⟨a, b, c, d, ⟨fa, fb, fc, fd⟩, ⟨ra, rb, rc, rd⟩, ?_⟩
  refine (List.subperm_of_subset ranks.of_map fun l mem => ?_).perm_of_length_le (by simp [sheddable])
  simp only [List.mem_cons, List.not_mem_nil, or_false] at mem
  rcases mem with rfl | rfl | rfl | rfl <;> assumption

/-- R53: a load of a rank above 0 is sheddable. -/
theorem sheddable_of_rank {t : LoadTable} (sound : t.sound) {l : Load} (ranked : 0 < rankOf t l) : l ∈ sheddable := by
  obtain ⟨-, -, -, -, -, -, base, warning, -⟩ := sound
  cases l
  case base => simp [rankOf, LoadTable.get, base] at ranked
  case warning => simp [rankOf, LoadTable.get, warning] at ranked
  all_goals decide

theorem rank_of_sheddable {t : LoadTable} (sound : t.sound) {l : Load} (mem : l ∈ sheddable) :
    ∃ r ∈ [1, 2, 3, 4], (t.get l).rank = some r := by
  obtain ⟨a, b, c, d, -, ⟨ra, rb, rc, rd⟩, perm⟩ := loads_byRank sound
  have mem := perm.symm.subset mem
  simp only [List.mem_cons, List.not_mem_nil, or_false] at mem
  rcases mem with rfl | rfl | rfl | rfl
  exacts [⟨1, by decide, ra⟩, ⟨2, by decide, rb⟩, ⟨3, by decide, rc⟩, ⟨4, by decide, rd⟩]

/-- R59: the sheddable loads, the worst rank first. -/
theorem worstFirst_spec {t : LoadTable} (sound : t.sound) :
    (∀ l, l ∈ worstFirst t ↔ l ∈ sheddable) ∧ (worstFirst t).Pairwise fun l m => rankOf t m < rankOf t l := by
  obtain ⟨a, b, c, d, ⟨fa, fb, fc, fd⟩, ⟨ra, rb, rc, rd⟩, perm⟩ := loads_byRank sound
  have order : worstFirst t = [d, c, b, a] := by simp [worstFirst, fa, fb, fc, fd]
  rw [order]
  refine ⟨fun l => ?_, by simp [rankOf, ra, rb, rc, rd]⟩
  rw [← perm.mem_iff]
  simp only [List.mem_cons, List.not_mem_nil, or_false]
  tauto

/-- R60: the sheddable loads, the best rank first. -/
theorem bestFirst_spec {t : LoadTable} (sound : t.sound) :
    (∀ l, l ∈ [1, 2, 3, 4].filterMap (loadOfRank t) ↔ l ∈ sheddable) ∧
    ([1, 2, 3, 4].filterMap (loadOfRank t)).Pairwise fun l m => rankOf t l < rankOf t m := by
  obtain ⟨a, b, c, d, ⟨fa, fb, fc, fd⟩, ⟨ra, rb, rc, rd⟩, perm⟩ := loads_byRank sound
  have order : [1, 2, 3, 4].filterMap (loadOfRank t) = [a, b, c, d] := by simp [fa, fb, fc, fd]
  rw [order]
  exact ⟨fun l => perm.mem_iff, by simp [rankOf, ra, rb, rc, rd]⟩

/-! ## The reduction walk (R59) -/

/-- The walk's points are those of the statements: before `m` stand the loads of worse rank. -/
theorem walkStep_eq {t : LoadTable} (sound : t.sound) {before after : List Load} {m : Load}
    (split : worstFirst t = before ++ m :: after) (n : Nat) : walkStep t before m n = walkPoint t m n := by
  obtain ⟨members, sorted⟩ := worstFirst_spec sound
  rw [split] at sorted members
  obtain ⟨-, tail, across⟩ := List.pairwise_append.1 sorted
  obtain ⟨behind, -⟩ := List.pairwise_cons.1 tail
  funext k
  unfold walkStep walkPoint
  by_cases here : k = m
  · rw [if_pos here, if_pos here]
  rw [if_neg here, if_neg here]
  have worse : k ∈ before ↔ rankOf t m < rankOf t k := by
    refine ⟨fun mem => across k mem m List.mem_cons_self, fun worse => ?_⟩
    have mem := (members k).2 (sheddable_of_rank sound (Nat.zero_lt_of_lt worse))
    rcases List.mem_append.1 mem with mem | mem
    · exact mem
    · rcases List.mem_cons.1 mem with same | mem
      · exact absurd same here
      · exact absurd (behind k mem) (by omega)
  by_cases mem : k ∈ before
  · rw [if_pos mem, if_pos (show (t.get m).rank.getD 0 < (t.get k).rank.getD 0 from worse.1 mem)]
  · rw [if_neg mem, if_neg (show ¬(t.get m).rank.getD 0 < (t.get k).rank.getD 0 from mt worse.2 mem)]

/-- R59: the reduction walk in the words of the statements. -/
theorem walkLoads_walked {t : LoadTable} (sound : t.sound) {h usable : Nat} (above : usable < demandAtGrants t h) :
    let r := walkLoads h usable (worstFirst t) t
    walked t h usable (grants r.1) (!r.2) ∧ ∀ l, l ∉ sheddable → grants r.1 l = grants t l := by
  obtain ⟨members, sorted⟩ := worstFirst_spec sound
  have nodup : (worstFirst t).Nodup := sorted.imp (by rintro l _ less rfl; exact lt_irrefl _ less)
  obtain ⟨outside, inside, ordered, points, final⟩ :=
    walkLoads_spec h usable nodup above fun l _ => (sound.entry l).2.1
  intro r
  refine ⟨⟨fun l mem => inside l ((members l).2 mem), fun l hl m hm worse high => ?_, fun m hm n bound high => ?_, fun short => ?_,
    fun done => ?_⟩, fun l away => outside l (mt (members l).1 away)⟩
  · obtain ⟨before, after, split⟩ := List.append_of_mem ((members m).2 hm)
    have mem := (members l).2 hl
    rw [split] at sorted mem
    have ordered : (before ++ m :: after).Pairwise fun l m => grants r.1 m < grants t m → grants r.1 l = (t.get l).floor :=
      split ▸ ordered
    obtain ⟨-, -, across⟩ := List.pairwise_append.1 ordered
    obtain ⟨-, tail, -⟩ := List.pairwise_append.1 sorted
    rcases List.mem_append.1 mem with mem | mem
    · exact across l mem m List.mem_cons_self high
    · rcases List.mem_cons.1 mem with rfl | mem
      · exact absurd worse (lt_irrefl _)
      · exact absurd ((List.pairwise_cons.1 tail).1 l mem) (by unfold rankOf; omega)
  · obtain ⟨before, after, split⟩ := List.append_of_mem ((members m).2 hm)
    rw [← walkStep_eq sound split n]
    exact points before m after split n bound high
  · rw [if_neg (by simpa using short)] at final
    exact ⟨final.1, fun l mem => final.2 l ((members l).2 mem)⟩
  · rwa [if_pos (by simpa using done)] at final

/-! ## The raise (R60) -/

theorem raiseOne_raised {t : LoadTable} (sound : t.sound) (h usable : Nat) : raised t h usable (grants (raiseOne h usable t)) := by
  obtain ⟨members, sorted⟩ := bestFirst_spec sound
  have limited (l : Load) : decide ((t.get l).granted < (t.get l).requested) = false ↔ (t.get l).requested ≤ (t.get l).granted := by
    simp
  unfold raiseOne
  cases best : bestLimited t with
  | none =>
    have full (l : Load) (mem : l ∈ sheddable) : (t.get l).requested ≤ (t.get l).granted := by
      simpa using List.find?_eq_none.1 best l ((members l).2 mem)
    exact ⟨fun l mem below => absurd (full l mem) (by omega), fun _ _ => rfl⟩
  | some l =>
    obtain ⟨below, before, after, split, full⟩ := List.find?_eq_some_iff_append.1 best
    have below : (t.get l).granted < (t.get l).requested := of_decide_eq_true below
    have mem : l ∈ sheddable := (members l).1 (split ▸ List.mem_append_right _ List.mem_cons_self)
    rw [split] at sorted members
    obtain ⟨-, tail, -⟩ := List.pairwise_append.1 sorted
    refine ⟨fun m hm low best' k => ?_, fun all => absurd (all l mem) (by omega)⟩
    have same : m = l := by
      rcases List.mem_append.1 ((members m).2 hm) with early | late
      · exact absurd low (by simpa using full m early)
      · rcases List.mem_cons.1 late with same | late
        · exact same
        · exact absurd (best' l mem ((List.pairwise_cons.1 tail).1 m late)) (by omega)
    subst same
    dsimp only
    rw [demandAtGrants_grant]
    split_ifs
    · rw [grants_grant]
    · rfl

/-! ## The stage (R61) -/

/-- R61: the stage of a table whose grants alone differ from those of `t`. -/
theorem stageOf_eq {t u : LoadTable} (sound : t.sound) (reg : Regranted t u) : stageOf u = stage t (grants u) := by
  have status (l : Load) : ((u.get l).status = .shed ↔ grants u l = 0 ∧ 0 < (t.get l).requested) ∧
      ((u.get l).status = .limited ↔ grants u l < (t.get l).requested ∧ ¬(grants u l = 0)) := by
    obtain ⟨eq, -, high⟩ := reg l
    have requested : (u.get l).requested = (t.get l).requested := (reg.entry l).1
    unfold Entry.status grants
    rw [requested]
    generalize (u.get l).granted = g at high ⊢
    split_ifs with full shed
    · exact ⟨⟨nofun, fun ⟨zero, some'⟩ => by omega⟩, ⟨nofun, fun ⟨below, _⟩ => by omega⟩⟩
    · exact ⟨⟨fun _ => shed, fun _ => rfl⟩, ⟨nofun, fun ⟨_, some'⟩ => absurd shed.1 some'⟩⟩
    · exact ⟨⟨nofun, fun zero => absurd zero shed⟩, ⟨fun _ => by omega, fun _ => rfl⟩⟩
  have protected' (l : Load) (away : l ∉ sheddable) : (t.get l).requested = 0 := by
    obtain ⟨base, -, -, -, -, warning, -⟩ := sound
    obtain ⟨-, -, -, base⟩ := base
    obtain ⟨-, -, -, warning⟩ := warning
    cases l
    case base => exact Nat.lt_one_iff.1 base
    case warning => exact Nat.lt_one_iff.1 warning
    all_goals exact absurd (by decide) away
  have among {p : Load → Prop} (positive : ∀ l, p l → 0 < (t.get l).requested) : (∃ l ∈ allLoads, p l) ↔ ∃ l ∈ sheddable, p l := by
    constructor
    · rintro ⟨l, -, hl⟩
      refine ⟨l, Decidable.by_contra fun away => ?_, hl⟩
      exact absurd (positive l hl) (by rw [protected' l away]; exact lt_irrefl 0)
    · rintro ⟨l, -, hl⟩
      exact ⟨l, by cases l <;> decide, hl⟩
  have shed := among (p := fun l => grants u l = 0 ∧ 0 < (t.get l).requested) fun _ h => h.2
  have limited := among (p := fun l => grants u l < (t.get l).requested ∧ ¬(grants u l = 0)) fun _ h => Nat.zero_lt_of_lt h.1
  unfold stageOf stage
  simp only [List.any_eq_true, decide_eq_true_eq, (status _).1, (status _).2]
  by_cases cut : ∃ l ∈ sheddable, grants u l = 0 ∧ 0 < (t.get l).requested
  · rw [if_pos (shed.2 cut), if_pos cut]
  · have same : (∃ l ∈ allLoads, grants u l < (t.get l).requested ∧ ¬(grants u l = 0)) ↔
        ∃ l ∈ sheddable, grants u l < (t.get l).requested := by
      rw [limited]
      refine ⟨fun ⟨l, mem, below, _⟩ => ⟨l, mem, below⟩, fun ⟨l, mem, below⟩ => ⟨l, mem, below, fun zero => cut ⟨l, mem, zero, ?_⟩⟩⟩
      exact Nat.zero_lt_of_lt below
    rw [if_neg (mt shed.1 cut), if_neg cut]
    exact if_congr same rfl rfl

end Sys2Proof.Machine
end

section
/-! PROOFS. The budget pass: what it decides, what it publishes, and the changed grants handed over (R55 to R62). -/

namespace Sys2Proof.Machine

open Sys2Proof.Stated

/-! ## The decision (R58 to R61) -/

theorem grantAll_grants (t : LoadTable) (f : Entry → Nat) (l : Load) :
    grants (t.grantAll f) l = if l ∈ sheddable then f (t.get l) else grants t l := by
  have walk (loads : List Load) (u : LoadTable) :
      grants (loads.foldl (fun acc m => acc.grant m (f (t.get m))) u) l = if l ∈ loads then f (t.get l) else grants u l := by
    induction loads generalizing u with
    | nil => rfl
    | cons m loads ih =>
      rw [List.foldl_cons, ih, grants_grant, withGrant]
      by_cases here : l = m
      · simp [here]
      · simp [here]
  exact walk sheddable t

/-- R60: the protected entries are not raised. -/
theorem raiseOne_protected {t : LoadTable} (sound : t.sound) (h usable : Nat) {l : Load} (away : l ∉ sheddable) :
    grants (raiseOne h usable t) l = grants t l := by
  unfold raiseOne
  split
  · rfl
  · next m best =>
    have mem : m ∈ sheddable := ((bestFirst_spec sound).1 m).1 (List.mem_of_find?_eq_some best)
    dsimp only
    split
    · rw [grants_grant, withGrant, if_neg (by rintro rfl; exact away mem)]
    · rfl

/-- R58: ranks 1 and 2 are granted their requests under UNKNOWN_LOW, ranks 3 and 4 their floors. -/
theorem unknownLowGrant_eq {t : LoadTable} (sound : t.sound) {l : Load} (mem : l ∈ sheddable) :
    unknownLowGrant (t.get l) = if (t.get l).rank.getD 0 ≤ 2 then (t.get l).requested else (t.get l).floor := by
  obtain ⟨r, hr, rank⟩ := rank_of_sheddable sound mem
  simp only [List.mem_cons, List.not_mem_nil, or_false] at hr
  unfold unknownLowGrant
  rw [rank]
  rcases hr with rfl | rfl | rfl | rfl <;> rfl

/-- R59, R60: the grants of a KNOWN pass. -/
theorem weighedGrants_spec {t : LoadTable} (sound : t.sound) (h usable : Nat) :
    let r := weighedGrants h usable t
    (demand t (grants t) h ≤ usable → raised t h usable (grants r.1) ∧ r.2 = false) ∧
    (usable < demand t (grants t) h → walked t h usable (grants r.1) r.2) ∧
    ∀ l, l ∉ sheddable → grants r.1 l = grants t l := by
  unfold weighedGrants
  rw [demandAtGrants_eq]
  by_cases within : demand t (grants t) h ≤ usable
  · rw [if_pos within]
    exact ⟨fun _ => ⟨raiseOne_raised sound h usable, rfl⟩, fun above => absurd within (by omega),
      fun l away => raiseOne_protected sound h usable away⟩
  · rw [if_neg within]
    obtain ⟨walk, outside⟩ := walkLoads_walked sound (h := h) (usable := usable) (by rw [demandAtGrants_eq]; omega)
    exact ⟨fun below => absurd below within, fun _ => walk, outside⟩

/-- R58 to R61: what a pass decides by each policy. -/
theorem decideGrants_decided {t : LoadTable} (sound : t.sound) (p : Policy) (h usable : Nat) :
    let r := decideGrants p h usable t
    decided p t h usable (grants r.1) r.2.1 r.2.2 := by
  have all (f : Entry → Nat) (l : Load) (mem : l ∈ sheddable) : grants (t.grantAll f) l = f (t.get l) := by
    rw [grantAll_grants, if_pos mem]
  have none' (f : Entry → Nat) (l : Load) (away : l ∉ sheddable) : grants (t.grantAll f) l = (t.get l).granted := by
    rw [grantAll_grants, if_neg away]
    rfl
  cases p with
  | exempt | unknownNormal | critical => exact ⟨none' _ .base (by decide), none' _ .warning (by decide), all _, rfl, rfl⟩
  | unknownLow =>
    refine ⟨none' _ .base (by decide), none' _ .warning (by decide), fun l mem => (all _ l mem).trans (unknownLowGrant_eq sound mem), rfl, rfl⟩
  | knownNormal | knownLow =>
    have reg := weighedGrants_regranted sound h usable
    obtain ⟨enough, short, outside⟩ := weighedGrants_spec sound h usable
    unfold decideGrants
    dsimp only
    generalize weighedGrants h usable t = r at *
    exact ⟨outside .base (by decide), outside .warning (by decide), enough, short, stageOf_eq sound reg⟩

/-! ## What the pass publishes (R57, R61, R62) -/

theorem policyOf_eq (d : Device) : policyOf d = policy d := by
  unfold policyOf policy
  simp only [isOn_iff, and_assoc]
  cases d.chg.known <;> cases d.chg.uv <;> rfl

theorem horizonOf_eq (d : Device) : horizonOf d = horizon d := by
  unfold horizonOf horizon
  cases d.bgt.horizonSource <;> rfl

/-- R59: S′ of a policy, in the words of the statements. -/
theorem usableOf_eq (p : Policy) (spendable : Nat) : usableOf p spendable = match p with
    | .knownNormal => spendable
    | .knownLow => spendable / 2
    | _ => 0 := by
  cases p <;> rfl

/-- R62: the entries with the grants `g`, and the since times of those that changed. -/
def stampedEntry (d : Device) (g : Load → Nat) (l : Load) : Entry :=
  let e := d.bgt.table.get l
  { e with granted := g l, since := if g l = e.granted then e.since else d.sns.uptime }

theorem stampSince_stamped {d : Device} {u : LoadTable} (reg : Regranted d.bgt.table u)
    (outside : grants u .base = grants d.bgt.table .base ∧ grants u .warning = grants d.bgt.table .warning) (l : Load) :
    (stampSince d.bgt.table u d.sns.uptime).get l = stampedEntry d (grants u) l := by
  have entry : u.get l = { d.bgt.table.get l with granted := grants u l } := (reg l).1
  have kept (away : l ∉ sheddable) : grants u l = (d.bgt.table.get l).granted := by
    cases l
    case base => exact outside.1
    case warning => exact outside.2
    all_goals exact absurd (by decide) away
  rw [stampSince_get, entry, stampedEntry]
  by_cases same : grants u l = (d.bgt.table.get l).granted
  · rw [if_neg fun moved => moved.2 same]
    simp [same]
  · rw [if_pos ⟨Decidable.by_contra fun away => same (kept away), same⟩]
    simp [same]

/-- R61: BGT's indication follows the flag. -/
theorem showShort_eq (was now : Bool) (d : Device) :
    showShort was now d =
      { d with lgt := if now = was then d.lgt else (postIndication .bgt (if now = true then 2 else 0) now d).lgt } := by
  cases was <;> cases now
  · rfl
  · exact postIndication_only ..
  · exact postIndication_only ..
  · rfl

/-- R57 to R62: the part with a new table and the results of its pass, before anything is posted. -/
def passDecided (d : Device) (new : LoadTable) (st : Nat) (short : Bool) : Device :=
  { d with bgt := { d.bgt with
    table := new
    last :=
      { policy := policyOf d, stage := st, short := short, horizon := horizonOf d, fromWake := d.bgt.horizonSource.isSome
        usable := usableOf (policyOf d) d.chg.spendable, demand := demandAtGrants new (horizonOf d), uptime := d.sns.uptime }
    allowance := { d.bgt.allowance with
      waiting := d.bgt.allowance.waiting.filter fun l => decide (0 < (new.get l).granted) }
    passesDue := d.bgt.passesDue - 1 } }

section
variable {d : Device} {u : LoadTable} (reg : Regranted d.bgt.table u)
  (outside : grants u .base = grants d.bgt.table .base ∧ grants u .warning = grants d.bgt.table .warning)
include reg outside

/-- R57, R62: the decided part in the words of the statements, its indication and its posting apart. -/
theorem passDecided_eq (st : Nat) (short : Bool) :
    passDecided d (stampSince d.bgt.table u d.sns.uptime) st short =
      { passPublished d (grants u) st short with lgt := d.lgt, lnk := d.lnk } := by
  have stamped := stampSince_stamped reg outside
  generalize stampSince d.bgt.table u d.sns.uptime = new at stamped
  have granted (l : Load) : (new.get l).granted = grants u l := by rw [stamped]; rfl
  have table : new =
      { base := stampedEntry d (grants u) .base, heater := stampedEntry d (grants u) .heater
        compressor := stampedEntry d (grants u) .compressor, lights := stampedEntry d (grants u) .lights
        outlet := stampedEntry d (grants u) .outlet, warning := stampedEntry d (grants u) .warning } :=
    loadTable_ext fun l => by rw [stamped]; cases l <;> rfl
  have spent : demandAtGrants new (horizon d) = demand d.bgt.table (grants u) (horizon d) := by
    rw [demandAtGrants_eq]
    exact demand_congr (fun l => by rw [stamped]; rfl) granted _
  unfold passDecided
  simp only [granted, policyOf_eq, horizonOf_eq, usableOf_eq]
  rw [spent, table]
  rfl

/-- R61, R62: the indication and the posting of a pass. -/
theorem passPublished_eq (st : Nat) (short : Bool) :
    let d1 := passDecided d (stampSince d.bgt.table u d.sns.uptime) st short
    showShort d.bgt.last.short short
      (if st = d.bgt.last.stage ∧ short = d.bgt.last.short then d1 else post .budgetState d1) =
      passPublished d (grants u) st short := by
  intro d1
  have link : (if st = d.bgt.last.stage ∧ short = d.bgt.last.short then d1 else post .budgetState d1) =
      { d1 with lnk := (passPublished d (grants u) st short).lnk } := by
    have posted : (passPublished d (grants u) st short).lnk =
      if st = d.bgt.last.stage ∧ short = d.bgt.last.short then d.lnk else (post .budgetState d).lnk := by
      change ({ d.lnk with notices := if st = d.bgt.last.stage ∧ short = d.bgt.last.short then d.lnk.notices
        else (post .budgetState d).lnk.notices } : Link) = _
      split_ifs
      · rfl
      · exact (post_lnk_notices ..).symm
    rw [posted]
    split_ifs
    · rfl
    · exact post_of_lnk (d := d) (t := d1) .budgetState rfl
  have shows : ShowsSame d { d1 with lnk := (passPublished d (grants u) st short).lnk } := ⟨rfl, rfl, rfl⟩
  have decided' : d1 = _ := passDecided_eq reg outside st short
  rw [link, showShort_eq, (shows.postIndication .bgt (if short = true then 2 else 0) short).1, decided']
  rfl

end

/-- R57 to R62: a pass decides, publishes, and hands the changed grants over. -/
theorem budgetPass_eq {d : Device} (sound : d.bgt.table.sound) :
    ∃ g st short, decided (policy d) d.bgt.table (horizon d) (usableOf (policy d) d.chg.spendable) g st short ∧
      budgetPass d = ([Load.heater, .compressor, .lights, .outlet].filter fun l =>
        decide (g l ≠ (d.bgt.table.get l).granted)).foldl (fun d l => handGrant l d) (passPublished d g st short) := by
  have made := decideGrants_decided sound (policy d) (horizon d) (usableOf (policy d) d.chg.spendable)
  have reg := decideGrants_regranted sound (policy d) (horizon d) (usableOf (policy d) d.chg.spendable)
  rw [← policyOf_eq, ← horizonOf_eq] at made reg ⊢
  unfold budgetPass runPass
  extract_lets d0 p h usable old
  change decided p old h usable (grants (decideGrants p h usable old).1) (decideGrants p h usable old).2.1
    (decideGrants p h usable old).2.2 at made
  change Regranted old (decideGrants p h usable old).1 at reg
  change ∃ g st short, decided p old h usable g st short ∧ _
  generalize decideGrants p h usable old = r at *
  obtain ⟨u, st, short⟩ := r
  dsimp -zeta only at made reg ⊢
  extract_lets new waiting last d1 d2 changed
  have outside : grants u .base = grants old .base ∧ grants u .warning = grants old .warning := ⟨made.1, made.2.1⟩
  have published : showShort d.bgt.last.short short d2 = passPublished d (grants u) st short :=
    passPublished_eq (d := d) reg outside st short
  refine ⟨grants u, st, short, made, ?_⟩
  rw [← published]
  have moved : changed = [Load.heater, .compressor, .lights, .outlet].filter fun l =>
      decide (grants u l ≠ (d.bgt.table.get l).granted) := by
    refine List.filter_congr fun l _ => ?_
    have granted : (new.get l).granted = grants u l := congrArg (·.granted) (stampSince_stamped (d := d) reg outside l)
    rw [granted]
  rw [moved]

end Sys2Proof.Machine
end

section
/-! PROOFS. A hand-over leaves the other loads' entries and BGT's indication (R55), and what a pass has published stays. -/

namespace Sys2Proof.Machine

open Sys2Proof.Stated

/-! ## What the work of one load leaves -/

/-- The entries of the other loads and BGT's entry in the list of sources stay. -/
structure KeepsRest (l : Load) (d t : Device) : Prop where
  entry : ∀ m, m ≠ l → t.bgt.table.get m = d.bgt.table.get m
  source : t.lgt.sources.get .bgt = d.lgt.sources.get .bgt

section
variable {l : Load} {d t u : Device}

theorem KeepsRest.refl (d : Device) : KeepsRest l d d := ⟨fun _ _ => rfl, rfl⟩

theorem KeepsRest.trans (h : KeepsRest l d t) (k : KeepsRest l t u) : KeepsRest l d u :=
  ⟨fun m other => (k.entry m other).trans (h.entry m other), k.source.trans h.source⟩

theorem KeepsRest.of_same (same : t.bgt.table = d.bgt.table ∧ t.lgt.sources = d.lgt.sources) : KeepsRest l d t :=
  ⟨fun m _ => by rw [same.1], by rw [same.2]⟩

end

theorem writeEntry_rest (l : Load) (requested floor : Nat) (d : Device) : KeepsRest l d (writeEntry l requested floor d) :=
  ⟨fun _ other => writeEntry_get_other other requested floor d, by simp⟩

/-! ## The heater -/

theorem writeHeater_rest (d : Device) : KeepsRest .heater d (writeHeater d) := writeEntry_rest .heater _ _ d

theorem enterHeater_rest (st : HeaterState) (cause : HeaterCause) (d : Device) : KeepsRest .heater d (enterHeater st cause d) := by
  have moved : KeepsRest .heater d (putHtr (heaterMoved st cause d) d) := .of_same ⟨rfl, rfl⟩
  have written := moved.trans (writeHeater_rest _)
  rw [enterHeater_eq]
  split
  · exact written
  · exact written.trans (.of_same (by simp))

theorem heaterGrant_rest (d : Device) : KeepsRest .heater d (heaterGrant d) := by
  have lowered : KeepsRest .heater d (lowerTo (min (grantOf d .heater) (maxAllowed d)) d) := by
    obtain ⟨-, -, eq⟩ | ⟨-, eq⟩ := lowerTo_cases (min (grantOf d .heater) (maxAllowed d)) d <;> rw [eq]
    · exact .of_same ⟨rfl, rfl⟩
    · exact .refl d
  obtain h | ⟨-, h⟩ := heaterGrant_cases d <;> rw [h]
  · exact lowered
  · exact lowered.trans ((enterHeater_rest ..).trans (.of_same ⟨rfl, rfl⟩))

/-! ## The compressor -/

theorem putCmpTimers_rest {l : Load} (t : CompTimers) (d : Device) : KeepsRest l d (putCmpTimers t d) := .of_same ⟨rfl, rfl⟩

theorem enterComp_rest (st : CompState) (d : Device) : KeepsRest .compressor d (enterComp st d) := by
  unfold enterComp
  extract_lets c exits idles t c1 d1 _ d2 d3
  have emptied : KeepsRest .compressor d d2 := by
    unfold d2
    split <;> exact .of_same ⟨rfl, rfl⟩
  have written : KeepsRest .compressor d d3 := emptied.trans ((writeEntry_rest ..).trans (.of_same ⟨rfl, rfl⟩))
  split
  · exact written
  · exact written.trans (.of_same (by simp))

theorem toStopping_rest (d : Device) : KeepsRest .compressor d (toStopping d) :=
  (enterComp_rest ..).trans (putCmpTimers_rest ..)

theorem postIndication_rest {l : Load} {g : Source} (other : g ≠ .bgt) (n : Nat) (new : Bool) (d : Device) :
    KeepsRest l d (postIndication g n new d) :=
  ⟨fun _ _ => by simp, by rw [postIndication_sources, sourceList_get_put, if_neg other.symm]⟩

theorem compFails_rest (k : FailKind) (d : Device) : KeepsRest .compressor d (compFails k d) := by
  unfold compFails
  split
  · exact .refl d
  · extract_lets d1 failures src d2
    have posted : KeepsRest .compressor d d2 := .of_same (by simp [d2, d1])
    split
    · exact posted.trans ((enterComp_rest ..).trans (putCmpTimers_rest ..))
    · exact posted.trans ((enterComp_rest .blocked d2).trans ((putCmpTimers_rest ..).trans (postIndication_rest (by decide) ..)))

theorem toStart_rest (d : Device) : KeepsRest .compressor d (toStart d) := by
  unfold toStart
  extract_lets d1 ms blocked _ _ c d2
  have readied : KeepsRest .compressor d d2 := (enterComp_rest .start d).trans (.of_same ⟨rfl, rfl⟩)
  split
  · exact readied.trans (compFails_rest ..)
  · split
    · exact readied.trans (.of_same (by simp))
    · exact readied.trans (compFails_rest ..)

theorem backToHold_rest (d : Device) : KeepsRest .compressor d (backToHold d) :=
  (putCmpTimers_rest ..).trans (enterComp_rest .offHold _)

theorem toCompWait_rest (d : Device) : KeepsRest .compressor d (toCompWait d) := by
  have asked : KeepsRest .compressor d (requestAllowance .compressor (enterComp .waitInrush d)).1 :=
    (enterComp_rest .waitInrush d).trans (.of_same (by simp))
  unfold toCompWait
  split
  · next d1 h => rwa [h] at asked
  · next d1 h => rw [h] at asked; exact asked.trans (toStart_rest d1)
  · next d1 h => rw [h] at asked; exact asked.trans (backToHold_rest d1)

theorem holdTest_rest (d : Device) : KeepsRest .compressor d (holdTest d) := by
  unfold holdTest
  split_ifs
  · exact toCompWait_rest d
  · exact .refl d
  · exact enterComp_rest .idle d
  · exact .refl d

theorem cutOut_rest (d : Device) : KeepsRest .compressor d (cutOut d) := by
  have learned : KeepsRest .compressor d (learnCutOut d) := by
    unfold learnCutOut
    dsimp only
    split_ifs
    · exact .of_same ⟨rfl, rfl⟩
    · exact .refl d
  exact learned.trans (toStopping_rest _)

theorem compGrant_rest (d : Device) : KeepsRest .compressor d (compGrant d) := by
  have commanded : KeepsRest .compressor d (commandStep d) := .of_same ⟨rfl, rfl⟩
  refine commanded.trans ?_
  unfold compGrant
  generalize commandStep d = u
  dsimp only
  split
  · exact holdTest_rest u
  · split_ifs
    · exact backToHold_rest u
    · exact .refl u
  · split_ifs
    · exact (KeepsRest.of_same (by simp)).trans (toStopping_rest _)
    · exact .refl u
  · split_ifs
    · exact cutOut_rest u
    · exact toStopping_rest u
    · exact .refl u
  all_goals exact .refl u

/-! ## The grants handed over -/

theorem handGrant_rest (l : Load) (d : Device) : KeepsRest l d (handGrant l d) := by
  cases l with
  | heater => exact heaterGrant_rest d
  | compressor => exact compGrant_rest d
  | lights => exact .of_same (by simp [handGrant])
  | outlet => exact .of_same (by simp [handGrant])
  | base | warning => exact .refl d

/-- R55: the lights and the outlet write no entry when a grant reaches them. -/
theorem handGrant_entry {l m : Load} (own : m = .lights ∨ m = .outlet ∨ m = .base ∨ m = .warning) (d : Device) :
    (handGrant l d).bgt.table.get m = d.bgt.table.get m := by
  by_cases other : m = l
  · subst other
    rcases own with rfl | rfl | rfl | rfl <;> simp [handGrant]
  · exact (handGrant_rest l d).entry m other

/-- What a pass has published stays while the changed grants are handed over. -/
theorem handAll_published (loads : List Load) (d : Device) :
    let t := loads.foldl (fun d l => handGrant l d) d
    t.bgt.last = d.bgt.last ∧
    (∀ m, m = .lights ∨ m = .outlet ∨ m = .base ∨ m = .warning → t.bgt.table.get m = d.bgt.table.get m) ∧
    t.lgt.sources.get .bgt = d.lgt.sources.get .bgt ∧
    t.sns.uptime = d.sns.uptime ∧ t.vbl = d.vbl ∧ t.chg = d.chg ∧ t.rtm = d.rtm := by
  induction loads generalizing d with
  | nil => exact ⟨rfl, fun _ _ => rfl, rfl, rfl, rfl, rfl, rfl⟩
  | cons l loads ih =>
    obtain ⟨last, entry, source, uptime, vbl, chg, rtm⟩ := ih (handGrant l d)
    exact ⟨last.trans (by simp), fun m own => (entry m own).trans (handGrant_entry own d), source.trans (handGrant_rest l d).source,
      uptime.trans (by simp), vbl.trans (by simp), chg.trans (by simp), rtm.trans (by simp)⟩

/-- R61: BGT's severity is 2 while the flag is set, once the flag has changed. -/
theorem passPublished_severity {d : Device} {g : Load → Nat} {st : Nat} {short : Bool} (moved : short ≠ d.bgt.last.short) :
    ((passPublished d g st short).lgt.sources.get .bgt).severity = if short = true then 2 else 0 := by
  have shown : (passPublished d g st short).lgt = (postIndication .bgt (if short = true then 2 else 0) short d).lgt := if_neg moved
  rw [shown, postIndication_sources, sourceList_get_put, if_pos rfl, posted_severity]

end Sys2Proof.Machine

namespace Sys2Proof.Proofs

open Sys2Proof Sys2Proof.Machine Sys2Proof.Stated

/-- Settles O21: the decision, the publication and the hand-over are those of the model's pass, and a hand-over leaves what the pass
published. -/
theorem budgetPassDecidesGrants : Obligations.BudgetPassDecidesGrants := by
  intro s sound
  obtain ⟨g, st, short, made, eq⟩ := budgetPass_eq sound
  refine runs_of_eq (f := budgetPass) rfl eq ?_
  obtain ⟨last, entry, source, uptime, vbl, chg, rtm⟩ := handAll_published
    ([Load.heater, .compressor, .lights, .outlet].filter fun l => decide (g l ≠ (s.dev.bgt.table.get l).granted))
    (passPublished s.dev g st short)
  rw [usableOf_eq] at made
  exact ⟨g, st, short, made, rfl, last, entry, fun moved => by rw [source]; exact passPublished_severity moved,
    uptime, vbl, chg, rtm⟩

end Sys2Proof.Proofs
end

section
/-! PROOFS. The compressor's states entered from a part whose record and allowance are given; START entered and requested (R108,
R110 to R114, R123). -/

namespace Sys2Proof.Machine

open Sys2Proof.Stated

/-! ## A second write of the same steps (R54) -/

theorem writtenEntry_twice (e : Entry) (requested floor uptime : Nat) :
    writtenEntry (writtenEntry e requested floor uptime) requested floor uptime = writtenEntry e requested floor uptime := by
  unfold writtenEntry
  simp only
  congr 1 <;> split_ifs <;> omega

theorem compWrites_twice {d u : Device} {r : Nat} {a : Allowance} (uptime : u.sns.uptime = d.sns.uptime)
    (bgt : u.bgt = { compWrites d r with allowance := a }) :
    compWrites u r = { compWrites d r with allowance := { a with waiting :=
      if (writtenEntry d.bgt.table.compressor r 0 d.sns.uptime).granted = 0 then a.waiting.filter fun l => decide (l ≠ .compressor)
      else a.waiting } } := by
  have once : u.bgt.table.compressor = writtenEntry d.bgt.table.compressor r 0 d.sns.uptime := by rw [bgt]; rfl
  unfold compWrites
  simp only [once, uptime, writtenEntry_twice, and_self, if_true, Nat.add_zero]
  rw [bgt]
  rfl

theorem bridgeParked_twice (b : Bridge) (held : Bool) : bridgeParked (bridgeParked b held) held = bridgeParked b held := by
  cases held
  · rfl
  · simp [bridgeParked, legBecomes]

/-! ## What the compressor's work may touch -/

theorem Sensing.eq_of_blocks {x y : Sensing} (h : x.ms = y.ms ∧ x.uptime = y.uptime ∧ x.clockSet = y.clockSet ∧
    x.clockOffset = y.clockOffset ∧ x.analog = y.analog ∧ x.tables = y.tables ∧ x.lines = y.lines ∧ x.dial = y.dial) :
    x = { y with current := x.current } := by
  cases x; cases y
  simpa using h

theorem LoadTable.eq_put {t u : LoadTable} {l : Load} (h : ∀ m, m ≠ l → u.get m = t.get m) : u = t.put l (u.get l) :=
  loadTable_ext fun m => by
    rw [loadTable_get_put]
    split_ifs with own
    · rw [own]
    · exact h m own

theorem compFrame_of_rest {d t : Device} (rest : KeepsRest .compressor d t)
    (same : t.pins = d.pins ∧ t.factory = d.factory ∧ t.vbl = d.vbl ∧ t.chg = d.chg ∧ t.htr = d.htr ∧ t.rtm = d.rtm ∧
      t.npl = d.npl ∧ t.sched = d.sched ∧ t.lnk.enables = d.lnk.enables ∧ t.lnk.idleTime = d.lnk.idleTime)
    (sns : t.sns.ms = d.sns.ms ∧ t.sns.uptime = d.sns.uptime ∧ t.sns.clockSet = d.sns.clockSet ∧
      t.sns.clockOffset = d.sns.clockOffset ∧ t.sns.analog = d.sns.analog ∧ t.sns.tables = d.sns.tables ∧
      t.sns.lines = d.sns.lines ∧ t.sns.dial = d.sns.dial)
    (bgt : t.bgt.horizonSource = d.bgt.horizonSource ∧ t.bgt.defaultHorizon = d.bgt.defaultHorizon ∧ t.bgt.last = d.bgt.last ∧
      t.bgt.outlet = d.bgt.outlet) : compFrame d t d.sns.ms d.pins.hall := by
  obtain ⟨pins, factory, vbl, chg, htr, rtm, npl, sched, enables, idle⟩ := same
  obtain ⟨source, horizon, last, outlet⟩ := bgt
  have budget : t.bgt = { d.bgt with
      table := { d.bgt.table with compressor := t.bgt.table.compressor }
      passesDue := t.bgt.passesDue
      allowance := t.bgt.allowance } := by
    have table : t.bgt.table = { d.bgt.table with compressor := t.bgt.table.compressor } := LoadTable.eq_put rest.entry
    dsimp only
    rw [← table, ← source, ← horizon, ← last, ← outlet]
  refine Device.eq_of_blocks ⟨pins, factory, Sensing.eq_of_blocks sns, vbl, chg, budget, htr, rfl, rfl, rtm, npl, ?_, sched⟩
  rw [← enables, ← idle]

/-! ## A cut-out (R109) -/

/-- R109: the cycle began less than 600 s ago. -/
def cycleShort (d : Device) : Prop := ∃ u, d.cmp.cutIn = some u ∧ (d.sns.uptime + (4294967296 - u)) % 4294967296 < 600

theorem learnCutOut_learns {d : Device} (learning : d.cmp.learning = true) (short : cycleShort d) :
    learnCutOut d = putCmp { d.cmp with learned := max 1 (d.cmp.learned - 1) } d := by
  obtain ⟨u, cut, less⟩ := short
  unfold learnCutOut
  rw [cut]
  exact if_pos (by simp [learning, uptimeSince, less])

theorem learnCutOut_keeps {d : Device} (h : d.cmp.learning = false ∨ ¬cycleShort d) : learnCutOut d = d := by
  unfold learnCutOut
  refine if_neg fun learns => ?_
  obtain ⟨learning, short⟩ := Bool.and_eq_true_iff.1 learns
  refine h.elim (fun none' => by simp [none'] at learning) fun long => long ?_
  rcases cut : d.cmp.cutIn with _ | u <;> rw [cut] at short
  · cases short
  · exact ⟨u, cut, of_decide_eq_true short⟩

/-! ## The part with the record and the allowance given -/

/-- The part with the compressor's record and the allowance as given. -/
def compAt (a : Allowance) (c : Compressor) (d : Device) : Device := { d with bgt := { d.bgt with allowance := a }, cmp := c }

/-- A state in which the bridge is off, entered with the record and the allowance given. -/
theorem compAt_rests {st : CompState} (rest : st.drives = false) (a : Allowance) (c : Compressor) (timers : CompTimers) (d : Device) :
    compRests d (putCmpTimers timers (compEntered st (compAt a c d))) c st timers a :=
  compRests_timers (t := compEntered st (compAt a c d)) (compRests_congr (d := compAt a c d) (d' := d) rfl ⟨rfl, rfl⟩ ⟨rfl, rfl⟩ rfl
    (compEntered_rests rest (compAt a c d))) rfl rfl rfl rfl

section
variable {a : Allowance} {c : Compressor} {d : Device} (waits : waitsGranted (compAt a c d) .compressor)
include waits

/-- R114: STOPPING entered. -/
theorem toStopping_stops : compStops d (toStopping (compAt a c d)) c a d.sns.ms := by
  have timers : (compEntered .stopping (compAt a c d)).cmp.timers = restTimers c d.sns.ms := compEntered_timers rfl _
  have entered : toStopping (compAt a c d) = putCmpTimers { restTimers c d.sns.ms with coast := some (d.sns.ms + 1000) }
      (compEntered .stopping (compAt a c d)) := by
    unfold toStopping
    dsimp only
    rw [enterComp_eq _ waits, timers]
    rfl
  rw [entered]
  exact compAt_rests rfl a c _ d

/-- R111: OFF_HOLD entered again, the off timer started. -/
theorem backToHold_rests : compRests d (backToHold (compAt a c d)) c .offHold { restTimers c d.sns.ms with offSince := some d.sns.ms } a := by
  have entered : backToHold (compAt a c d) =
      compEntered .offHold (compAt a { c with timers := { c.timers with offSince := some d.sns.ms } } d) := enterComp_eq _ waits
  have timers : (compEntered .offHold (compAt a { c with timers := { c.timers with offSince := some d.sns.ms } } d)).cmp.timers =
      { restTimers c d.sns.ms with offSince := some d.sns.ms } := by
    rw [compEntered_timers rfl]
    exact congrArg (fun x => ({ noCompTimers with phase := c.timers.phase, offSince := x } : CompTimers)) (ite_self _)
  rw [entered]
  exact compRests_timers (compAt_rests rfl a { c with timers := { c.timers with offSince := some d.sns.ms } }
    { restTimers c d.sns.ms with offSince := some d.sns.ms } d) (by rw [← timers]; rfl) rfl rfl rfl

/-- R110: IDLE entered. -/
theorem enterIdle_rests : compRests d (enterComp .idle (compAt a c d)) c .idle (restTimers c d.sns.ms) a := by
  rw [enterComp_eq _ waits]
  exact compRests_timers (compAt_rests rfl a c (restTimers c d.sns.ms) d) rfl rfl rfl rfl

end

/-- R109, R113: a cut-out. -/
theorem cutOut_cutsOut {d : Device} {c : Compressor} (waits : waitsGranted d .compressor)
    (lgt : (cutOut (compAt d.bgt.allowance c d)).lgt = d.lgt) : compCutsOut d (cutOut (compAt d.bgt.allowance c d)) c d.sns.ms := by
  refine ⟨lgt, fun ⟨learning, short⟩ => ?_, fun other => ?_⟩
  · rw [cutOut, learnCutOut_learns (d := compAt d.bgt.allowance c d) learning short]
    exact toStopping_stops (c := { c with learned := max 1 (c.learned - 1) }) waits
  · rw [cutOut, learnCutOut_keeps (d := compAt d.bgt.allowance c d) other]
    exact toStopping_stops waits

end Sys2Proof.Machine
end

section
/-! PROOFS. START and WAIT_INRUSH of the compressor entered, OFF_HOLD tested (R110 to R112). -/

namespace Sys2Proof.Machine

open Sys2Proof.Stated

/-! ## A failure from START or RUN (R123) -/

theorem compFails_stands {k : FailKind} {d : Device} (drives : d.cmp.state.drives = true) (waits : waitsGranted d .compressor) :
    compFailsWith d (compFails k d) d.cmp k d.sns.ms := (compFails_with drives waits d.pins.hall k).1

/-- R123, R126: a failure and the change of state it leads to are posted; only the third lights the indication. -/
theorem compFailsWith_shows {d t : Device} {c : Compressor} {k : FailKind} {ms : Nat} (drives : c.state.drives = true)
    (h : compFailsWith d t c k ms) :
    t.lnk.notices = (post .fridgeState (post .fridgeState d)).lnk.notices ∧ (t.cmp.state ≠ .blocked → t.lgt = d.lgt) := by
  obtain ⟨few, many⟩ := h
  have moved (st : CompState) (rest : st.drives = false) : st ≠ c.state := by rintro rfl; simp [drives] at rest
  by_cases n : min 255 (c.failures + 1) < 3
  · obtain ⟨⟨-, -, -, -, posted⟩, lgt⟩ := few n
    exact ⟨posted.trans (by rw [if_neg (moved .stallBackoff rfl)]; rfl), fun _ => lgt⟩
  · obtain ⟨⟨cmp, -, -, -, posted⟩, -⟩ := many (by omega)
    exact ⟨posted.trans (by rw [if_neg (moved .blocked rfl)]; rfl), fun other => absurd (congrArg (·.state) cmp) other⟩

/-! ## START entered (R112) -/

/-- R112: the part on entry to START, before the pattern of the Hall code is applied. -/
def startEntered (d : Device) : Device :=
  { d with
    bgt := compWrites d d.cmp.wished
    cmp := startRecord d.cmp (compWrites d d.cmp.wished).table.compressor.granted d.sns.ms (rawOf d 6)
    lnk := (post .fridgeState d).lnk }

/-- R112: what becomes of a START just entered. -/
def startOutcome (d : Device) : Device :=
  if rawOf d 6 then compFails .overcurrent d
  else if validCode d.pins.hall then applyPattern d
  else compFails .hall d

/-- R112: START entered from WAIT_INRUSH. -/
theorem compEntered_start {d : Device} (st : d.cmp.state = .waitInrush) :
    compEntered .start d = { d with
      bgt := compWrites d d.cmp.wished
      cmp := { d.cmp with
        state := .start, deferred := false, timers := { noCompTimers with phase := d.cmp.timers.phase, offSince := d.cmp.timers.offSince }
        commanded := min d.cmp.wished (compWrites d d.cmp.wished).table.compressor.granted }
      lnk := (post .fridgeState d).lnk } := by
  have moved : compMoved .start d = { d.cmp with
      state := .start, deferred := false
      timers := { noCompTimers with phase := d.cmp.timers.phase, offSince := d.cmp.timers.offSince } } := by
    have drives : CompState.start.drives = true := rfl
    simp [compMoved, drives, timersIn]
  unfold compEntered
  rw [moved, st]
  rfl

theorem toStart_eq {d : Device} (st : d.cmp.state = .waitInrush) (waits : waitsGranted d .compressor) :
    toStart d = startOutcome (startEntered d) := by
  have raw : rawOf (startEntered d) 6 = rawOf d 6 := rawOf_congr rfl rfl 6
  unfold toStart startOutcome
  rw [enterComp_eq _ waits, compEntered_start st, raw]
  rfl

theorem startOutcome_shows {d : Device} (start : d.cmp.state = .start) (waits : waitsGranted d .compressor) :
    ((startOutcome d).lnk.notices = d.lnk.notices ∨
      (startOutcome d).lnk.notices = (post .fridgeState (post .fridgeState d)).lnk.notices) ∧
    ((startOutcome d).cmp.state ≠ .blocked → (startOutcome d).lgt = d.lgt) := by
  have drives : d.cmp.state.drives = true := by rw [start]; rfl
  have failed (k : FailKind) := compFailsWith_shows drives (compFails_stands (k := k) drives waits)
  unfold startOutcome
  split_ifs
  · exact ⟨.inr (failed _).1, (failed _).2⟩
  · exact ⟨.inl (by simp), fun _ => by simp⟩
  · exact ⟨.inr (failed _).1, (failed _).2⟩

theorem startOutcome_blocked {d : Device} (raw : rawOf d 6 = true) : startOutcome d = compFails .overcurrent d := if_pos raw

theorem startOutcome_turns {d : Device} (raw : rawOf d 6 = false) (good : hallValid d.pins.hall.toNat) :
    startOutcome d = applyPattern d := by
  rw [startOutcome, raw]
  exact if_pos ((validCode_iff _).2 good)

theorem startOutcome_invalid {d : Device} (raw : rawOf d 6 = false) (bad : ¬hallValid d.pins.hall.toNat) :
    startOutcome d = compFails .hall d := by
  rw [startOutcome, raw]
  exact if_neg fun valid => bad ((validCode_iff _).1 valid)

/-- R66, R112: the part on entry to START with the allowance held and the record `c` before it. -/
def startedWith (d : Device) (c : Compressor) : Device :=
  { startWritten d c d.sns.ms with
    cmp := startRecord c (startWritten d c d.sns.ms).bgt.table.compressor.granted d.sns.ms (rawOf d 6) }

/-- R112: a START just entered, in the words of the statements. -/
theorem startOutcome_starts {d : Device} {c : Compressor} (waits : waitsGranted (startWritten d c d.sns.ms) .compressor) :
    compStarts d (startOutcome (startedWith d c)) c d.sns.ms := by
  have failed (k : FailKind) : compFailsWith (startWritten d c d.sns.ms) (compFails k (startedWith d c)) _ k d.sns.ms :=
    (compFails_with (c := (startedWith d c).cmp) rfl waits d.pins.hall k).1
  have same : rawOf (startedWith d c) 6 = rawOf d 6 := rawOf_congr rfl rfl 6
  refine ⟨fun raw => ?_, fun raw bad => ?_, fun raw good => ?_⟩
  · rw [startOutcome_blocked (same.trans raw)]
    exact failed .overcurrent
  · rw [startOutcome_invalid (same.trans raw) bad]
    exact failed .hall
  · have latch : ((startedWith d c).cmp.latch || rawOf (startedWith d c) 6) = false := by
      rw [same, raw, Bool.or_false]
      exact raw
    rw [startOutcome_turns (same.trans raw) good, applyPattern_valid (d := startedWith d c) good, latch]
    exact ⟨rfl, rfl, rfl, rfl, rfl⟩

/-- R111, R112: a START entered with the allowance held. -/
theorem toStart_starts {d : Device} (st : d.cmp.state = .waitInrush) (sound : budgetSound d)
    (held : d.bgt.allowance.state = .held .compressor) (hold : d.bgt.allowance.hold = some (d.sns.ms + 5000))
    (settle : d.bgt.allowance.settle = none) : compStarts d (toStart d) d.cmp d.sns.ms := by
  have apart : ∀ l ∈ d.bgt.allowance.waiting, d.bgt.allowance.state ≠ .held l := by
    obtain ⟨-, -, waiting, -⟩ := sound
    exact fun l hl => (waiting l hl).1
  have out : Load.compressor ∉ d.bgt.allowance.waiting := fun waits => apart _ waits held
  have kept : (d.bgt.allowance.waiting.filter fun l => decide (l ≠ .compressor)) = d.bgt.allowance.waiting :=
    List.filter_eq_self.2 fun l hl => decide_eq_true fun e => out (e ▸ hl)
  have budget : compWrites d d.cmp.wished = (startWritten d d.cmp d.sns.ms).bgt := by
    unfold compWrites startWritten
    simp only [kept, ite_self, ← held, ← hold, ← settle]
  have entered : startEntered d = startedWith d d.cmp := by
    unfold startEntered startedWith
    rw [budget]
    rfl
  rw [toStart_eq st (waitsGranted_of_sound sound .compressor), entered]
  exact startOutcome_starts fun _ => out

/-! ## The answer given at once (R64, R65) -/

section
variable {l : Load} {d : Device} (other : d.bgt.allowance.state ≠ .held l) (apart : l ∉ d.bgt.allowance.waiting)
include other apart

theorem requestAllowance_denied (refused : d.chg.uv = .critical ∨ (d.bgt.table.get l).granted = 0) :
    requestAllowance l d = (d, some .denied) := (requestAllowance_apart other apart).trans (if_pos refused)

theorem requestAllowance_given (able : ¬(d.chg.uv = .critical ∨ (d.bgt.table.get l).granted = 0))
    (free : d.bgt.allowance.state = .free) :
    requestAllowance l d = (putAllowance (d.bgt.allowance.give l d.sns.ms) d, some .granted) :=
  (requestAllowance_apart other apart).trans ((if_neg able).trans (if_pos free))

theorem requestAllowance_queued (able : ¬(d.chg.uv = .critical ∨ (d.bgt.table.get l).granted = 0))
    (taken : d.bgt.allowance.state ≠ .free) :
    requestAllowance l d = (putAllowance { d.bgt.allowance with waiting := d.bgt.allowance.waiting ++ [l] } d, none) :=
  (requestAllowance_apart other apart).trans ((if_neg able).trans (if_neg taken))

end

/-! ## WAIT_INRUSH entered and the allowance requested (R111) -/

/-- R111: the part on entry to WAIT_INRUSH from OFF_HOLD with the record `c`, the allowance not yet requested. -/
def compWaits (c : Compressor) (d : Device) : Device :=
  { d with
    bgt := compWrites d c.wished
    cmp := { c with
      state := .waitInrush
      deferred := false
      bridge := bridgeParked c.bridge (c.latch || rawOf d 6)
      window := { c.window with rpm := 0 }
      timers := { noCompTimers with phase := c.timers.phase, offSince := c.timers.offSince }
      commanded := min c.wished (compWrites d c.wished).table.compressor.granted }
    lnk := (post .fridgeState d).lnk }

section
variable {d : Device} {c : Compressor} (off : c.state = .offHold)
include off

theorem enterWait_eq (waits : waitsGranted d .compressor) : enterComp .waitInrush (compAt d.bgt.allowance c d) = compWaits c d := by
  have moved : compMoved .waitInrush (compAt d.bgt.allowance c d) = { (compWaits c d).cmp with commanded := c.commanded } := by
    have rests : CompState.waitInrush.drives = false := rfl
    simp [compMoved, rests, compAt, off, restTimers, compWaits]
    rfl
  have posted : (post .fridgeState (compAt d.bgt.allowance c d)).lnk = (post .fridgeState d).lnk := post_lnk_congr .fridgeState rfl
  have state : (compAt d.bgt.allowance c d).cmp.state = .offHold := off
  rw [enterComp_eq (d := compAt d.bgt.allowance c d) _ waits, compEntered, moved, posted, state]
  rfl

/-- R111: WAIT_INRUSH, the allowance as its owner leaves it. -/
theorem compWaits_rests (waits : waitsGranted d .compressor)
    (granted : (writtenEntry d.bgt.table.compressor c.wished 0 d.sns.uptime).granted ≠ 0) (a : Allowance) :
    compRests d (putAllowance a (compWaits c d)) c .waitInrush (restTimers c d.sns.ms) a := by
  have entered : compEntered .waitInrush (compAt d.bgt.allowance c d) = compWaits c d :=
    (enterComp_eq (d := compAt d.bgt.allowance c d) _ waits).symm.trans (enterWait_eq off waits)
  have rests := compAt_rests (st := .waitInrush) rfl d.bgt.allowance c (restTimers c d.sns.ms) d
  rw [entered] at rests
  obtain ⟨cmp, wrote, -, current, posted⟩ := rests
  have timers : restTimers c d.sns.ms = (compWaits c d).cmp.timers := by simp [restTimers, off, compWaits]
  have same : (putAllowance a (compWaits c d)).cmp = (putCmpTimers (restTimers c d.sns.ms) (compWaits c d)).cmp := by
    rw [timers]
    rfl
  refine ⟨same.trans cmp, wrote, ?_, current, posted⟩
  · exact congrArg (fun w => ({ a with waiting := w } : Allowance)) (if_neg granted).symm

omit off in
/-- R111: back in OFF_HOLD, the request denied. -/
theorem backToHold_compWaits (waits : waitsGranted (compWaits c d) .compressor) :
    compRests (post .fridgeState d) (backToHold (compWaits c d)) { c with state := .waitInrush } .offHold
      { restTimers c d.sns.ms with offSince := some d.sns.ms } d.bgt.allowance := by
  have rests := backToHold_rests (a := (compWaits c d).bgt.allowance) (c := (compWaits c d).cmp) (d := compWaits c d) waits
  change compRests _ (backToHold (compWaits c d)) _ _ _ _ at rests
  obtain ⟨cmp, ⟨entry, passes⟩, allowance, current, posted⟩ := rests
  simp only [reduceCtorEq, or_self, and_false, if_false] at cmp entry passes
  have again := compWrites_twice (d := d) (u := compWaits c d) (r := c.wished) (a := (compWaits c d).bgt.allowance) rfl rfl
  have written : (backToHold (compWaits c d)).bgt.table.compressor = writtenEntry d.bgt.table.compressor c.wished 0 d.sns.uptime :=
    entry.trans (congrArg (·.table.compressor) again)
  have path : (backToHold (compWaits c d)).sns.current = d.sns.current := current
  have bridge : bridgeParked (compWaits c d).cmp.bridge ((compWaits c d).cmp.latch || rawOf (compWaits c d) 6) =
      bridgeParked c.bridge (c.latch || rawOf (post .fridgeState d) 6) := by
    rw [rawOf_congr (d := d) (t := post .fridgeState d) (by simp) (by simp) 6]
    exact bridgeParked_twice ..
  have filtered (n : Nat) (l : List Load) (p : Load → Bool) :
      (if n = 0 then (if n = 0 then l.filter p else l).filter p else if n = 0 then l.filter p else l) =
        if n = 0 then l.filter p else l := by
    split_ifs <;> simp
  refine ⟨?_, ⟨?_, ?_⟩, ?_, ?_, ?_⟩
  · refine cmp.trans ?_
    rw [bridge]
    simp [compWaits, restTimers]
  · simpa using written
  · refine (passes.trans (congrArg (·.passesDue) again)).trans ?_
    simp [compWrites]
  · refine allowance.trans ?_
    rw [written]
    exact congrArg (fun w => ({ d.bgt.allowance with waiting := w } : Allowance)) (filtered _ _ _)
  · simpa using path
  · exact (show _ = _ from posted).trans
      (congrArg (·.notices) (repeat_post_lnk_congr .fridgeState (d := post .fridgeState d) (t := compWaits c d) rfl 1))

omit off in
/-- R112: START entered from WAIT_INRUSH in the same moment, the allowance having been FREE. -/
theorem startEntered_compWaits (granted : (writtenEntry d.bgt.table.compressor c.wished 0 d.sns.uptime).granted ≠ 0) :
    startEntered (putAllowance (d.bgt.allowance.give .compressor d.sns.ms) (compWaits c d)) =
      startedWith (post .fridgeState d) { c with bridge := bridgeParked c.bridge (c.latch || rawOf d 6) } := by
  have budget := compWrites_twice (d := d) (r := c.wished) (a := d.bgt.allowance.give .compressor d.sns.ms)
    (u := putAllowance (d.bgt.allowance.give .compressor d.sns.ms) (compWaits c d)) rfl rfl
  rw [if_neg granted] at budget
  have wished : (putAllowance (d.bgt.allowance.give .compressor d.sns.ms) (compWaits c d)).cmp.wished = c.wished := rfl
  have raw : rawOf (post .fridgeState d) 6 = rawOf (putAllowance (d.bgt.allowance.give .compressor d.sns.ms) (compWaits c d)) 6 :=
    rawOf_congr (by simp; rfl) (by simp; rfl) 6
  have lnk : (post .fridgeState (putAllowance (d.bgt.allowance.give .compressor d.sns.ms) (compWaits c d))).lnk =
      (post .fridgeState (post .fridgeState d)).lnk := post_lnk_congr .fridgeState rfl
  have posted := post_eq .fridgeState d
  unfold startEntered startedWith
  rw [wished, budget, lnk, raw, posted]
  rfl

theorem toCompWait_requests (sound : budgetSound d) :
    compRequests d (toCompWait (compAt d.bgt.allowance c d)) c d.sns.ms := by
  have waits := waitsGranted_of_sound sound .compressor
  have stands (granted : (writtenEntry d.bgt.table.compressor c.wished 0 d.sns.uptime).granted ≠ 0) :
      (compWaits c d).bgt.allowance = d.bgt.allowance :=
    congrArg (fun w => ({ d.bgt.allowance with waiting := w } : Allowance)) (if_neg granted)
  have sublist {l : Load} (h : l ∈ (compWaits c d).bgt.allowance.waiting) : l ∈ d.bgt.allowance.waiting := by
    revert h
    change l ∈ (if _ then _ else _) → _
    split
    · exact List.mem_of_mem_filter
    · exact id
  unfold toCompWait
  rw [enterWait_eq off waits]
  refine ⟨fun ⟨other, out⟩ able free => ?_, fun ⟨other, out⟩ able taken => ?_, fun ⟨other, out⟩ refused => ?_, fun stays granted => ?_⟩
  · have granted := (not_or.1 able).2
    have asked := requestAllowance_given (l := .compressor) (d := compWaits c d) other (by rwa [stands granted]) able free
    have waits' : waitsGranted (putAllowance (d.bgt.allowance.give .compressor d.sns.ms) (compWaits c d)) .compressor :=
      fun none' => absurd none' granted
    have started := toStart_eq (d := putAllowance (d.bgt.allowance.give .compressor d.sns.ms) (compWaits c d)) rfl waits'
    rw [startEntered_compWaits granted] at started
    rw [asked, stands granted]
    change compStarts _ (toStart (putAllowance (d.bgt.allowance.give .compressor d.sns.ms) (compWaits c d))) _ _
    rw [started, ← show (post .fridgeState d).sns.ms = d.sns.ms by simp]
    exact startOutcome_starts fun none' => absurd (by simpa [startWritten, LoadTable.get] using none') granted
  · have granted := (not_or.1 able).2
    have asked := requestAllowance_queued (l := .compressor) (d := compWaits c d) other (by rwa [stands granted]) able taken
    rw [asked, stands granted]
    exact compWaits_rests off waits granted _
  · have stay : Load.compressor ∉ (compWaits c d).bgt.allowance.waiting := fun waiting => out (sublist waiting)
    rw [requestAllowance_denied (l := .compressor) (d := compWaits c d) other stay refused]
    exact backToHold_compWaits fun _ => stay
  · have ignored : (compWaits c d).bgt.allowance.state = .held .compressor ∨ .compressor ∈ (compWaits c d).bgt.allowance.waiting := by
      rw [stands granted]
      simpa [or_iff_not_imp_left] using stays
    rw [requestAllowance_ignored ignored]
    have same : putAllowance d.bgt.allowance (compWaits c d) = compWaits c d := by rw [← stands granted]; rfl
    exact same ▸ compWaits_rests off waits granted d.bgt.allowance

end

end Sys2Proof.Machine
end

section
/-! PROOFS. The heater's states entered, in the words of the statements (R78, R79, R84, R86, R98, R100). -/

namespace Sys2Proof.Machine

open Sys2Proof.Stated

/-- R79, R105: HEATER's entry after OFF or LOCKOUT is entered, where a pending table default is applied. -/
def homeEntry (d : Device) : Entry :=
  let e := writtenEntry d.bgt.table.heater 0 0 d.sns.uptime
  if d.htr.marks.tableDefault = true then { e with steps := 0 :: defaultHeatTable.map (·.current) } else e

/-- R78, R105: the part after OFF or LOCKOUT is entered: no longer waiting, its table at the defaults where that is pending. -/
def heaterHome (st : HeaterState) (cause : HeaterCause) (d : Device) : Device :=
  { d with
    htr := heaterTo d.htr st 0 none cause noHeaterTimers d.sns.ms
    bgt := { entryWrites d .heater 0 0 with
      table := { d.bgt.table with heater := homeEntry d }
      allowance := { d.bgt.allowance with waiting := d.bgt.allowance.waiting.filter fun l => decide (l ≠ .heater) } }
    lnk := if st = d.htr.state then d.lnk else (post .heaterState d).lnk }

theorem heaterHome_eq {d : Device} (st : HeaterState) (home : st = .off ∨ st = .lockout) (cause : HeaterCause) :
    applyTableDefault (heaterEntered st cause d) = heaterHome st cause d := by
  have gone : (if (writtenEntry d.bgt.table.heater 0 0 d.sns.uptime).granted = 0 then
      d.bgt.allowance.waiting.filter fun x => decide (x ≠ .heater) else d.bgt.allowance.waiting) =
      d.bgt.allowance.waiting.filter fun x => decide (x ≠ .heater) := if_pos (writtenEntry_zero ..)
  have bgt : entryWrites d .heater 0 0 = { entryWrites d .heater 0 0 with
      allowance := { d.bgt.allowance with waiting := d.bgt.allowance.waiting.filter fun l => decide (l ≠ .heater) } } :=
    congrArg (fun w => ({ entryWrites d .heater 0 0 with allowance := { d.bgt.allowance with waiting := w } } : Budget)) gone
  have ask : entryWrites d .heater (heaterAsk st d.htr.wished).1 (heaterAsk st d.htr.wished).2 = entryWrites d .heater 0 0 := by
    rcases home with rfl | rfl <;> rfl
  have pendingOf : (heaterEntered st cause d).htr.marks.tableDefault = d.htr.marks.tableDefault := rfl
  unfold applyTableDefault heaterHome homeEntry
  rw [pendingOf]
  cases pending : d.htr.marks.tableDefault
  · have marks : d.htr.marks = { d.htr.marks with tableDefault := false } := by rw [← pending]
    have htr : heaterMoved st cause d = heaterTo d.htr st 0 none cause noHeaterTimers d.sns.ms := by
      change ({ heaterMoved st cause d with marks := d.htr.marks } : Heater) = _
      unfold heaterTo
      rw [pending, marks]
      rcases home with rfl | rfl <;> rfl
    rw [if_neg (by decide), heaterEntered, ask, bgt, htr]
    rfl
  · rw [if_pos rfl, heaterEntered, ask, bgt]
    unfold heaterTo
    rw [pending]
    rcases home with rfl | rfl <;> rfl

/-- R78: OFF entered. -/
theorem toOff_eq {d : Device} (waits : waitsGranted d .heater) (cause : HeaterCause) : toOff cause d = heaterHome .off cause d := by
  rw [toOff, enterHeater_entered waits, heaterHome_eq .off (.inl rfl)]

/-- R78, R79: a state entered in which the heater asks for 1 or more. -/
theorem enterHeater_asking {d : Device} (sound : budgetSound d) (st : HeaterState) (cause : HeaterCause)
    (asks : (heaterAsk st d.htr.wished).2 = 1) :
    enterHeater st cause d = { d with
      htr := heaterMoved st cause d
      bgt := { entryWrites d .heater (heaterAsk st d.htr.wished).1 1 with allowance := d.bgt.allowance }
      lnk := if st = d.htr.state then d.lnk else (post .heaterState d).lnk } := by
  have bgt : entryWrites d .heater (heaterAsk st d.htr.wished).1 1 =
      { entryWrites d .heater (heaterAsk st d.htr.wished).1 1 with allowance := d.bgt.allowance } :=
    congrArg (fun w => ({ entryWrites d .heater (heaterAsk st d.htr.wished).1 1 with
      allowance := { d.bgt.allowance with waiting := w } } : Budget)) (if_neg (heater_granted sound _))
  rw [enterHeater_entered (waitsGranted_of_sound sound .heater), heaterEntered, asks, bgt]

/-! ## What a state entered touches -/

theorem heaterHome_touches (st : HeaterState) (cause : HeaterCause) (d : Device) : heaterTouches d (heaterHome st cause d) :=
  ⟨rfl, rfl⟩

theorem heaterHome_wrote (st : HeaterState) (cause : HeaterCause) (d : Device) : heaterWrote d (heaterHome st cause d) 0 0 true := by
  refine ⟨?_, rfl⟩
  change homeEntry d = _
  unfold homeEntry
  simp only [true_and]

/-- R79: a heater state entered with the record, the request and the allowance given, HEATER_STATE being posted. -/
def heaterAt (h : Heater) (request : Nat) (a : Allowance) (d : Device) : Device :=
  { d with
    htr := h
    bgt := { entryWrites d .heater request 1 with allowance := a }
    lnk := if h.state = d.htr.state then d.lnk else (post .heaterState d).lnk }

theorem heaterAt_touches (h : Heater) (request : Nat) (a : Allowance) (d : Device) : heaterTouches d (heaterAt h request a d) :=
  ⟨rfl, rfl⟩

theorem heaterAt_wrote (h : Heater) (request : Nat) (a : Allowance) (d : Device) :
    heaterWrote d (heaterAt h request a d) request 1 false := ⟨rfl, rfl⟩

section
variable {d : Device} (sound : budgetSound d)
include sound

/-- R84: GLOW entered. -/
theorem toGlow_eq : toGlow d = heaterAt (heaterTo d.htr .glow d.htr.seq.ignDuty (some d.sns.ms) .none
    { noHeaterTimers with glow := some (d.sns.ms + 1000 * d.htr.seq.glowTime) } d.sns.ms) d.htr.wished d.bgt.allowance d := by
  unfold toGlow
  rw [enterHeater_asking sound .glow .none rfl]
  rfl

/-- R86: PURGE entered. -/
theorem toPurge_eq (cause : HeaterCause) : toPurge cause d = heaterAt (heaterTo d.htr .purge
    (if d.htr.marks.forcedPurge = true then 1000 else d.htr.seq.purgeDuty) none cause
    { noHeaterTimers with purge := some (d.sns.ms + 1000 * d.htr.seq.purgeTime) } d.sns.ms) 1 d.bgt.allowance d := by
  unfold toPurge
  rw [enterHeater_asking sound .purge cause rfl]
  rfl

/-- R83: WAIT_INRUSH entered, the wait timer started, the allowance not yet requested. -/
theorem enterHeater_waits : enterHeater .waitInrush .none d =
    heaterAt (heaterTo d.htr .waitInrush 0 none .none noHeaterTimers d.sns.ms) d.htr.wished d.bgt.allowance d :=
  enterHeater_asking sound .waitInrush .none rfl

/-- R84: an attempt ends in PURGE, counted once. -/
theorem attemptFails_eq (attempt : d.htr.state = .glow ∨ d.htr.state = .ignite) : attemptFails d = heaterAt
    { heaterTo d.htr .purge (if d.htr.marks.forcedPurge = true then 1000 else d.htr.seq.purgeDuty) none .none
        { noHeaterTimers with purge := some (d.sns.ms + 1000 * d.htr.seq.purgeTime) } d.sns.ms with
      attempts := d.htr.attempts + 1 } 1 d.bgt.allowance d := by
  have counted := toPurge_eq (d := putHtr { d.htr with attempts := d.htr.attempts + 1 } d) sound .none
  have posted : (post .heaterState (putHtr { d.htr with attempts := d.htr.attempts + 1 } d)).lnk = (post .heaterState d).lnk :=
    post_lnk_congr .heaterState rfl
  refine (if_pos attempt).trans (counted.trans ?_)
  unfold heaterAt
  rw [posted]
  rfl

end

end Sys2Proof.Machine
end

section
/-! PROOFS. The allowance's answers reach their loads, and CRITICAL's flush (R65 to R67, R83, R84, R111, R112). -/

namespace Sys2Proof.Machine

open Sys2Proof.Stated

/-! ## The answers -/

theorem compWrites_waits {d : Device} (request : Nat) {t : Device} (bgt : t.bgt = compWrites d request) : waitsGranted t .compressor := by
  intro none' waits
  rw [bgt] at none' waits
  have gone : (compWrites d request).allowance.waiting = d.bgt.allowance.waiting.filter fun l => decide (l ≠ .compressor) :=
    if_pos none'
  rw [gone] at waits
  simp at waits

section
variable {d : Device} (sound : budgetSound d)
include sound

/-- R83: "denied" to a waiting heater. -/
theorem heaterDenied_eq (st : d.htr.state = .waitInrush) : heaterDenied d = heaterHome .off (.refusal .inrush) d :=
  (if_pos st).trans (toOff_eq (waitsGranted_of_sound sound .heater) _)

theorem heaterGranted_eq (st : d.htr.state = .waitInrush) : heaterGranted d = heaterAt
    (heaterTo d.htr .glow d.htr.seq.ignDuty (some d.sns.ms) .none
      { noHeaterTimers with glow := some (d.sns.ms + 1000 * d.htr.seq.glowTime) } d.sns.ms) d.htr.wished d.bgt.allowance d :=
  (if_pos st).trans (toGlow_eq sound)

/-- R111: "denied" to a waiting compressor. -/
theorem compDenied_rests (st : d.cmp.state = .waitInrush) :
    compRests d (compDenied d) d.cmp .offHold { restTimers d.cmp d.sns.ms with offSince := some d.sns.ms } d.bgt.allowance := by
  rw [compDenied, if_pos st]
  exact backToHold_rests (a := d.bgt.allowance) (c := d.cmp) (d := d) (waitsGranted_of_sound sound .compressor)

/-- R112: "granted" to a waiting compressor, in the words of the statements. -/
theorem compGranted_starts (st : d.cmp.state = .waitInrush) :
    (d.bgt.allowance.state = .held .compressor → d.bgt.allowance.hold = some (d.sns.ms + 5000) → d.bgt.allowance.settle = none →
      compStarts d (compGranted d) d.cmp d.sns.ms) ∧
    (fridgePosted d (compGranted d) 1 ∨ fridgePosted d (compGranted d) 3) ∧
    ((compGranted d).cmp.state ≠ .blocked → (compGranted d).lgt = d.lgt) := by
  have waits := waitsGranted_of_sound sound .compressor
  have entered := toStart_eq st waits
  have waits' : waitsGranted (startEntered d) .compressor := compWrites_waits (d := d) d.cmp.wished rfl
  obtain ⟨posted, lgt⟩ := startOutcome_shows (d := startEntered d) rfl waits'
  rw [compGranted, if_pos st]
  refine ⟨toStart_starts st sound, ?_, entered ▸ lgt⟩
  rw [entered]
  exact posted.imp id fun thrice => thrice.trans (congrArg (·.notices) (repeat_post_lnk_congr .fridgeState
    (d := post .fridgeState d) (t := startEntered d) rfl 2))

/-- R112: "revoked" to a compressor in START. -/
theorem compRevoked_ends (st : d.cmp.state = .start) :
    (d.cmp.grantTime.getD 0 + 5000 ≤ d.sns.ms → compFailsWith d (compRevoked d) d.cmp .startFail d.sns.ms) ∧
    (d.sns.ms < d.cmp.grantTime.getD 0 + 5000 → compStops d (compRevoked d) d.cmp d.bgt.allowance d.sns.ms ∧
      (compRevoked d).lgt = d.lgt) := by
  have waits := waitsGranted_of_sound sound .compressor
  have drives : d.cmp.state.drives = true := by rw [st]; rfl
  rw [compRevoked, if_pos st]
  refine ⟨fun late => ?_, fun early => ?_⟩
  · rw [if_pos late]
    exact compFails_stands drives waits
  · rw [if_neg (by omega)]
    exact ⟨toStopping_stops (a := d.bgt.allowance) (c := d.cmp) waits, by simp⟩

end

theorem compGranted_rest (d : Device) : KeepsRest .compressor d (compGranted d) := by
  unfold compGranted
  split
  · exact toStart_rest d
  · exact .refl d

theorem compDenied_rest (d : Device) : KeepsRest .compressor d (compDenied d) := by
  unfold compDenied
  split
  · exact backToHold_rest d
  · exact .refl d

theorem compRevoked_rest (d : Device) : KeepsRest .compressor d (compRevoked d) := by
  unfold compRevoked
  split_ifs
  · exact compFails_rest .startFail d
  · exact toStopping_rest d
  · exact .refl d

/-- What an answer to the compressor may touch. -/
theorem answersComp_frame (d : Device) :
    (compFrame d (compGranted d) d.sns.ms d.pins.hall ∧ compFrame d (compDenied d) d.sns.ms d.pins.hall ∧
      compFrame d (compRevoked d) d.sns.ms d.pins.hall) ∧
    (compGranted d).lnk = { d.lnk with notices := (compGranted d).lnk.notices } ∧
    (compDenied d).lnk = { d.lnk with notices := (compDenied d).lnk.notices } ∧
    (compRevoked d).lnk = { d.lnk with notices := (compRevoked d).lnk.notices } :=
  ⟨⟨compFrame_of_rest (compGranted_rest d) (by simp) (by simp) (by simp), compFrame_of_rest (compDenied_rest d) (by simp) (by simp) (by simp),
    compFrame_of_rest (compRevoked_rest d) (by simp) (by simp) (by simp)⟩,
    Link.eq_of_quiet (by simp), Link.eq_of_quiet (by simp), Link.eq_of_quiet (by simp)⟩

/-- R69: an answer to the outlet moves it, and is posted. -/
theorem setOutlet_moved {d : Device} {st : OutletState} (closing : Option Nat) (other : st ≠ d.bgt.outlet.state) :
    setOutlet st closing d = { d with
      bgt := { d.bgt with outlet := { state := st, closing := closing } }
      lnk := { d.lnk with notices := (post .budgetState d).lnk.notices } } := by
  rw [setOutlet_eq, outletChanged]
  exact congrArg (fun n => ({ d with
    bgt := { d.bgt with outlet := { state := st, closing := closing } }, lnk := { d.lnk with notices := n } } : Device)) (if_neg other)

/-! ## The flush (R67) -/

/-- R67: the loads denied in list order. -/
def deniedAll (loads : List Load) (d : Device) : Device := loads.foldl (fun x l => answerDenied l x) d

theorem deniedAll_keeps {P : Device → Prop} (step : ∀ l d, P d → P (answerDenied l d)) (loads : List Load) {d : Device} (h : P d) :
    P (deniedAll loads d) := by
  induction loads generalizing d with
  | nil => exact h
  | cons l loads ih => exact ih (step l d h)

/-- A denied load is brought from `Q` to `P` by its own answer, and the other loads' answers keep both. -/
theorem deniedAll_reaches {P Q : Device → Prop} {own : Load} (other : ∀ l d, l ≠ own → Q d → Q (answerDenied l d))
    (answer : ∀ d, Q d → P (answerDenied own d)) (stays : ∀ l d, P d → P (answerDenied l d)) {loads : List Load}
    (mem : own ∈ loads) {d : Device} (h : Q d) : P (deniedAll loads d) := by
  induction loads generalizing d with
  | nil => cases mem
  | cons l loads ih =>
    by_cases here : l = own
    · subst here
      exact deniedAll_keeps stays loads (answer d h)
    · exact ih (List.mem_of_ne_of_mem (Ne.symm here) mem) (other l d here h)

theorem answerDenied_allowance {l : Load} {d : Device} (apart : l ∉ d.bgt.allowance.waiting) :
    (answerDenied l d).bgt.allowance = d.bgt.allowance := by
  cases l with
  | heater =>
    change (heaterDenied d).bgt.allowance = _
    unfold heaterDenied
    split
    · unfold toOff applyTableDefault
      split <;> exact enterHeater_allowance apart ..
    · rfl
  | compressor =>
    change (compDenied d).bgt.allowance = _
    unfold compDenied
    split
    · exact enterComp_allowance (d := startOffTimer d) apart .offHold
    · rfl
  | outlet => simp [answerDenied]
  | base | lights | warning => rfl

/-- A record of a part that belongs to one load: the answers to the others leave it. -/
structure OwnedBy {α : Type} (own : Load) (p : Device → α) : Prop where
  denied : ∀ l d, l ≠ own → p (answerDenied l d) = p d
  revoked : ∀ l d, l ≠ own → p (answerRevoked l d) = p d
  put : ∀ a d, p (putAllowance a d) = p d

theorem heater_owned : OwnedBy .heater (·.htr) where
  denied l d other := by cases l <;> simp [answerDenied] at other ⊢
  revoked l d other := by cases l <;> simp [answerRevoked] at other ⊢
  put _ _ := rfl

theorem comp_owned : OwnedBy .compressor (·.cmp) where
  denied l d other := by cases l <;> simp [answerDenied] at other ⊢
  revoked l d other := by cases l <;> simp [answerRevoked] at other ⊢
  put _ _ := rfl

theorem outlet_owned : OwnedBy .outlet (·.bgt.outlet) where
  denied l d other := by cases l <;> simp [answerDenied] at other ⊢
  revoked l d other := by cases l <;> simp [answerRevoked] at other ⊢
  put _ _ := rfl

/-- What a part with nobody waiting, at the time of `d`, shares with it while the flush denies the loads. -/
structure Flushing (d u : Device) : Prop where
  allowance : u.bgt.allowance = { d.bgt.allowance with waiting := [] }
  ms : u.sns.ms = d.sns.ms

theorem Flushing.noneWaits {d u : Device} (h : Flushing d u) : NoneWaits u := by rw [NoneWaits, h.allowance]

theorem Flushing.denied {d u : Device} (h : Flushing d u) (l : Load) : Flushing d (answerDenied l u) where
  allowance := (answerDenied_allowance (by rw [h.allowance]; exact List.not_mem_nil)).trans h.allowance
  ms := by rw [← h.ms]; simp

section
variable {d : Device}

theorem flushAllowance_eq (d : Device) : flushAllowance d =
    revokeHolder (deniedAll d.bgt.allowance.waiting (putAllowance { d.bgt.allowance with waiting := [] } d)) := rfl

theorem flushing_deniedAll (loads : List Load) : Flushing d (deniedAll loads (putAllowance { d.bgt.allowance with waiting := [] } d)) :=
  deniedAll_keeps (P := Flushing d) (fun l _ h => h.denied l) loads ⟨rfl, rfl⟩

/-- R66, R67: a flush that finds a holder revokes it. -/
theorem flush_held {l : Load} (held : d.bgt.allowance.state = .held l) : flushAllowance d = answerRevoked l
    (putAllowance ({ d.bgt.allowance with waiting := [] }.release d.sns.ms)
      (deniedAll d.bgt.allowance.waiting (putAllowance { d.bgt.allowance with waiting := [] } d))) := by
  obtain ⟨allowance, ms⟩ := flushing_deniedAll (d := d) d.bgt.allowance.waiting
  rw [flushAllowance_eq, revokeHolder_held (by rw [allowance]; exact held), allowance, ms]

theorem flush_free (none' : ∀ l, d.bgt.allowance.state ≠ .held l) : flushAllowance d =
    deniedAll d.bgt.allowance.waiting (putAllowance { d.bgt.allowance with waiting := [] } d) := by
  obtain ⟨allowance, -⟩ := flushing_deniedAll (d := d) d.bgt.allowance.waiting
  rw [flushAllowance_eq, revokeHolder, allowance]
  cases state : d.bgt.allowance.state with
  | held l => exact absurd state (none' l)
  | free | settling => rfl

variable {α : Type} {own : Load} {p : Device → α} (owned : OwnedBy own p)
include owned

/-- R67: the flush brings a waiting load to where "denied" takes it; no later answer moves it. -/
theorem flush_denied {R : α → Prop} (mem : own ∈ d.bgt.allowance.waiting)
    (answer : ∀ u, p u = p d → Flushing d u → R (p (answerDenied own u)))
    (rests : ∀ u, R (p u) → answerDenied own u = u ∧ answerRevoked own u = u) : R (p (flushAllowance d)) := by
  have denied (l : Load) (u : Device) (h : R (p u)) : R (p (answerDenied l u)) := by
    by_cases here : l = own
    · subst here
      rwa [(rests u h).1]
    · rwa [owned.denied l u here]
  have revoked (l : Load) (u : Device) (h : R (p u)) : R (p (answerRevoked l u)) := by
    by_cases here : l = own
    · subst here
      rwa [(rests u h).2]
    · rwa [owned.revoked l u here]
  have reached : R (p (deniedAll d.bgt.allowance.waiting (putAllowance { d.bgt.allowance with waiting := [] } d))) :=
    deniedAll_reaches (P := fun u => R (p u)) (Q := fun u => p u = p d ∧ Flushing d u)
      (fun l u other h => ⟨(owned.denied l u other).trans h.1, h.2.denied l⟩) (fun u h => answer u h.1 h.2) denied mem
      ⟨owned.put .., ⟨rfl, rfl⟩⟩
  by_cases held : ∃ l, d.bgt.allowance.state = .held l
  · obtain ⟨l, held⟩ := held
    rw [flush_held held]
    exact revoked l _ (by rwa [owned.put])
  · rwa [flush_free (not_exists.1 held)]

/-- R66, R67: the flush gives "revoked" to a holder that its denials have left as it was. -/
theorem flush_revoked (held : d.bgt.allowance.state = .held own) (idle : ∀ u, p u = p d → answerDenied own u = u) :
    ∃ u, p u = p d ∧ NoneWaits u ∧ u.sns.ms = d.sns.ms ∧ flushAllowance d = answerRevoked own u := by
  have flushing := flushing_deniedAll (d := d) d.bgt.allowance.waiting
  have kept : p (deniedAll d.bgt.allowance.waiting (putAllowance { d.bgt.allowance with waiting := [] } d)) = p d := by
    refine deniedAll_keeps (P := fun u => p u = p d) (fun l u h => ?_) _ (owned.put ..)
    by_cases here : l = own
    · subst here
      rw [idle u h, h]
    · rw [owned.denied l u here, h]
  refine ⟨_, (owned.put ..).trans kept, ?_, ?_, flush_held held⟩
  · exact (rfl : [] = [])
  · exact flushing.ms

end

/-! ## What the flush makes of each load -/

section
variable {d : Device}

/-- R83: OFF entered reports its cause. -/
theorem toOff_reports (cause : HeaterCause) (other : d.htr.state ≠ .off) :
    (toOff cause d).htr.state = .off ∧ (toOff cause d).htr.cause = cause := by
  have entered : (enterHeater .off cause d).htr.state = .off ∧ (enterHeater .off cause d).htr.cause = cause := by
    rw [enterHeater_eq, if_neg (Ne.symm other)]
    simp [heaterMoved, Ne.symm other]
  unfold toOff applyTableDefault
  split
  · exact entered
  · exact entered

theorem flush_heater_denied (mem : .heater ∈ d.bgt.allowance.waiting) (st : d.htr.state = .waitInrush) :
    (flushAllowance d).htr.state = .off ∧ (flushAllowance d).htr.cause = .refusal .inrush := by
  refine flush_denied heater_owned (R := fun h => h.state = .off ∧ h.cause = .refusal .inrush) mem (fun u same _ => ?_)
    fun u ⟨off, _⟩ => ⟨if_neg (by rw [off]; decide), if_neg (by rw [off]; decide)⟩
  have waits : u.htr.state = .waitInrush := same ▸ st
  rw [show answerDenied .heater u = toOff (.refusal .inrush) u from if_pos waits]
  exact toOff_reports _ (by rw [waits]; decide)

theorem flush_comp_denied (mem : .compressor ∈ d.bgt.allowance.waiting) (st : d.cmp.state = .waitInrush) :
    (flushAllowance d).cmp.state = .offHold ∧ (flushAllowance d).cmp.timers.offSince = some d.sns.ms := by
  refine flush_denied comp_owned (R := fun c => c.state = .offHold ∧ c.timers.offSince = some d.sns.ms) mem
    (fun u same flushing => ?_) fun u ⟨off, _⟩ => ⟨if_neg (by rw [off]; decide), if_neg (by rw [off]; decide)⟩
  have waits : u.cmp.state = .waitInrush := same ▸ st
  obtain ⟨cmp, -⟩ := backToHold_rests (a := u.bgt.allowance) (c := u.cmp) (d := u) (flushing.noneWaits.granted _)
  rw [show answerDenied .compressor u = backToHold u from if_pos waits, ← flushing.ms]
  exact ⟨congrArg (·.state) cmp, congrArg (·.timers.offSince) cmp⟩

theorem flush_outlet_denied (mem : .outlet ∈ d.bgt.allowance.waiting) (st : d.bgt.outlet.state = .waitToken) :
    (flushAllowance d).bgt.outlet = { state := .denied, closing := none } := by
  refine flush_denied outlet_owned (R := fun o => o = { state := .denied, closing := none }) mem (fun u same _ => ?_)
    fun u off => ⟨if_neg (by rw [off]; decide), if_neg (by rw [off]; decide)⟩
  have waits : u.bgt.outlet.state = .waitToken := same ▸ st
  rw [show answerDenied .outlet u = setOutlet .denied none u from if_pos waits, setOutlet_eq]
  rfl

theorem flush_heater_revoked (held : d.bgt.allowance.state = .held .heater) (attempt : d.htr.state = .glow ∨ d.htr.state = .ignite) :
    (flushAllowance d).htr.state = .purge ∧ (flushAllowance d).htr.attempts = d.htr.attempts + 1 := by
  obtain ⟨u, same, waits, -, eq⟩ := flush_revoked heater_owned held fun u same =>
    if_neg (by rw [same]; rcases attempt with st | st <;> rw [st] <;> decide)
  have attempt' : u.htr.state = .glow ∨ u.htr.state = .ignite := by rwa [same]
  have waits' : waitsGranted (putHtr { u.htr with attempts := u.htr.attempts + 1 } u) .heater := waits.granted .heater
  rw [eq, show answerRevoked .heater u = toPurge .none (putHtr { u.htr with attempts := u.htr.attempts + 1 } u) from if_pos attempt',
    toPurge, enterHeater_entered waits', ← same]
  exact ⟨rfl, rfl⟩

theorem flush_comp_revoked (held : d.bgt.allowance.state = .held .compressor) (st : d.cmp.state = .start)
    (early : d.sns.ms < d.cmp.grantTime.getD 0 + 5000) :
    (flushAllowance d).cmp.state = .stopping ∧ (flushAllowance d).cmp.failures = d.cmp.failures := by
  obtain ⟨u, same, waits, ms, eq⟩ := flush_revoked comp_owned held fun u same => if_neg (by rw [same, st]; decide)
  have start : u.cmp.state = .start := by rw [same, st]
  have inTime : ¬u.cmp.grantTime.getD 0 + 5000 ≤ u.sns.ms := by rw [same, ms]; omega
  obtain ⟨cmp, -⟩ := toStopping_stops (a := u.bgt.allowance) (c := u.cmp) (d := u) (waits.granted _)
  rw [eq, show answerRevoked .compressor u = toStopping u from (if_pos start).trans (if_neg inTime), ← same]
  exact ⟨congrArg (·.state) cmp, congrArg (·.failures) cmp⟩

theorem flush_outlet_revoked (held : d.bgt.allowance.state = .held .outlet) (st : d.bgt.outlet.state = .closing) :
    (flushAllowance d).bgt.outlet = { state := .on, closing := none } := by
  obtain ⟨u, same, -, -, eq⟩ := flush_revoked outlet_owned held fun u same => if_neg (by rw [same, st]; decide)
  have closing : u.bgt.outlet.state = .closing := by rw [same, st]
  rw [eq, show answerRevoked .outlet u = setOutlet .on none u from if_pos closing, setOutlet_eq]
  rfl

end

end Sys2Proof.Machine

namespace Sys2Proof.Proofs

open Sys2Proof Sys2Proof.Machine Sys2Proof.Stated

/-- Settles O42: the answers by load and state, and the flush as a fold of "denied" over the waiting list before "revoked". -/
theorem answersReachTheirLoads : Obligations.AnswersReachTheirLoads := by
  refine ⟨fun d sound => ?_, fun d sound => ?_⟩
  · intro ms h c a links framed outlet
    obtain ⟨⟨grantedFrame, deniedFrame, revokedFrame⟩, grantedLinks, deniedLinks, revokedLinks⟩ := answersComp_frame d
    refine ⟨fun st => ⟨?_, ?_⟩, fun other => ⟨if_neg other, if_neg other⟩, fun attempt => ?_, fun other other' => ?_,
      fun st => ⟨?_, ?_⟩, fun other => ⟨if_neg other, if_neg other⟩, fun st => ?_, fun other => if_neg other, fun st => ⟨?_, ?_⟩,
      fun other => ⟨if_neg other, if_neg other⟩, fun st => ?_, fun other => if_neg other⟩
    · rw [show answerGranted .heater d = _ from heaterGranted_eq sound st]
      exact ⟨rfl, heaterAt_wrote .., rfl, (heaterAt_touches ..).framed⟩
    · rw [show answerDenied .heater d = _ from heaterDenied_eq sound st]
      exact ⟨rfl, heaterHome_wrote .., rfl, (heaterHome_touches ..).framed⟩
    · rw [show answerRevoked .heater d = _ from attemptFails_eq sound attempt]
      exact ⟨rfl, heaterAt_wrote .., rfl, (heaterAt_touches ..).framed⟩
    · exact if_neg (not_or.2 ⟨other, other'⟩)
    · obtain ⟨starts, posted, lgt⟩ := compGranted_starts sound st
      exact ⟨starts, posted, grantedFrame, grantedLinks, lgt⟩
    · exact ⟨compDenied_rests sound st, by simp [answerDenied], deniedFrame, deniedLinks⟩
    · obtain ⟨late, early⟩ := compRevoked_ends sound st
      exact ⟨late, early, revokedFrame, revokedLinks⟩
    · exact (if_pos st).trans (setOutlet_moved _ (by rw [st]; decide))
    · exact (if_pos st).trans (setOutlet_moved _ (by rw [st]; decide))
    · exact (if_pos st).trans (setOutlet_moved _ (by rw [st]; decide))
  · intro a t denied
    obtain ⟨allowance, flushMs⟩ := flushing_deniedAll (d := d) a.waiting
    refine ⟨flushAllowance_noneWaits d, fun l held => ?_, flush_free, fun l held => ?_, flush_heater_denied, flush_comp_denied,
      flush_outlet_denied, flush_heater_revoked, flush_comp_revoked, flush_outlet_revoked⟩
    · have kept := answerRevoked_allowance (l := l) (d := putAllowance (Allowance.release { a with waiting := [] } d.sns.ms)
        (deniedAll a.waiting (putAllowance { a with waiting := [] } d)))
        (show AllowanceState.settling ≠ .held l from nofun) List.not_mem_nil
      rw [← flush_held held] at kept
      exact ⟨congrArg (·.state) kept, congrArg (·.settle) kept⟩
    · rw [show t = _ from flush_held held, show denied = deniedAll a.waiting (putAllowance { a with waiting := [] } d) from rfl,
        allowance]
      rfl

end Sys2Proof.Proofs
end

section
/-! PROOFS. A changed grant handed to its owner (R55, R69, R88, R89, R91, R108, R110 to R113, R131). -/

namespace Sys2Proof.Machine

open Sys2Proof.Stated

/-! ## The heater (R88, R89, R91) -/

theorem lowerTo_lowered (bound : Nat) {d : Device} (force : d.htr.state = .ramp ∨ d.htr.state = .run) :
    lowerTo bound d = putHtr (lowered d.htr (max 1 bound) d.sns.analog.tExch.value d.sns.ms) d := by
  unfold lowerTo lowered
  rw [(levelInForce_iff d).2 force]
  by_cases above : max 1 bound < d.htr.level
  · rw [if_pos (by simpa using above), if_pos above]
    rfl
  · rw [if_neg (by simpa using above), if_neg above]
    rfl

/-- R88: RUN entered from RAMP. -/
theorem toRun_eq {d : Device} (sound : budgetSound d) (ramp : d.htr.state = .ramp) :
    toRun d = heaterAt (intoRun d.htr d.sns.analog.tExch.value d.sns.ms) d.htr.wished d.bgt.allowance d := by
  have cause : (if HeaterState.run = d.htr.state then d.htr.cause else .none) = .none := if_neg (by rw [ramp]; decide)
  unfold toRun
  rw [enterHeater_asking sound .run .none rfl, heaterMoved, cause]
  rfl

/-- R91: what a lowered level leaves. -/
theorem lowered_kept (h : Heater) (n : Nat) (exch : Int) (ms : Nat) : (lowered h n exch ms).state = h.state ∧
    (lowered h n exch ms).wished = h.wished ∧ (lowered h n exch ms).limits = h.limits := by
  unfold lowered
  split <;> exact ⟨rfl, rfl, rfl⟩

section
variable {d : Device}

theorem heaterGrant_rests (ramp : d.htr.state ≠ .ramp) (run : d.htr.state ≠ .run) : heaterGrant d = d := by
  have free : levelInForce d = false := by simp [levelInForce, ramp, run]
  have kept : lowerTo (min (grantOf d .heater) (maxAllowed d)) d = d := if_neg (by simp [free])
  rw [heaterGrant, kept]
  exact if_neg fun h => ramp h.1

/-- R91: a level lowered to its bounds ends the ramp. -/
theorem lowered_ends {h : Heater} {wished top : Nat} (exch : Int) (ms : Nat) (stays : ¬min wished top ≤ (lowered h (max 1 top) exch ms).level) :
    lowered h (max 1 top) exch ms = h := by
  unfold lowered at stays ⊢
  split
  · next above =>
    rw [if_pos above] at stays
    exact absurd (show min wished top ≤ max 1 top by omega) stays
  · rfl

theorem heaterGrant_run (run : d.htr.state = .run) : heaterGrant d = { d with
    htr := lowered d.htr (max 1 (min (grantOf d .heater) (topLevel d))) d.sns.analog.tExch.value d.sns.ms } := by
  rw [heaterGrant, lowerTo_lowered _ (.inr run)]
  refine if_neg fun h => ?_
  have state : (lowered d.htr (max 1 (min (grantOf d .heater) (topLevel d))) d.sns.analog.tExch.value d.sns.ms).state = .run := by
    rwa [(lowered_kept ..).1]
  exact absurd (state.symm.trans h.1) (by decide)

theorem heaterGrant_ramp (ramp : d.htr.state = .ramp) :
    let top := min (grantOf d .heater) (topLevel d)
    let h' := lowered d.htr (max 1 top) d.sns.analog.tExch.value d.sns.ms
    heaterGrant d = if min d.htr.wished top ≤ h'.level then toRun (putHtr h' d) else putHtr h' d := by
  intro top h'
  obtain ⟨stays, wished, same⟩ := lowered_kept d.htr (max 1 top) d.sns.analog.tExch.value d.sns.ms
  have state : h'.state = .ramp := stays.trans ramp
  have wished : h'.wished = d.htr.wished := wished
  have limits : maxAllowed (putHtr h' d) = topLevel d := by
    have same : h'.limits = d.htr.limits := same
    unfold maxAllowed topLevel
    simp [putHtr, same]
  rw [heaterGrant, lowerTo_lowered _ (.inl ramp)]
  change (if h'.state = .ramp ∧ min h'.wished (min (grantOf d .heater) (maxAllowed (putHtr h' d))) ≤ h'.level then
    toRun (putHtr h' d) else putHtr h' d) = _
  rw [state, wished, limits]
  simp only [true_and]
  rfl

end

/-- R55, R88, R91: a grant handed to the heater. -/
theorem heaterGrant_reaches {d : Device} (sound : budgetSound d) :
    let t := heaterGrant d
    let h := d.htr
    let ms := d.sns.ms
    let exch := d.sns.analog.tExch.value
    let top := min (d.bgt.table.get .heater).granted (topLevel d)
    let h' := lowered h (max 1 top) exch ms
    let ends := min h.wished top ≤ h'.level
    (h.state ≠ .ramp → h.state ≠ .run → t = d) ∧ (h.state = .run → t = { d with htr := h' }) ∧
    (h.state = .ramp → ¬ends → t = d) ∧
    (h.state = .ramp → ends → t.htr = intoRun h' exch ms ∧ heaterWrote d t h.wished 1 false ∧ t.bgt.allowance = d.bgt.allowance ∧
      heaterTouches d t) := by
  intro t h ms exch top h' ends
  refine ⟨heaterGrant_rests, heaterGrant_run, fun ramp stays => ?_, fun ramp done => ?_⟩
  · have kept : h' = h := lowered_ends exch ms stays
    rw [show t = _ from (heaterGrant_ramp ramp).trans (if_neg stays)]
    exact congrArg (fun x => ({ d with htr := x } : Device)) kept
  · obtain ⟨state, wished, -⟩ := lowered_kept h (max 1 top) exch ms
    have run := toRun_eq (d := putHtr h' d) sound (state.trans ramp)
    have posted : (post .heaterState (putHtr h' d)).lnk = (post .heaterState d).lnk := post_lnk_congr .heaterState rfl
    have entered : t = heaterAt (intoRun h' exch ms) h.wished d.bgt.allowance d := by
      refine ((heaterGrant_ramp ramp).trans (if_pos done)).trans (run.trans ?_)
      unfold heaterAt
      rw [posted, show (putHtr h' d).htr.state = d.htr.state from state, show (putHtr h' d).htr.wished = h.wished from wished]
      rfl
    rw [entered]
    exact ⟨rfl, heaterAt_wrote .., rfl, heaterAt_touches ..⟩

/-! ## The lights (R131) -/

theorem lightsGrant_reaches {d : Device} (seven : d.lgt.channels.length = 7) (settings : d.lgt.chSettings.length = 7) :
    let ms := d.sns.ms
    let lights := d.bgt.table.lights
    let step := min lights.requested lights.granted
    let cap := fun (n k : Nat) => capAt n ((d.lgt.chSettings.map (·.essential)).getD k false)
    let now := d.lgt.channels.map (rested ms)
    lightsGrant d = { d with
      lgt := { d.lgt with
        capStep := step
        channels := (List.range 7).map fun k => recappedTo (cap d.lgt.capStep k) (cap step k) ms (now.getD k darkChannel) }
      lnk := { d.lnk with
        notices := if step = d.lgt.capStep then d.lnk.notices else (post .lightState d).lnk.notices } } := by
  intro ms lights step cap now
  have relit := recap_eq (d := { d with lgt := { d.lgt with channels := now } }) (by simpa [now] using seven) settings
  rw [lightsGrant, settleLights_eq]
  refine relit.trans ?_
  have posted : (post .lightState { d with lgt := { d.lgt with channels := now } }).lnk = (post .lightState d).lnk :=
    post_lnk_congr .lightState rfl
  have lnk : (if step = d.lgt.capStep then d.lnk else (post .lightState { d with lgt := { d.lgt with channels := now } }).lnk) =
      { d.lnk with notices := if step = d.lgt.capStep then d.lnk.notices else (post .lightState d).lnk.notices } := by
    rw [posted]
    split_ifs
    · rfl
    · exact post_lnk_notices ..
  exact congrArg (fun x => ({ d with
    lgt := { d.lgt with
      capStep := step
      channels := (List.range 7).map fun k => recappedTo (cap d.lgt.capStep k) (cap step k) ms (now.getD k darkChannel) }
    lnk := x } : Device)) lnk

/-! ## The outlet (R69) -/

section
variable {d : Device}

theorem outletGrant_rests (h : d.bgt.outlet.state = .off ∨ d.bgt.outlet.state = .waitGrant ∧ (d.bgt.table.get .outlet).granted = 0 ∨
    d.bgt.outlet.state ≠ .waitGrant ∧ (d.bgt.table.get .outlet).granted ≠ 0) : outletGrant d = d := by
  have grant : grantOf d .outlet = (d.bgt.table.get .outlet).granted := rfl
  unfold outletGrant
  rw [grant]
  cases st : d.bgt.outlet.state <;> simp_all

theorem outletGrant_falls (none' : (d.bgt.table.get .outlet).granted = 0)
    (h : d.bgt.outlet.state = .waitToken ∨ d.bgt.outlet.state = .on ∨ d.bgt.outlet.state = .denied) :
    outletGrant d = outletChanged { d.bgt with outlet := { state := .waitGrant, closing := none } } d := by
  have grant : grantOf d .outlet = 0 := none'
  unfold outletGrant
  rw [grant]
  rcases h with st | st | st <;> rw [st] <;> exact setOutlet_eq ..

theorem outletGrant_opens (none' : (d.bgt.table.get .outlet).granted = 0) (st : d.bgt.outlet.state = .closing) :
    outletGrant d = outletChanged { d.bgt with
      outlet := { state := .waitGrant, closing := none }, allowance := outletReleased d.bgt.allowance d.sns.ms } d := by
  have grant : grantOf d .outlet = 0 := none'
  unfold outletGrant
  rw [grant, st, releaseAllowance_outlet]
  exact setOutlet_changed ..

theorem outletGrant_requests (granted : (d.bgt.table.get .outlet).granted ≠ 0) (st : d.bgt.outlet.state = .waitGrant) :
    outletGrant d = outletRequest d := by
  have opens : decide (grantOf d .outlet = 0) = false := decide_eq_false granted
  unfold outletGrant
  rw [opens, st]
  rfl

end

/-! ## The compressor (R108, R110 to R113) -/

theorem minOffPassed_iff (d : Device) :
    minOffPassed d = true ↔ ∀ since, d.cmp.timers.offSince = some since → since + 180000 ≤ d.sns.ms := by
  unfold minOffPassed
  cases d.cmp.timers.offSince <;> simp

/-- R108: the compressor's record, C being the lesser of W and the grant. -/
def commandedComp (d : Device) : Compressor := { d.cmp with commanded := min d.cmp.wished (d.bgt.table.get .compressor).granted }

/-! ## The indication, which only BLOCKED lights (R123) -/

theorem compFails_lgt {k : FailKind} {d : Device} (free : (compFails k d).cmp.state ≠ .blocked) : (compFails k d).lgt = d.lgt := by
  revert free
  unfold compFails
  split
  · exact fun _ => rfl
  · dsimp only
    split
    · exact fun _ => by simp
    · exact fun free => absurd (by simp [putCmpTimers, enterComp_state]) free

theorem toStart_lgt {d : Device} (free : (toStart d).cmp.state ≠ .blocked) : (toStart d).lgt = d.lgt := by
  revert free
  unfold toStart
  dsimp only
  split_ifs
  · exact fun free => (compFails_lgt free).trans (by simp)
  · exact fun _ => by simp
  · exact fun free => (compFails_lgt free).trans (by simp)

theorem toCompWait_lgt {d : Device} (free : (toCompWait d).cmp.state ≠ .blocked) : (toCompWait d).lgt = d.lgt := by
  have asked : (requestAllowance .compressor (enterComp .waitInrush d)).1.lgt = d.lgt := by simp
  revert asked free
  unfold toCompWait
  rcases requestAllowance .compressor (enterComp .waitInrush d) with ⟨u, _ | _ | _⟩ <;> intro free asked
  · exact asked
  · exact (toStart_lgt free).trans asked
  · exact (by simp : (backToHold u).lgt = u.lgt).trans asked

theorem holdTest_lgt {d : Device} (free : (holdTest d).cmp.state ≠ .blocked) : (holdTest d).lgt = d.lgt := by
  revert free
  unfold holdTest
  split_ifs
  · exact toCompWait_lgt
  · exact fun _ => rfl
  · exact fun _ => by simp
  · exact fun _ => rfl

/-- R108: the part with C following the grant. -/
def compCommanded (d : Device) : Device := compAt d.bgt.allowance (commandedComp d) d

section
variable {d : Device}

/-- R55, R110 to R113: what the compressor does with a grant, by state. -/
theorem compGrant_states (d : Device) :
    let u := compCommanded d
    let none' := (d.bgt.table.get .compressor).granted = 0
    (d.cmp.state = .offHold → compGrant d = holdTest u) ∧
    (d.cmp.state = .waitInrush → compGrant d = if none' then backToHold u else u) ∧
    (d.cmp.state = .start → compGrant d = if none' then toStopping (releaseAllowance .compressor u) else u) ∧
    (d.cmp.state = .run → compGrant d = if none' then (if d.cmp.deferred = true then cutOut u else toStopping u) else u) ∧
    (d.cmp.state = .disabled ∨ d.cmp.state = .idle ∨ d.cmp.state = .stopping ∨ d.cmp.state = .stallBackoff ∨ d.cmp.state = .blocked →
      compGrant d = u) := by
  have followed : commandStep d = compCommanded d := rfl
  have state : (compCommanded d).cmp.state = d.cmp.state := rfl
  have grant : grantOf (compCommanded d) .compressor = (d.bgt.table.get .compressor).granted := rfl
  have deferred : (compCommanded d).cmp.deferred = d.cmp.deferred := rfl
  unfold compGrant
  simp only [followed, state, grant, deferred, decide_eq_true_eq]
  refine ⟨fun st => ?_, fun st => ?_, fun st => ?_, fun st => ?_, fun st => ?_⟩
  · rw [st]
  · rw [st]
  · rw [st]
  · rw [st]
  · rcases st with st | st | st | st | st <;> rw [st]

/-- R110: OFF_HOLD left, or not. -/
theorem holdTest_passed (off : d.cmp.state = .offHold)
    (passed : ∀ since, d.cmp.timers.offSince = some since → since + 180000 ≤ d.sns.ms) :
    holdTest d = if d.cmp.demand = true then (if 0 < grantOf d .compressor then toCompWait d else d) else enterComp .idle d :=
  if_pos ⟨off, (minOffPassed_iff d).2 passed⟩

theorem compGrant_requests (sound : budgetSound d) (st : d.cmp.state = .offHold)
    (passed : ∀ since, d.cmp.timers.offSince = some since → since + 180000 ≤ d.sns.ms) (demand : d.cmp.demand = true)
    (granted : (d.bgt.table.get .compressor).granted ≠ 0) : compRequests d (compGrant d) d.cmp d.sns.ms := by
  have grant : compGrant d = toCompWait (compCommanded d) := by
    obtain ⟨held, -⟩ := compGrant_states d
    refine (held st).trans ((holdTest_passed (d := compCommanded d) st passed).trans ((if_pos demand).trans (if_pos (Nat.pos_of_ne_zero granted))))
  rw [grant]
  exact toCompWait_requests (c := commandedComp d) st sound

section
variable (sound : budgetSound d)
include sound

theorem compGrant_idles (st : d.cmp.state = .offHold)
    (passed : ∀ since, d.cmp.timers.offSince = some since → since + 180000 ≤ d.sns.ms) (absent : d.cmp.demand = false) :
    compRests d (compGrant d) d.cmp .idle (restTimers d.cmp d.sns.ms) d.bgt.allowance := by
  have none' : ¬(compCommanded d).cmp.demand = true := by simpa [compCommanded, compAt, commandedComp] using absent
  have grant : compGrant d = enterComp .idle (compCommanded d) := by
    obtain ⟨held, -⟩ := compGrant_states d
    exact (held st).trans ((holdTest_passed (d := compCommanded d) st passed).trans (if_neg none'))
  rw [grant]
  exact enterIdle_rests (c := commandedComp d) (waitsGranted_of_sound sound .compressor)

variable (none' : (d.bgt.table.get .compressor).granted = 0)
include none'

theorem compGrant_backs (st : d.cmp.state = .waitInrush) : compRests d (compGrant d) d.cmp .offHold
    { restTimers d.cmp d.sns.ms with offSince := some d.sns.ms } d.bgt.allowance := by
  have grant : compGrant d = backToHold (compCommanded d) := by
    obtain ⟨-, waits, -⟩ := compGrant_states d
    exact (waits st).trans (if_pos none')
  rw [grant]
  exact backToHold_rests (c := commandedComp d) (waitsGranted_of_sound sound .compressor)

theorem compGrant_stopsStart (st : d.cmp.state = .start) :
    compStops d (compGrant d) d.cmp (compReleased d.bgt.allowance d.sns.ms) d.sns.ms := by
  have grant : compGrant d = toStopping (compAt (compReleased d.bgt.allowance d.sns.ms) (commandedComp d) d) := by
    have released : releaseAllowance .compressor (compCommanded d) = compAt (compReleased d.bgt.allowance d.sns.ms) (commandedComp d) d :=
      releaseAllowance_comp _
    rw [← released]
    obtain ⟨-, -, starts, -⟩ := compGrant_states d
    exact (starts st).trans (if_pos none')
  rw [grant]
  refine toStopping_stops (c := commandedComp d) fun gone waits => ?_
  exact waitsGranted_of_sound sound .compressor gone (compReleased_waiting d.bgt.allowance d.sns.ms ▸ waits)

theorem compGrant_stopsRun (st : d.cmp.state = .run) (kept : d.cmp.deferred = false) :
    compStops d (compGrant d) d.cmp d.bgt.allowance d.sns.ms := by
  have grant : compGrant d = toStopping (compCommanded d) := by
    obtain ⟨-, -, -, runs, -⟩ := compGrant_states d
    exact (runs st).trans ((if_pos none').trans (if_neg (by simp [kept])))
  rw [grant]
  exact toStopping_stops (c := commandedComp d) (waitsGranted_of_sound sound .compressor)

theorem compGrant_cutsOut (st : d.cmp.state = .run) (deferred : d.cmp.deferred = true) :
    compCutsOut d (compGrant d) d.cmp d.sns.ms := by
  have grant : compGrant d = cutOut (compCommanded d) := by
    obtain ⟨-, -, -, runs, -⟩ := compGrant_states d
    exact (runs st).trans ((if_pos none').trans (if_pos deferred))
  rw [grant]
  exact cutOut_cutsOut (c := commandedComp d) (waitsGranted_of_sound sound .compressor) (by simp [compAt])

end

theorem compGrant_follows
    (h : d.cmp.state = .offHold ∧
        (¬(∀ since, d.cmp.timers.offSince = some since → since + 180000 ≤ d.sns.ms) ∨
          d.cmp.demand = true ∧ (d.bgt.table.get .compressor).granted = 0) ∨
      (d.cmp.state = .waitInrush ∨ d.cmp.state = .start ∨ d.cmp.state = .run) ∧ (d.bgt.table.get .compressor).granted ≠ 0 ∨
      (d.cmp.state = .disabled ∨ d.cmp.state = .idle ∨ d.cmp.state = .stopping ∨ d.cmp.state = .stallBackoff ∨ d.cmp.state = .blocked)) :
    compGrant d = compCommanded d := by
  obtain ⟨held, waits, starts, runs, rests⟩ := compGrant_states d
  rcases h with ⟨st, late | ⟨demand, none'⟩⟩ | ⟨st | st | st, granted⟩ | st
  · exact (held st).trans (if_neg fun ready => late ((minOffPassed_iff _).1 ready.2))
  · have shut : ¬0 < grantOf (compCommanded d) .compressor := Nat.not_lt.2 none'.le
    refine (held st).trans ?_
    by_cases passed : ∀ since, d.cmp.timers.offSince = some since → since + 180000 ≤ d.sns.ms
    · exact (holdTest_passed (d := compCommanded d) st passed).trans ((if_pos demand).trans (if_neg shut))
    · exact if_neg fun ready => passed ((minOffPassed_iff _).1 ready.2)
  · exact (waits st).trans (if_neg granted)
  · exact (starts st).trans (if_neg granted)
  · exact (runs st).trans (if_neg granted)
  · exact rests st

/-- A grant lights the compressor's indication only where it ends in BLOCKED. -/
theorem compGrant_lgt (h : d.cmp.state = .blocked ∨ (compGrant d).cmp.state ≠ .blocked) : (compGrant d).lgt = d.lgt := by
  obtain ⟨held, waits, starts, runs, rests⟩ := compGrant_states d
  have followed : (compCommanded d).lgt = d.lgt := rfl
  cases st : d.cmp.state with
  | offHold =>
    have free : (compGrant d).cmp.state ≠ .blocked := h.resolve_left (by rw [st]; decide)
    rw [held st] at free ⊢
    exact holdTest_lgt free
  | waitInrush => rw [waits st]; split <;> simp [followed]
  | start => rw [starts st]; split <;> simp [followed]
  | run => rw [runs st]; split_ifs <;> simp [followed]
  | disabled | idle | stopping | stallBackoff | blocked => rw [rests (by simp [st])]; exact followed

end

end Sys2Proof.Machine

namespace Sys2Proof.Proofs

open Sys2Proof Sys2Proof.Machine Sys2Proof.Stated

/-- Settles O41: the grant by owner and by the owner's state. -/
theorem grantsReachTheirLoads : Obligations.GrantsReachTheirLoads := by
  intro d sound ms h c a lights grant links
  refine ⟨?_, ?_, fun seven settings => lightsGrant_reaches seven settings, ?_, rfl, rfl⟩
  · obtain ⟨rests, run, stays, ends⟩ := heaterGrant_reaches sound
    refine ⟨rests, run, stays, fun ramp done => ?_⟩
    obtain ⟨htr, wrote, allowance, touches⟩ := ends ramp done
    exact ⟨htr, wrote, allowance, touches.framed⟩
  · intro t passed none'
    refine ⟨compFrame_of_rest (t := compGrant d) (compGrant_rest d) (by simp) (by simp) (by simp),
      Link.eq_of_quiet (x := (compGrant d).lnk) (by simp), compGrant_lgt,
      compGrant_requests sound, compGrant_idles sound, fun st gone => compGrant_backs sound gone st,
      fun st gone => compGrant_stopsStart sound gone st, fun st gone => compGrant_cutsOut sound gone st,
      fun st gone => compGrant_stopsRun sound gone st, compGrant_follows⟩
  · intro t o none' moves
    refine ⟨outletGrant_rests, outletGrant_falls, outletGrant_opens, fun granted st other apart => ?_⟩
    have asked : t = outletRequest d := outletGrant_requests granted st
    refine ⟨fun critical => ?_, fun uv free => ?_, fun uv taken => ?_⟩
    · exact asked.trans (outletRequest_denied other apart (.inl critical))
    · exact asked.trans (outletRequest_free other apart (not_or.2 ⟨uv, granted⟩) free)
    · exact asked.trans (outletRequest_waits other apart (not_or.2 ⟨uv, granted⟩) taken)

end Sys2Proof.Proofs
end

section
/-! PROOFS. The heater stopped, locked out and at fault, in the words of the statements (R83, R96, R98 to R100, R102). -/

namespace Sys2Proof.Machine

open Sys2Proof.Stated

/-! ## What the heater's work may touch -/

theorem heaterFrame_of_blocks {d t : Device} (only : t = { d with
      htr := t.htr
      bgt := { d.bgt with
        table := { d.bgt.table with heater := t.bgt.table.heater }, passesDue := t.bgt.passesDue, allowance := t.bgt.allowance }
      lgt := t.lgt, npl := t.npl, lnk := t.lnk })
    (links : t.lnk = { d.lnk with notices := t.lnk.notices }) : heaterFrame d t d.sns.ms := by
  have same : ({ t.lnk with enables := d.lnk.enables, idleTime := d.lnk.idleTime } : Link) = t.lnk := by rw [links]
  unfold heaterFrame
  rw [same]
  exact only

/-! ## The allowance left (R65) -/

theorem withdrawAllowance_heater (d : Device) :
    withdrawAllowance .heater d = putAllowance { heaterReleased d.bgt.allowance d.sns.ms with
      waiting := if d.bgt.allowance.state = .held .heater then d.bgt.allowance.waiting
        else d.bgt.allowance.waiting.filter fun l => decide (l ≠ .heater) } d := by
  unfold heaterReleased
  by_cases held : d.bgt.allowance.state = .held .heater
  · rw [if_pos held, if_pos held, (withdrawAllowance_held held).trans (releaseAllowance_held held)]
    rfl
  · rw [if_neg held, if_neg held, withdrawAllowance_other held]
    rfl

/-- R83, R100: OFF or LOCKOUT entered once the allowance has been withdrawn. -/
theorem heaterHome_withdrawn (st : HeaterState) (cause : HeaterCause) (d : Device) :
    heaterHome st cause (withdrawAllowance .heater d) =
      { heaterHome st cause d with bgt := { (heaterHome st cause d).bgt with
        allowance := heaterWithdrawn d.bgt.allowance d.sns.ms } } := by
  have filtered : (if d.bgt.allowance.state = .held .heater then d.bgt.allowance.waiting
      else d.bgt.allowance.waiting.filter fun l => decide (l ≠ .heater)).filter (fun l => decide (l ≠ .heater)) =
      d.bgt.allowance.waiting.filter fun l => decide (l ≠ .heater) := by
    split_ifs
    · rfl
    · rw [List.filter_filter]
      simp
  have posted (a : Allowance) : (post .heaterState (putAllowance a d)).lnk = (post .heaterState d).lnk :=
    post_lnk_congr .heaterState rfl
  rw [withdrawAllowance_heater]
  unfold heaterHome
  rw [posted]
  exact congrArg (fun w => ({ heaterHome st cause d with bgt := { (heaterHome st cause d).bgt with
    allowance := { heaterReleased d.bgt.allowance d.sns.ms with waiting := w } } } : Device)) filtered

theorem withdrawn_waits {d : Device} (sound : budgetSound d) : waitsGranted (withdrawAllowance .heater d) .heater :=
  waitsGranted_of_sound (withdrawAllowance_sound .heater sound) .heater

/-- R83: WAIT_INRUSH left for OFF. -/
theorem leaveWait_eq {d : Device} (sound : budgetSound d) (cause : HeaterCause) : leaveWait cause d =
    { heaterHome .off cause d with bgt := { (heaterHome .off cause d).bgt with
      allowance := heaterWithdrawn d.bgt.allowance d.sns.ms } } :=
  (toOff_eq (withdrawn_waits sound) cause).trans (heaterHome_withdrawn ..)

theorem applyTableDefault_locked (d : Device) :
    applyTableDefault (putHtr { d.htr with
      runUntil := none
      marks := { d.htr.marks with restartPending := false, lockoutPending := false, forcedPurge := false }
      lockouts := satSucc 255 d.htr.lockouts } d) =
    { applyTableDefault d with htr := { (applyTableDefault d).htr with
      runUntil := none
      marks := { restartPending := false, lockoutPending := false, forcedPurge := false, tableDefault := false }
      lockouts := satSucc 255 d.htr.lockouts } } := by
  unfold applyTableDefault
  cases pending : d.htr.marks.tableDefault
  · simp [putHtr, pending]
  · simp [putHtr, putHeatTable, pending]

/-- R100: LOCKOUT entered. -/
theorem toLockout_eq {d : Device} (sound : budgetSound d) (cause : HeaterCause) : toLockout cause d =
    { heaterHome .lockout cause d with
      htr := { heaterTo d.htr .lockout 0 none cause noHeaterTimers d.sns.ms with
        runUntil := none
        marks := { restartPending := false, lockoutPending := false, forcedPurge := false, tableDefault := false }
        lockouts := min 255 (d.htr.lockouts + 1) }
      bgt := { (heaterHome .lockout cause d).bgt with allowance := heaterWithdrawn d.bgt.allowance d.sns.ms } } := by
  have home := (heaterHome_eq (d := withdrawAllowance .heater d) .lockout (.inr rfl) cause).trans (heaterHome_withdrawn ..)
  have lockouts : (heaterEntered .lockout cause (withdrawAllowance .heater d)).htr.lockouts = d.htr.lockouts := by
    change (withdrawAllowance .heater d).htr.lockouts = _
    simp
  unfold toLockout
  rw [enterHeater_entered (withdrawn_waits sound)]
  refine (applyTableDefault_locked _).trans ?_
  rw [home, lockouts]
  rfl

/-! ## A fault recorded (R102) -/

theorem heaterIndication_eq (n : Nat) (new : Bool) (d : Device) : heaterIndication n new d = { d with
    lgt := (postIndication .htr n new d).lgt, npl := { d.npl with prewarmMark := false } } := by
  unfold heaterIndication
  dsimp only
  rw [postIndication_only]

theorem recordFault_eq (k : FaultKind) (d : Device) : recordFault k d = { d with
    htr := { d.htr with faults := faultsWith d k }
    lgt := (postIndication .htr (max k.severity (heaterSeverity d)) true d).lgt
    npl := { d.npl with prewarmMark := false }
    lnk := (post .heaterFault d).lnk } := by
  let faulted := putHtr { d.htr with faults := faultsWith d k } d
  have recorded : recordFault k d = heaterIndication (max k.severity (heaterSeverity d)) true (post .heaterFault faulted) := rfl
  have shows : ShowsSame d (post .heaterFault faulted) := ⟨by simp [faulted, putHtr], by simp [faulted, putHtr], by simp [faulted, putHtr]⟩
  rw [recorded, heaterIndication_eq, (shows.postIndication ..).1, post_of_lnk (d := d) (t := faulted) .heaterFault rfl]
  rfl

/-! ## COOLDOWN entered from a record given (R99) -/

/-- R99: the part once COOLDOWN is entered with the record `h`. -/
def cooledWith (h : Heater) (cause : CooldownCause) (d : Device) : Device :=
  { d with
    htr := cooledHeater h cause d.sns.ms
    bgt := { entryWrites d .heater 1 1 with allowance := heaterReleased d.bgt.allowance d.sns.ms }
    lnk := (post .heaterState d).lnk }

theorem cooledWith_cools (h : Heater) (cause : CooldownCause) (d : Device) : coolsDown d (cooledWith h cause d) h cause d.sns.ms :=
  ⟨rfl, ⟨rfl, rfl⟩, rfl⟩

theorem cooledWith_touches {h : Heater} {cause : CooldownCause} {d : Device} (other : d.htr.state ≠ .cooldown) :
    heaterTouches d (cooledWith h cause d) := ⟨rfl, (if_neg (Ne.symm other)).symm⟩

theorem toCooldown_with {d : Device} (sound : budgetSound d) {h : Heater} (other : h.state ≠ .cooldown) (cause : CooldownCause) :
    toCooldown cause (putHtr h d) = cooledWith h cause d := by
  rw [toCooldown_eq (d := putHtr h d) sound other, show (post .heaterState (putHtr h d)).lnk = _ from post_lnk_congr (d := d) .heaterState rfl]
  rfl

/-! ## A stop (R98) -/

section
variable {d : Device} (sound : budgetSound d)
include sound

/-- The heater is in a burn, or in a purge that does not end in a lockout. -/
def burnsFree (d : Device) : Prop :=
  d.htr.state = .glow ∨ d.htr.state = .ignite ∨ d.htr.state = .ramp ∨ d.htr.state = .run ∨
    d.htr.state = .purge ∧ ¬(d.htr.marks.lockoutPending = true ∨ d.htr.marks.forcedPurge = true)

theorem stopHeater_cools (burns : burnsFree d) :
    stopHeater d = cooledWith { d.htr with runUntil := none } .stop d := by
  have other : ({ d.htr with runUntil := none } : Heater).state ≠ .cooldown := by
    rcases burns with st | st | st | st | ⟨st, -⟩ <;> simp [st]
  have stopped : stopHeater d = toCooldown .stop (clearRunUntil d) := by
    unfold stopHeater
    dsimp only
    rw [show (clearRunUntil d).htr.state = d.htr.state from rfl]
    rcases burns with st | st | st | st | ⟨st, free⟩ <;> rw [st]
    exact if_neg (by simpa [clearRunUntil, putHtr] using free)
  exact stopped.trans (toCooldown_with sound other .stop)

theorem stopHeater_off (waits : d.htr.state = .waitInrush ∨ d.htr.state = .paused) :
    stopHeater d = { heaterHome .off (.cooling .stop) d with
      htr := heaterTo { d.htr with runUntil := none } .off 0 none (.cooling .stop) noHeaterTimers d.sns.ms
      bgt := { (heaterHome .off (.cooling .stop) d).bgt with
        allowance := if d.htr.state = .waitInrush then heaterWithdrawn d.bgt.allowance d.sns.ms
          else { d.bgt.allowance with waiting := d.bgt.allowance.waiting.filter fun l => decide (l ≠ .heater) } } } := by
  have posted : (post .heaterState (clearRunUntil d)).lnk = (post .heaterState d).lnk := post_lnk_congr .heaterState rfl
  have home : heaterHome .off (.cooling .stop) (clearRunUntil d) = { heaterHome .off (.cooling .stop) d with
      htr := heaterTo { d.htr with runUntil := none } .off 0 none (.cooling .stop) noHeaterTimers d.sns.ms } := by
    unfold heaterHome
    rw [posted]
    rfl
  rcases waits with st | st
  · have stopped : stopHeater d = leaveWait (.cooling .stop) (clearRunUntil d) := by
      unfold stopHeater
      dsimp only
      rw [show (clearRunUntil d).htr.state = d.htr.state from rfl, st]
    rw [stopped, leaveWait_eq (d := clearRunUntil d) sound, home, if_pos st]
    rfl
  · have stopped : stopHeater d = toOff (.cooling .stop) (clearRunUntil d) := by
      unfold stopHeater
      dsimp only
      rw [show (clearRunUntil d).htr.state = d.htr.state from rfl, st]
    rw [stopped, toOff_eq (d := clearRunUntil d) (waitsGranted_of_sound sound .heater), home, if_neg (by simp [st])]
    rfl

omit sound in
theorem stopHeater_cooldown (st : d.htr.state = .cooldown) : stopHeater d = { d with
    htr := { d.htr with runUntil := none, marks := { d.htr.marks with restartPending := false } } } := by
  unfold stopHeater
  dsimp only
  rw [show (clearRunUntil d).htr.state = d.htr.state from rfl, st]
  rfl

omit sound in
theorem stopHeater_rests (h : d.htr.state = .purge ∧ (d.htr.marks.lockoutPending = true ∨ d.htr.marks.forcedPurge = true) ∨
    d.htr.state = .off ∨ d.htr.state = .lockout) : stopHeater d = clearRunUntil d := by
  unfold stopHeater
  dsimp only
  rw [show (clearRunUntil d).htr.state = d.htr.state from rfl]
  rcases h with ⟨st, marked⟩ | st | st <;> rw [st]
  exact if_pos (by simpa [clearRunUntil, putHtr] using marked)

theorem stopHeater_touches : heaterTouches d (stopHeater d) := by
  rcases heaterState_groups d with burns | marked | st | waits | rests
  · rw [stopHeater_cools sound burns]
    exact cooledWith_touches (by rcases burns with st | st | st | st | ⟨st, -⟩ <;> simp [st])
  · rw [stopHeater_rests (.inl marked)]
    exact ⟨rfl, (if_pos rfl).symm⟩
  · rw [stopHeater_cooldown st]
    exact ⟨rfl, (if_pos rfl).symm⟩
  · rw [stopHeater_off sound waits]
    exact ⟨rfl, rfl⟩
  · rw [stopHeater_rests (.inr rests)]
    exact ⟨rfl, (if_pos rfl).symm⟩

/-- R98: a stop, in the words of the statements. -/
theorem stopHeater_stops : heaterStops d (stopHeater d) := by
  obtain ⟨posted, frame, quiet, -⟩ := (stopHeater_touches sound).framed
  refine ⟨fun burns => ?_, fun waits => ?_, fun st => ?_, fun rests => ?_, posted, frame, quiet⟩
  · rw [stopHeater_cools sound burns]
    exact cooledWith_cools ..
  · rw [stopHeater_off sound waits]
    exact ⟨rfl, heaterHome_wrote .off (.cooling .stop) d, rfl⟩
  · rw [stopHeater_cooldown st]
    exact ⟨rfl, rfl⟩
  · rw [stopHeater_rests rests]
    exact ⟨rfl, rfl⟩

end

/-! ## FUEL_LOW (R98) -/

section
variable {d : Device}

theorem heaterFuelLow_cools (sound : budgetSound d) (burns : burnsFree d) :
    heaterFuelLow d = cooledWith { d.htr with runUntil := none } .fuelLow d := by
  have other : ({ d.htr with runUntil := none } : Heater).state ≠ .cooldown := by
    rcases burns with st | st | st | st | ⟨st, -⟩ <;> simp [st]
  have stopped : heaterFuelLow d = toCooldown .fuelLow (clearRunUntil d) := by
    unfold heaterFuelLow
    rcases burns with st | st | st | st | ⟨st, free⟩ <;> rw [st]
    exact if_neg (by simpa using free)
  exact stopped.trans (toCooldown_with sound other .fuelLow)

theorem heaterFuelLow_purge (st : d.htr.state = .purge) (marked : d.htr.marks.lockoutPending = true ∨ d.htr.marks.forcedPurge = true) :
    heaterFuelLow d = clearRunUntil d := by
  rw [heaterFuelLow, st]
  exact if_pos (by simpa using marked)

theorem heaterFuelLow_waits (sound : budgetSound d) (st : d.htr.state = .waitInrush) : heaterFuelLow d =
    { heaterHome .off (.refusal .fuelLow) d with bgt := { (heaterHome .off (.refusal .fuelLow) d).bgt with
      allowance := heaterWithdrawn d.bgt.allowance d.sns.ms } } := by
  rw [heaterFuelLow, st]
  exact leaveWait_eq sound _

theorem heaterFuelLow_rests (h : d.htr.state = .off ∨ d.htr.state = .paused ∨ d.htr.state = .lockout ∨ d.htr.state = .cooldown) :
    heaterFuelLow d = d := by
  unfold heaterFuelLow
  rcases h with st | st | st | st <;> rw [st]

end

/-! ## DIN5's filtered trip (R96) -/

section
variable {d : Device}

/-- R96, R102: the heater's record once the trip has been latched and recorded. -/
def trippedHeater (d : Device) : Heater := { d.htr with latch := true, faults := faultsWith d .overheatTrip }

/-- R102: the part once a fault has left the heater with the record `h`, before its state changes. -/
def faultedWith (h : Heater) (d : Device) : Device :=
  { d with
    htr := h
    lgt := (postIndication .htr (max 3 (heaterSeverity d)) true d).lgt
    npl := { d.npl with prewarmMark := false }
    lnk := (post .heaterFault d).lnk }

theorem recordTrip_eq (d : Device) :
    recordFault .overheatTrip (putHtr { d.htr with latch := true } d) = faultedWith (trippedHeater d) d := by
  have shows : ShowsSame d (putHtr { d.htr with latch := true } d) := ⟨rfl, rfl, rfl⟩
  rw [recordFault_eq, (shows.postIndication ..).1, post_lnk_congr (d := d) (t := putHtr { d.htr with latch := true } d) .heaterFault rfl]
  rfl

theorem overheatTrip_cools (sound : budgetSound d)
    (burns : (d.htr.state = .glow ∨ d.htr.state = .ignite ∨ d.htr.state = .ramp ∨ d.htr.state = .run) ∨
      d.htr.state = .purge ∧ d.htr.marks.forcedPurge = false) :
    overheatTrip d = cooledWith { trippedHeater d with marks := { d.htr.marks with lockoutPending := true } } .overheat
      (faultedWith (trippedHeater d) d) := by
  have other : ({ trippedHeater d with marks := { d.htr.marks with lockoutPending := true } } : Heater).state ≠ .cooldown := by
    change d.htr.state ≠ _
    rcases burns with (st | st | st | st) | ⟨st, -⟩ <;> simp [st]
  have cooled : overheatTrip d = toCooldown .overheat (markLockout (faultedWith (trippedHeater d) d)) := by
    unfold overheatTrip
    rw [recordTrip_eq]
    dsimp only
    rw [show (faultedWith (trippedHeater d) d).htr.state = d.htr.state from rfl]
    rcases burns with (st | st | st | st) | ⟨st, unforced⟩ <;> rw [st]
    exact if_neg (by simpa [faultedWith, trippedHeater] using unforced)
  exact cooled.trans (toCooldown_with (d := faultedWith (trippedHeater d) d) sound other .overheat)

theorem overheatTrip_cooldown (st : d.htr.state = .cooldown) : overheatTrip d =
    markLockout (faultedWith (trippedHeater d) d) := by
  unfold overheatTrip
  rw [recordTrip_eq]
  dsimp only
  rw [show (faultedWith (trippedHeater d) d).htr.state = d.htr.state from rfl, st]

theorem overheatTrip_locks (rests : d.htr.state = .waitInrush ∨ d.htr.state = .off ∨ d.htr.state = .paused) :
    overheatTrip d = toLockout .none (faultedWith (trippedHeater d) d) := by
  unfold overheatTrip
  rw [recordTrip_eq]
  dsimp only
  rw [show (faultedWith (trippedHeater d) d).htr.state = d.htr.state from rfl]
  rcases rests with st | st | st <;> rw [st]

theorem overheatTrip_stays (h : d.htr.state = .lockout ∨ d.htr.state = .purge ∧ d.htr.marks.forcedPurge = true) :
    overheatTrip d = faultedWith (trippedHeater d) d := by
  unfold overheatTrip
  rw [recordTrip_eq]
  dsimp only
  rw [show (faultedWith (trippedHeater d) d).htr.state = d.htr.state from rfl]
  rcases h with st | ⟨st, forced⟩ <;> rw [st]
  exact if_pos forced

/-- R96: the states in which a trip finds the heater. -/
theorem tripState_groups (d : Device) :
    ((d.htr.state = .glow ∨ d.htr.state = .ignite ∨ d.htr.state = .ramp ∨ d.htr.state = .run) ∨
      d.htr.state = .purge ∧ d.htr.marks.forcedPurge = false) ∨ d.htr.state = .cooldown ∨
    (d.htr.state = .waitInrush ∨ d.htr.state = .off ∨ d.htr.state = .paused) ∨
    (d.htr.state = .lockout ∨ d.htr.state = .purge ∧ d.htr.marks.forcedPurge = true) := by
  cases d.htr.state <;> simp

/-- R102: what a step of the heater with a fault of severity 3 touches, shows and posts. -/
def faultTouches (d t : Device) : Prop :=
  t = { faultedWith t.htr d with
    bgt := { d.bgt with
      table := { d.bgt.table with heater := t.bgt.table.heater }, passesDue := t.bgt.passesDue, allowance := t.bgt.allowance }
    lnk := t.lnk } ∧
  t.lnk = if t.htr.state = d.htr.state then (post .heaterFault d).lnk else (post .heaterState (post .heaterFault d)).lnk

theorem faultTouches.framed {d t : Device} (h : faultTouches d t) :
    faultNoticed d t ∧ faultShownAs 3 d t d.sns.ms ∧ heaterFrame d t d.sns.ms ∧ t.lnk = { d.lnk with notices := t.lnk.notices } := by
  obtain ⟨eq, lnk⟩ := h
  have links : t.lnk = { d.lnk with notices := t.lnk.notices } := by
    rw [lnk]
    split_ifs
    · exact post_lnk_notices ..
    · rw [post_lnk_notices, post_lnk_notices]
  have now : ShowsSame (reach d.sns.ms d) d := ⟨rfl, rfl, (Nat.max_self _).symm⟩
  have lgt : t.lgt = (postIndication .htr (max 3 (heaterSeverity d)) true d).lgt := congrArg (·.lgt) eq
  have npl : t.npl = { d.npl with prewarmMark := false } := congrArg (·.npl) eq
  refine ⟨?_, ⟨lgt.trans (now.postIndication ..).1, npl⟩, heaterFrame_of_blocks (eq.trans ?_) links, links⟩
  · rw [faultNoticed, lnk]
    split_ifs <;> rfl
  · rw [lgt, npl]
    rfl

theorem overheatTrip_touches (sound : budgetSound d) : faultTouches d (overheatTrip d) := by
  have posted : (post .heaterState (faultedWith (trippedHeater d) d)).lnk = (post .heaterState (post .heaterFault d)).lnk :=
    post_lnk_congr .heaterState rfl
  rcases tripState_groups d with burns | st | rests | stays
  · have moved : HeaterState.cooldown ≠ d.htr.state := by rcases burns with (st | st | st | st) | ⟨st, -⟩ <;> simp [st]
    rw [overheatTrip_cools sound burns]
    exact ⟨rfl, posted.trans (if_neg moved).symm⟩
  · rw [overheatTrip_cooldown st]
    exact ⟨rfl, (if_pos rfl).symm⟩
  · have moved : HeaterState.lockout ≠ d.htr.state := by rcases rests with st | st | st <;> simp [st]
    rw [overheatTrip_locks rests, toLockout_eq (d := faultedWith (trippedHeater d) d) sound]
    exact ⟨rfl, ((if_neg moved).trans posted).trans (if_neg moved).symm⟩
  · rw [overheatTrip_stays stays]
    exact ⟨rfl, (if_pos rfl).symm⟩

end

end Sys2Proof.Machine
end

section
/-! PROOFS. The start checks, and the heater lit up (R80 to R83). -/

namespace Sys2Proof.Machine

open Sys2Proof.Stated

/-! ## The first check that fails (R80) -/

/-- `r` is the reason of the first condition of a list that fails. -/
def failsFirst (conditions : List (Prop × Reason)) (r : Reason) : Prop :=
  ∃ before c after, conditions = before ++ (c, r) :: after ∧ (∀ p ∈ before, p.1) ∧ ¬c

theorem failsFirst_nil (r : Reason) : ¬failsFirst [] r := by
  rintro ⟨before, c, after, eq, -⟩
  simp at eq

theorem failsFirst_cons (c : Prop) (r' r : Reason) (rest : List (Prop × Reason)) :
    failsFirst ((c, r') :: rest) r ↔ ¬c ∧ r' = r ∨ c ∧ failsFirst rest r := by
  constructor
  · rintro ⟨before, c', after, eq, held, fails⟩
    cases before with
    | nil =>
      obtain ⟨⟨rfl, rfl⟩, -⟩ : (c = c' ∧ r' = r) ∧ rest = after := by simpa using eq
      exact .inl ⟨fails, rfl⟩
    | cons p before =>
      obtain ⟨rfl, rfl⟩ : (c, r') = p ∧ rest = before ++ (c', r) :: after := by simpa using eq
      exact .inr ⟨held _ List.mem_cons_self, before, c', after, rfl, fun q hq => held q (List.mem_cons_of_mem _ hq), fails⟩
  · rintro (⟨fails, rfl⟩ | ⟨held, before, c', after, rfl, all, fails⟩)
    · exact ⟨[], c, rest, rfl, by simp, fails⟩
    · exact ⟨(c, r') :: before, c', after, rfl, by simpa [held] using all, fails⟩

theorem blowerStill_iff (d : Device) : blowerStill d = true ↔ ∀ at_, d.htr.blower.lastTach = some at_ → at_ + 2000 ≤ d.sns.ms := by
  unfold blowerStill
  cases d.htr.blower.lastTach <;> simp

/-- R80, check 6: the demand with the heater at step 1 and the other loads at their floors. -/
theorem stepOne_demand {d : Device} {f : Load → Nat} (h : Nat)
    (steps : ∀ l, f l = if l = .heater then 1 else if l ∈ sheddable then (entryOf d l).floor else 0) :
    tableDemand d.bgt.table (fun l => if l = .heater then 1 else if l ∈ sheddable then (entryOf d l).floor else 0) h =
      demand d.bgt.table f h :=
  (tableDemand_eq ..).trans (demand_congr (fun _ => rfl) (fun l => (steps l).symm) h)

theorem stepOneStands_iff (d : Device) : stepOneStands d = true ↔ stepOneMayStand d := by
  unfold stepOneStands stepOneMayStand
  dsimp only
  rw [← stepOne_demand]
  · cases d.bgt.last.policy with
    | exempt | unknownNormal | unknownLow => exact iff_of_true rfl trivial
    | knownNormal | knownLow => exact decide_eq_true_iff
    | critical => exact Iff.rfl
  · intro l
    cases l <;> rfl

/-- R80: the checks in order. -/
theorem startFailsWith_iff (d : Device) (r : Reason) : startFailsWith d r ↔
    failsFirst [(d.sns.analog.tExch.status = .ok, .sensor), (d.htr.latch = false, .overheat), (d.htr.state ≠ .lockout, .locked),
      (blowerStill d = true, .blowerTurning), (d.chg.uv ≠ .critical, .undervoltage), (stepOneStands d = true, .noBudget),
      (¬d.vbl.signals.fuelLow.isOn = true, .fuelLow)] r := by
  simp only [blowerStill_iff, stepOneStands_iff, isOn_iff]
  rfl

/-- R80: the start check names the first condition that fails. -/
theorem startCheck_eq_some {d : Device} {r : Reason} (h : startFailsWith d r) : startCheck false d = some r := by
  simp only [startFailsWith_iff, failsFirst_cons, failsFirst_nil, and_false, or_false] at h
  unfold startCheck
  split_ifs <;> simp_all

theorem startCheck_eq_none {d : Device} (h : startMayBeMade d) : startCheck false d = none := by
  simp only [startMayBeMade, startConditions, List.mem_cons, List.not_mem_nil, or_false, forall_eq_or_imp, forall_eq, ← blowerStill_iff,
    ← stepOneStands_iff, ← isOn_iff] at h
  unfold startCheck
  split_ifs <;> simp_all

theorem homeEntry_zero (d : Device) : (homeEntry d).requested = 0 ∧ (homeEntry d).floor = 0 ∧ (homeEntry d).granted = 0 ∧
    (homeEntry d).steps = if d.htr.marks.tableDefault = true then 0 :: defaultHeatTable.map (·.current) else d.bgt.table.heater.steps := by
  have none' := writtenEntry_zero d.bgt.table.heater d.sns.uptime
  unfold homeEntry
  split_ifs
  · exact ⟨by simp [writtenEntry], by simp [writtenEntry], none', rfl⟩
  · exact ⟨by simp [writtenEntry], by simp [writtenEntry], none', rfl⟩

/-! ## WAIT_INRUSH entered and the allowance requested (R82, R83) -/

/-- R83: the heater's record on entry to WAIT_INRUSH, the wait timer running. -/
def waitingHeater (h : Heater) (ms : Nat) : Heater :=
  heaterTo h .waitInrush 0 none .none { noHeaterTimers with wait := some (ms + 120000) } ms

/-- R83: the part on entry to WAIT_INRUSH with the record `h`, the allowance not yet requested. -/
def heaterWaits (h : Heater) (d : Device) : Device :=
  { d with
    htr := waitingHeater h d.sns.ms
    bgt := { entryWrites d .heater h.wished 1 with allowance := d.bgt.allowance }
    lnk := (post .heaterState d).lnk }

section
variable {d : Device} (sound : budgetSound d) {h : Heater}
include sound

theorem toWait_eq (other : h.state ≠ .waitInrush) : toWait (putHtr h d) = requestHeater (heaterWaits h d) := by
  have entered : enterHeater .waitInrush .none (putHtr h d) = { heaterWaits h d with
      htr := heaterTo h .waitInrush 0 none .none noHeaterTimers d.sns.ms } := by
    rw [enterHeater_waits (d := putHtr h d) sound, heaterAt]
    have lnk : (if HeaterState.waitInrush = h.state then d.lnk else (post .heaterState (putHtr h d)).lnk) =
        (post .heaterState d).lnk := (if_neg (Ne.symm other)).trans (post_lnk_congr .heaterState rfl)
    exact congrArg (fun x => ({ heaterWaits h d with
      htr := heaterTo h .waitInrush 0 none .none noHeaterTimers d.sns.ms, lnk := x } : Device)) lnk
  unfold toWait
  rw [entered]
  rfl

theorem heaterWaits_granted : ((heaterWaits h d).bgt.table.get .heater).granted ≠ 0 := heater_granted sound h.wished

/-- R54: the heater's second write of the same steps leaves the entry. -/
theorem entryWrites_twice {u : Device} {a : Allowance} {r : Nat} (uptime : u.sns.uptime = d.sns.uptime)
    (bgt : u.bgt = { entryWrites d .heater r 1 with allowance := a }) :
    entryWrites u .heater r 1 = { entryWrites d .heater r 1 with allowance := a } := by
  have once : u.bgt.table.heater = writtenEntry d.bgt.table.heater r 1 d.sns.uptime := by rw [bgt]; rfl
  unfold entryWrites
  simp only [LoadTable.get, once, uptime, writtenEntry_twice, and_self, if_true, Nat.add_zero, if_neg (heater_granted sound r)]
  rw [bgt]
  rfl

/-- R84: GLOW entered in the same moment, the allowance having been FREE. -/
theorem toGlow_heaterWaits (a : Allowance) : toGlow (putAllowance a (heaterWaits h d)) = { d with
    htr := heaterTo (waitingHeater h d.sns.ms) .glow h.seq.ignDuty (some d.sns.ms) .none
      { noHeaterTimers with glow := some (d.sns.ms + 1000 * h.seq.glowTime) } d.sns.ms
    bgt := { entryWrites d .heater h.wished 1 with allowance := a }
    lnk := (post .heaterState (post .heaterState d)).lnk } := by
  have waits : waitsGranted (putAllowance a (heaterWaits h d)) .heater := fun none' => absurd none' (heaterWaits_granted sound)
  have bgt : entryWrites (putAllowance a (heaterWaits h d)) .heater (heaterAsk .glow (putAllowance a (heaterWaits h d)).htr.wished).1
      (heaterAsk .glow (putAllowance a (heaterWaits h d)).htr.wished).2 = { entryWrites d .heater h.wished 1 with allowance := a } :=
    entryWrites_twice sound (u := putAllowance a (heaterWaits h d)) rfl rfl
  have posted : (post .heaterState (putAllowance a (heaterWaits h d))).lnk = (post .heaterState (post .heaterState d)).lnk :=
    post_lnk_congr .heaterState rfl
  unfold toGlow
  rw [enterHeater_entered waits, heaterEntered, bgt, posted]
  rfl

/-- R82, R83: the heater lights up. -/
theorem toWait_lightsUp (other : h.state ≠ .waitInrush) (pending : h.marks.tableDefault = d.htr.marks.tableDefault) :
    lightsUp d (toWait (putHtr h d)) h d.sns.ms := by
  have granted : ((heaterWaits h d).bgt.table.get .heater).granted ≠ 0 := heaterWaits_granted sound
  have able (uv : d.chg.uv ≠ .critical) :
      ¬((heaterWaits h d).chg.uv = .critical ∨ ((heaterWaits h d).bgt.table.get .heater).granted = 0) := not_or.2 ⟨uv, granted⟩
  rw [toWait_eq sound other]
  unfold requestHeater
  refine ⟨fun ⟨apart, out⟩ uv free => ?_, fun ⟨apart, out⟩ uv taken => ?_, fun near => ?_, fun ⟨apart, out⟩ critical => ?_⟩
  · rw [requestAllowance_given (d := heaterWaits h d) apart out (able uv) free]
    dsimp only
    rw [toGlow_heaterWaits sound]
    exact ⟨rfl, ⟨rfl, rfl⟩, rfl, rfl⟩
  · rw [requestAllowance_queued (d := heaterWaits h d) apart out (able uv) taken]
    exact ⟨rfl, ⟨rfl, rfl⟩, rfl, rfl⟩
  · have ignored : d.bgt.allowance.state = .held .heater ∨ .heater ∈ d.bgt.allowance.waiting := by
      simpa [heaterApart, or_iff_not_imp_left] using near
    rw [requestAllowance_ignored (d := heaterWaits h d) ignored]
    exact ⟨rfl, ⟨rfl, rfl⟩, rfl, rfl⟩
  · rw [requestAllowance_denied (d := heaterWaits h d) apart out (.inl critical)]
    dsimp only
    have posted : (post .heaterState (heaterWaits h d)).lnk = (post .heaterState (post .heaterState d)).lnk :=
      post_lnk_congr .heaterState rfl
    obtain ⟨requested, floor, none', steps⟩ := homeEntry_zero (heaterWaits h d)
    rw [toOff_eq (d := heaterWaits h d) fun _ => out]
    refine ⟨rfl, requested, floor, none', ?_, ?_, congrArg (·.notices) posted⟩
    · rw [← pending]
      exact steps
    · exact congrArg (fun w => ({ d.bgt.allowance with waiting := w } : Allowance))
        (List.filter_eq_self.2 fun l hl => decide_eq_true fun e => out (e ▸ hl))

end

/-! ## What a start may touch -/

theorem toOff_rest (cause : HeaterCause) (d : Device) : KeepsRest .heater d (toOff cause d) := by
  have entered := enterHeater_rest .off cause d
  unfold toOff applyTableDefault
  split
  · refine entered.trans ⟨fun m other => ?_, rfl⟩
    cases m
    case heater => exact absurd rfl other
    all_goals rfl
  · exact entered

theorem toGlow_rest (d : Device) : KeepsRest .heater d (toGlow d) := by
  have entered := enterHeater_rest .glow .none d
  exact entered.trans (.of_same ⟨rfl, rfl⟩)

theorem toWait_rest (d : Device) : KeepsRest .heater d (toWait d) := by
  have entered := enterHeater_rest .waitInrush .none d
  unfold toWait
  dsimp only
  generalize enterHeater .waitInrush .none d = u at entered
  have timed : KeepsRest .heater d (putHtrTimers { u.htr.timers with wait := some (u.sns.ms + 120000) } u) :=
    entered.trans (.of_same ⟨rfl, rfl⟩)
  generalize putHtrTimers { u.htr.timers with wait := some (u.sns.ms + 120000) } u = v at timed
  have asked : KeepsRest .heater v (requestAllowance .heater v).1 := .of_same (by simp)
  unfold requestHeater
  revert asked
  rcases requestAllowance .heater v with ⟨w, _ | _ | _⟩ <;> intro asked
  · exact timed.trans asked
  · exact timed.trans (asked.trans (toGlow_rest w))
  · exact timed.trans (asked.trans (toOff_rest _ w))

theorem Budget.eq_of_blocks {x y : Budget} (h : x.horizonSource = y.horizonSource ∧ x.defaultHorizon = y.defaultHorizon ∧
    x.last = y.last ∧ x.outlet = y.outlet) :
    x = { y with table := x.table, passesDue := x.passesDue, allowance := x.allowance } := by
  cases x; cases y
  simpa using h

/-- A start touches the heater, its entry, the allowance and the notice table. -/
theorem toWait_framed (h : Heater) (d : Device) : let t := toWait (putHtr h d)
    heaterFrame d t d.sns.ms ∧ calm d t ∧ t.lnk = { d.lnk with notices := t.lnk.notices } := by
  intro t
  have rest : KeepsRest .heater d t := KeepsRest.trans (t := putHtr h d) (.of_same ⟨rfl, rfl⟩) (toWait_rest _)
  have links : t.lnk = { d.lnk with notices := t.lnk.notices } := Link.eq_of_quiet (by simp [t, putHtr])
  have table : t.bgt.table = { d.bgt.table with heater := t.bgt.table.heater } := LoadTable.eq_put rest.entry
  have budget : t.bgt = { d.bgt with
      table := { d.bgt.table with heater := t.bgt.table.heater }, passesDue := t.bgt.passesDue, allowance := t.bgt.allowance } := by
    rw [← table]
    exact Budget.eq_of_blocks (by simp [t, putHtr])
  exact ⟨heaterFrame_of_blocks (Device.eq_of_blocks ⟨by simp [t, putHtr], by simp [t, putHtr], by simp [t, putHtr], by simp [t, putHtr],
    by simp [t, putHtr], budget, rfl, by simp [t, putHtr], rfl, by simp [t, putHtr], rfl, rfl, by simp [t, putHtr]⟩) links,
    by simp [calm, t, putHtr], links⟩

/-! ## DIN3: the heater's button (R80, R98) -/

theorem startWish_eq (d : Device) : startWish d = startLevel d d.htr.setpoint := by
  unfold startWish startLevel cabError
  rw [min_comm]
  by_cases ok : d.sns.analog.tCab.status = .ok
  · simp [ok, maxAllowed, topLevel]
  · simp [ok, maxAllowed, topLevel]

section
variable {d : Device} (st : d.htr.state = .off)
include st

/-- R80 to R82: the record with which a press of the button starts the heater. -/
def pressedHeater (d : Device) : Heater :=
  { d.htr with
    attempts := 0
    marks := { d.htr.marks with restartPending := false, lockoutPending := false }
    setpoint := d.htr.lastSetpoint
    wished := startLevel d d.htr.lastSetpoint }

theorem panelPress_starts (may : startMayBeMade d) : panelPress d = toWait (putHtr (pressedHeater d) d) := by
  have wished : startWish (putHtr { pressedHeater d with wished := d.htr.wished } d) = startLevel d d.htr.lastSetpoint := startWish_eq _
  have started : startHeater .panel d.htr.lastSetpoint d = (newStart .panel d.htr.lastSetpoint d, none) := by
    unfold startHeater
    dsimp only
    rw [st, startCheck_eq_none may]
  have lit : newStart .panel d.htr.lastSetpoint d =
      toWait (putHtr { pressedHeater d with wished := startWish (putHtr { pressedHeater d with wished := d.htr.wished } d) } d) := rfl
  unfold panelPress
  rw [started, lit, wished, st]
  rfl

theorem panelPress_refused {r : Reason} (fails : startFailsWith d r) :
    panelPress d = post .heaterState { d with htr := { d.htr with cause := .refusal r } } := by
  have refused : startHeater .panel d.htr.lastSetpoint d = (d, some r) := by
    unfold startHeater
    dsimp only
    rw [st, startCheck_eq_some fails]
  have pressed : panelPress d = postRefusal r d := by
    unfold panelPress
    rw [refused, st]
  exact pressed

end

theorem panelPress_locked {d : Device} (st : d.htr.state = .lockout) : panelPress d = d := by rw [panelPress, st]

theorem panelPress_stops {d : Device} (off : d.htr.state ≠ .off) (lockout : d.htr.state ≠ .lockout) : panelPress d = stopHeater d := by
  unfold panelPress
  cases st : d.htr.state with
  | off => exact absurd st off
  | lockout => exact absurd st lockout
  | waitInrush | glow | ignite | ramp | run | purge | cooldown | paused => rfl

end Sys2Proof.Machine
end

section
/-! PROOFS. Input events reach the outlet and the drives (R68, R80, R83, R96, R98, R122). -/

namespace Sys2Proof.Machine

open Sys2Proof.Stated

/-- R68: DIN2 switches the outlet, and its changed state is posted. -/
theorem outletToggle_eq {d : Device} (sound : budgetSound d) : outletToggle d =
    { d with
      bgt := if d.bgt.outlet.state = .off then outletWanted d else outletDropped d
      lnk := { d.lnk with notices := (post .budgetState d).lnk.notices } } := by
  have changed (b : Budget) (other : b.outlet.state ≠ d.bgt.outlet.state) : outletChanged b d =
      { d with bgt := b, lnk := { d.lnk with notices := (post .budgetState d).lnk.notices } } :=
    congrArg (fun n => ({ d with bgt := b, lnk := { d.lnk with notices := n } } : Device)) (if_neg other)
  unfold outletToggle switchedOn
  by_cases off : d.bgt.outlet.state = .off
  · rw [if_pos off, if_neg (by simp [off]), outletOn_off sound off]
    exact changed _ (by rw [off]; exact nofun)
  · rw [if_neg off, if_pos (by simp [off]), outletOff_on sound off]
    exact changed _ (Ne.symm off)

/-- R68, R80, R96, R122: these lines act on their rising edges only; those above 7 are no DIN lines. -/
theorem deliverEvent_falling {line : Nat} (h : line = 2 ∨ line = 3 ∨ line = 5 ∨ line = 6 ∨ 7 < line) (d : Device) :
    deliverEvent line false d = d := by
  rcases h with rfl | rfl | rfl | rfl | above
  · rfl
  · rfl
  · rfl
  · rfl
  · obtain ⟨n, rfl⟩ : ∃ n, line = n + 8 := ⟨line - 8, by omega⟩
    rfl

end Sys2Proof.Machine

namespace Sys2Proof.Proofs

open Sys2Proof Sys2Proof.Machine Sys2Proof.Stated

/-- Settles O44: each event by the state of the outlet or the drive it reaches. -/
theorem eventsReachDrives : Obligations.EventsReachDrives := by
  intro d sound ms h c marked burning links
  refine ⟨fun line low => deliverEvent_falling low d, outletToggle_eq sound, ⟨fun off => ⟨fun may => ?_, fun r fails => ?_⟩,
    panelPress_locked, fun on open' => ?_⟩, ?_, ⟨fun drives => ?_, fun start run => ?_⟩, ?_⟩
  · have lit := toWait_lightsUp (d := d) sound (h := pressedHeater d) (by rw [show (pressedHeater d).state = _ from off]; decide) rfl
    rw [show deliverEvent 3 true d = _ from panelPress_starts off may]
    exact ⟨lit, toWait_framed (pressedHeater d) d⟩
  · exact panelPress_refused off fails
  · rw [show deliverEvent 3 true d = _ from panelPress_stops on open']
    obtain ⟨-, -, -, quiet⟩ := (stopHeater_touches sound).framed
    exact ⟨stopHeater_stops sound, quiet⟩
  · intro t h' noted
    obtain ⟨noticed, shown, frame, quiet⟩ := (overheatTrip_touches sound).framed
    refine ⟨noticed, shown, frame, quiet, fun burns => ?_, fun st => ?_, fun rests => ?_, fun stays => ?_⟩
    · rw [show t = _ from overheatTrip_cools sound burns]
      exact ⟨rfl, ⟨rfl, rfl⟩, rfl⟩
    · rw [show t = _ from overheatTrip_cooldown st]
      exact ⟨rfl, rfl⟩
    · rw [show t = _ from (overheatTrip_locks rests).trans (toLockout_eq (d := faultedWith (trippedHeater d) d) sound .none)]
      exact ⟨rfl, heaterHome_wrote .lockout .none (faultedWith (trippedHeater d) d), rfl⟩
    · rw [show t = _ from overheatTrip_stays stays]
      exact ⟨rfl, rfl⟩
  · have waits := waitsGranted_of_sound sound .compressor
    exact ⟨compFails_stands ((drives_iff _).2 drives) waits,
      compFrame_of_rest (t := compFails .overcurrent d) (compFails_rest .overcurrent d) (by simp) (by simp) (by simp),
      Link.eq_of_quiet (x := (compFails .overcurrent d).lnk) (by simp)⟩
  · exact compFails_idle (Bool.eq_false_iff.2 fun drives => ((drives_iff _).1 drives).elim start run)
  · intro t h'
    refine ⟨fun burns => ?_, fun st marked' => heaterFuelLow_purge st marked', fun st => ?_, heaterFuelLow_rests⟩
    · have free : burnsFree d := by
        rcases burns with (st | st | st | st) | purge
        · exact .inl st
        · exact .inr (.inl st)
        · exact .inr (.inr (.inl st))
        · exact .inr (.inr (.inr (.inl st)))
        · exact .inr (.inr (.inr (.inr purge)))
      have other : d.htr.state ≠ .cooldown := by rcases free with st | st | st | st | ⟨st, -⟩ <;> simp [st]
      rw [show t = _ from heaterFuelLow_cools sound free]
      exact ⟨cooledWith_cools .., (cooledWith_touches other).framed⟩
    · rw [show t = _ from heaterFuelLow_waits sound st]
      exact ⟨rfl, heaterHome_wrote .off (.refusal .fuelLow) d, rfl, heaterTouches.framed ⟨rfl, rfl⟩⟩

end Sys2Proof.Proofs
end
